-- ==== Sys2Proof/Word.lean ====
section
/-! DEFINITION. The word types of the EV5120 and the sparse table that State is built from. -/

namespace Sys2Proof

/-- A register word (R29). -/
abbrev Word := BitVec 32

/-- A byte of a record, of a descriptor, of a bus command or of crucible memory. -/
abbrev Byte := BitVec 8

/-- A sparse table: values by a numeric key, the keys strictly rising. A key that is not listed has a default that the
reader names, and no listed value equals that default, so equal contents are equal lists (`Machine/Table.lean`). -/
abbrev Tbl (α : Type) := List (Nat × α)

end Sys2Proof
end

