-- ==== Sys2Proof/Machine/Types.lean ====
section
/-! DEFINITION. The operand types of the commands: who sends a command, what a resource is called, and the records that
the part delivers. -/

namespace Sys2Proof.Machine

/-- The five accessors of W0 (R32). -/
inductive Accessor
  | pf (n : Fin 4)
  | mgmt
deriving DecidableEq, Repr

/-- The number of an accessor, as `GLOBAL.ACCESSOR` reads it (R58). -/
def accIdx : Accessor → Nat
  | .pf n => n.val
  | .mgmt => 4

/-- The function whose view the accessor has: the management bus sees the view of PF_0 (R32). -/
def accView : Accessor → Nat
  | .pf n => n.val
  | .mgmt => 0

/-- PF_0 and the management bus, the managers of device-wide blocks (R36, R37). -/
def isManager : Accessor → Bool
  | .pf n => n.val == 0
  | .mgmt => true

/-- A DAB or DRM context (R10). -/
inductive Ctx
  | dab (c : Fin 48)
  | drm (d : Fin 24)
deriving DecidableEq, Repr

/-- What a METRIC record is about (R170, R204). -/
inductive MetSrc
  | slot (n : Fin 512)
  | ctx (c : Ctx)
deriving DecidableEq, Repr

/-- A resource that carries an epoch (R53). -/
inductive Res
  | slot (n : Nat) | tap (n : Nat) | ring (n : Nat) | fe (n : Nat) | ap (n : Nat)
  | dab (n : Nat) | drm (n : Nat) | func (n : Nat)
deriving DecidableEq, Repr

/-- A run of samples that carry the same flags (R404). -/
structure Run where
  first : Nat
  count : Nat
  flags : Nat
deriving DecidableEq, Repr

/-- The content of a stream record: sample periods, format, channels, rate in 1/16 Hz, the flag runs, and the bytes of
the samples in the packing named (R404). -/
structure Stream where
  count : Nat
  format : Nat
  channels : Nat
  rate : Nat
  runs : List Run
  data : List Byte
deriving DecidableEq, Repr

/-- The payload of a record, one constructor for each type of R405. -/
inductive Payload
  | pcm (s : Stream)
  | codedAu (payload status index : Nat) (unit : List Byte)
  | rdsGroup (words : List Nat) (offsets statuses : List Nat)
  | amss (status bitCount : Nat) (group : List Byte)
  | fig (cifCnt fib status : Nat) (figs : List Byte)
  | padDls (kind status charset : Nat) (text dlPlus : List Byte)
  | motSegment (dgType : Nat) (group : List Byte)
  | drmSdc (status afs superframe : Nat) (block : List Byte)
  | drmFac (status frameInSuper frame : Nat) (block : List Byte)
  | metric (items : List (Nat × List Byte))
  | detector (pk rms env pkSrc rmsSrc envSrc : Nat) (rmsInvalid : Bool)
  | iqBlock (s : Stream)
  | windowRaw (s : Stream)
  | alarm (kind ruleKind srcKind srcIndex : Nat) (unit : List Byte)
  | followEvent (event src dst align lag p qFrom qTo g : Nat)
  | spectrum (mode order first last avg : Nat) (vals : List Int)
  | gap (start stop records samples reason ofType : Nat)
  | faultNote (ring access cause desc offset addr : Nat)
  | tii (more : Bool) (frames : Nat) (entries : List (Nat × Nat × Nat))
  | feedCompare (event state lag rho ldiff windowEnd : Nat)
deriving DecidableEq, Repr

/-- The type code of a payload (R405). -/
def Payload.code : Payload → Nat
  | .pcm _ => 0x0001 | .codedAu .. => 0x0002 | .rdsGroup .. => 0x0010 | .amss .. => 0x0011 | .fig .. => 0x0020
  | .padDls .. => 0x0021 | .motSegment .. => 0x0022 | .drmSdc .. => 0x0030 | .drmFac .. => 0x0031
  | .metric _ => 0x0040 | .detector .. => 0x0041 | .iqBlock _ => 0x0050 | .windowRaw _ => 0x0051
  | .alarm .. => 0x0060 | .followEvent .. => 0x0061 | .spectrum .. => 0x0070 | .gap .. => 0x0080
  | .faultNote .. => 0x0081 | .tii .. => 0x0090 | .feedCompare .. => 0x00A0

/-- The source kinds of R402. -/
inductive SrcKind | slot | dabCtx | drmCtx | tap | window | follow | feed | rule | port | ring | function
deriving DecidableEq, Repr

/-- The code of a source kind (R402). -/
def SrcKind.code : SrcKind → Nat
  | .slot => 1 | .dabCtx => 2 | .drmCtx => 3 | .tap => 4 | .window => 5 | .follow => 6 | .feed => 7 | .rule => 8
  | .port => 9 | .ring => 10 | .function => 11

/-- A record as its source produces it (R401): what its header says of the source, the instant that TIME names, the
epoch of the source, the flags FAILED and FINAL, and the payload. -/
structure Rec where
  kind : SrcKind
  source : Nat
  time : Nat
  epoch : Nat
  failed : Bool := false
  final : Bool := false
  payload : Payload
deriving DecidableEq, Repr

/-! ### What the broadcast carries (R209, R218, R245, R247, R253)

The layouts of these units are those of the standards of R8; an operand gives what a unit says and, where a byte image of
R248 or a record needs it, its bytes. -/

/-- The kind of an identifier: RDS PI, DAB SId, DRM service identifier. -/
inductive IdKind | pi | sid | drm
deriving DecidableEq, Repr

/-- An identifier of a service. -/
structure Ident where
  kind : IdKind
  id : Nat
deriving DecidableEq, Repr

/-- What a signalling of R253 says: that a service is on a frequency in kHz of band 0 FM, 1 AM, 2 DAB, 3 DRM, or that two
identifiers are joined by a hard link. `origin` is that of `CAND_ID.ORIGIN`. -/
inductive Sig
  | freq (origin : Nat) (id : Ident) (band khz : Nat)
  | hardLink (a b : Ident)
deriving DecidableEq, Repr

/-- A subchannel as FIG 0/1 gives it (R210, R235). -/
structure SubOrg where
  id : Nat
  start : Nat
  size : Nat
  eep : Bool
  prot : Nat
deriving DecidableEq, Repr

/-- What a FIG says to the part (R209, R247, R253). `next` marks the next configuration; a payload is that of
`DAB_SUBCH_n.PAYLOAD`. In FIG 0/0, `change` is the change flags and `occur` the CIF count at which they apply. -/
inductive FigInfo
  | ensemble (eid cif change occur : Nat) (al : Bool)          -- 0/0
  | organisation (next : Bool) (subs : List SubOrg)            -- 0/1
  | components (next : Bool) (sid : Nat) (subs : List (Nat × Nat)) -- 0/2, subchannels in stream mode
  | packet (next : Bool) (subs : List Nat)                     -- 0/3
  | announcement (entries : List (Nat × Bool))                 -- 0/19: cluster, Alarm bit
  | signalling (sigs : List Sig)                               -- 0/6, 0/21, 0/24
  | other
deriving DecidableEq, Repr

/-- A FIG: its type and extension, its bytes from its header on, and what it says. -/
structure Fig where
  type : Nat
  ext : Nat
  bytes : List Byte
  info : FigInfo
deriving DecidableEq, Repr

/-- A DRM stream as SDC type 0 gives it, with the code rates of its parts A and B that the standard gives for the signalled
protection levels and MSC mode, as numerator and denominator (R222). -/
structure StreamOrg where
  lenA : Nat
  lenB : Nat
  rateA : Nat × Nat
  rateB : Nat × Nat
deriving DecidableEq, Repr

/-- What an SDC data entity says to the part. A payload is that of `DRM_STREAM_n.PAYLOAD`. -/
inductive SdcInfo
  | multiplex (next : Bool) (streams : List StreamOrg)  -- type 0
  | alarm (on : Bool)                                   -- type 6: switching to the Alarm announcement
  | audio (stream payload : Nat)                        -- type 9
  | signalling (sigs : List Sig)                        -- types 3, 11
  | other
deriving DecidableEq, Repr

structure Entity where
  type : Nat
  bytes : List Byte
  info : SdcInfo
deriving DecidableEq, Repr

/-- What a FAC says to the part (R216 to R219). -/
structure Fac where
  frame : Nat           -- frame in superframe, from the identity field
  occupancy : Nat
  longIl : Bool
  mscQam : Nat
  sdcQam : Nat
  hier : Bool
  reconf : Nat
  services : List Nat   -- service identifiers
deriving DecidableEq, Repr

/-- A unit of PAD: a segment of a dynamic label or of a DRM text message, or a MOT data group (R245, R246). -/
inductive Pad
  | text (toggle first last : Bool) (num charset : Nat) (chars dlPlus : List Byte) (ok : Bool)
  | mot (dgType : Nat) (ok : Bool) (group : List Byte)
deriving DecidableEq, Repr

/-- What a watch entry's rule looks at (R342): an RDS group with PI, the status of block A, the group type and version, block
B and its status; a FIB with its CRC, whether it holds an alarm for cluster 0xFF, the EId and Al; an SDC block with its CRC
and the service it switches to Alarm, if any; the level of a block of 10 ms at the tone, in 0.1 dBFS; the carrier, by its
presence and its level in 0.1 dBµV. -/
inductive WatchUnit
  | rds (pi statA type : Nat) (verB : Bool) (b statB : Nat)
  | fib (ok alarm : Bool) (eid : Nat) (al : Bool)
  | sdc (ok : Bool) (service : Option Nat)
  | tone (level : Int)
  | carrier (present : Bool) (level : Int)
deriving DecidableEq, Repr

/-! ### What the host side answers (R383 to R424) -/

/-- A Translation Completion that grants a range (R423): its first physical address, its size as 4,096 × 2^k bytes, R and W. -/
structure Grant where
  phys : Nat
  k : Nat
  r : Bool
  w : Bool
deriving DecidableEq, Repr

/-- A write to the configuration space of a function, as far as it acts on the part (R386, R387, R414, R424). -/
inductive CfgWrite
  | bme (on : Bool)
  | mse (on : Bool)
  | d3 (on : Bool)
  | msix (en mask : Bool)
  | ats (on : Bool)
  | pri (on : Bool)
  | sizes (mps mrrs : Nat)
deriving DecidableEq, Repr

end Sys2Proof.Machine
end

