-- ==== Sys2Proof/Syntax.lean ====
section
/-! DEFINITION. The commands: every row of the table of operations. Accessors write words to registers; every other
command is something that happens to the part (a bus event, a boundary, a timer, a measurement that ends). -/

namespace Sys2Proof

open Machine


/-- The commands of the block: one constructor for each row of the table. Everything a command depends on that is not
state of the part (what a receiver measured, what a correlation gave, what a link partner answered) is an operand. The commands with operands stand in the order of the table; those without
stand behind them. -/
inductive Instr
  /-- REGISTER_WRITE, R50: A write to a register that has no row of its own is checked under the refusal rules and then applied, refused or discarded. -/
  | registerWrite (a : Accessor) (addr : Nat) (bytes : Nat) (value : Nat)
  /-- UPPER_LATCH_READ, R30: A read of the lower register of a 64-bit pair latches the upper register for that accessor. -/
  | upperLatchRead (a : Accessor) (addr : Nat)
  /-- FAULT_ENTRY_READ, R441: A read of FAULT_ENTRY_0 latches the other seven words of the selected fault entry for the accessor. -/
  | faultEntryRead (a : Accessor)
  /-- PAGE_SPEAK, R42: A write of PAGE_SPEAK.MAJOR selects the dialect the page presents to the writing accessor, or is refused and reads 0. -/
  | pageSpeak (a : Accessor) (page : Fin 256) (inst : Fin 128) (w : Word)
  /-- SPEAK, R44: A write of GLOBAL.SPEAK writes MAJOR to every present page of the accessor's view and records how many refused. -/
  | speak (a : Accessor) (w : Word)
  /-- PAGE_RESET, R45: A write of 1 to PAGE_CTRL.RESET starts a reset of the block, which returns its registers to reset values and increments its epoch. -/
  | pageReset (a : Accessor) (page : Fin 256) (inst : Fin 128) (w : Word)
  /-- RESET_DONE, R45: A page or instance reset ends, RESET reads 0 again and RESET_DONE is raised. -/
  | resetDone (page : Fin 256) (inst : Fin 128) (func : Fin 4)
  /-- LOCK, R40: A write of 1 to PAGE_CTRL.LOCK makes the block registers ignore writes until the next reset. -/
  | lock (a : Accessor) (page : Fin 256) (inst : Fin 128) (w : Word)
  /-- EVT_CLEAR, R48: A W1C write to PAGE_EVT or PAGE_EVT_AGAIN clears event or AGAIN bits, except those hardware sets in the same cycle. -/
  | evtClear (a : Accessor) (page : Fin 256) (inst : Fin 128) (again : Bool) (w : Word) (same : Word)
  /-- POWER_REQUEST, R322: A write of PAGE_CTRL.POWER requests a domain on or off, starting a transition, becoming the pending request, or being absorbed. -/
  | powerRequest (a : Accessor) (page : Fin 256) (inst : Fin 128) (w : Word)
  /-- PD_REQ, R322: A write of AON.PD_REQ makes on requests in ascending and off requests in descending domain order, each after the previous transition ends. -/
  | pdReq (a : Accessor) (w : Word)
  /-- POWER_DONE, R322: A domain transition ends, POWER_DONE is raised and any pending request is checked and started. -/
  | powerDone (d : Fin 16)
  /-- CB_STATE_WRITE, R520: A write of CRUCIBLE.CB_STATE requests each changed crucible bank to move to ON, RETAIN or OFF. -/
  | cbStateWrite (a : Accessor) (w : Word)
  /-- CB_DONE, R521: A requested crucible bank transition ends and CB_DONE is raised. -/
  | cbDone (k : Fin 8)
  /-- BANK_FRAME, R20: A bank frame boundary of a window, at which window-wide switches, gain changes and tuner changes take effect. -/
  | bankFrame (f : Fin 8) (fullScale : Nat) (sat : List (Fin 512))
  /-- TUNE_COMMIT, R64: A write of FE_TUNE.GO checks the staged window together and stores it or starts a retune. -/
  | tuneCommit (a : Accessor) (f : Fin 8) (w : Word)
  /-- RETUNE_START, R67: A retune starts at the first bank frame boundary after an accepted commit and zeros flagged RETUNE begin in RECEIVE. -/
  | retuneStart (f : Fin 8)
  /-- RETUNE_DONE, R68: The first bank frame boundary after lock carries real samples again and RETUNE_DONE is raised. -/
  | retuneDone (f : Fin 8)
  /-- FE_STATE_WRITE, R71: A write of FE_CTRL.STATE sets the front-end's target state and starts or redirects its moves. -/
  | feStateWrite (a : Accessor) (f : Fin 8) (w : Word)
  /-- FE_STEP_DONE, R72: A single front-end state step completes, the new state is declared and the next step towards the target begins. -/
  | feStepDone (f : Fin 8)
  /-- QCAL_DONE, R100: The foreground quick calibration of the eight window-set steps ends, clearing STALE and allowing RECEIVE. -/
  | qcalDone (f : Fin 8)
  /-- LOCK_LOST, R74: The synthesiser loses lock without a retune, raising LOCK_LOST and starting a self relock with NOT_RX zeros. -/
  | lockLost (f : Fin 8)
  /-- FE_RELOCK_DONE, R74: The synthesiser declares lock again after a loss and real samples resume at the next bank frame boundary. -/
  | feRelockDone (f : Fin 8)
  /-- PROBE_COMMAND, R76: A write of FE_PROBE.GO requests a probe, which starts, is queued, replaces a queued probe or is refused. -/
  | probeCommand (a : Accessor) (f : Fin 8) (w : Word)
  /-- PROBE_START, R78: A queued probe begins its step 1 once lock is declared and no calibration step or probe runs. -/
  | probeStart (f : Fin 8)
  /-- PROBE_DONE, R77: The probe dwell ends, the result is written to FE_PROBE_RES and PROBE_DONE is raised. -/
  | probeDone (f : Fin 8) (level : Int) (phase : Int) (gammaMag : Fin 1025) (gammaPhase : Int)
  /-- BURST_GO, R82: A write of FE_BURST_CMD.GO starts a receive burst and moves the front-end to RECEIVE. -/
  | burstGo (a : Accessor) (f : Fin 8) (w : Word)
  /-- BURST_STOP, R85: A write of FE_BURST_CMD.STOP ends a running burst, raises BURST_CANCEL and applies AFTER. -/
  | burstStop (a : Accessor) (f : Fin 8) (w : Word)
  /-- BURST_END, R85: A burst reaches its count of bank frames or transmission frames, AFTER is written to the target and BURST_END is raised. -/
  | burstEnd (f : Fin 8)
  /-- BURST_TIMEOUT, R84: A FRAMES burst whose context lost sync ends after LEN + 1 nominal frames, raising BURST_TIMEOUT and BURST_END. -/
  | burstTimeout (f : Fin 8)
  /-- GAIN_BLOCK_END, R87: An AGC block of 65,536 window samples ends and a gain decision is made for the next boundary. -/
  | gainBlockEnd (f : Fin 8) (peakCdb : Int) (fullScale : Bool)
  /-- GAIN_STEP, R88: A decided gain change takes effect at a bank frame boundary, is compensated in the bank and raises GAIN_STEP. -/
  | gainStep (f : Fin 8)
  /-- DIVERSITY_PAIR_FORM, R89: A write of FE_ROLE with ROLE PAIRED forms a diversity pair and holds an alignment group. -/
  | diversityPairForm (a : Accessor) (f : Fin 8) (w : Word)
  /-- PAIR_DISSOLVE, R90: A write of ROLE NORMAL on a pair member dissolves the pair and frees its group. -/
  | pairDissolve (a : Accessor) (f : Fin 8) (w : Word)
  /-- SPARE_DESIGNATE, R91: A write of ROLE SPARE gives the part control of the front-end as a rotation spare. -/
  | spareDesignate (a : Accessor) (f : Fin 8) (w : Word)
  /-- FE_PAGE_RESET, R95: A reset of an FE page takes the front-end to SLEEP, clears probe queue and burst, and may dissolve its pair. -/
  | fePageReset (a : Accessor) (f : Fin 8) (w : Word)
  /-- FE_SLEEP_STALE, R99: A front-end that has spent more than 10 s in SLEEP makes its window set STALE. -/
  | feSleepStale (f : Fin 8)
  /-- FE_TEMP_SAMPLE, R99: The 100 ms front-end temperature sample marks the window set STALE if it moved more than 4 C. -/
  | feTempSample (f : Fin 8) (temp : Int)
  /-- CAL_STEP_START, R106: Under GAP policy the part starts an atomic calibration step while the front-end rests in SYNTH. -/
  | calStepStart (f : Fin 8)
  /-- CAL_STEP_END, R97: An atomic calibration step ends and its coefficients are kept or rejected. -/
  | calStepEnd (f : Fin 8) (plausible : Bool)
  /-- SCHEDULED_CAL, R107: The SCHEDULED interval expires and one calibration step interrupts reception with CAL_GAP zeros. -/
  | scheduledCal (f : Fin 8)
  /-- ROTATION_PERIOD, R108: The rotation period of a spare expires and a handover into the next eligible window starts. -/
  | rotationPeriod (lmh : Bool)
  /-- CAL_ROT_CMD, R108: A write of CAL_ROT_CMD.GO requests an immediate handover of a named eligible window. -/
  | calRotCmd (a : Accessor) (w : Word)
  /-- MATCH_ATTEMPT_END, R109: A matching attempt over 65,536 samples ends and passes, or trims and retries. -/
  | matchAttemptEnd (lmh : Bool) (gain : Int) (phase : Int) (delay : Int)
  /-- ROTATION_SWITCH, R109: At the boundary after a passing attempt every slot of the window switches to the spare's stream. -/
  | rotationSwitch (lmh : Bool)
  /-- FULL_CAL_DONE, R109: The freed front-end finishes its full calibration, moves to STANDBY and raises FULL_CAL_DONE. -/
  | fullCalDone (lmh : Bool)
  /-- TUNER_WRITE, R119: A write to AER_TUN_n changes the tuner at the next bank frame boundary, or at once if no window selects the port. -/
  | tunerWrite (a : Accessor) (p : Fin 3) (w : Word)
  /-- SWEEP_GO, R121: A write of AER_SWEEP.GO issues a tune sweep as a probe command on the window of the port. -/
  | sweepGo (a : Accessor) (w : Word)
  /-- SWEEP_DONE, R123: A tune sweep ends, its best setting is reported and optionally applied, and SWEEP_DONE is raised. -/
  | sweepDone (p : Fin 3) (gammas : List (Nat × Nat)) (phase : Int)
  /-- BIAS_SAMPLE, R125: The 1 ms sample of an aerial bias current is compared with the OPEN and SHORT limits. -/
  | biasSample (p : Fin 5) (current : Fin 65536)
  /-- NOISE_FLOOR_UPDATE, R126: The one-second noise floor of a port is updated. -/
  | noiseFloorUpdate (p : Fin 5) (floor : Int)
  /-- LEARN, R127: A write of AER_NF_CFG.LEARN copies every tracked floor to its REF. -/
  | learn (a : Accessor) (w : Word)
  /-- SLOT_COMMIT, R159: A write of SLOT_COMMIT.GO checks and applies the staged slot configuration together. -/
  | slotCommit (a : Accessor) (n : Fin 512) (w : Word)
  /-- SLOT_ENABLE, R161: A write of 1 to a slot's ENABLE is checked and schedules its start at the next bank frame boundary. -/
  | slotEnable (a : Accessor) (n : Fin 512) (w : Word)
  /-- SLOT_START, R161: An enabled slot starts at the next bank frame boundary with its delay line filled with NOT_RX zeros. -/
  | slotStart (n : Fin 512)
  /-- SLOT_DISABLE, R161: A write of 0 to a slot's ENABLE schedules it to stop at the next bank frame boundary. -/
  | slotDisable (a : Accessor) (n : Fin 512) (w : Word)
  /-- SLOT_STOP, R161: The slot stops at the boundary, discarding its line contents and resetting its detectors. -/
  | slotStop (n : Fin 512)
  /-- SLOT_RESET, R163: A reset of a slot instance disables it, leaves its group and releases its binding, shadow and pots. -/
  | slotReset (a : Accessor) (n : Fin 512) (w : Word)
  /-- DELAY_COMMAND, R141: A write of SLOT_DLY_CMD.GO applies the staged delay by slew, zero-crossing step or immediate step. -/
  | delayCommand (a : Accessor) (n : Fin 512) (w : Word)
  /-- DELAY_STEP, R142: The actual delay jumps to its target at a zero crossing or the next output sample, skipping or repeating content. -/
  | delayStep (n : Fin 512)
  /-- DLY_ZC_TIMEOUT, R141: No sign change within 65,536 output samples forces the step and raises DLY_ZC_TIMEOUT. -/
  | dlyZcTimeout (n : Fin 512)
  /-- DLY_REACHED, R141: The actual delay equals the target and DLY_REACHED is raised. -/
  | dlyReached (n : Fin 512)
  /-- AG_JOIN, R146: A write of SLOT_AG with MEMBER 1 joins a host alignment group and sets the equalising delay. -/
  | agJoin (a : Accessor) (n : Fin 512) (w : Word)
  /-- AG_LEAVE, R146: A write of SLOT_AG with MEMBER 0 leaves the host alignment group. -/
  | agLeave (a : Accessor) (n : Fin 512) (w : Word)
  /-- PK_RST, R152: DET_CMD.PK_RST resets the peak detector at the next input sample. -/
  | pkRst (a : Accessor) (n : Fin 512) (w : Word)
  /-- RMS_RST, R152: DET_CMD.RMS_RST resets the RMS detector at the next input sample. -/
  | rmsRst (a : Accessor) (n : Fin 512) (w : Word)
  /-- ENV_RST, R152: DET_CMD.ENV_RST resets the envelope detector at the next input sample. -/
  | envRst (a : Accessor) (n : Fin 512) (w : Word)
  /-- RMS_BLOCK_END, R150: A rectangular RMS block of 2^K samples ends and DET_RMS_VAL takes its result. -/
  | rmsBlockEnd (n : Fin 512) (sumSq : Nat) (count : Nat)
  /-- DETECTOR_REPORT, R153: The DET_REPORT interval expires and a DETECTOR record is emitted. -/
  | detectorReport (n : Fin 512) (pk : List (Option Nat)) (rms : List (Option Nat)) (env : List (Option Nat))
  /-- PROF_DATA_WRITE, R138: A write to PROF_DATA stores one coefficient and increments INDEX. -/
  | profDataWrite (a : Accessor) (w : Word)
  /-- PROF_COMMIT, R138: A write of PROF_COMMIT.GO loads a user FIR profile and raises PROF_LOADED. -/
  | profCommit (a : Accessor) (w : Word)
  /-- RAW_CAPTURE, R155: A write of BANK_RAW.EN starts or stops raw window capture as WINDOW_RAW records. -/
  | rawCapture (a : Accessor) (f : Fin 8) (w : Word)
  /-- SNAP_GO, R158: A write of BANK_SNAP_CMD.GO starts a spectrum snapshot and allocates its pots. -/
  | snapGo (a : Accessor) (f : Fin 8) (w : Word)
  /-- SNAP_ABORT, R158: BANK_SNAP_CMD.ABORT ends a snapshot with no record and raises SNAP_ABORT. -/
  | snapAbort (a : Accessor) (f : Fin 8) (w : Word)
  /-- SNAP_DONE, R158: AVG frames are counted, a SPECTRUM record is delivered and SNAP_DONE is raised. -/
  | snapDone (f : Fin 8) (vals : List Int)
  /-- SNAP_TIMEOUT, R158: A snapshot not done within 10 s ends with no record and SNAP_TIMEOUT. -/
  | snapTimeout (f : Fin 8)
  /-- PILOT_BLOCK, R174: A 10 ms pilot block gives pilot level and phase error and decides pilot presence. -/
  | pilotBlock (n : Fin 512) (valid : Bool) (level : Nat) (phaseErr : Nat)
  /-- BLEND_UPDATE, R176: Every 1 ms the lane computes a blend target and moves the blend factor towards it. -/
  | blendUpdate (n : Fin 512)
  /-- FM_SNR_UPDATE, R177: Every 10 ms the FM SNR and multipath indicator are updated. -/
  | fmSnrUpdate (n : Fin 512) (valid : Bool) (nHi : Nat) (mp : Nat)
  /-- OFFSET_UPDATE, R179: Every 100 ms the carrier offset is updated from a 1 s mean. -/
  | offsetUpdate (n : Fin 512) (valid : Bool) (mean : Int)
  /-- RDS_SEARCH_RESTART, R182: Setting FM_RDS.EN or changing STD restarts the RDS group search at once. -/
  | rdsSearchRestart (a : Accessor) (n : Fin 512) (w : Word)
  /-- RDS_BLOCK, R182: A 26-bit RDS block completes and is searched or decoded against its expected offset. -/
  | rdsBlock (n : Fin 512) (word : BitVec 26) (gap : Nat) (excluded : Bool) (sigs : List Sig)
  /-- BLER_WINDOW_END, R185: A window of BLER_WIN block periods ends and RDS_BLER is updated. -/
  | blerWindowEnd (n : Fin 512)
  /-- AM_LOCK_EVAL, R186: The carrier loop's lock ratio over a 100 ms window declares lock or unlock. -/
  | amLockEval (n : Fin 512) (valid : Bool) (meanQ : Nat) (carrier : Nat)
  /-- AM_SNR_UPDATE, R190: Every 10 ms the AM SNR and carrier level are updated. -/
  | amSnrUpdate (n : Fin 512) (valid : Bool) (pq : Nat) (levelCdb : Int)
  /-- AMSS_GROUP, R191: An AMSS group completes, is CRC-checked and delivered as an AMSS record. -/
  | amssGroup (n : Fin 512) (declared : Bool) (ok : Bool) (bitCount : Nat) (group : List Byte)
  /-- PCM_BLOCK_END, R193: PCM_BLOCK audio sample periods of a lane complete and a PCM record is emitted. -/
  | pcmBlockEnd (n : Fin 512) (count : Nat) (runs : List Run) (clipped : Bool) (data : List Byte)
  /-- METRIC_REPORT, R170: The METRIC interval of a slot or context expires and a METRIC record is emitted. -/
  | metricReport (src : MetSrc) (mers : List Nat)
  /-- CONTEXT_ENABLE, R219: A write of 1 to a context's ENABLE charges its Viterbi rate, allocates DRM pots and starts acquisition. -/
  | contextEnable (a : Accessor) (c : Ctx) (w : Word)
  /-- CONTEXT_DISABLE, R202: A context that is disabled or loses its running slot returns to OFF and its taps enter WAITING. -/
  | contextDisable (a : Accessor) (c : Ctx) (w : Word)
  /-- CONTEXT_RESET, R205: A reset of a context instance disables it, returns its registers and frees its pots. -/
  | contextReset (a : Accessor) (c : Ctx) (w : Word)
  /-- ACQUISITION_RESTART, R205: A write of MODE on a running context restarts acquisition from SEARCH. -/
  | acquisitionRestart (a : Accessor) (c : Ctx) (w : Word)
  /-- DAB_FRAME, R208: A DAB frame's null and phase reference are found or missed, driving FRAME, COAST and SEARCH. -/
  | dabFrame (c : Fin 48) (found : Bool) (zeroed : Bool) (mode : Fin 5) (ofs : Int) (sco : Int) (mer : Int) (wmer : Int) (snr : Option (Int × Int))
  /-- FIB_RECEIVED, R209: A FIB is Viterbi-decoded and CRC-checked, interpreted for FIG 0/0 to 0/3 and handed to side data. -/
  | fibReceived (c : Fin 48) (index : Nat) (ok : Bool) (figs : List Fig) (raw : List Byte)
  /-- DAB_RECONFIG, R211: At the signalled CIF count the new configuration applies and tap charges are settled in order. -/
  | dabReconfig (c : Fin 48)
  /-- TAP_RESUME, R18: At a logical frame boundary where its cost and pots fit, a suspended tap resumes. -/
  | tapResume (t : Fin 1024)
  /-- DRM_FRAME, R215: A DRM frame is detected or missed through its time-reference cells. -/
  | drmFrame (d : Fin 24) (found : Bool) (zeroed : Bool) (mode : Fin 6) (ofs : Int) (sco : Int) (mer : Int) (wmer : Int) (snr : Option (Int × Int))
  /-- FAC_RECEIVED, R218: A FAC block is decoded and CRC-checked, counted and delivered as DRM_FAC. -/
  | facReceived (d : Fin 24) (ok : Bool) (fac : Fac) (block : List Byte)
  /-- SDC_RECEIVED, R218: An SDC block is decoded, CRC-checked, counted and delivered as DRM_SDC. -/
  | sdcReceived (d : Fin 24) (ok : Bool) (afs : Nat) (entities : List Entity) (block : List Byte)
  /-- DRM_RECONFIG, R218: A DRM reconfiguration applies at its superframe boundary and charges are settled. -/
  | drmReconfig (d : Fin 24)
  /-- SUPERFRAME, R214: A DAB+ superframe is synchronised by fire code and corrected with RS(120,110). -/
  | superframe (t : Fin 1024) (fire : Bool) (rsFail : Nat)
  /-- ACCESS_UNIT, R227: An access unit is CRC-checked and decoded or concealed, and its PAD is processed. -/
  | accessUnit (t : Fin 1024) (ok : Bool) (data : Bool) (unit : List Byte) (pads : List Pad)
  /-- AUDIO_FRAME, R228: A source audio frame period produces one PCM record of decoded, concealed or zero audio. -/
  | audioFrame (t : Fin 1024) (good : Bool) (count : Nat) (rate : Nat) (pcm : List Byte)
  /-- DECODE_STOP, R228: After 1 s of continuous zeros a tap's PCM stops. -/
  | decodeStop (t : Fin 1024)
  /-- TAP_COMMIT, R220: A write of TAP_CMD.GO checks and applies the tap configuration, or only its ring while enabled. -/
  | tapCommit (a : Accessor) (t : Fin 1024) (w : Word)
  /-- TAP_ENABLE, R221: Setting a tap's ENABLE charges its cost, takes a decoder and pots, or enters WAITING. -/
  | tapEnable (a : Accessor) (t : Fin 1024) (w : Word)
  /-- TAP_DISABLE, R223: Clearing a tap's ENABLE releases its charges and decoder. -/
  | tapDisable (a : Accessor) (t : Fin 1024) (w : Word)
  /-- TAP_RESET, R224: A reset of a tap disables it and releases its charges, decoder and pots. -/
  | tapReset (a : Accessor) (t : Fin 1024) (w : Word)
  /-- TII_REPORT, R231: At the end of each TII averaging period a TII record is delivered. -/
  | tiiReport (c : Fin 48) (more : Bool) (frames : Nat) (entries : List (Nat × Nat × Nat))
  /-- ALARM_END_TIMEOUT, R249: END_MS passes with no matching unit and the alarm ends with ALARM_OFF. -/
  | alarmEndTimeout (r : Fin 32)
  /-- RULE_WRITE, R251: A write to a rule's registers is checked, ends any active alarm and restarts the rule. -/
  | ruleWrite (a : Accessor) (r : Fin 32) (reg : Fin 4) (w : Word)
  /-- PATTERN_WRITE, R251: A write to a shared pattern takes effect at each using rule's next unit and restarts their counts. -/
  | patternWrite (a : Accessor) (p : Fin 16) (reg : Fin 16) (w : Word)
  /-- ALERT_ACK, R252: A write of SD_ALERT.ACK clears the side-data alert latch in LATCH mode. -/
  | alertAck (a : Accessor) (w : Word)
  /-- RESERVE_POOL_WRITE, R255: A write of FOL_RES_SLOT, CTX or TAP redefines the follower reserve pool. -/
  | reservePoolWrite (a : Accessor) (which : Fin 3) (w : Word)
  /-- FOL_GO, R264: FOL_CMD.GO starts a follower entry, taking its group and start line. -/
  | folGo (a : Accessor) (e : Fin 32) (w : Word)
  /-- FOL_STOP, R264: FOL_CMD.STOP ends a follower entry and returns its resources. -/
  | folStop (a : Accessor) (e : Fin 32) (w : Word)
  /-- FOL_REALIGN, R258: FOL_CMD.REALIGN restarts alignment with P at PRESET. -/
  | folRealign (a : Accessor) (e : Fin 32) (w : Word)
  /-- FOL_COARSE_ALIGN, R257: A coarse envelope correlation of a candidate completes and passes or fails. -/
  | folCoarseAlign (e : Fin 32) (k : Fin 16) (peak : Int) (second : Int) (lag : Int)
  /-- FOL_FINE_ALIGN, R257: A fine correlation of a candidate completes and passes or fails. -/
  | folFineAlign (e : Fin 32) (k : Fin 16) (peak : Int) (lag : Int)
  /-- FOL_ALIGN_TIMER, R257: The 10 s fine realignment or COARSE_S retry timer expires and a new attempt starts. -/
  | folAlignTimer (e : Fin 32) (k : Fin 16)
  /-- CAND_EXPIRE, R254: A candidate not named for 60 s leaves the set. -/
  | candExpire (e : Fin 32) (k : Fin 16)
  /-- FOL_SCORE, R260: Every 100 ms each eligible candidate is scored and a switch decision is made. -/
  | folScore (e : Fin 32) (aus : List (Nat × Nat))
  /-- SWITCH, R261: A decided switch starts a crossfade to the incoming candidate at the next output sample. -/
  | switch (e : Fin 32) (cur : Int) (inc : Int)
  /-- FOL_CROSSFADE_END, R261: The XFADE_MS crossfade completes and the loudness gain starts to relax. -/
  | folCrossfadeEnd (e : Fin 32)
  /-- FALLBACK, R263: A LOST entry takes the idle scout and retunes it to an UNREACHED FM or AM candidate. -/
  | fallback (e : Fin 32)
  /-- FS_WINDOW_END, R272: A field-strength window ends and level and field are computed with flags. -/
  | fsWindowEnd (n : Fin 512) (valid : Nat) (total : Nat) (dbm : Int) (k : Int) (stale : Bool) (clip : Bool) (nbw : Int)
  /-- DEV_WINDOW_END, R278: A peak deviation window of T_S seconds ends. -/
  | devWindowEnd (n : Fin 512) (valid : Nat) (total : Nat) (peak : Nat) (hist : List Nat) (above : Nat)
  /-- MPX_WINDOW_END, R279: An MPX power window ends and P_LAST is updated. -/
  | mpxWindowEnd (n : Fin 512) (valid : Nat) (total : Nat) (sumSq : Nat)
  /-- MPX_RUN_UPDATE, R279: Every second P_RUN is updated over the latest T_S seconds. -/
  | mpxRunUpdate (n : Fin 512) (valid : Nat) (total : Nat) (sumSq : Nat)
  /-- INJECTION_WINDOW_END, R280: A 1 s injection window ends and pilot and RDS injection are updated. -/
  | injectionWindowEnd (n : Fin 512) (valid : Nat) (total : Nat) (pilot : Nat) (rdsSq : Nat)
  /-- AM_DEPTH_WINDOW_END, R281: An AM modulation depth window ends. -/
  | amDepthWindowEnd (n : Fin 512) (valid : Nat) (total : Nat) (hi : Int) (lo : Int) (sumSq : Nat) (pinch : Nat)
  /-- REF_CHECK_GO, R276: MET_REF_CMD.GO starts a reference self-check. -/
  | refCheckGo (a : Accessor) (w : Word)
  /-- REF_CHECK_DONE, R275: A self-check ends with PASS or FAIL, trimming REF_A or setting UNVERIFIED. -/
  | refCheckDone (dev : Int)
  /-- PPS_EDGE, R283: A selected PPS_IN edge latches device time, or is rejected as too early. -/
  | ppsEdge (falling : Bool)
  /-- FC_GO, R285: FC_CMD.GO starts a feed comparison, joining the feed to a group and taking its line. -/
  | fcGo (a : Accessor) (e : Fin 32) (w : Word)
  /-- FC_STOP, R285: FC_CMD.STOP ends a feed comparison. -/
  | fcStop (a : Accessor) (e : Fin 32) (w : Word)
  /-- FC_REALIGN, R287: FC_CMD.REALIGN restarts the coarse search. -/
  | fcRealign (a : Accessor) (e : Fin 32) (w : Word)
  /-- FC_ALIGN_ATTEMPT, R287: A coarse or fine alignment attempt of a feed comparison completes. -/
  | fcAlignAttempt (e : Fin 32) (peak : Int) (second : Int) (lag : Int)
  /-- FC_SECOND, R288: Each second rho and loudness are computed and alarm counts advance. -/
  | fcSecond (e : Fin 32) (valid : Nat) (src : Int) (feed : Int) (rho : Int)
  /-- FC_REPORT, R290: REPORT_S expires and a periodic FEED_COMPARE record is emitted. -/
  | fcReport (e : Fin 32)
  /-- REF_PRESENT, R294: A reference input is declared present after two in-tolerance windows. -/
  | refPresent (sync : Bool) (ppm : Int)
  /-- XO_OK, R294: XO_IN has run 1 ms within tolerance and XO_OK is set. -/
  | xoOk (frcKhz : Nat)
  /-- X32_DIS_WRITE, R295: A write of X32_DIS stops or restarts the crystal oscillator. -/
  | x32DisWrite (a : Accessor) (w : Word)
  /-- RC_TRIM, R296: Every 10 s of lock the internal RC is trimmed against CK_SAMP. -/
  | rcTrim (err : Int)
  /-- PLL_COUNTER_WINDOW, R298: A PLL counter window ends and lock is declared or lost. -/
  | pllCounterWindow (count : Nat)
  /-- PLL_APPLY, R299: PLL_CMD.APPLY applies the staged REF_SEL by a relock. -/
  | pllApply (a : Accessor) (w : Word)
  /-- WINDOW_RESUME, R301: After a relock each window resumes at a bank frame once its synthesiser and line are locked, with GAP records. -/
  | windowResume (f : Fin 8)
  /-- AUD_PLL_ENABLE, R304: A write of AUD_PLL_CFG enables or disables an audio PLL. -/
  | audPllEnable (a : Accessor) (w : Word)
  /-- AUD_PLL_LOCK, R304: An enabled audio PLL locks. -/
  | audPllLock (b : Bool)
  /-- LINE_COUNTER_WINDOW, R307: A long line's counter window ends, passing FREQ or finding a mismatch. -/
  | lineCounterWindow (n : Fin 9) (diff : Int)
  /-- LINE_LOCK, R307: A line's phase error stays below 2 taps for 256 cycles and LINE_LOCK is raised. -/
  | lineLock (n : Fin 9)
  /-- SYNC_RETURN, R312: After SYNC_IN returns and a counter window passes, line 8 measures its jump and tracks, slews or snaps. -/
  | syncReturn (err : Int)
  /-- SLEEP_REQUEST, R327: A write of AON.PWR_CMD.TARGET requests entry to SLEEP or LEHR. -/
  | sleepRequest (a : Accessor) (w : Word)
  /-- SLEEP_COMMIT, R328: At the second CK_AON edge the sleep entry commits; rings, front-ends and ports stop and domains switch off. -/
  | sleepCommit (pin : Bool)
  /-- WAKE_EVENT, R331: An enabled wake source fires on WAKE_IN_N, PERST_N or PCIe exit from electrical idle, aborting sleep entry or starting a wake. -/
  | wakeEvent (host : Bool)
  /-- AON_SAMPLE, R331: The one-second AON sample of temperature and VIO_AON tests OVERTEMP and SUPPLY. -/
  | aonSample (temp : Int) (vio : Nat)
  /-- PUNTY_RELEASE, R338: A write of AON.PUNTY_RELEASE releases loaded held pad groups. -/
  | puntyRelease (a : Accessor) (w : Word)
  /-- WATCH_ENTRY_WRITE, R341: A write to a lehr watch entry checks it when enabled and clears its history. -/
  | watchEntryWrite (a : Accessor) (e : Fin 16) (reg : Fin 8) (w : Word)
  /-- LEHR_UNIT_MATCH, R342: A unit whose check completes matches an entry's alarm rule and ends the dwell early. -/
  | lehrUnitMatch (unit : WatchUnit)
  /-- LEHR_DWELL_END, R342: An entry's dwell ends, giving an outcome or trying the next alternative frequency. -/
  | lehrDwellEnd (level : Int) (present : Bool) (sync : Bool) (value : Int)
  /-- LEHR_ALERT_ACK, R345: A write of LEHR_ALERT.ACK clears the lehr alert latch. -/
  | lehrAlertAck (a : Accessor) (w : Word)
  /-- LOG_CLEAR, R346: A write of LEHR_LOGCTL.CLEAR empties the lehr log and clears OVERFLOW. -/
  | logClear (a : Accessor) (w : Word)
  /-- AON_POWER_UP, R355: VIO_AON enters range and PD_0 powers up from OFF, clearing device time and setting epochs to 1. -/
  | aonPowerUp (ma : Fin 8)
  /-- PWR_GOOD_RISE, R358: PWR_GOOD rises, or the last reset cause is released, latching straps and starting start-up from stage 0. -/
  | pwrGoodRise (straps : Fin 8) (ma : Fin 8)
  /-- FG_WATCH_MATCH, R366: A first-gather watch entry matches and after CONFIRM matches its alarm activates. -/
  | fgWatchMatch (e : Fin 4) (unit : WatchUnit)
  /-- FG_WATCH_END, R366: END_MS passes without a match and the watch entry's alarm ends. -/
  | fgWatchEnd (e : Fin 4)
  /-- FG_STOP, R368: FG_CMD.STOP ends first gather, fades AP_0 and releases the scout. -/
  | fgStop (a : Accessor) (w : Word)
  /-- FG_ACK, R366: FG_CMD.ACK clears the first-gather alert latch. -/
  | fgAck (a : Accessor) (w : Word)
  /-- FG_HANDOVER, R375: FG_CMD.HANDOVER starts moving AP_0 from the scout to slot S. -/
  | fgHandover (a : Accessor) (w : Word)
  /-- HO_ATTEMPT_END, R376: A handover correlation attempt ends and passes, or adjusts d and retries. -/
  | hoAttemptEnd (peak : Int) (lag : Int)
  /-- IMAGE_AUTH_DONE, R371: A flash or host image finishes authentication and is started or rejected. -/
  | imageAuthDone (flash : List (List Byte)) (keyOk : Bool) (sigOk : Bool) (hashOk : Bool)
  /-- MBX_GO, R373: MBX_CMD.GO starts authentication of a host-loaded image in W2. -/
  | mbxGo (a : Accessor) (w : Word)
  /-- MBX_ABORT, R374: MBX_CMD.ABORT returns host loading to WAIT_HOST with ERR ABORTED. -/
  | mbxAbort (a : Accessor) (w : Word)
  /-- LINK_UP, R361: Link training completes and configuration requests are served. -/
  | linkUp (speed : Nat) (lanes : Nat)
  /-- CONFIG_WRITE, R386: A configuration-space write changes BME, MSE, power state, ATS or MSI-X enables of a function. -/
  | configWrite (f : Fin 4) (c : CfgWrite)
  /-- W2_ACCESS, R14: A host memory request to W2 reads or writes crucible bytes. -/
  | w2Access (write : Bool) (addr : Nat) (count : Nat) (data : List Byte)
  /-- RING_ENABLE, R390: A write of 1 to a ring's ENABLE allocates its pots, zeroes HEAD, TAIL and SEQ and enters RUNNING. -/
  | ringEnable (a : Accessor) (r : Fin 64) (w : Word)
  /-- RING_DISABLE, R396: A write of 0 to a ring's ENABLE puts it in DRAINING. -/
  | ringDisable (a : Accessor) (r : Fin 64) (w : Word)
  /-- DRAIN_END, R396: DRAINING ends when the buffer is delivered or 10 ms pass, and the ring enters DISABLED. -/
  | drainEnd (r : Fin 64)
  /-- RING_RESET, R396: A reset of a ring instance stops it at once, frees its pots and resets its registers. -/
  | ringReset (a : Accessor) (r : Fin 64) (w : Word)
  /-- RING_TAIL_WRITE, R391: A write of RING_TAIL hands descriptors to the part. -/
  | ringTailWrite (a : Accessor) (r : Fin 64) (w : Word)
  /-- DESC_FETCH, R391: A descriptor read completes and is taken into use. -/
  | descFetch (r : Fin 64) (addr : Nat) (len : Nat) (ctl : Nat) (cookie : Nat)
  /-- RING_RESTART, R393: RING_CMD.RESTART refetches the descriptor at HEAD of a halted ring. -/
  | ringRestart (a : Accessor) (r : Fin 64) (w : Word)
  /-- RING_FLUSH, R394: RING_CMD.FLUSH completes the current buffer at the end of the current record. -/
  | ringFlush (a : Accessor) (r : Fin 64) (w : Word)
  /-- FLUSH_TIMER, R394: FLUSH_US passes since a buffer's first byte and the buffer completes flushed. -/
  | flushTimer (r : Fin 64)
  /-- DMA_BURST, R397: A DMA burst of a ring completes, possibly completing a buffer with writeback. -/
  | dmaBurst (r : Fin 64) (cut : Bool) (data : List Byte)
  /-- COAL_TIMER, R388: COAL_US passes since the first uncounted completion and a ring message is sent. -/
  | coalTimer (r : Fin 64)
  /-- READ_COMPLETION_ERROR, R389: A completion with UR, CA, poison or a timeout halts the ring with HOST_ERR. -/
  | readCompletionError (r : Fin 64) (cause : Fin 4)
  /-- RECORD_OFFER, R399: A produced record is offered whole to a ring's elastic buffer and enters or is culled. -/
  | recordOffer (r : Fin 64) (rec : Rec)
  /-- CULL_OVERFLOW_END, R400: An overflow episode ends after 1 s without a pending tracked entry and a CULL_OVERFLOW GAP is inserted. -/
  | cullOverflowEnd (r : Fin 64)
  /-- XLAT_CFG_WRITE, R414: A write of XLAT_CFG changes the translation mode or its PRI_AUTO and PREFETCH options. -/
  | xlatCfgWrite (a : Accessor) (w : Word)
  /-- LOCAL_WALK, R417: A LOCAL table walk completes, yielding a translation or a fault. -/
  | localWalk (r : Fin 64) (reads : List (Nat × Nat))
  /-- ATS_COMPLETION, R423: A Translation Completion arrives, giving a translation or a fault with a Page Request. -/
  | atsCompletion (r : Fin 64) (grant : Option Grant)
  /-- PRG_RESPONSE, R424: A Page Request Group Response is written into the fault entry and may resolve the fault. -/
  | prgResponse (r : Fin 64) (code : Fin 3) (grant : Option Grant)
  /-- INV_ALL, R421: XLAT_INV.ALL invalidates every cache entry of the function. -/
  | invAll (a : Accessor) (w : Word)
  /-- INV_PAGE, R421: XLAT_INV.PAGE invalidates the entries covering one page. -/
  | invPage (a : Accessor) (w : Word)
  /-- INV_DONE, R421: An invalidation completes and INV_DONE is raised. -/
  | invDone (f : Fin 4)
  /-- ATS_INVALIDATE_REQUEST, R422: An ATS Invalidate Request drops the named range and is completed. -/
  | atsInvalidateRequest (f : Fin 4) (addr : Nat) (size : Nat)
  /-- RETRY, R428: FAULT_RESUME with RETRY retranslates and continues from the faulting byte. -/
  | retry (a : Accessor) (w : Word)
  /-- SKIP_RECORD, R428: FAULT_RESUME with SKIP_RECORD drops the rest of the faulting record and completes the descriptor truncated. -/
  | skipRecord (a : Accessor) (w : Word)
  /-- ABORT_RING, R428: FAULT_RESUME with ABORT_RING drops the ring's work and halts it with ABORTED. -/
  | abortRing (a : Accessor) (w : Word)
  /-- FAULT_LOG_FREE, R441: A write of FAULT_LOG.HEAD frees the oldest fault log entries. -/
  | faultLogFree (a : Accessor) (w : Word)
  /-- OWNERSHIP_WRITE, R432: A write of an ownership register reassigns resources and increments their epochs. -/
  | ownershipWrite (a : Accessor) (off : Nat) (w : Word)
  /-- FLR, R434: A function-level reset stops the function's requests and resets its rings, translations and settings. -/
  | flr (f : Fin 4)
  /-- FLR_DONE, R434: An FLR completes, epochs have risen by one and FLR_DONE is raised. -/
  | flrDone (f : Fin 4)
  /-- AP_ENABLE, R465: A write of 1 to a port's ENABLE checks its format and clock and enters WAIT_CLK. -/
  | apEnable (a : Accessor) (p : Fin 8) (w : Word)
  /-- AP_DISABLE, R465: A write of 0 to a port's ENABLE stops it at the next frame boundary and frees its pots. -/
  | apDisable (a : Accessor) (p : Fin 8) (w : Word)
  /-- AP_RESET, R465: A reset of an AP page stops the port at once and removes its pairs from groups. -/
  | apReset (a : Accessor) (p : Fin 8) (w : Word)
  /-- AP_FRAME, R446: A port frame starts, carrying samples in and out of each pair. -/
  | apFrame (p : Fin 8) (bclk : Nat) (rate : Nat) (ins : List (List (Nat × Nat))) (late : List (Fin 16 × Nat))
  /-- PORT_INPUT_OFFER, R459: An input pair offers a record to its ring once the ring's buffer has room. -/
  | portInputOffer (p : Fin 8) (k : Fin 16)
  /-- RATE_WINDOW, R450: A 62.5 ms rate measurement window ends and AP_RATE is updated. -/
  | rateWindow (p : Fin 8) (valid : Bool) (rate : Nat)
  /-- RATE_ACK, R451: AP_CMD.RATE_ACK copies AP_RATE to AP_RATE_REF and ends HALT_RATE. -/
  | rateAck (a : Accessor) (p : Fin 8) (w : Word)
  /-- CLK_LOST, R461: No frame start for four periods declares CLK_LOST and zero writing begins. -/
  | clkLost (p : Fin 8)
  /-- CLK_BACK, R462: After 16 returned frames the port resumes with CLK_BACK or enters HALT_RATE. -/
  | clkBack (p : Fin 8) (rate : Nat)
  /-- OUT_SRC_WRITE, R454: A write of OUT_SRC_k selects the stream an output pair plays from the next frame. -/
  | outSrcWrite (a : Accessor) (p : Fin 8) (k : Fin 16) (w : Word)
  /-- PORT_AG_JOIN, R460: A write of OUT_AG_k or IN_AG_k with MEMBER 1 joins a pair to a group. -/
  | portAgJoin (a : Accessor) (p : Fin 8) (k : Fin 16) (input : Bool) (w : Word)
  /-- PORT_AG_LEAVE, R460: A write with MEMBER 0 removes a pair from its group. -/
  | portAgLeave (a : Accessor) (p : Fin 8) (k : Fin 16) (input : Bool) (w : Word)
  /-- IN_CFG_WRITE, R458: A write of IN_CFG_k configures an input pair's records and attaches a detached pair. -/
  | inCfgWrite (a : Accessor) (p : Fin 8) (k : Fin 16) (w : Word)
  /-- MGMT_ADDRESS, R474: A matching address byte is acknowledged and, in SLEEP or LEHR, SCL is held while a visit or wake starts. -/
  | mgmtAddress (addr : BitVec 7) (read : Bool)
  /-- MGMT_ABORT, R476: A START or STOP at a wrong bit position aborts the command. -/
  | mgmtAbort (cmd : Option Byte)
  /-- MGMT_TIMEOUT, R483: A stretch reaching 25 ms releases SCL and resets the port. -/
  | mgmtTimeout (cmd : Option Byte)
  /-- SCL_LOW_TIMEOUT, R484: SCL held low for more than 35 ms resets the port. -/
  | sclLowTimeout (cmd : Option Byte)
  /-- QUICK_READ, R475: A quick read returns the 8 bytes of STATUS. -/
  | quickRead (count : Nat)
  /-- DIALECT, R491: The DIALECT command reads the supported majors and optionally sets SPOKEN. -/
  | dialect (bytes : List Byte) (read : Option Nat)
  /-- IDENT, R491: The IDENT command returns the part's identity. -/
  | ident (bytes : List Byte) (read : Option Nat)
  /-- STATUS, R491: The STATUS command returns device state, stage and last result. -/
  | status (bytes : List Byte) (read : Option Nat)
  /-- ATTN_STATUS, R488: The ATTN_STATUS command returns and clears the pending attention bits. -/
  | attnStatus (bytes : List Byte) (read : Option Nat)
  /-- WAKE_LAST, R333: The WAKE_LAST command returns the last wake record. -/
  | wakeLast (bytes : List Byte) (read : Option Nat)
  /-- SLEEP, R491: The Zwikiur SLEEP command requests SLEEP or LEHR. -/
  | sleep (bytes : List Byte) (read : Option Nat)
  /-- TEMP, R491: The TEMP command returns AON and hottest sensor temperatures. -/
  | temp (bytes : List Byte) (read : Option Nat)
  /-- OTP_READ, R491: The OTP_READ command returns corrected OTP words. -/
  | otpRead (bytes : List Byte) (read : Option Nat)
  /-- OTP_WRITE, R379: The OTP_WRITE command programs up to eight OTP words. -/
  | otpWrite (bytes : List Byte) (read : Option Nat) (bad : List Nat)
  /-- LEHR_CFG, R491: The LEHR_CFG command writes and reads a watch entry or LEHR_CFG. -/
  | lehrCfg (bytes : List Byte) (read : Option Nat)
  /-- LEHR_LOG, R491: The LEHR_LOG command returns lehr log entries. -/
  | lehrLog (bytes : List Byte) (read : Option Nat)
  /-- PAGE_READ, R491: The PAGE_READ command reads register words of a page. -/
  | pageRead (bytes : List Byte) (read : Option Nat)
  /-- PAGE_WRITE, R491: The PAGE_WRITE command writes register words of a page one by one. -/
  | pageWrite (bytes : List Byte) (read : Option Nat)
  /-- FG_CTRL, R491: The FG_CTRL command acts as STOP and ACK of first gather and returns FG_STAT. -/
  | fgCtrl (bytes : List Byte) (read : Option Nat)
  /-- FUNC_RESET, R491: The FUNC_RESET command performs an FLR of the named function. -/
  | funcReset (bytes : List Byte) (read : Option Nat)
  /-- DEVICE_RESET, R491: The DEVICE_RESET command with KEY 0xA5 causes a device reset. -/
  | deviceReset (bytes : List Byte) (read : Option Nat)
  /-- HIST_SECOND, R514: Each second one second is added to the histogram bin of the hottest valid sensor. -/
  | histSecond (temps : List Int)
  /-- AGE_MEASURE_GO, R515: HLT_AGE_CMD.GO starts an ageing measurement. -/
  | ageMeasureGo (a : Accessor) (w : Word)
  /-- AGE_MEASURE_DONE, R515: An ageing measurement completes and reports the slowdown. -/
  | ageMeasureDone (slow : List Nat)
  /-- INACTIVE_REFERENCE_LOST, R302: REF_IN or SYNC_IN, while not the active reference, is declared lost and REF_OK or SYNC_OK clears with no event. -/
  | inactiveReferenceLost (sync : Bool)
  /-- AUD_UNLOCK, R317: An enabled audio PLL loses lock, clearing AUD_A_LOCK or AUD_B_LOCK and raising AUD_UNLOCK. -/
  | audUnlock (b : Bool)
  /-- REFERENCE_RATE_PERIOD, R461: While a port is in CLK_LOST or HALT_RATE, each period implied by the reference rate and timed by device time writes one zero period on input pairs and consumes timed output sources, stopping at 1 s. -/
  | referenceRatePeriod (p : Fin 8)
  /-- REF_AGE_DAY, R277: A day passes on the AON timer and AGE increments, possibly starting an automatic self-check. -/
  | refAgeDay
  /-- PPS_MISSING, R284: 1.1 s pass after an accepted edge with no further edge and PPS_MISSING is raised. -/
  | ppsMissing
  /-- REF_LOST, R302: The active REF or SYNC reference is declared lost; the PLL enters holdover or relocks. -/
  | refLost
  /-- XO_LOST, R303: XO_IN is declared lost, raising XO_LOST and relocking or removing holdover. -/
  | xoLost
  /-- X32_OK, R295: The 32 kHz crystal qualifies and CK_AON switches to it. -/
  | x32Ok
  /-- X32_LOST, R295: The crystal stops for 250 us and CK_AON returns to the RC. -/
  | x32Lost
  /-- PLL_LOCK, R300: A relock ends; clocks return from CK_FRC to the PLL and PLL_LOCK is raised. -/
  | pllLock
  /-- SYNC_SLEW_DONE, R312: The anneal slew reduces the error to 2 taps and SYNC_SLEW_DONE is raised. -/
  | syncSlewDone
  /-- SLEEP_DECLARED, R328: The domains are off and SLEEP or LEHR is declared. -/
  | sleepDeclared
  /-- AON_TIMER_MATCH, R331: The AON timer reaches WAKE_AT and the TIMER source fires. -/
  | aonTimerMatch
  /-- WAKE, R334: A wake completes to IDLE with epochs incremented, and WAKE is raised. -/
  | wake
  /-- SERVE_VISIT, R335: An address match in SLEEP or LEHR with MGMT_SERVE starts a serve visit on CK_FRC. -/
  | serveVisit
  /-- SERVE_VISIT_END, R335: 10 ms after the last STOP the serve visit ends and the part returns to its state. -/
  | serveVisitEnd
  /-- LEHR_CYCLE_START, R339: The lehr period expires and a cycle powers PD_1, locks the PLL and starts the first entry. -/
  | lehrCycleStart
  /-- PWR_GOOD_FALL, R356: PWR_GOOD falls after it has been high, causing a device reset. -/
  | pwrGoodFall
  /-- SYS_RST_N_LOW, R356: SYS_RST_N held low for 1 us causes a device reset. -/
  | sysRstNLow
  /-- STAGE_CHG, R359: STAGE advances one step and STAGE_CHG is raised. -/
  | stageChg
  /-- STAGE_1_TIMEOUT, R358: 600 ms pass without first gather being established and stage 1 is entered. -/
  | stage1Timeout
  /-- FG_ESTABLISHED, R365: After the 100 ms settle the fade-in on AP_0 starts and first gather is established. -/
  | fgEstablished
  /-- HO_DONE, R376: The 20 ms crossfade to S completes and HO_DONE is raised. -/
  | hoDone
  /-- BOOT_WATCHDOG, R372: A running image not at stage 3 within 2 s is reset and the next candidate starts. -/
  | bootWatchdog
  /-- PERST_ASSERT, R385: PERST_N assertion acts as an FLR of every function and holds the link down. -/
  | perstAssert
  /-- PERST_DEASSERT, R361: PERST_N deassertion starts link training. -/
  | perstDeassert
  /-- HOT_RESET, R385: A hot reset acts as an FLR of every function. -/
  | hotReset
  /-- LINK_DOWN, R385: A link-down condition acts as an FLR of every function and the endpoint retries training. -/
  | linkDown
  /-- ATTN_SIGNAL, R486: With an enabled pending bit and 50 us of idle bus the part pulls SDA low as an attention signal. -/
  | attnSignal
  /-- ATTN_REPEAT, R487: The 10 ms or 1 s attention repeat timer expires and another signal is due. -/
  | attnRepeat
  /-- LIFE_UPDATE, R514: Hourly HLT_LIFE is recomputed from the histogram and its bases. -/
  | lifeUpdate
  /-- AGE_MEASURE_TIMER, R515: After 24 h of PD_1 on an ageing measurement starts. -/
  | ageMeasureTimer
  /-- VIO_AON_REMOVAL, R499: VIO_AON falls below its falling power-on reset threshold and PD_0, with all its held state, goes to OFF. -/
  | vioAonRemoval
deriving DecidableEq, Repr

end Sys2Proof
end

