-- ==== Sys2Proof/Decode.lean ====
section
/-! DEFINITION. The commands that words of the table spell. The table of operations gives no row any bits: a command is an
event at the part's pins, buses or registers, not a word. -/

namespace Sys2Proof

/-- The command that a word of `nbits` bits spells by the table: none does. -/
def decodeTableWord (_nbits _w : Nat) : Option Instr := none

end Sys2Proof
end

