-- ==== Sys2Proof/Config.lean ====
section
/-! DEFINITION. What one part fixes, and the values that the specification leaves open. None of them has a body. -/

namespace Sys2Proof

/-- A fresh value where the specification leaves one open: the machine applies it to a counter that it then advances
(`State.freeNow`, counted by `State.freeUsed`), so nothing is known of the value and no two uses are tied together. -/
opaque Config.freeWord : Nat → Nat

/-- The grade of the part: true for EV5120-X (R58). -/
opaque Config.gradeX : Bool

/-- The intrinsic latency of a slot in 1/16 tick: fixed for a window kind, binding, IQ rate and profile with its taps
(R145); the specification gives no formula for it. -/
opaque Config.slotLat : (lmh : Bool) → (kind iqRate profile taps : Nat) → Nat

/-- One decay step of the peak detector from `p` at a decay in 0.1 dB/s and a rate in hertz (R149): the rounding is not
given. -/
opaque Config.peakDecay : (p decay rate : Nat) → Nat

/-- One step of an exponential average from `y` towards `x` by 2^-k (R150, R151): the word length is not given. -/
opaque Config.expStep : (y x k : Nat) → Nat

/-- The epoch that PAGE_STAT reports for a page whose resource carries none (R40, R53). -/
opaque Config.pageEpoch : Nat → Nat

/-- The OTP words that Tvedval programs: factory data, the key hashes, and what a spare row or a reserved word reads (R378). -/
opaque Config.otpFactory : Nat → Nat

/-- The bytes 0 to 13 of IDENT: the Vendor ID, the Subsystem IDs and the Device Serial Number, from fuses (R491). -/
opaque Config.identByte : Nat → Byte

/-- The number of spare rows of the OTP (R378, R381). -/
opaque Config.otpSpareRows : Nat

/-- Whether the word at a word address of the OTP needs correction, and whether it is beyond correction (R378, R381): the state
of the cells is the part's own. -/
opaque Config.otpCorrected : Nat → Bool
opaque Config.otpUncorrectable : Nat → Bool

end Sys2Proof
end

