-- ==== Sys2Proof/Machine/Fld.lean ====
section
/-! DEFINITION. Blocks of registers, and what the register map says of one field. -/

namespace Sys2Proof.Machine

/-- The block types of R33. The last four are the overlays of a slot's demodulation registers, which follow the kind of
its applied binding (R169, R241): FM lane, AM lane, what both lanes share, and the digital bindings. -/
inductive Blk
  | global | aon | clock | dll | health | otp | mgmt | fe | bank | cal | aerial | slot | dab | drm | tap
  | auddec | follow | metro | sidedata | lehr | ap | host | xlat | fault | ring | crucible | function
  | fm | am | an | dig
deriving DecidableEq, Repr

/-- A number for each block, the highest part of a register key. -/
def Blk.code : Blk → Nat
  | .global => 0 | .aon => 1 | .clock => 2 | .dll => 3 | .health => 4 | .otp => 5 | .mgmt => 6 | .fe => 7
  | .bank => 8 | .cal => 9 | .aerial => 10 | .slot => 11 | .dab => 12 | .drm => 13 | .tap => 14
  | .auddec => 15 | .follow => 16 | .metro => 17 | .sidedata => 18 | .lehr => 19 | .ap => 20 | .host => 21
  | .xlat => 22 | .fault => 23 | .ring => 24 | .crucible => 25 | .function => 26
  | .fm => 27 | .am => 28 | .an => 29 | .dig => 30

/-- The access codes of R4. `w1a` is the form of W1C that only a write of all ones clears. -/
inductive Access | ro | rw | w1c | w1a | w1s | wo | sc | rwo
deriving DecidableEq, Repr

/-- How a reset value depends on the instance. -/
inductive ResetKind
  | const     -- the value of `reset`
  | inst      -- the instance number
  | engine    -- the slot number divided by 16 (R15)
  | feInput   -- FE_5 0, FE_6 1, FE_7 2 (R93)
  | subbands  -- 128 on VHF, 256 on LMH (R129)
  | isLmh     -- 1 on LMH
  | bankLat   -- the latency of the bank by kind (R167)
  | quota     -- 1,024 for PF_0, 0 otherwise (R443)
  | overtemp  -- 110 (I), 125 (X) (R349)
deriving DecidableEq, Repr

/-- One field of a register table. `cnt` registers of one form stand `stride` bytes apart. `lim` lists the ranges of
values that a write may give; empty, any value. -/
structure Fld where
  blk : Blk
  off : Nat
  hi : Nat
  lo : Nat
  cnt : Nat := 1
  stride : Nat := 4
  acc : Access := .ro
  reset : Nat := 0
  rk : ResetKind := .const
  lim : List (Nat × Nat) := []
  m1 : Bool := true
deriving DecidableEq, Repr

/-- The number of bits of a field. -/
def Fld.width (f : Fld) : Nat := f.hi - f.lo + 1

/-- The key of the field of element `e` of instance `n` in the register table of the state. -/
def Fld.key (f : Fld) (n e : Nat) : Nat :=
  ((((f.blk.code * 1024 + n) * 128 + e) * 1024 + f.off / 4) * 32) + f.lo

/-- The keys of every register of instance `n` of block `b` lie from `blockLo b n` up to `blockLo b (n + 1)`. -/
def blockLo (b : Blk) (n : Nat) : Nat := (b.code * 1024 + n) * 128 * 1024 * 32

/-- The reset value of a field in instance `n`. -/
def Fld.resetAt (f : Fld) (n : Nat) : Nat :=
  match f.rk with
  | .const => f.reset
  | .inst => n
  | .engine => n / 16
  | .feInput => if n = 6 then 1 else if n = 7 then 2 else 0
  | .subbands => if n < 5 then 128 else 256
  | .isLmh => if n < 5 then 0 else 1
  | .bankLat => if n < 5 then 32768 else 524288
  | .quota => if n = 0 then 1024 else 0
  | .overtemp => if Config.gradeX then 125 else 110

/-- The element of the field that stands at offset `off` of its block, if any. -/
def Fld.elemAt (f : Fld) (off : Nat) : Option Nat :=
  if f.cnt = 1 then (if off = f.off then some 0 else none)
  else if f.off ≤ off ∧ (off - f.off) % f.stride = 0 ∧ (off - f.off) / f.stride < f.cnt
    then some ((off - f.off) / f.stride) else none

/-- Whether a write may give the field the value `v` (R50). -/
def Fld.accepts (f : Fld) (v : Nat) : Bool :=
  match f.lim with
  | [] => true
  | rs => rs.any fun r => decide (r.1 ≤ v) && decide (v ≤ r.2)

/-- Bits `hi` down to `lo` of a number. -/
def bits (w hi lo : Nat) : Nat := w / 2 ^ lo % 2 ^ (hi - lo + 1)

/-- The field's bits of a register word. -/
def Fld.ofWord (f : Fld) (w : Nat) : Nat := bits w f.hi f.lo

end Sys2Proof.Machine
end

