-- ==== Sys2Proof/Machine/Regs.lean ====
section
/-! DEFINITION. The register map: one constant for each field of the register tables of the specification, and for
each block the list of its fields. A field's record gives its place, its access code (R4), its reset value, and the
values a write may give it where the table refuses the others (R50); `m1 := false` marks a field that the dialect of
major 1 lacks (R43). Registers that are computed when they are read (`Views.lean`) have no constant here. -/

namespace Sys2Proof.Machine

/-! ### global: R58, R380 -/

def F.GLOBAL_STAT_STAGE : Fld := { blk := .global, off := 0x40, hi := 2, lo := 0 }
def F.GLOBAL_STAT_FG_ACTIVE : Fld := { blk := .global, off := 0x40, hi := 3, lo := 3 }
def F.GLOBAL_STAT_PLL_LOCKED : Fld := { blk := .global, off := 0x40, hi := 4, lo := 4 }
def F.GLOBAL_STAT_FW_IMAGE : Fld := { blk := .global, off := 0x40, hi := 5, lo := 5 }
def F.DEVICE_ID_PART : Fld := { blk := .global, off := 0x44, hi := 31, lo := 16, reset := 0x5120 }
def F.DEVICE_ID_STEPPING : Fld := { blk := .global, off := 0x44, hi := 15, lo := 8, reset := 0xA2 }
def F.SPEAK_MAJOR : Fld := { blk := .global, off := 0x48, hi := 7, lo := 0, acc := .rw }
def F.SPEAK_MISS_COUNT : Fld := { blk := .global, off := 0x4C, hi := 8, lo := 0 }
def F.ACC_LOG_REASON : Fld := { blk := .global, off := 0x50, hi := 3, lo := 0 }
def F.ACC_LOG_PAGE : Fld := { blk := .global, off := 0x50, hi := 15, lo := 8 }
def F.ACC_ADDR_OFFSET : Fld := { blk := .global, off := 0x54, hi := 11, lo := 0 }
def F.ACC_COUNT_COUNT : Fld := { blk := .global, off := 0x58, hi := 31, lo := 0, acc := .w1a }
def F.SCRATCH_VALUE : Fld := { blk := .global, off := 0x68, hi := 31, lo := 0, acc := .rw }
def F.BOOT_STAT_STATE : Fld := { blk := .global, off := 0x100, hi := 2, lo := 0 }
def F.BOOT_STAT_ERR : Fld := { blk := .global, off := 0x100, hi := 6, lo := 3 }
def F.BOOT_STAT_FALLBACK : Fld := { blk := .global, off := 0x100, hi := 7, lo := 7 }
def F.BOOT_STAT_SOURCE : Fld := { blk := .global, off := 0x100, hi := 9, lo := 8 }
def F.FW_VER_VER : Fld := { blk := .global, off := 0x108, hi := 31, lo := 0 }
def F.FW_SEQ_SEQ : Fld := { blk := .global, off := 0x10C, hi := 31, lo := 0 }
def F.MBX_LEN_LEN : Fld := { blk := .global, off := 0x110, hi := 19, lo := 0, acc := .rw }
def F.MBX_CMD_GO : Fld := { blk := .global, off := 0x114, hi := 0, lo := 0, acc := .wo }
def F.MBX_CMD_ABORT : Fld := { blk := .global, off := 0x114, hi := 1, lo := 1, acc := .wo }

/-- The fields of the block's registers: R58, R380. -/
def fieldsGlobal : List Fld :=
  [F.GLOBAL_STAT_STAGE, F.GLOBAL_STAT_FG_ACTIVE, F.GLOBAL_STAT_PLL_LOCKED, F.GLOBAL_STAT_FW_IMAGE,
   F.DEVICE_ID_PART, F.DEVICE_ID_STEPPING, F.SPEAK_MAJOR, F.SPEAK_MISS_COUNT, F.ACC_LOG_REASON,
   F.ACC_LOG_PAGE, F.ACC_ADDR_OFFSET, F.ACC_COUNT_COUNT, F.SCRATCH_VALUE, F.BOOT_STAT_STATE, F.BOOT_STAT_ERR,
   F.BOOT_STAT_FALLBACK, F.BOOT_STAT_SOURCE, F.FW_VER_VER, F.FW_SEQ_SEQ, F.MBX_LEN_LEN, F.MBX_CMD_GO,
   F.MBX_CMD_ABORT]

/-! ### fe: R93 -/

def F.FE_CTRL_STATE : Fld := { blk := .fe, off := 0x40, hi := 2, lo := 0, acc := .rw, lim := [(0, 3)] }
def F.FE_CTRL_INPUT : Fld := { blk := .fe, off := 0x40, hi := 5, lo := 4, acc := .rw, rk := .feInput, lim := [(0, 2)] }
def F.FE_STAT_STATE : Fld := { blk := .fe, off := 0x44, hi := 2, lo := 0 }
def F.FE_STAT_MOVING : Fld := { blk := .fe, off := 0x44, hi := 3, lo := 3 }
def F.FE_STAT_HW : Fld := { blk := .fe, off := 0x44, hi := 6, lo := 4, rk := .inst }
def F.FE_STAT_LOCKED : Fld := { blk := .fe, off := 0x44, hi := 8, lo := 8 }
def F.FE_STAT_STALE : Fld := { blk := .fe, off := 0x44, hi := 10, lo := 10, reset := 0x1 }
def F.FE_STAT_PROBE_QUEUED : Fld := { blk := .fe, off := 0x44, hi := 11, lo := 11 }
def F.FE_STAT_BURST_ACTIVE : Fld := { blk := .fe, off := 0x44, hi := 12, lo := 12 }
def F.FE_STAT_RETUNING : Fld := { blk := .fe, off := 0x44, hi := 13, lo := 13 }
def F.FE_STAT_HANDOVER : Fld := { blk := .fe, off := 0x44, hi := 14, lo := 14, m1 := false }
def F.FE_STAT_SCOUT_USE : Fld := { blk := .fe, off := 0x44, hi := 15, lo := 15, m1 := false }
def F.FE_WIN_START_START : Fld := { blk := .fe, off := 0x48, hi := 31, lo := 0, acc := .rw, lim := [(1, 4294967295)] }
def F.FE_WIN_SPAN_SPAN : Fld := { blk := .fe, off := 0x4C, hi := 17, lo := 0, acc := .rw, lim := [(1, 262143)] }
def F.FE_IF_POLARITY : Fld := { blk := .fe, off := 0x50, hi := 0, lo := 0, acc := .rw }
def F.FE_TUNE_GO : Fld := { blk := .fe, off := 0x54, hi := 0, lo := 0, acc := .wo }
def F.FE_TUNE_EXP_EPOCH : Fld := { blk := .fe, off := 0x54, hi := 31, lo := 24, acc := .wo }
def F.FE_LO_HZ_LO : Fld := { blk := .fe, off := 0x58, hi := 31, lo := 0 }
def F.FE_APPLIED_START_START : Fld := { blk := .fe, off := 0x5C, hi := 31, lo := 0 }
def F.FE_APPLIED_SPAN_SPAN : Fld := { blk := .fe, off := 0x60, hi := 17, lo := 0 }
def F.FE_APPLIED_SPAN_POLARITY : Fld := { blk := .fe, off := 0x60, hi := 31, lo := 31 }
def F.FE_PROBE_CFG_TONE_KHZ : Fld := { blk := .fe, off := 0x64, hi := 17, lo := 0, acc := .rw }
def F.FE_PROBE_CFG_ATTEN : Fld := { blk := .fe, off := 0x64, hi := 22, lo := 18, acc := .rw }
def F.FE_PROBE_CFG_PROBE_NOWAIT : Fld := { blk := .fe, off := 0x64, hi := 31, lo := 31, acc := .rw, m1 := false }
def F.FE_PROBE_DWELL_DWELL : Fld := { blk := .fe, off := 0x68, hi := 15, lo := 0, acc := .rw, reset := 0xC8, lim := [(1, 65535)] }
def F.FE_PROBE_GO : Fld := { blk := .fe, off := 0x6C, hi := 0, lo := 0, acc := .wo }
def F.FE_PROBE_EXP_EPOCH : Fld := { blk := .fe, off := 0x6C, hi := 31, lo := 24, acc := .wo }
def F.FE_PROBE_RES_LEVEL : Fld := { blk := .fe, off := 0x70, hi := 14, lo := 0 }
def F.FE_PROBE_RES_VALID : Fld := { blk := .fe, off := 0x70, hi := 15, lo := 15 }
def F.FE_PROBE_RES_PHASE : Fld := { blk := .fe, off := 0x70, hi := 31, lo := 16 }
def F.FE_GAIN_MODE : Fld := { blk := .fe, off := 0x74, hi := 1, lo := 0, acc := .rw, lim := [(0, 2)] }
def F.FE_GAIN_INDEX : Fld := { blk := .fe, off := 0x74, hi := 13, lo := 8, acc := .rw }
def F.FE_AGC_HI : Fld := { blk := .fe, off := 0x78, hi := 7, lo := 0, acc := .rw, reset := 0x6 }
def F.FE_AGC_LO : Fld := { blk := .fe, off := 0x78, hi := 15, lo := 8, acc := .rw, reset := 0x1E }
def F.FE_AGC_UP_HOLD : Fld := { blk := .fe, off := 0x78, hi := 23, lo := 16, acc := .rw, reset := 0x10, lim := [(1, 255)] }
def F.FE_AGC_CLIP_FAST : Fld := { blk := .fe, off := 0x78, hi := 24, lo := 24, acc := .rw, reset := 0x1 }
def F.FE_GAIN_STAT_INDEX : Fld := { blk := .fe, off := 0x7C, hi := 5, lo := 0 }
def F.FE_GAIN_STAT_STEPS : Fld := { blk := .fe, off := 0x7C, hi := 31, lo := 16 }
def F.FE_BURST_AFTER : Fld := { blk := .fe, off := 0x80, hi := 1, lo := 0, acc := .rw, reset := 0x2 }
def F.FE_BURST_UNIT : Fld := { blk := .fe, off := 0x80, hi := 4, lo := 4, acc := .rw, m1 := false }
def F.FE_BURST_SRC_KIND : Fld := { blk := .fe, off := 0x80, hi := 5, lo := 5, acc := .rw, m1 := false }
def F.FE_BURST_SRC_INDEX : Fld := { blk := .fe, off := 0x80, hi := 14, lo := 8, acc := .rw, m1 := false }
def F.FE_BURST_LEN_LEN : Fld := { blk := .fe, off := 0x84, hi := 31, lo := 0, acc := .rw, reset := 0x1, lim := [(1, 4294967295)] }
def F.FE_BURST_CMD_GO : Fld := { blk := .fe, off := 0x88, hi := 0, lo := 0, acc := .wo }
def F.FE_BURST_CMD_STOP : Fld := { blk := .fe, off := 0x88, hi := 1, lo := 1, acc := .wo }
def F.FE_BURST_CMD_EXP_EPOCH : Fld := { blk := .fe, off := 0x88, hi := 31, lo := 24, acc := .wo }
def F.FE_BURST_DONE_COUNT : Fld := { blk := .fe, off := 0x8C, hi := 31, lo := 0 }
def F.FE_ROLE_ROLE : Fld := { blk := .fe, off := 0x90, hi := 1, lo := 0, acc := .rw, lim := [(0, 2)] }
def F.FE_ROLE_PARTNER : Fld := { blk := .fe, off := 0x90, hi := 6, lo := 4, acc := .rw }
def F.FE_ROLE_AG : Fld := { blk := .fe, off := 0x90, hi := 13, lo := 8 }
def F.FE_CULL_RETUNE_COUNT : Fld := { blk := .fe, off := 0x94, hi := 31, lo := 0, acc := .w1a }
def F.FE_CULL_NOT_RX_COUNT : Fld := { blk := .fe, off := 0x98, hi := 31, lo := 0, acc := .w1a }
def F.FE_CULL_CAL_COUNT : Fld := { blk := .fe, off := 0x9C, hi := 31, lo := 0, acc := .w1a, m1 := false }
def F.FE_CAL_POLICY : Fld := { blk := .fe, off := 0xA0, hi := 1, lo := 0, acc := .rw, reset := 0x1 }
def F.FE_CAL_USE_STALE : Fld := { blk := .fe, off := 0xA0, hi := 2, lo := 2, acc := .rw }

/-- The fields of the block's registers: R93. -/
def fieldsFe : List Fld :=
  [F.FE_CTRL_STATE, F.FE_CTRL_INPUT, F.FE_STAT_STATE, F.FE_STAT_MOVING, F.FE_STAT_HW, F.FE_STAT_LOCKED,
   F.FE_STAT_STALE, F.FE_STAT_PROBE_QUEUED, F.FE_STAT_BURST_ACTIVE, F.FE_STAT_RETUNING, F.FE_STAT_HANDOVER,
   F.FE_STAT_SCOUT_USE, F.FE_WIN_START_START, F.FE_WIN_SPAN_SPAN, F.FE_IF_POLARITY, F.FE_TUNE_GO,
   F.FE_TUNE_EXP_EPOCH, F.FE_LO_HZ_LO, F.FE_APPLIED_START_START, F.FE_APPLIED_SPAN_SPAN,
   F.FE_APPLIED_SPAN_POLARITY, F.FE_PROBE_CFG_TONE_KHZ, F.FE_PROBE_CFG_ATTEN, F.FE_PROBE_CFG_PROBE_NOWAIT]
   ++
  [F.FE_PROBE_DWELL_DWELL, F.FE_PROBE_GO, F.FE_PROBE_EXP_EPOCH, F.FE_PROBE_RES_LEVEL,
   F.FE_PROBE_RES_VALID, F.FE_PROBE_RES_PHASE, F.FE_GAIN_MODE, F.FE_GAIN_INDEX, F.FE_AGC_HI, F.FE_AGC_LO,
   F.FE_AGC_UP_HOLD, F.FE_AGC_CLIP_FAST, F.FE_GAIN_STAT_INDEX, F.FE_GAIN_STAT_STEPS, F.FE_BURST_AFTER,
   F.FE_BURST_UNIT, F.FE_BURST_SRC_KIND, F.FE_BURST_SRC_INDEX, F.FE_BURST_LEN_LEN, F.FE_BURST_CMD_GO,
   F.FE_BURST_CMD_STOP, F.FE_BURST_CMD_EXP_EPOCH, F.FE_BURST_DONE_COUNT, F.FE_ROLE_ROLE]
   ++
  [F.FE_ROLE_PARTNER, F.FE_ROLE_AG, F.FE_CULL_RETUNE_COUNT, F.FE_CULL_NOT_RX_COUNT, F.FE_CULL_CAL_COUNT,
   F.FE_CAL_POLICY, F.FE_CAL_USE_STALE]

/-! ### cal: R111 -/

def F.CAL_ROT_PERIOD_VHF_PERIOD : Fld := { blk := .cal, off := 0x40, hi := 11, lo := 0, acc := .rw, reset := 0x3C, lim := [(10, 3600)] }
def F.CAL_ROT_PERIOD_LMH_PERIOD : Fld := { blk := .cal, off := 0x44, hi := 11, lo := 0, acc := .rw, reset := 0x3C, lim := [(10, 3600)] }
def F.CAL_ROT_CMD_WINDOW : Fld := { blk := .cal, off := 0x48, hi := 2, lo := 0, acc := .wo }
def F.CAL_ROT_CMD_GO : Fld := { blk := .cal, off := 0x48, hi := 3, lo := 3, acc := .wo }
def F.CAL_ROT_STAT_VHF_WINDOW : Fld := { blk := .cal, off := 0x4C, hi := 2, lo := 0 }
def F.CAL_ROT_STAT_VHF_FROM_HW : Fld := { blk := .cal, off := 0x4C, hi := 5, lo := 3 }
def F.CAL_ROT_STAT_VHF_TO_HW : Fld := { blk := .cal, off := 0x4C, hi := 8, lo := 6 }
def F.CAL_ROT_STAT_VHF_ATTEMPTS : Fld := { blk := .cal, off := 0x4C, hi := 11, lo := 9 }
def F.CAL_ROT_STAT_VHF_REASON : Fld := { blk := .cal, off := 0x4C, hi := 14, lo := 12 }
def F.CAL_ROT_STAT_VHF_RUNNING : Fld := { blk := .cal, off := 0x4C, hi := 15, lo := 15 }
def F.CAL_MATCH_VHF_GAIN_ERR : Fld := { blk := .cal, off := 0x54, hi := 15, lo := 0 }
def F.CAL_MATCH_VHF_PHASE_ERR : Fld := { blk := .cal, off := 0x54, hi := 31, lo := 16 }
def F.CAL_MATCH_VHF_D_DELAY_ERR : Fld := { blk := .cal, off := 0x58, hi := 15, lo := 0 }
def F.CAL_SCHED_INTERVAL : Fld := { blk := .cal, off := 0x64, hi := 11, lo := 0, cnt := 8, stride := 4, acc := .rw, reset := 0x3C, lim := [(1, 3600)] }
def F.CAL_WIN_TEMP : Fld := { blk := .cal, off := 0x84, hi := 31, lo := 22, cnt := 8, stride := 4 }
def F.CAL_COUNT_ROT_DONE : Fld := { blk := .cal, off := 0xC4, hi := 15, lo := 0 }
def F.CAL_COUNT_ROT_FAIL : Fld := { blk := .cal, off := 0xC4, hi := 30, lo := 16 }
def F.CAL_COUNT_STEP_ERR : Fld := { blk := .cal, off := 0xC4, hi := 31, lo := 31, acc := .w1c, m1 := false }
def F.CAL_ROT_STAT_LMH_WINDOW : Fld := { blk := .cal, off := 0x50, hi := 2, lo := 0 }
def F.CAL_ROT_STAT_LMH_FROM_HW : Fld := { blk := .cal, off := 0x50, hi := 5, lo := 3 }
def F.CAL_ROT_STAT_LMH_TO_HW : Fld := { blk := .cal, off := 0x50, hi := 8, lo := 6 }
def F.CAL_ROT_STAT_LMH_ATTEMPTS : Fld := { blk := .cal, off := 0x50, hi := 11, lo := 9 }
def F.CAL_ROT_STAT_LMH_REASON : Fld := { blk := .cal, off := 0x50, hi := 14, lo := 12 }
def F.CAL_ROT_STAT_LMH_RUNNING : Fld := { blk := .cal, off := 0x50, hi := 15, lo := 15 }
def F.CAL_MATCH_LMH_GAIN_ERR : Fld := { blk := .cal, off := 0x5C, hi := 15, lo := 0 }
def F.CAL_MATCH_LMH_PHASE_ERR : Fld := { blk := .cal, off := 0x5C, hi := 31, lo := 16 }
def F.CAL_MATCH_LMH_D_DELAY_ERR : Fld := { blk := .cal, off := 0x60, hi := 15, lo := 0 }

/-- The fields of the block's registers: R111. -/
def fieldsCal : List Fld :=
  [F.CAL_ROT_PERIOD_VHF_PERIOD, F.CAL_ROT_PERIOD_LMH_PERIOD, F.CAL_ROT_CMD_WINDOW, F.CAL_ROT_CMD_GO,
   F.CAL_ROT_STAT_VHF_WINDOW, F.CAL_ROT_STAT_VHF_FROM_HW, F.CAL_ROT_STAT_VHF_TO_HW,
   F.CAL_ROT_STAT_VHF_ATTEMPTS, F.CAL_ROT_STAT_VHF_REASON, F.CAL_ROT_STAT_VHF_RUNNING,
   F.CAL_MATCH_VHF_GAIN_ERR, F.CAL_MATCH_VHF_PHASE_ERR, F.CAL_MATCH_VHF_D_DELAY_ERR, F.CAL_SCHED_INTERVAL,
   F.CAL_WIN_TEMP, F.CAL_COUNT_ROT_DONE, F.CAL_COUNT_ROT_FAIL, F.CAL_COUNT_STEP_ERR,
   F.CAL_ROT_STAT_LMH_WINDOW, F.CAL_ROT_STAT_LMH_FROM_HW, F.CAL_ROT_STAT_LMH_TO_HW,
   F.CAL_ROT_STAT_LMH_ATTEMPTS, F.CAL_ROT_STAT_LMH_REASON, F.CAL_ROT_STAT_LMH_RUNNING]
   ++
  [F.CAL_MATCH_LMH_GAIN_ERR, F.CAL_MATCH_LMH_PHASE_ERR, F.CAL_MATCH_LMH_D_DELAY_ERR]

/-! ### aerial: R127 -/

def F.AER_VHF_AMP_A_EN : Fld := { blk := .aerial, off := 0x40, hi := 0, lo := 0, acc := .rw, reset := 0x1 }
def F.AER_VHF_AMP_B_EN : Fld := { blk := .aerial, off := 0x40, hi := 1, lo := 1, acc := .rw, reset := 0x1 }
def F.AER_VHF_BYPASS_A : Fld := { blk := .aerial, off := 0x40, hi := 2, lo := 2, acc := .rw }
def F.AER_VHF_BYPASS_B : Fld := { blk := .aerial, off := 0x40, hi := 3, lo := 3, acc := .rw }
def F.AER_BIAS_EN : Fld := { blk := .aerial, off := 0x44, hi := 4, lo := 0, acc := .rw }
def F.AER_BIAS_AUTO_OFF : Fld := { blk := .aerial, off := 0x44, hi := 12, lo := 8, acc := .rw, reset := 0x1F }
def F.AER_BIAS_SENSE_SENSE : Fld := { blk := .aerial, off := 0x48, hi := 15, lo := 0, acc := .rw, reset := 0x3E8, lim := [(1, 65535)] }
def F.AER_BIAS_LIM_OPEN : Fld := { blk := .aerial, off := 0x4C, hi := 15, lo := 0, cnt := 5, stride := 4, acc := .rw, reset := 0x5 }
def F.AER_BIAS_LIM_SHORT : Fld := { blk := .aerial, off := 0x4C, hi := 31, lo := 16, cnt := 5, stride := 4, acc := .rw, reset := 0x5DC }
def F.AER_BIAS_MEAS_CURRENT : Fld := { blk := .aerial, off := 0x60, hi := 15, lo := 0, cnt := 5, stride := 4 }
def F.AER_BIAS_MEAS_OPEN : Fld := { blk := .aerial, off := 0x60, hi := 16, lo := 16, cnt := 5, stride := 4 }
def F.AER_BIAS_MEAS_SHORT : Fld := { blk := .aerial, off := 0x60, hi := 17, lo := 17, cnt := 5, stride := 4 }
def F.AER_BIAS_MEAS_CUT : Fld := { blk := .aerial, off := 0x60, hi := 18, lo := 18, cnt := 5, stride := 4 }
def F.AER_NF_FLOOR : Fld := { blk := .aerial, off := 0x74, hi := 15, lo := 0, cnt := 5, stride := 4, m1 := false }
def F.AER_NF_REF : Fld := { blk := .aerial, off := 0x74, hi := 31, lo := 16, cnt := 5, stride := 4, acc := .rw, reset := 0x8000, m1 := false }
def F.AER_NF_CFG_DROP : Fld := { blk := .aerial, off := 0x88, hi := 7, lo := 0, acc := .rw, reset := 0xC, lim := [(1, 255)], m1 := false }
def F.AER_NF_CFG_LEARN : Fld := { blk := .aerial, off := 0x88, hi := 8, lo := 8, acc := .wo, m1 := false }
def F.AER_TUN_SERIES : Fld := { blk := .aerial, off := 0x90, hi := 6, lo := 0, cnt := 3, stride := 4, acc := .rw }
def F.AER_TUN_SHUNT : Fld := { blk := .aerial, off := 0x90, hi := 14, lo := 8, cnt := 3, stride := 4, acc := .rw }
def F.AER_TUN_LTAP : Fld := { blk := .aerial, off := 0x90, hi := 18, lo := 16, cnt := 3, stride := 4, acc := .rw }
def F.AER_GAMMA_MAG : Fld := { blk := .aerial, off := 0x9C, hi := 10, lo := 0, cnt := 3, stride := 4 }
def F.AER_GAMMA_VALID : Fld := { blk := .aerial, off := 0x9C, hi := 15, lo := 15, cnt := 3, stride := 4 }
def F.AER_GAMMA_PHASE : Fld := { blk := .aerial, off := 0x9C, hi := 31, lo := 16, cnt := 3, stride := 4 }
def F.AER_MIS_TH_THRESH : Fld := { blk := .aerial, off := 0xA8, hi := 10, lo := 0, acc := .rw, reset := 0x156, lim := [(1, 1024)] }
def F.AER_SWEEP_CFG_FREQ : Fld := { blk := .aerial, off := 0xAC, hi := 14, lo := 0, cnt := 3, stride := 4, acc := .rw, reset := 0x3E8 }
def F.AER_SWEEP_CFG_L_MASK : Fld := { blk := .aerial, off := 0xAC, hi := 23, lo := 16, cnt := 3, stride := 4, acc := .rw, reset := 0xFF }
def F.AER_SWEEP_CFG_AUTO_APPLY : Fld := { blk := .aerial, off := 0xAC, hi := 24, lo := 24, cnt := 3, stride := 4, acc := .rw, reset := 0x1 }
def F.AER_SWEEP_PORT : Fld := { blk := .aerial, off := 0xB8, hi := 1, lo := 0, acc := .wo }
def F.AER_SWEEP_GO : Fld := { blk := .aerial, off := 0xB8, hi := 2, lo := 2, acc := .wo }
def F.AER_SWEEP_RES_SERIES : Fld := { blk := .aerial, off := 0xBC, hi := 6, lo := 0 }
def F.AER_SWEEP_RES_SHUNT : Fld := { blk := .aerial, off := 0xBC, hi := 14, lo := 8 }
def F.AER_SWEEP_RES_LTAP : Fld := { blk := .aerial, off := 0xBC, hi := 18, lo := 16 }
def F.AER_SWEEP_RES_VALID : Fld := { blk := .aerial, off := 0xBC, hi := 19, lo := 19 }
def F.AER_SWEEP_RES_MAG : Fld := { blk := .aerial, off := 0xBC, hi := 30, lo := 20 }
def F.AER_SWEEP_RES_RUNNING : Fld := { blk := .aerial, off := 0xBC, hi := 31, lo := 31 }
def F.AER_DIV_SW_0_COUNT : Fld := { blk := .aerial, off := 0xC0, hi := 31, lo := 0, acc := .w1a, m1 := false }
def F.AER_DIV_SW_1_COUNT : Fld := { blk := .aerial, off := 0xC4, hi := 31, lo := 0, acc := .w1a, m1 := false }

/-- The fields of the block's registers: R127. -/
def fieldsAerial : List Fld :=
  [F.AER_VHF_AMP_A_EN, F.AER_VHF_AMP_B_EN, F.AER_VHF_BYPASS_A, F.AER_VHF_BYPASS_B, F.AER_BIAS_EN,
   F.AER_BIAS_AUTO_OFF, F.AER_BIAS_SENSE_SENSE, F.AER_BIAS_LIM_OPEN, F.AER_BIAS_LIM_SHORT,
   F.AER_BIAS_MEAS_CURRENT, F.AER_BIAS_MEAS_OPEN, F.AER_BIAS_MEAS_SHORT, F.AER_BIAS_MEAS_CUT, F.AER_NF_FLOOR,
   F.AER_NF_REF, F.AER_NF_CFG_DROP, F.AER_NF_CFG_LEARN, F.AER_TUN_SERIES, F.AER_TUN_SHUNT, F.AER_TUN_LTAP,
   F.AER_GAMMA_MAG, F.AER_GAMMA_VALID, F.AER_GAMMA_PHASE, F.AER_MIS_TH_THRESH]
   ++
  [F.AER_SWEEP_CFG_FREQ, F.AER_SWEEP_CFG_L_MASK, F.AER_SWEEP_CFG_AUTO_APPLY, F.AER_SWEEP_PORT,
   F.AER_SWEEP_GO, F.AER_SWEEP_RES_SERIES, F.AER_SWEEP_RES_SHUNT, F.AER_SWEEP_RES_LTAP,
   F.AER_SWEEP_RES_VALID, F.AER_SWEEP_RES_MAG, F.AER_SWEEP_RES_RUNNING, F.AER_DIV_SW_0_COUNT,
   F.AER_DIV_SW_1_COUNT]

/-! ### slot: R164 -/

def F.SLOT_SRC_WINDOW : Fld := { blk := .slot, off := 0x40, hi := 2, lo := 0, acc := .rw }
def F.SLOT_SRC_SUBBAND : Fld := { blk := .slot, off := 0x40, hi := 15, lo := 8, acc := .rw }
def F.SLOT_SRC_DIV_EN : Fld := { blk := .slot, off := 0x40, hi := 16, lo := 16, acc := .rw }
def F.SLOT_NCO_WORD : Fld := { blk := .slot, off := 0x44, hi := 31, lo := 0, acc := .rw }
def F.SLOT_BIND_KIND : Fld := { blk := .slot, off := 0x48, hi := 2, lo := 0, acc := .rw, lim := [(0, 6)] }
def F.SLOT_BIND_CTX : Fld := { blk := .slot, off := 0x48, hi := 13, lo := 8, acc := .rw }
def F.SLOT_BIND_IQ_RATE : Fld := { blk := .slot, off := 0x48, hi := 18, lo := 16, acc := .rw, lim := [(0, 5)] }
def F.SLOT_FIR_PROFILE : Fld := { blk := .slot, off := 0x4C, hi := 4, lo := 0, acc := .rw }
def F.SLOT_OUT_RING : Fld := { blk := .slot, off := 0x50, hi := 5, lo := 0, acc := .rw }
def F.SLOT_OUT_IQ_FMT : Fld := { blk := .slot, off := 0x50, hi := 8, lo := 8, acc := .rw }
def F.SLOT_OUT_IQ_BLOCK : Fld := { blk := .slot, off := 0x50, hi := 31, lo := 16, acc := .rw, reset := 0x1000, lim := [(64, 65535)] }
def F.SLOT_COMMIT_GO : Fld := { blk := .slot, off := 0x54, hi := 0, lo := 0, acc := .wo }
def F.SLOT_COMMIT_EXP_EPOCH : Fld := { blk := .slot, off := 0x54, hi := 31, lo := 24, acc := .wo }
def F.SLOT_DLY_INT : Fld := { blk := .slot, off := 0x58, hi := 15, lo := 0, acc := .rw }
def F.SLOT_DLY_FRAC : Fld := { blk := .slot, off := 0x58, hi := 25, lo := 16, acc := .rw }
def F.SLOT_DLY_MODE : Fld := { blk := .slot, off := 0x58, hi := 27, lo := 26, acc := .rw, lim := [(0, 2)], m1 := false }
def F.SLOT_DLY_CFG_SLEW : Fld := { blk := .slot, off := 0x5C, hi := 5, lo := 0, acc := .rw, reset := 0x10, lim := [(1, 63)] }
def F.SLOT_DLY_CFG_ZC_SRC : Fld := { blk := .slot, off := 0x5C, hi := 8, lo := 8, acc := .rw, m1 := false }
def F.SLOT_DLY_CMD_GO : Fld := { blk := .slot, off := 0x60, hi := 0, lo := 0, acc := .wo }
def F.SLOT_DLY_CMD_EXP_EPOCH : Fld := { blk := .slot, off := 0x60, hi := 31, lo := 24, acc := .wo }
def F.SLOT_DLY_ACT_ZC_PENDING : Fld := { blk := .slot, off := 0x64, hi := 30, lo := 30 }
def F.SLOT_DLY_ACT_MOVING : Fld := { blk := .slot, off := 0x64, hi := 31, lo := 31 }
def F.SLOT_EQ_INT : Fld := { blk := .slot, off := 0x68, hi := 15, lo := 0 }
def F.SLOT_EQ_FRAC : Fld := { blk := .slot, off := 0x68, hi := 25, lo := 16 }
def F.SLOT_AG_GROUP : Fld := { blk := .slot, off := 0x6C, hi := 5, lo := 0, acc := .rw }
def F.SLOT_AG_MEMBER : Fld := { blk := .slot, off := 0x6C, hi := 8, lo := 8, acc := .rw }
def F.SLOT_AG_PART_GROUP : Fld := { blk := .slot, off := 0x6C, hi := 21, lo := 16 }
def F.SLOT_AG_PART_MEMBER : Fld := { blk := .slot, off := 0x6C, hi := 22, lo := 22 }
def F.SLOT_AG_REF_REF : Fld := { blk := .slot, off := 0x70, hi := 31, lo := 0, acc := .rw }
def F.SLOT_LAT_LAT : Fld := { blk := .slot, off := 0x74, hi := 31, lo := 0 }
def F.SLOT_STAT_RUNNING : Fld := { blk := .slot, off := 0x78, hi := 0, lo := 0 }
def F.SLOT_STAT_SHADOW : Fld := { blk := .slot, off := 0x78, hi := 1, lo := 1 }
def F.SLOT_STAT_HAS_SHADOW : Fld := { blk := .slot, off := 0x78, hi := 2, lo := 2 }
def F.SLOT_STAT_SHADOW_IDX : Fld := { blk := .slot, off := 0x78, hi := 12, lo := 4 }
def F.SLOT_STAT_RMS_INVALID : Fld := { blk := .slot, off := 0x78, hi := 13, lo := 13 }
def F.SLOT_STAT_SAT : Fld := { blk := .slot, off := 0x78, hi := 14, lo := 14 }
def F.SLOT_STAT_ENGINE : Fld := { blk := .slot, off := 0x78, hi := 20, lo := 16, rk := .engine }
def F.SLOT_STAT_POTS : Fld := { blk := .slot, off := 0x78, hi := 27, lo := 24 }
def F.DET_PK_CFG_SRC : Fld := { blk := .slot, off := 0x7C, hi := 2, lo := 0, acc := .rw, lim := [(0, 6)] }
def F.DET_PK_CFG_HOLD : Fld := { blk := .slot, off := 0x7C, hi := 31, lo := 16, acc := .rw, reset := 0x3E8 }
def F.DET_PK_DECAY_DECAY : Fld := { blk := .slot, off := 0x80, hi := 15, lo := 0, acc := .rw, reset := 0xC8 }
def F.DET_RMS_CFG_SRC : Fld := { blk := .slot, off := 0x84, hi := 2, lo := 0, acc := .rw, lim := [(0, 6)] }
def F.DET_RMS_CFG_EXP : Fld := { blk := .slot, off := 0x84, hi := 3, lo := 3, acc := .rw }
def F.DET_RMS_CFG_K : Fld := { blk := .slot, off := 0x84, hi := 12, lo := 8, acc := .rw, reset := 0xE, lim := [(4, 24)] }
def F.DET_ENV_CFG_SRC : Fld := { blk := .slot, off := 0x88, hi := 2, lo := 0, acc := .rw, lim := [(0, 6)], m1 := false }
def F.DET_ENV_CFG_KA : Fld := { blk := .slot, off := 0x88, hi := 12, lo := 8, acc := .rw, reset := 0x8, lim := [(0, 24)], m1 := false }
def F.DET_ENV_CFG_KR : Fld := { blk := .slot, off := 0x88, hi := 20, lo := 16, acc := .rw, reset := 0xE, lim := [(0, 24)], m1 := false }
def F.DET_REPORT_INTERVAL : Fld := { blk := .slot, off := 0x8C, hi := 15, lo := 0, acc := .rw }
def F.DET_CMD_PK_RST : Fld := { blk := .slot, off := 0x90, hi := 0, lo := 0, acc := .wo }
def F.DET_CMD_RMS_RST : Fld := { blk := .slot, off := 0x90, hi := 1, lo := 1, acc := .wo }
def F.DET_CMD_ENV_RST : Fld := { blk := .slot, off := 0x90, hi := 2, lo := 2, acc := .wo }
def F.DET_PK_VAL_VALUE : Fld := { blk := .slot, off := 0x94, hi := 31, lo := 0 }
def F.DET_RMS_VAL_VALUE : Fld := { blk := .slot, off := 0x98, hi := 31, lo := 0 }
def F.DET_ENV_VAL_VALUE : Fld := { blk := .slot, off := 0x9C, hi := 31, lo := 0, m1 := false }
def F.SLOT_CULL_ZERO_COUNT : Fld := { blk := .slot, off := 0xA0, hi := 31, lo := 0, acc := .w1a }
def F.SLOT_CULL_DLY_COUNT : Fld := { blk := .slot, off := 0xA4, hi := 31, lo := 0, acc := .w1a, m1 := false }

/-- The fields of the block's registers: R164. -/
def fieldsSlot : List Fld :=
  [F.SLOT_SRC_WINDOW, F.SLOT_SRC_SUBBAND, F.SLOT_SRC_DIV_EN, F.SLOT_NCO_WORD, F.SLOT_BIND_KIND,
   F.SLOT_BIND_CTX, F.SLOT_BIND_IQ_RATE, F.SLOT_FIR_PROFILE, F.SLOT_OUT_RING, F.SLOT_OUT_IQ_FMT,
   F.SLOT_OUT_IQ_BLOCK, F.SLOT_COMMIT_GO, F.SLOT_COMMIT_EXP_EPOCH, F.SLOT_DLY_INT, F.SLOT_DLY_FRAC,
   F.SLOT_DLY_MODE, F.SLOT_DLY_CFG_SLEW, F.SLOT_DLY_CFG_ZC_SRC, F.SLOT_DLY_CMD_GO, F.SLOT_DLY_CMD_EXP_EPOCH,
   F.SLOT_DLY_ACT_ZC_PENDING, F.SLOT_DLY_ACT_MOVING, F.SLOT_EQ_INT, F.SLOT_EQ_FRAC]
   ++
  [F.SLOT_AG_GROUP, F.SLOT_AG_MEMBER, F.SLOT_AG_PART_GROUP, F.SLOT_AG_PART_MEMBER, F.SLOT_AG_REF_REF,
   F.SLOT_LAT_LAT, F.SLOT_STAT_RUNNING, F.SLOT_STAT_SHADOW, F.SLOT_STAT_HAS_SHADOW, F.SLOT_STAT_SHADOW_IDX,
   F.SLOT_STAT_RMS_INVALID, F.SLOT_STAT_SAT, F.SLOT_STAT_ENGINE, F.SLOT_STAT_POTS, F.DET_PK_CFG_SRC,
   F.DET_PK_CFG_HOLD, F.DET_PK_DECAY_DECAY, F.DET_RMS_CFG_SRC, F.DET_RMS_CFG_EXP, F.DET_RMS_CFG_K,
   F.DET_ENV_CFG_SRC, F.DET_ENV_CFG_KA, F.DET_ENV_CFG_KR, F.DET_REPORT_INTERVAL]
   ++
  [F.DET_CMD_PK_RST, F.DET_CMD_RMS_RST, F.DET_CMD_ENV_RST, F.DET_PK_VAL_VALUE, F.DET_RMS_VAL_VALUE,
   F.DET_ENV_VAL_VALUE, F.SLOT_CULL_ZERO_COUNT, F.SLOT_CULL_DLY_COUNT]

/-! ### bank: R167 -/

def F.BANK_GEOM_SUBBANDS : Fld := { blk := .bank, off := 0x40, hi := 8, lo := 0, reset := 0x80, rk := .subbands }
def F.BANK_GEOM_LMH : Fld := { blk := .bank, off := 0x40, hi := 16, lo := 16, rk := .isLmh }
def F.BANK_LAT_LAT : Fld := { blk := .bank, off := 0x4C, hi := 31, lo := 0, reset := 0x8000, rk := .bankLat }
def F.BANK_FRAME_LO_TIME : Fld := { blk := .bank, off := 0x50, hi := 31, lo := 0, m1 := false }
def F.BANK_FRAME_HI_TIME : Fld := { blk := .bank, off := 0x54, hi := 31, lo := 0, m1 := false }
def F.BANK_RAW_EN : Fld := { blk := .bank, off := 0x58, hi := 0, lo := 0, acc := .rw }
def F.BANK_RAW_RING : Fld := { blk := .bank, off := 0x58, hi := 13, lo := 8, acc := .rw }
def F.BANK_SNAP_CFG_MODE : Fld := { blk := .bank, off := 0x5C, hi := 0, lo := 0, acc := .rw, m1 := false }
def F.BANK_SNAP_CFG_ORDER : Fld := { blk := .bank, off := 0x5C, hi := 11, lo := 8, acc := .rw, reset := 0xA, lim := [(6, 12)], m1 := false }
def F.BANK_SNAP_CFG_FIRST : Fld := { blk := .bank, off := 0x5C, hi := 23, lo := 16, acc := .rw }
def F.BANK_SNAP_CFG_LAST : Fld := { blk := .bank, off := 0x5C, hi := 31, lo := 24, acc := .rw }
def F.BANK_SNAP_AVG_AVG : Fld := { blk := .bank, off := 0x60, hi := 15, lo := 0, acc := .rw, reset := 0x10, lim := [(1, 65535)] }
def F.BANK_SNAP_AVG_RING : Fld := { blk := .bank, off := 0x60, hi := 21, lo := 16, acc := .rw }
def F.BANK_SNAP_CMD_GO : Fld := { blk := .bank, off := 0x64, hi := 0, lo := 0, acc := .wo }
def F.BANK_SNAP_CMD_ABORT : Fld := { blk := .bank, off := 0x64, hi := 1, lo := 1, acc := .wo }
def F.BANK_SNAP_STAT_FRAMES : Fld := { blk := .bank, off := 0x68, hi := 15, lo := 0 }
def F.BANK_SNAP_STAT_POTS : Fld := { blk := .bank, off := 0x68, hi := 20, lo := 16 }
def F.BANK_SNAP_STAT_RUNNING : Fld := { blk := .bank, off := 0x68, hi := 31, lo := 31 }
def F.PROF_SEL_PROFILE : Fld := { blk := .bank, off := 0x80, hi := 4, lo := 0, acc := .rw, reset := 0x10, lim := [(16, 31)] }
def F.PROF_SEL_TAPS : Fld := { blk := .bank, off := 0x80, hi := 15, lo := 8, acc := .rw, reset := 0x1, lim := [(1, 1), (3, 3), (5, 5), (7, 7), (9, 9), (11, 11), (13, 13), (15, 15), (17, 17), (19, 19), (21, 21), (23, 23), (25, 25), (27, 27), (29, 29), (31, 31), (33, 33), (35, 35), (37, 37), (39, 39), (41, 41), (43, 43), (45, 45), (47, 47), (49, 49), (51, 51), (53, 53), (55, 55), (57, 57), (59, 59), (61, 61), (63, 63), (65, 65), (67, 67), (69, 69), (71, 71), (73, 73), (75, 75), (77, 77), (79, 79), (81, 81), (83, 83), (85, 85), (87, 87), (89, 89), (91, 91), (93, 93), (95, 95), (97, 97), (99, 99), (101, 101), (103, 103), (105, 105), (107, 107), (109, 109), (111, 111), (113, 113), (115, 115), (117, 117), (119, 119), (121, 121), (123, 123), (125, 125), (127, 127), (129, 129), (131, 131), (133, 133), (135, 135), (137, 137), (139, 139), (141, 141), (143, 143), (145, 145), (147, 147), (149, 149), (151, 151), (153, 153), (155, 155), (157, 157), (159, 159), (161, 161), (163, 163), (165, 165), (167, 167), (169, 169), (171, 171), (173, 173), (175, 175), (177, 177), (179, 179), (181, 181), (183, 183), (185, 185), (187, 187), (189, 189), (191, 191), (193, 193), (195, 195), (197, 197), (199, 199), (201, 201), (203, 203), (205, 205), (207, 207), (209, 209), (211, 211), (213, 213), (215, 215), (217, 217), (219, 219), (221, 221), (223, 223), (225, 225), (227, 227), (229, 229), (231, 231), (233, 233), (235, 235), (237, 237), (239, 239), (241, 241), (243, 243), (245, 245), (247, 247), (249, 249), (251, 251), (253, 253), (255, 255)] }
def F.PROF_SEL_EDGE : Fld := { blk := .bank, off := 0x80, hi := 25, lo := 16, acc := .rw, reset := 0x100, lim := [(1, 511)] }
def F.PROF_ADDR_INDEX : Fld := { blk := .bank, off := 0x84, hi := 7, lo := 0, acc := .rw, lim := [(0, 128)] }
def F.PROF_DATA_COEF : Fld := { blk := .bank, off := 0x88, hi := 17, lo := 0, acc := .wo }
def F.PROF_COMMIT_GO : Fld := { blk := .bank, off := 0x8C, hi := 0, lo := 0, acc := .wo }
def F.PROF_STAT_LOADED : Fld := { blk := .bank, off := 0x90, hi := 15, lo := 0 }

/-- The fields of the block's registers: R167. -/
def fieldsBank : List Fld :=
  [F.BANK_GEOM_SUBBANDS, F.BANK_GEOM_LMH, F.BANK_LAT_LAT, F.BANK_FRAME_LO_TIME, F.BANK_FRAME_HI_TIME,
   F.BANK_RAW_EN, F.BANK_RAW_RING, F.BANK_SNAP_CFG_MODE, F.BANK_SNAP_CFG_ORDER, F.BANK_SNAP_CFG_FIRST,
   F.BANK_SNAP_CFG_LAST, F.BANK_SNAP_AVG_AVG, F.BANK_SNAP_AVG_RING, F.BANK_SNAP_CMD_GO,
   F.BANK_SNAP_CMD_ABORT, F.BANK_SNAP_STAT_FRAMES, F.BANK_SNAP_STAT_POTS, F.BANK_SNAP_STAT_RUNNING,
   F.PROF_SEL_PROFILE, F.PROF_SEL_TAPS, F.PROF_SEL_EDGE, F.PROF_ADDR_INDEX, F.PROF_DATA_COEF,
   F.PROF_COMMIT_GO]
   ++
  [F.PROF_STAT_LOADED]

/-! ### fm: R197 -/

def F.FM_CFG_STEREO : Fld := { blk := .fm, off := 0xC0, hi := 0, lo := 0, acc := .rw, reset := 0x1 }
def F.FM_CFG_DEEMPH : Fld := { blk := .fm, off := 0xC0, hi := 2, lo := 1, acc := .rw, reset := 0x1, lim := [(0, 2)] }
def F.FM_CFG_PILOT_ON : Fld := { blk := .fm, off := 0xC0, hi := 15, lo := 8, acc := .rw, reset := 0x1E, lim := [(1, 100)] }
def F.FM_CFG_PILOT_OFF : Fld := { blk := .fm, off := 0xC0, hi := 23, lo := 16, acc := .rw, reset := 0x14 }
def F.FM_BLEND_SNR_MONO : Fld := { blk := .fm, off := 0xC4, hi := 7, lo := 0, acc := .rw, reset := 0x28 }
def F.FM_BLEND_SNR_STEREO : Fld := { blk := .fm, off := 0xC4, hi := 15, lo := 8, acc := .rw, reset := 0x50 }
def F.FM_BLEND_BLEND_DN : Fld := { blk := .fm, off := 0xC4, hi := 23, lo := 16, acc := .rw, reset := 0x14, lim := [(1, 255)] }
def F.FM_BLEND_BLEND_UP : Fld := { blk := .fm, off := 0xC4, hi := 31, lo := 24, acc := .rw, reset := 0x64, lim := [(1, 255)] }
def F.FM_RDS_EN : Fld := { blk := .fm, off := 0xC8, hi := 0, lo := 0, acc := .rw }
def F.FM_RDS_STD : Fld := { blk := .fm, off := 0xC8, hi := 1, lo := 1, acc := .rw }
def F.FM_RDS_CORR : Fld := { blk := .fm, off := 0xC8, hi := 3, lo := 2, acc := .rw, reset := 0x2, lim := [(0, 2)] }
def F.FM_RDS_MAXERR : Fld := { blk := .fm, off := 0xC8, hi := 5, lo := 4, acc := .rw, reset := 0x2 }
def F.FM_RDS_BLER_WIN : Fld := { blk := .fm, off := 0xC8, hi := 29, lo := 16, acc := .rw, reset := 0x190, lim := [(100, 10000)] }

/-- The fields of the block's registers: R197. -/
def fieldsFm : List Fld :=
  [F.FM_CFG_STEREO, F.FM_CFG_DEEMPH, F.FM_CFG_PILOT_ON, F.FM_CFG_PILOT_OFF, F.FM_BLEND_SNR_MONO,
   F.FM_BLEND_SNR_STEREO, F.FM_BLEND_BLEND_DN, F.FM_BLEND_BLEND_UP, F.FM_RDS_EN, F.FM_RDS_STD, F.FM_RDS_CORR,
   F.FM_RDS_MAXERR, F.FM_RDS_BLER_WIN]

/-! ### am: R198 -/

def F.AM_CFG_MODE : Fld := { blk := .am, off := 0xC0, hi := 1, lo := 0, acc := .rw, reset := 0x2, lim := [(0, 2)] }
def F.AM_CFG_SIDEBAND : Fld := { blk := .am, off := 0xC0, hi := 3, lo := 2, acc := .rw, lim := [(0, 2)], m1 := false }
def F.AM_CFG_PLL_BW : Fld := { blk := .am, off := 0xC0, hi := 5, lo := 4, acc := .rw, reset := 0x1 }
def F.AM_CFG_BW : Fld := { blk := .am, off := 0xC0, hi := 14, lo := 8, acc := .rw, reset := 0x32, lim := [(25, 25), (30, 30), (35, 35), (40, 40), (45, 45), (50, 50), (55, 55), (60, 60), (65, 65), (70, 70), (75, 75), (80, 80), (85, 85), (90, 90), (95, 95), (100, 100)] }
def F.AM_AMSS_EN : Fld := { blk := .am, off := 0xC4, hi := 0, lo := 0, acc := .rw }
def F.AM_AMSS_ALL : Fld := { blk := .am, off := 0xC4, hi := 1, lo := 1, acc := .rw }

/-- The fields of the block's registers: R198. -/
def fieldsAm : List Fld :=
  [F.AM_CFG_MODE, F.AM_CFG_SIDEBAND, F.AM_CFG_PLL_BW, F.AM_CFG_BW, F.AM_AMSS_EN, F.AM_AMSS_ALL]

/-! ### an: R199 -/

def F.AUD_OUT_GAIN : Fld := { blk := .an, off := 0xCC, hi := 9, lo := 0, acc := .rw, lim := [(0, 200), (624, 1023)] }
def F.AUD_OUT_PCM_EN : Fld := { blk := .an, off := 0xCC, hi := 10, lo := 10, acc := .rw }
def F.AUD_OUT_PCM_PACK : Fld := { blk := .an, off := 0xCC, hi := 12, lo := 11, acc := .rw, reset := 0x1, lim := [(0, 2)], m1 := false }
def F.AUD_OUT_PCM_BLOCK : Fld := { blk := .an, off := 0xCC, hi := 28, lo := 16, acc := .rw, reset := 0x1E0, lim := [(48, 4800)] }
def F.MET_CFG_INTERVAL : Fld := { blk := .an, off := 0xD0, hi := 15, lo := 0, acc := .rw, lim := [(0, 0), (10, 65535)] }
def F.AN_STAT_LOCK : Fld := { blk := .an, off := 0xD4, hi := 0, lo := 0 }
def F.AN_STAT_STEREO : Fld := { blk := .an, off := 0xD4, hi := 1, lo := 1 }
def F.AN_STAT_DSYNC : Fld := { blk := .an, off := 0xD4, hi := 2, lo := 2 }
def F.AN_STAT_SYNC_DET : Fld := { blk := .an, off := 0xD4, hi := 3, lo := 3, m1 := false }
def F.AN_STAT_BLEND : Fld := { blk := .an, off := 0xD4, hi := 18, lo := 8 }
def F.AN_SNR_SNR : Fld := { blk := .an, off := 0xD8, hi := 15, lo := 0, reset := 0x8000 }
def F.AN_SNR_MP : Fld := { blk := .an, off := 0xD8, hi := 31, lo := 16 }
def F.AN_OFS_OFS : Fld := { blk := .an, off := 0xDC, hi := 31, lo := 0 }
def F.AN_LEVEL_LEVEL : Fld := { blk := .an, off := 0xE0, hi := 15, lo := 0 }
def F.RDS_BLER_BLER : Fld := { blk := .an, off := 0xE4, hi := 10, lo := 0 }
def F.RDS_BLER_VALID : Fld := { blk := .an, off := 0xE4, hi := 11, lo := 11 }
def F.DATA_OK_COUNT : Fld := { blk := .an, off := 0xE8, hi := 31, lo := 0, acc := .w1a }
def F.DATA_BAD_COUNT : Fld := { blk := .an, off := 0xEC, hi := 31, lo := 0, acc := .w1a }
def F.AUD_CULL_COUNT : Fld := { blk := .an, off := 0xF4, hi := 31, lo := 0, acc := .w1a, m1 := false }
def F.RDS_PI_PI : Fld := { blk := .an, off := 0xF8, hi := 15, lo := 0, m1 := false }
def F.RDS_PI_VALID : Fld := { blk := .an, off := 0xF8, hi := 16, lo := 16, m1 := false }

/-- The fields of the block's registers: R199. -/
def fieldsAn : List Fld :=
  [F.AUD_OUT_GAIN, F.AUD_OUT_PCM_EN, F.AUD_OUT_PCM_PACK, F.AUD_OUT_PCM_BLOCK, F.MET_CFG_INTERVAL,
   F.AN_STAT_LOCK, F.AN_STAT_STEREO, F.AN_STAT_DSYNC, F.AN_STAT_SYNC_DET, F.AN_STAT_BLEND, F.AN_SNR_SNR,
   F.AN_SNR_MP, F.AN_OFS_OFS, F.AN_LEVEL_LEVEL, F.RDS_BLER_BLER, F.RDS_BLER_VALID, F.DATA_OK_COUNT,
   F.DATA_BAD_COUNT, F.AUD_CULL_COUNT, F.RDS_PI_PI, F.RDS_PI_VALID]

/-! ### dab: R235 -/

def F.DAB_CFG_MODE : Fld := { blk := .dab, off := 0x40, hi := 2, lo := 0, acc := .rw, lim := [(0, 4)] }
def F.DAB_CFG_FIB_ALL : Fld := { blk := .dab, off := 0x40, hi := 3, lo := 3, acc := .rw }
def F.DAB_CFG_TII_EN : Fld := { blk := .dab, off := 0x40, hi := 4, lo := 4, acc := .rw }
def F.DAB_CFG_CAR_MER : Fld := { blk := .dab, off := 0x40, hi := 5, lo := 5, acc := .rw, m1 := false }
def F.DAB_CFG_TII_FRAMES : Fld := { blk := .dab, off := 0x40, hi := 15, lo := 8, acc := .rw, reset := 0xA, lim := [(1, 255)] }
def F.DAB_CFG_TII_THRESH : Fld := { blk := .dab, off := 0x40, hi := 23, lo := 16, acc := .rw, reset := 0x14, lim := [(1, 80)] }
def F.DAB_MET_INTERVAL : Fld := { blk := .dab, off := 0x44, hi := 15, lo := 0, acc := .rw, lim := [(0, 0), (10, 65535)] }
def F.DAB_STAT_STATE : Fld := { blk := .dab, off := 0x48, hi := 2, lo := 0 }
def F.DAB_STAT_MODE_DET : Fld := { blk := .dab, off := 0x48, hi := 6, lo := 4 }
def F.DAB_STAT_MCI_VALID : Fld := { blk := .dab, off := 0x48, hi := 7, lo := 7 }
def F.DAB_STAT_EID : Fld := { blk := .dab, off := 0x48, hi := 31, lo := 16 }
def F.DAB_CIF_CIF_CNT : Fld := { blk := .dab, off := 0x4C, hi := 12, lo := 0 }
def F.DAB_CIF_VALID : Fld := { blk := .dab, off := 0x4C, hi := 13, lo := 13 }
def F.DAB_CIF_RECONF_PENDING : Fld := { blk := .dab, off := 0x4C, hi := 14, lo := 14 }
def F.DAB_CIF_RECONF_AT : Fld := { blk := .dab, off := 0x4C, hi := 28, lo := 16 }
def F.DAB_OFS_OFS : Fld := { blk := .dab, off := 0x50, hi := 31, lo := 0 }
def F.DAB_SCO_SCO : Fld := { blk := .dab, off := 0x54, hi := 15, lo := 0, m1 := false }
def F.DAB_MER_MER : Fld := { blk := .dab, off := 0x58, hi := 15, lo := 0, reset := 0x8000 }
def F.DAB_MER_WMER : Fld := { blk := .dab, off := 0x58, hi := 31, lo := 16, reset := 0x8000 }
def F.DAB_FIB_OK_COUNT : Fld := { blk := .dab, off := 0x5C, hi := 31, lo := 0, acc := .w1a }
def F.DAB_FIB_BAD_COUNT : Fld := { blk := .dab, off := 0x60, hi := 31, lo := 0, acc := .w1a }
def F.DAB_MISSED_COUNT : Fld := { blk := .dab, off := 0x64, hi := 31, lo := 0, acc := .w1a, m1 := false }
def F.DAB_SUBCH_START : Fld := { blk := .dab, off := 0x100, hi := 9, lo := 0, cnt := 64, stride := 4 }
def F.DAB_SUBCH_SIZE : Fld := { blk := .dab, off := 0x100, hi := 19, lo := 10, cnt := 64, stride := 4 }
def F.DAB_SUBCH_VALID : Fld := { blk := .dab, off := 0x100, hi := 20, lo := 20, cnt := 64, stride := 4 }
def F.DAB_SUBCH_EEP : Fld := { blk := .dab, off := 0x100, hi := 21, lo := 21, cnt := 64, stride := 4 }
def F.DAB_SUBCH_PROT : Fld := { blk := .dab, off := 0x100, hi := 27, lo := 22, cnt := 64, stride := 4 }
def F.DAB_SUBCH_PAYLOAD : Fld := { blk := .dab, off := 0x100, hi := 30, lo := 28, cnt := 64, stride := 4, m1 := false }

/-- The fields of the block's registers: R235. -/
def fieldsDab : List Fld :=
  [F.DAB_CFG_MODE, F.DAB_CFG_FIB_ALL, F.DAB_CFG_TII_EN, F.DAB_CFG_CAR_MER, F.DAB_CFG_TII_FRAMES,
   F.DAB_CFG_TII_THRESH, F.DAB_MET_INTERVAL, F.DAB_STAT_STATE, F.DAB_STAT_MODE_DET, F.DAB_STAT_MCI_VALID,
   F.DAB_STAT_EID, F.DAB_CIF_CIF_CNT, F.DAB_CIF_VALID, F.DAB_CIF_RECONF_PENDING, F.DAB_CIF_RECONF_AT,
   F.DAB_OFS_OFS, F.DAB_SCO_SCO, F.DAB_MER_MER, F.DAB_MER_WMER, F.DAB_FIB_OK_COUNT, F.DAB_FIB_BAD_COUNT,
   F.DAB_MISSED_COUNT, F.DAB_SUBCH_START, F.DAB_SUBCH_SIZE]
   ++
  [F.DAB_SUBCH_VALID, F.DAB_SUBCH_EEP, F.DAB_SUBCH_PROT, F.DAB_SUBCH_PAYLOAD]

/-! ### drm: R237 -/

def F.DRM_CFG_MODE : Fld := { blk := .drm, off := 0x40, hi := 2, lo := 0, acc := .rw, lim := [(0, 5)] }
def F.DRM_CFG_FAC_ALL : Fld := { blk := .drm, off := 0x40, hi := 3, lo := 3, acc := .rw }
def F.DRM_CFG_SDC_ALL : Fld := { blk := .drm, off := 0x40, hi := 4, lo := 4, acc := .rw }
def F.DRM_CFG_ITER : Fld := { blk := .drm, off := 0x40, hi := 6, lo := 5, acc := .rw, reset := 0x1 }
def F.DRM_CFG_CAR_MER : Fld := { blk := .drm, off := 0x40, hi := 7, lo := 7, acc := .rw, m1 := false }
def F.DRM_CFG_REF_OFS : Fld := { blk := .drm, off := 0x40, hi := 31, lo := 16, acc := .rw, lim := [(0, 6000), (59536, 65535)], m1 := false }
def F.DRM_MET_INTERVAL : Fld := { blk := .drm, off := 0x44, hi := 15, lo := 0, acc := .rw, lim := [(0, 0), (10, 65535)] }
def F.DRM_STAT_STATE : Fld := { blk := .drm, off := 0x48, hi := 2, lo := 0 }
def F.DRM_STAT_MODE_DET : Fld := { blk := .drm, off := 0x48, hi := 5, lo := 3 }
def F.DRM_STAT_SO : Fld := { blk := .drm, off := 0x48, hi := 8, lo := 6 }
def F.DRM_STAT_LONG_IL : Fld := { blk := .drm, off := 0x48, hi := 9, lo := 9 }
def F.DRM_STAT_MSC_QAM : Fld := { blk := .drm, off := 0x48, hi := 11, lo := 10 }
def F.DRM_STAT_SDC_QAM : Fld := { blk := .drm, off := 0x48, hi := 12, lo := 12 }
def F.DRM_STAT_HIER : Fld := { blk := .drm, off := 0x48, hi := 13, lo := 13 }
def F.DRM_STAT_RECONF_IDX : Fld := { blk := .drm, off := 0x48, hi := 18, lo := 16 }
def F.DRM_OFS_OFS : Fld := { blk := .drm, off := 0x4C, hi := 31, lo := 0 }
def F.DRM_SCO_SCO : Fld := { blk := .drm, off := 0x50, hi := 15, lo := 0 }
def F.DRM_MER_MER : Fld := { blk := .drm, off := 0x54, hi := 15, lo := 0, reset := 0x8000 }
def F.DRM_MER_WMER : Fld := { blk := .drm, off := 0x54, hi := 31, lo := 16, reset := 0x8000 }
def F.DRM_FAC_OK_COUNT : Fld := { blk := .drm, off := 0x58, hi := 31, lo := 0, acc := .w1a }
def F.DRM_FAC_BAD_COUNT : Fld := { blk := .drm, off := 0x5C, hi := 31, lo := 0, acc := .w1a }
def F.DRM_SDC_OK_COUNT : Fld := { blk := .drm, off := 0x60, hi := 31, lo := 0, acc := .w1a }
def F.DRM_SDC_BAD_COUNT : Fld := { blk := .drm, off := 0x64, hi := 31, lo := 0, acc := .w1a }
def F.DRM_MISSED_COUNT : Fld := { blk := .drm, off := 0x68, hi := 31, lo := 0, acc := .w1a, m1 := false }
def F.DRM_STREAM_LEN_A : Fld := { blk := .drm, off := 0x80, hi := 11, lo := 0, cnt := 4, stride := 4 }
def F.DRM_STREAM_LEN_B : Fld := { blk := .drm, off := 0x80, hi := 23, lo := 12, cnt := 4, stride := 4 }
def F.DRM_STREAM_VALID : Fld := { blk := .drm, off := 0x80, hi := 24, lo := 24, cnt := 4, stride := 4 }
def F.DRM_STREAM_PAYLOAD : Fld := { blk := .drm, off := 0x80, hi := 27, lo := 25, cnt := 4, stride := 4 }

/-- The fields of the block's registers: R237. -/
def fieldsDrm : List Fld :=
  [F.DRM_CFG_MODE, F.DRM_CFG_FAC_ALL, F.DRM_CFG_SDC_ALL, F.DRM_CFG_ITER, F.DRM_CFG_CAR_MER,
   F.DRM_CFG_REF_OFS, F.DRM_MET_INTERVAL, F.DRM_STAT_STATE, F.DRM_STAT_MODE_DET, F.DRM_STAT_SO,
   F.DRM_STAT_LONG_IL, F.DRM_STAT_MSC_QAM, F.DRM_STAT_SDC_QAM, F.DRM_STAT_HIER, F.DRM_STAT_RECONF_IDX,
   F.DRM_OFS_OFS, F.DRM_SCO_SCO, F.DRM_MER_MER, F.DRM_MER_WMER, F.DRM_FAC_OK_COUNT, F.DRM_FAC_BAD_COUNT,
   F.DRM_SDC_OK_COUNT, F.DRM_SDC_BAD_COUNT, F.DRM_MISSED_COUNT]
   ++
  [F.DRM_STREAM_LEN_A, F.DRM_STREAM_LEN_B, F.DRM_STREAM_VALID, F.DRM_STREAM_PAYLOAD]

/-! ### tap: R239 -/

def F.TAP_CFG_KIND : Fld := { blk := .tap, off := 0x10, hi := 0, lo := 0, acc := .rw }
def F.TAP_CFG_CTX : Fld := { blk := .tap, off := 0x10, hi := 6, lo := 1, acc := .rw }
def F.TAP_CFG_SUB : Fld := { blk := .tap, off := 0x10, hi := 13, lo := 8, acc := .rw }
def F.TAP_CFG_AU_EN : Fld := { blk := .tap, off := 0x10, hi := 14, lo := 14, acc := .rw }
def F.TAP_CFG_PCM_EN : Fld := { blk := .tap, off := 0x10, hi := 15, lo := 15, acc := .rw }
def F.TAP_CFG_PAD_EN : Fld := { blk := .tap, off := 0x10, hi := 16, lo := 16, acc := .rw }
def F.TAP_CFG_RATE48 : Fld := { blk := .tap, off := 0x10, hi := 17, lo := 17, acc := .rw, reset := 0x1, m1 := false }
def F.TAP_CFG_PCM_PACK : Fld := { blk := .tap, off := 0x10, hi := 19, lo := 18, acc := .rw, reset := 0x1, m1 := false }
def F.TAP_CFG_RING : Fld := { blk := .tap, off := 0x10, hi := 25, lo := 20, acc := .rw }
def F.TAP_CMD_GO : Fld := { blk := .tap, off := 0x14, hi := 0, lo := 0, acc := .wo }
def F.TAP_CMD_EXP_EPOCH : Fld := { blk := .tap, off := 0x14, hi := 31, lo := 24, acc := .wo }
def F.TAP_RUN_STATE : Fld := { blk := .tap, off := 0x18, hi := 2, lo := 0 }
def F.TAP_RUN_DEC_HELD : Fld := { blk := .tap, off := 0x18, hi := 3, lo := 3 }
def F.TAP_RUN_DEC : Fld := { blk := .tap, off := 0x18, hi := 10, lo := 4 }
def F.TAP_RUN_PAYLOAD : Fld := { blk := .tap, off := 0x18, hi := 13, lo := 11 }
def F.TAP_RUN_COST : Fld := { blk := .tap, off := 0x18, hi := 25, lo := 16 }
def F.TAP_ERR_AU_BAD : Fld := { blk := .tap, off := 0x1C, hi := 15, lo := 0, acc := .w1a }
def F.TAP_ERR_RS_FAIL : Fld := { blk := .tap, off := 0x1C, hi := 31, lo := 16, acc := .w1a }

/-- The fields of the block's registers: R239. -/
def fieldsTap : List Fld :=
  [F.TAP_CFG_KIND, F.TAP_CFG_CTX, F.TAP_CFG_SUB, F.TAP_CFG_AU_EN, F.TAP_CFG_PCM_EN, F.TAP_CFG_PAD_EN,
   F.TAP_CFG_RATE48, F.TAP_CFG_PCM_PACK, F.TAP_CFG_RING, F.TAP_CMD_GO, F.TAP_CMD_EXP_EPOCH, F.TAP_RUN_STATE,
   F.TAP_RUN_DEC_HELD, F.TAP_RUN_DEC, F.TAP_RUN_PAYLOAD, F.TAP_RUN_COST, F.TAP_ERR_AU_BAD, F.TAP_ERR_RS_FAIL]

/-! ### auddec: R240 -/

def F.CONCEAL_REPEAT : Fld := { blk := .auddec, off := 0x4C, hi := 3, lo := 0, acc := .rw, reset := 0x1, lim := [(0, 3)] }
def F.CONCEAL_ATTEN : Fld := { blk := .auddec, off := 0x4C, hi := 7, lo := 4, acc := .rw, reset := 0x6, lim := [(0, 12)] }
def F.LAT_MP2_LAT : Fld := { blk := .auddec, off := 0x50, hi := 31, lo := 0, reset := 0xB40000 }
def F.LAT_DABP_LAT : Fld := { blk := .auddec, off := 0x54, hi := 31, lo := 0, reset := 0xE10000 }
def F.LAT_DRM_AAC_LAT : Fld := { blk := .auddec, off := 0x58, hi := 31, lo := 0, reset := 0x12C0000 }
def F.LAT_DRM_XHE_LAT : Fld := { blk := .auddec, off := 0x5C, hi := 31, lo := 0, reset := 0x1770000 }
def F.DEC_CULL_COUNT : Fld := { blk := .auddec, off := 0x100, hi := 31, lo := 0, cnt := 96, stride := 4, acc := .w1a, m1 := false }

/-- The fields of the block's registers: R240. -/
def fieldsAuddec : List Fld :=
  [F.CONCEAL_REPEAT, F.CONCEAL_ATTEN, F.LAT_MP2_LAT, F.LAT_DABP_LAT, F.LAT_DRM_AAC_LAT, F.LAT_DRM_XHE_LAT,
   F.DEC_CULL_COUNT]

/-! ### dig: R241 -/

def F.DIG_DIV_SNR_BOUND : Fld := { blk := .dig, off := 0xC0, hi := 15, lo := 0, reset := 0x8000, m1 := false }
def F.DIG_DIV_SNR_SHADOW : Fld := { blk := .dig, off := 0xC0, hi := 31, lo := 16, reset := 0x8000, m1 := false }
def F.DIG_DIV_STAT_PATH : Fld := { blk := .dig, off := 0xC4, hi := 0, lo := 0, m1 := false }
def F.DIG_DIV_STAT_VALID : Fld := { blk := .dig, off := 0xC4, hi := 1, lo := 1, m1 := false }

/-- The fields of the block's registers: R241. -/
def fieldsDig : List Fld :=
  [F.DIG_DIV_SNR_BOUND, F.DIG_DIV_SNR_SHADOW, F.DIG_DIV_STAT_PATH, F.DIG_DIV_STAT_VALID]

/-! ### sidedata: R265 -/

def F.SD_CFG_DLS_ASSEMBLE : Fld := { blk := .sidedata, off := 0x40, hi := 0, lo := 0, acc := .rw, reset := 0x1 }
def F.SD_CFG_DLPLUS : Fld := { blk := .sidedata, off := 0x40, hi := 1, lo := 1, acc := .rw, reset := 0x1, m1 := false }
def F.SD_CFG_FIG_REFRESH : Fld := { blk := .sidedata, off := 0x40, hi := 15, lo := 8, acc := .rw, reset := 0xA, lim := [(1, 255)] }
def F.SD_ALERT_ASSERTED : Fld := { blk := .sidedata, off := 0x44, hi := 0, lo := 0 }
def F.SD_ALERT_MODE : Fld := { blk := .sidedata, off := 0x44, hi := 1, lo := 1, acc := .rw }
def F.SD_ALERT_ACK : Fld := { blk := .sidedata, off := 0x44, hi := 2, lo := 2, acc := .wo }
def F.SD_ALERT_LAST_RULE : Fld := { blk := .sidedata, off := 0x44, hi := 12, lo := 8 }
def F.SD_ALARM_ACTIVE_ACTIVE : Fld := { blk := .sidedata, off := 0x48, hi := 31, lo := 0 }
def F.SD_ALARM_SEEN_SEEN : Fld := { blk := .sidedata, off := 0x4C, hi := 31, lo := 0, acc := .w1c }
def F.SD_FIG_SUPP_COUNT : Fld := { blk := .sidedata, off := 0x50, hi := 31, lo := 0, acc := .w1a, m1 := false }
def F.SD_FIG_CTX_TYPE_EN : Fld := { blk := .sidedata, off := 0x80, hi := 6, lo := 0, cnt := 48, stride := 4, acc := .rw, reset := 0x7F }
def F.SD_FIG_CTX_CHANGE_ONLY : Fld := { blk := .sidedata, off := 0x80, hi := 8, lo := 8, cnt := 48, stride := 4, acc := .rw, reset := 0x1 }
def F.SD_DRM_CTX_FAC_EN : Fld := { blk := .sidedata, off := 0x140, hi := 0, lo := 0, cnt := 24, stride := 4, acc := .rw, reset := 0x1 }
def F.SD_DRM_CTX_SDC_EN : Fld := { blk := .sidedata, off := 0x140, hi := 1, lo := 1, cnt := 24, stride := 4, acc := .rw, reset := 0x1 }
def F.SD_DRM_CTX_CHANGE_ONLY : Fld := { blk := .sidedata, off := 0x140, hi := 2, lo := 2, cnt := 24, stride := 4, acc := .rw, reset := 0x1 }
def F.SD_DRM_CTX_TEXT_EN : Fld := { blk := .sidedata, off := 0x140, hi := 3, lo := 3, cnt := 24, stride := 4, acc := .rw, reset := 0x1, m1 := false }
def F.RULE_CFG_KIND : Fld := { blk := .sidedata, off := 0x200, hi := 2, lo := 0, cnt := 32, stride := 16, acc := .rw, lim := [(0, 3)] }
def F.RULE_CFG_REQ_AL : Fld := { blk := .sidedata, off := 0x200, hi := 3, lo := 3, cnt := 32, stride := 16, acc := .rw, reset := 0x1 }
def F.RULE_CFG_PATTERN : Fld := { blk := .sidedata, off := 0x200, hi := 7, lo := 4, cnt := 32, stride := 16, acc := .rw }
def F.RULE_CFG_ACT_RECORD : Fld := { blk := .sidedata, off := 0x200, hi := 8, lo := 8, cnt := 32, stride := 16, acc := .rw }
def F.RULE_CFG_ACT_ALERT : Fld := { blk := .sidedata, off := 0x200, hi := 9, lo := 9, cnt := 32, stride := 16, acc := .rw }
def F.RULE_CFG_ACT_EVENT : Fld := { blk := .sidedata, off := 0x200, hi := 10, lo := 10, cnt := 32, stride := 16, acc := .rw }
def F.RULE_CFG_CONFIRM : Fld := { blk := .sidedata, off := 0x200, hi := 15, lo := 12, cnt := 32, stride := 16, acc := .rw, reset := 0x1 }
def F.RULE_CFG_RING : Fld := { blk := .sidedata, off := 0x200, hi := 21, lo := 16, cnt := 32, stride := 16, acc := .rw }
def F.RULE_SRC_SRC_KIND : Fld := { blk := .sidedata, off := 0x204, hi := 1, lo := 0, cnt := 32, stride := 16, acc := .rw, lim := [(0, 2)] }
def F.RULE_SRC_SRC_INDEX : Fld := { blk := .sidedata, off := 0x204, hi := 15, lo := 7, cnt := 32, stride := 16, acc := .rw }
def F.RULE_END_END_MS : Fld := { blk := .sidedata, off := 0x208, hi := 15, lo := 0, cnt := 32, stride := 16, acc := .rw, reset := 0x1388, lim := [(100, 65535)] }
def F.RULE_STAT_ACTIVE : Fld := { blk := .sidedata, off := 0x20C, hi := 0, lo := 0, cnt := 32, stride := 16 }
def F.RULE_STAT_COUNT : Fld := { blk := .sidedata, off := 0x20C, hi := 7, lo := 4, cnt := 32, stride := 16 }
def F.PAT_CFG_KIND : Fld := { blk := .sidedata, off := 0x400, hi := 2, lo := 0, cnt := 16, stride := 64, acc := .rw, lim := [(0, 5)] }
def F.PAT_CFG_OFFSET : Fld := { blk := .sidedata, off := 0x400, hi := 15, lo := 8, cnt := 16, stride := 64, acc := .rw }
def F.PAT_VAL0_VAL : Fld := { blk := .sidedata, off := 0x410, hi := 31, lo := 0, cnt := 16, stride := 64, acc := .rw }
def F.PAT_VAL1_VAL : Fld := { blk := .sidedata, off := 0x414, hi := 31, lo := 0, cnt := 16, stride := 64, acc := .rw }
def F.PAT_VAL2_VAL : Fld := { blk := .sidedata, off := 0x418, hi := 31, lo := 0, cnt := 16, stride := 64, acc := .rw }
def F.PAT_VAL3_VAL : Fld := { blk := .sidedata, off := 0x41C, hi := 31, lo := 0, cnt := 16, stride := 64, acc := .rw }
def F.PAT_MASK0_MASK : Fld := { blk := .sidedata, off := 0x420, hi := 31, lo := 0, cnt := 16, stride := 64, acc := .rw }
def F.PAT_MASK1_MASK : Fld := { blk := .sidedata, off := 0x424, hi := 31, lo := 0, cnt := 16, stride := 64, acc := .rw }
def F.PAT_MASK2_MASK : Fld := { blk := .sidedata, off := 0x428, hi := 31, lo := 0, cnt := 16, stride := 64, acc := .rw }
def F.PAT_MASK3_MASK : Fld := { blk := .sidedata, off := 0x42C, hi := 31, lo := 0, cnt := 16, stride := 64, acc := .rw }

/-- The fields of the block's registers: R265. -/
def fieldsSidedata : List Fld :=
  [F.SD_CFG_DLS_ASSEMBLE, F.SD_CFG_DLPLUS, F.SD_CFG_FIG_REFRESH, F.SD_ALERT_ASSERTED, F.SD_ALERT_MODE,
   F.SD_ALERT_ACK, F.SD_ALERT_LAST_RULE, F.SD_ALARM_ACTIVE_ACTIVE, F.SD_ALARM_SEEN_SEEN, F.SD_FIG_SUPP_COUNT,
   F.SD_FIG_CTX_TYPE_EN, F.SD_FIG_CTX_CHANGE_ONLY, F.SD_DRM_CTX_FAC_EN, F.SD_DRM_CTX_SDC_EN,
   F.SD_DRM_CTX_CHANGE_ONLY, F.SD_DRM_CTX_TEXT_EN, F.RULE_CFG_KIND, F.RULE_CFG_REQ_AL, F.RULE_CFG_PATTERN,
   F.RULE_CFG_ACT_RECORD, F.RULE_CFG_ACT_ALERT, F.RULE_CFG_ACT_EVENT, F.RULE_CFG_CONFIRM, F.RULE_CFG_RING]
   ++
  [F.RULE_SRC_SRC_KIND, F.RULE_SRC_SRC_INDEX, F.RULE_END_END_MS, F.RULE_STAT_ACTIVE, F.RULE_STAT_COUNT,
   F.PAT_CFG_KIND, F.PAT_CFG_OFFSET, F.PAT_VAL0_VAL, F.PAT_VAL1_VAL, F.PAT_VAL2_VAL, F.PAT_VAL3_VAL,
   F.PAT_MASK0_MASK, F.PAT_MASK1_MASK, F.PAT_MASK2_MASK, F.PAT_MASK3_MASK]

/-! ### follow: R267 -/

def F.FOL_GCFG_FALLBACK_SCOUT : Fld := { blk := .follow, off := 0x40, hi := 0, lo := 0, acc := .rw }
def F.FOL_RES_SLOT_FIRST : Fld := { blk := .follow, off := 0x44, hi := 8, lo := 0, acc := .rw }
def F.FOL_RES_SLOT_COUNT : Fld := { blk := .follow, off := 0x44, hi := 21, lo := 16, acc := .rw, lim := [(0, 32)] }
def F.FOL_RES_CTX_DAB_FIRST : Fld := { blk := .follow, off := 0x48, hi := 5, lo := 0, acc := .rw }
def F.FOL_RES_CTX_DAB_COUNT : Fld := { blk := .follow, off := 0x48, hi := 11, lo := 8, acc := .rw, lim := [(0, 8)] }
def F.FOL_RES_CTX_DRM_FIRST : Fld := { blk := .follow, off := 0x48, hi := 20, lo := 16, acc := .rw }
def F.FOL_RES_CTX_DRM_COUNT : Fld := { blk := .follow, off := 0x48, hi := 26, lo := 24, acc := .rw, lim := [(0, 4)] }
def F.FOL_RES_TAP_FIRST : Fld := { blk := .follow, off := 0x4C, hi := 9, lo := 0, acc := .rw }
def F.FOL_RES_TAP_COUNT : Fld := { blk := .follow, off := 0x4C, hi := 21, lo := 16, acc := .rw, lim := [(0, 32)] }
def F.FOL_CAND_SEL_ENTRY : Fld := { blk := .follow, off := 0x54, hi := 4, lo := 0, acc := .rw }
def F.FOL_CFG_KEY_KIND : Fld := { blk := .follow, off := 0x100, hi := 1, lo := 0, cnt := 32, stride := 64, acc := .rw, lim := [(0, 2)] }
def F.FOL_CFG_LINK : Fld := { blk := .follow, off := 0x100, hi := 2, lo := 2, cnt := 32, stride := 64, acc := .rw, reset := 0x1 }
def F.FOL_CFG_USE_AF : Fld := { blk := .follow, off := 0x100, hi := 3, lo := 3, cnt := 32, stride := 64, acc := .rw, reset := 0x1 }
def F.FOL_CFG_USE_EON : Fld := { blk := .follow, off := 0x100, hi := 4, lo := 4, cnt := 32, stride := 64, acc := .rw, reset := 0x1 }
def F.FOL_CFG_USE_FIG06 : Fld := { blk := .follow, off := 0x100, hi := 5, lo := 5, cnt := 32, stride := 64, acc := .rw, reset := 0x1 }
def F.FOL_CFG_USE_FIG021 : Fld := { blk := .follow, off := 0x100, hi := 6, lo := 6, cnt := 32, stride := 64, acc := .rw, reset := 0x1 }
def F.FOL_CFG_USE_SDC : Fld := { blk := .follow, off := 0x100, hi := 7, lo := 7, cnt := 32, stride := 64, acc := .rw, reset := 0x1 }
def F.FOL_CFG_ALLOW_COARSE : Fld := { blk := .follow, off := 0x100, hi := 8, lo := 8, cnt := 32, stride := 64, acc := .rw }
def F.FOL_CFG_RING : Fld := { blk := .follow, off := 0x100, hi := 21, lo := 16, cnt := 32, stride := 64, acc := .rw }
def F.FOL_CFG_PCM_EN : Fld := { blk := .follow, off := 0x100, hi := 24, lo := 24, cnt := 32, stride := 64, acc := .rw, reset := 0x1 }
def F.FOL_CFG_PCM_PACK : Fld := { blk := .follow, off := 0x100, hi := 26, lo := 25, cnt := 32, stride := 64, acc := .rw, reset := 0x1, lim := [(0, 2)], m1 := false }
def F.FOL_KEY_KEY : Fld := { blk := .follow, off := 0x104, hi := 31, lo := 0, cnt := 32, stride := 64, acc := .rw }
def F.FOL_START_KIND : Fld := { blk := .follow, off := 0x108, hi := 1, lo := 0, cnt := 32, stride := 64, acc := .rw, lim := [(0, 1)] }
def F.FOL_START_INDEX : Fld := { blk := .follow, off := 0x108, hi := 11, lo := 2, cnt := 32, stride := 64, acc := .rw }
def F.FOL_XFADE_XFADE_MS : Fld := { blk := .follow, off := 0x10C, hi := 6, lo := 0, cnt := 32, stride := 64, acc := .rw, reset := 0x1E, lim := [(5, 100)] }
def F.FOL_XFADE_HYST : Fld := { blk := .follow, off := 0x10C, hi := 14, lo := 8, cnt := 32, stride := 64, acc := .rw, reset := 0xA, lim := [(1, 100)] }
def F.FOL_XFADE_HOLD_MS : Fld := { blk := .follow, off := 0x10C, hi := 31, lo := 16, cnt := 32, stride := 64, acc := .rw, reset := 0x7D0, lim := [(100, 65535)] }
def F.FOL_ALIGN_COARSE_S : Fld := { blk := .follow, off := 0x110, hi := 3, lo := 0, cnt := 32, stride := 64, acc := .rw, reset := 0x4, lim := [(1, 8)] }
def F.FOL_ALIGN_COARSE_TH : Fld := { blk := .follow, off := 0x110, hi := 15, lo := 8, cnt := 32, stride := 64, acc := .rw, reset := 0x3C, lim := [(1, 100)] }
def F.FOL_ALIGN_FINE_TH : Fld := { blk := .follow, off := 0x110, hi := 23, lo := 16, cnt := 32, stride := 64, acc := .rw, reset := 0x50, lim := [(1, 100)] }
def F.FOL_ALIGN_MAX_POTS : Fld := { blk := .follow, off := 0x110, hi := 30, lo := 24, cnt := 32, stride := 64, acc := .rw, reset := 0x20, lim := [(1, 64)] }
def F.FOL_DWELL_MIN_DWELL : Fld := { blk := .follow, off := 0x114, hi := 15, lo := 0, cnt := 32, stride := 64, acc := .rw, reset := 0x1388 }
def F.FOL_DWELL_LOUD_MAX : Fld := { blk := .follow, off := 0x114, hi := 23, lo := 16, cnt := 32, stride := 64, acc := .rw, reset := 0x18, lim := [(0, 48)] }
def F.FOL_DWELL_RELAX : Fld := { blk := .follow, off := 0x114, hi := 31, lo := 24, cnt := 32, stride := 64, acc := .rw, reset := 0x5, m1 := false }
def F.FOL_CMD_GO : Fld := { blk := .follow, off := 0x118, hi := 0, lo := 0, cnt := 32, stride := 64, acc := .wo }
def F.FOL_CMD_STOP : Fld := { blk := .follow, off := 0x118, hi := 1, lo := 1, cnt := 32, stride := 64, acc := .wo }
def F.FOL_CMD_REALIGN : Fld := { blk := .follow, off := 0x118, hi := 2, lo := 2, cnt := 32, stride := 64, acc := .wo }
def F.FOL_SWITCHES_COUNT : Fld := { blk := .follow, off := 0x12C, hi := 31, lo := 0, cnt := 32, stride := 64, acc := .w1a }
def F.FOL_PRESET_PRESET : Fld := { blk := .follow, off := 0x130, hi := 15, lo := 0, cnt := 32, stride := 64, acc := .rw, m1 := false }
def F.FOL_PRESET_STRETCH : Fld := { blk := .follow, off := 0x130, hi := 21, lo := 16, cnt := 32, stride := 64, acc := .rw, reset := 0x10, lim := [(1, 63)], m1 := false }
def F.FOL_CULL_COUNT : Fld := { blk := .follow, off := 0x134, hi := 31, lo := 0, cnt := 32, stride := 64, acc := .w1a }

/-- The fields of the block's registers: R267. -/
def fieldsFollow : List Fld :=
  [F.FOL_GCFG_FALLBACK_SCOUT, F.FOL_RES_SLOT_FIRST, F.FOL_RES_SLOT_COUNT, F.FOL_RES_CTX_DAB_FIRST,
   F.FOL_RES_CTX_DAB_COUNT, F.FOL_RES_CTX_DRM_FIRST, F.FOL_RES_CTX_DRM_COUNT, F.FOL_RES_TAP_FIRST,
   F.FOL_RES_TAP_COUNT, F.FOL_CAND_SEL_ENTRY, F.FOL_CFG_KEY_KIND, F.FOL_CFG_LINK, F.FOL_CFG_USE_AF,
   F.FOL_CFG_USE_EON, F.FOL_CFG_USE_FIG06, F.FOL_CFG_USE_FIG021, F.FOL_CFG_USE_SDC, F.FOL_CFG_ALLOW_COARSE,
   F.FOL_CFG_RING, F.FOL_CFG_PCM_EN, F.FOL_CFG_PCM_PACK, F.FOL_KEY_KEY, F.FOL_START_KIND, F.FOL_START_INDEX]
   ++
  [F.FOL_XFADE_XFADE_MS, F.FOL_XFADE_HYST, F.FOL_XFADE_HOLD_MS, F.FOL_ALIGN_COARSE_S,
   F.FOL_ALIGN_COARSE_TH, F.FOL_ALIGN_FINE_TH, F.FOL_ALIGN_MAX_POTS, F.FOL_DWELL_MIN_DWELL,
   F.FOL_DWELL_LOUD_MAX, F.FOL_DWELL_RELAX, F.FOL_CMD_GO, F.FOL_CMD_STOP, F.FOL_CMD_REALIGN,
   F.FOL_SWITCHES_COUNT, F.FOL_PRESET_PRESET, F.FOL_PRESET_STRETCH, F.FOL_CULL_COUNT]

/-! ### metro: R291 -/

def F.MET_FS_CFG_WIN_MS : Fld := { blk := .metro, off := 0x40, hi := 15, lo := 0, acc := .rw, reset := 0x64, lim := [(10, 10000)] }
def F.MET_DEV_CFG_T_S : Fld := { blk := .metro, off := 0x44, hi := 11, lo := 0, acc := .rw, reset := 0x3C, lim := [(1, 3600)] }
def F.MET_DEV_CFG_EXCEED : Fld := { blk := .metro, off := 0x44, hi := 29, lo := 16, acc := .rw, reset := 0x3E8, lim := [(1, 10000)] }
def F.MET_DEV_LIM_LIMIT : Fld := { blk := .metro, off := 0x48, hi := 15, lo := 0, acc := .rw, reset := 0x1D4C, lim := [(1, 65535)] }
def F.MET_MPX_CFG_T_S : Fld := { blk := .metro, off := 0x4C, hi := 11, lo := 0, acc := .rw, reset := 0x3C, lim := [(1, 3600)] }
def F.MET_MPX_CFG_LIMIT : Fld := { blk := .metro, off := 0x4C, hi := 31, lo := 16, acc := .rw }
def F.MET_AM_CFG_WIN_MS : Fld := { blk := .metro, off := 0x50, hi := 13, lo := 0, acc := .rw, reset := 0x3E8, lim := [(100, 10000)] }
def F.MET_AF_AF : Fld := { blk := .metro, off := 0x54, hi := 15, lo := 0, cnt := 5, stride := 4, acc := .rw, m1 := false }
def F.MET_REF_CFG_AUTO : Fld := { blk := .metro, off := 0x68, hi := 0, lo := 0, acc := .rw, reset := 0x1 }
def F.MET_REF_CFG_PERIOD : Fld := { blk := .metro, off := 0x68, hi := 24, lo := 16, acc := .rw, reset := 0x16D, lim := [(30, 365)] }
def F.MET_REF_CMD_GO : Fld := { blk := .metro, off := 0x6C, hi := 0, lo := 0, acc := .wo }
def F.MET_REF_STAT_RESULT : Fld := { blk := .metro, off := 0x70, hi := 17, lo := 16 }
def F.MET_REF_STAT_RUNNING : Fld := { blk := .metro, off := 0x70, hi := 18, lo := 18 }
def F.MET_REF_DEV_DEV : Fld := { blk := .metro, off := 0x74, hi := 15, lo := 0 }
def F.MET_PPS_CFG_EN : Fld := { blk := .metro, off := 0x78, hi := 0, lo := 0, acc := .rw }
def F.MET_PPS_CFG_EDGE : Fld := { blk := .metro, off := 0x78, hi := 1, lo := 1, acc := .rw }
def F.MET_PPS_LO_TIME : Fld := { blk := .metro, off := 0x7C, hi := 31, lo := 0 }
def F.MET_PPS_HI_TIME : Fld := { blk := .metro, off := 0x80, hi := 31, lo := 0 }
def F.MET_PPS_PERIOD_TICKS : Fld := { blk := .metro, off := 0x84, hi := 31, lo := 0 }
def F.MET_PPS_COUNT_COUNT : Fld := { blk := .metro, off := 0x88, hi := 15, lo := 0 }
def F.MET_PPS_COUNT_REJECT : Fld := { blk := .metro, off := 0x88, hi := 31, lo := 16 }
def F.MET_SEL_SLOT : Fld := { blk := .metro, off := 0xC0, hi := 8, lo := 0, acc := .rw }
def F.FC_CFG_SRC_KIND : Fld := { blk := .metro, off := 0x400, hi := 0, lo := 0, cnt := 32, stride := 32, acc := .rw }
def F.FC_CFG_SRC_INDEX : Fld := { blk := .metro, off := 0x400, hi := 10, lo := 1, cnt := 32, stride := 32, acc := .rw }
def F.FC_CFG_PORT : Fld := { blk := .metro, off := 0x400, hi := 13, lo := 11, cnt := 32, stride := 32, acc := .rw }
def F.FC_CFG_PAIR : Fld := { blk := .metro, off := 0x400, hi := 18, lo := 14, cnt := 32, stride := 32, acc := .rw, lim := [(0, 15)] }
def F.FC_CFG_RING : Fld := { blk := .metro, off := 0x400, hi := 25, lo := 20, cnt := 32, stride := 32, acc := .rw }
def F.FC_LIM_MAX_LAG : Fld := { blk := .metro, off := 0x404, hi := 3, lo := 0, cnt := 32, stride := 32, acc := .rw, reset := 0x4, lim := [(1, 10)] }
def F.FC_LIM_MIS_TH : Fld := { blk := .metro, off := 0x404, hi := 15, lo := 8, cnt := 32, stride := 32, acc := .rw, reset := 0x32, lim := [(1, 99)] }
def F.FC_LIM_SIL_TH : Fld := { blk := .metro, off := 0x404, hi := 23, lo := 16, cnt := 32, stride := 32, acc := .rw, reset := 0x32, lim := [(20, 96)] }
def F.FC_LIM_REPORT_S : Fld := { blk := .metro, off := 0x404, hi := 31, lo := 24, cnt := 32, stride := 32, acc := .rw, reset := 0xA }
def F.FC_TIME_MIS_S : Fld := { blk := .metro, off := 0x408, hi := 7, lo := 0, cnt := 32, stride := 32, acc := .rw, reset := 0xA, lim := [(1, 255)], m1 := false }
def F.FC_TIME_SIL_S : Fld := { blk := .metro, off := 0x408, hi := 15, lo := 8, cnt := 32, stride := 32, acc := .rw, reset := 0xA, lim := [(1, 255)], m1 := false }
def F.FC_CMD_GO : Fld := { blk := .metro, off := 0x40C, hi := 0, lo := 0, cnt := 32, stride := 32, acc := .wo }
def F.FC_CMD_STOP : Fld := { blk := .metro, off := 0x40C, hi := 1, lo := 1, cnt := 32, stride := 32, acc := .wo }
def F.FC_CMD_REALIGN : Fld := { blk := .metro, off := 0x40C, hi := 2, lo := 2, cnt := 32, stride := 32, acc := .wo }
def F.FC_STAT_STATE : Fld := { blk := .metro, off := 0x410, hi := 2, lo := 0, cnt := 32, stride := 32 }
def F.FC_STAT_SILENCE : Fld := { blk := .metro, off := 0x410, hi := 3, lo := 3, cnt := 32, stride := 32 }
def F.FC_STAT_MISMATCH : Fld := { blk := .metro, off := 0x410, hi := 4, lo := 4, cnt := 32, stride := 32 }
def F.FC_STAT_FINE : Fld := { blk := .metro, off := 0x410, hi := 5, lo := 5, cnt := 32, stride := 32 }
def F.FC_STAT_AG : Fld := { blk := .metro, off := 0x410, hi := 13, lo := 8, cnt := 32, stride := 32 }
def F.FC_STAT_POTS : Fld := { blk := .metro, off := 0x410, hi := 21, lo := 16, cnt := 32, stride := 32 }
def F.FC_STAT_OWNER : Fld := { blk := .metro, off := 0x410, hi := 31, lo := 30, cnt := 32, stride := 32 }
def F.FC_LAG_LAG : Fld := { blk := .metro, off := 0x414, hi := 31, lo := 0, cnt := 32, stride := 32 }
def F.FC_MEAS_RHO : Fld := { blk := .metro, off := 0x418, hi := 15, lo := 0, cnt := 32, stride := 32 }
def F.FC_MEAS_LDIFF : Fld := { blk := .metro, off := 0x418, hi := 31, lo := 16, cnt := 32, stride := 32 }

/-- The fields of the block's registers: R291. -/
def fieldsMetro : List Fld :=
  [F.MET_FS_CFG_WIN_MS, F.MET_DEV_CFG_T_S, F.MET_DEV_CFG_EXCEED, F.MET_DEV_LIM_LIMIT, F.MET_MPX_CFG_T_S,
   F.MET_MPX_CFG_LIMIT, F.MET_AM_CFG_WIN_MS, F.MET_AF_AF, F.MET_REF_CFG_AUTO, F.MET_REF_CFG_PERIOD,
   F.MET_REF_CMD_GO, F.MET_REF_STAT_RESULT, F.MET_REF_STAT_RUNNING, F.MET_REF_DEV_DEV, F.MET_PPS_CFG_EN,
   F.MET_PPS_CFG_EDGE, F.MET_PPS_LO_TIME, F.MET_PPS_HI_TIME, F.MET_PPS_PERIOD_TICKS, F.MET_PPS_COUNT_COUNT,
   F.MET_PPS_COUNT_REJECT, F.MET_SEL_SLOT, F.FC_CFG_SRC_KIND, F.FC_CFG_SRC_INDEX]
   ++
  [F.FC_CFG_PORT, F.FC_CFG_PAIR, F.FC_CFG_RING, F.FC_LIM_MAX_LAG, F.FC_LIM_MIS_TH, F.FC_LIM_SIL_TH,
   F.FC_LIM_REPORT_S, F.FC_TIME_MIS_S, F.FC_TIME_SIL_S, F.FC_CMD_GO, F.FC_CMD_STOP, F.FC_CMD_REALIGN,
   F.FC_STAT_STATE, F.FC_STAT_SILENCE, F.FC_STAT_MISMATCH, F.FC_STAT_FINE, F.FC_STAT_AG, F.FC_STAT_POTS,
   F.FC_STAT_OWNER, F.FC_LAG_LAG, F.FC_MEAS_RHO, F.FC_MEAS_LDIFF]

/-! ### clock: R316 -/

def F.CLK_STAT_PLL_STATE : Fld := { blk := .clock, off := 0x40, hi := 1, lo := 0 }
def F.CLK_STAT_REF_ACT : Fld := { blk := .clock, off := 0x40, hi := 3, lo := 2 }
def F.CLK_STAT_FRC_ACTIVE : Fld := { blk := .clock, off := 0x40, hi := 4, lo := 4 }
def F.CLK_STAT_XO_OK : Fld := { blk := .clock, off := 0x40, hi := 5, lo := 5 }
def F.CLK_STAT_REF_OK : Fld := { blk := .clock, off := 0x40, hi := 6, lo := 6 }
def F.CLK_STAT_SYNC_OK : Fld := { blk := .clock, off := 0x40, hi := 7, lo := 7 }
def F.CLK_STAT_X32_SRC : Fld := { blk := .clock, off := 0x40, hi := 8, lo := 8 }
def F.CLK_STAT_X32_OK : Fld := { blk := .clock, off := 0x40, hi := 9, lo := 9 }
def F.CLK_STAT_AUD_A_LOCK : Fld := { blk := .clock, off := 0x40, hi := 10, lo := 10 }
def F.CLK_STAT_AUD_B_LOCK : Fld := { blk := .clock, off := 0x40, hi := 11, lo := 11 }
def F.PLL_CFG_REF_SEL : Fld := { blk := .clock, off := 0x44, hi := 1, lo := 0, acc := .rw, lim := [(0, 2)] }
def F.PLL_CFG_HOLDOVER : Fld := { blk := .clock, off := 0x44, hi := 2, lo := 2, acc := .rw, reset := 0x1 }
def F.PLL_CMD_APPLY : Fld := { blk := .clock, off := 0x48, hi := 0, lo := 0, acc := .wo }
def F.PLL_HIST_RELOCKS : Fld := { blk := .clock, off := 0x4C, hi := 15, lo := 0, m1 := false }
def F.PLL_HIST_LAST_US : Fld := { blk := .clock, off := 0x4C, hi := 31, lo := 16, m1 := false }
def F.REF_MEAS_PPM : Fld := { blk := .clock, off := 0x50, hi := 23, lo := 0 }
def F.SYNC_MEAS_PPM : Fld := { blk := .clock, off := 0x54, hi := 23, lo := 0 }
def F.HOLD_TIME_SECONDS : Fld := { blk := .clock, off := 0x58, hi := 19, lo := 0, m1 := false }
def F.X32_CFG_X32_DIS : Fld := { blk := .clock, off := 0x5C, hi := 0, lo := 0, acc := .rw }
def F.X32_CFG_RC_ERR : Fld := { blk := .clock, off := 0x5C, hi := 31, lo := 16 }
def F.AUD_PLL_CFG_A_EN : Fld := { blk := .clock, off := 0x60, hi := 0, lo := 0, acc := .rw }
def F.AUD_PLL_CFG_B_EN : Fld := { blk := .clock, off := 0x60, hi := 1, lo := 1, acc := .rw }
def F.FRC_MEAS_KHZ : Fld := { blk := .clock, off := 0x64, hi := 16, lo := 0 }
def F.RELOCK_TICKS_COUNT : Fld := { blk := .clock, off := 0x68, hi := 31, lo := 0, acc := .w1a, m1 := false }

/-- The fields of the block's registers: R316. -/
def fieldsClock : List Fld :=
  [F.CLK_STAT_PLL_STATE, F.CLK_STAT_REF_ACT, F.CLK_STAT_FRC_ACTIVE, F.CLK_STAT_XO_OK, F.CLK_STAT_REF_OK,
   F.CLK_STAT_SYNC_OK, F.CLK_STAT_X32_SRC, F.CLK_STAT_X32_OK, F.CLK_STAT_AUD_A_LOCK, F.CLK_STAT_AUD_B_LOCK,
   F.PLL_CFG_REF_SEL, F.PLL_CFG_HOLDOVER, F.PLL_CMD_APPLY, F.PLL_HIST_RELOCKS, F.PLL_HIST_LAST_US,
   F.REF_MEAS_PPM, F.SYNC_MEAS_PPM, F.HOLD_TIME_SECONDS, F.X32_CFG_X32_DIS, F.X32_CFG_RC_ERR,
   F.AUD_PLL_CFG_A_EN, F.AUD_PLL_CFG_B_EN, F.FRC_MEAS_KHZ, F.RELOCK_TICKS_COUNT]

/-! ### dll: R318 -/

def F.LINE_STAT_STATE : Fld := { blk := .dll, off := 0x40, hi := 12, lo := 10, cnt := 9, stride := 4 }
def F.LINE_STAT_LOCK : Fld := { blk := .dll, off := 0x40, hi := 13, lo := 13, cnt := 9, stride := 4 }
def F.SYNC_CFG_ROLE : Fld := { blk := .dll, off := 0x64, hi := 1, lo := 0, acc := .rw, lim := [(0, 2)] }
def F.SYNC_CFG_RECOVER : Fld := { blk := .dll, off := 0x64, hi := 2, lo := 2, acc := .rw, m1 := false }
def F.SYNC_CFG_SLEW_K : Fld := { blk := .dll, off := 0x64, hi := 7, lo := 4, acc := .rw, reset := 0x6, lim := [(0, 10)], m1 := false }
def F.SYNC_CFG_OUT_EN : Fld := { blk := .dll, off := 0x64, hi := 8, lo := 8, acc := .rw }
def F.SYNC_CFG_OFS : Fld := { blk := .dll, off := 0x64, hi := 25, lo := 16, acc := .rw }
def F.SYNC_STAT_JUMP : Fld := { blk := .dll, off := 0x68, hi := 15, lo := 0, m1 := false }
def F.SYNC_STAT_LEFT : Fld := { blk := .dll, off := 0x68, hi := 31, lo := 16, m1 := false }
def F.SYNC_COUNT_LOSSES : Fld := { blk := .dll, off := 0x6C, hi := 15, lo := 0, m1 := false }
def F.SYNC_COUNT_SLEWS : Fld := { blk := .dll, off := 0x6C, hi := 31, lo := 16, m1 := false }
def F.LKA_SEL_SEL : Fld := { blk := .dll, off := 0x70, hi := 3, lo := 0, acc := .rw, reset := 0x8, lim := [(0, 8)] }

/-- The fields of the block's registers: R318. -/
def fieldsDll : List Fld :=
  [F.LINE_STAT_STATE, F.LINE_STAT_LOCK, F.SYNC_CFG_ROLE, F.SYNC_CFG_RECOVER, F.SYNC_CFG_SLEW_K,
   F.SYNC_CFG_OUT_EN, F.SYNC_CFG_OFS, F.SYNC_STAT_JUMP, F.SYNC_STAT_LEFT, F.SYNC_COUNT_LOSSES,
   F.SYNC_COUNT_SLEWS, F.LKA_SEL_SEL]

/-! ### aon: R349 -/

def F.AON_STAT_SERVE : Fld := { blk := .aon, off := 0x40, hi := 3, lo := 3 }
def F.AON_STAT_RESUMED : Fld := { blk := .aon, off := 0x40, hi := 4, lo := 4 }
def F.PWR_CMD_TARGET : Fld := { blk := .aon, off := 0x44, hi := 1, lo := 0, acc := .wo }
def F.SLEEP_CFG_CTRL_RET : Fld := { blk := .aon, off := 0x48, hi := 0, lo := 0, acc := .rw }
def F.SLEEP_CFG_HOST_UP : Fld := { blk := .aon, off := 0x48, hi := 1, lo := 1, acc := .rw, reset := 0x1 }
def F.SLEEP_CFG_MGMT_SERVE : Fld := { blk := .aon, off := 0x48, hi := 2, lo := 2, acc := .rw, reset := 0x1, m1 := false }
def F.SLEEP_CFG_CB_RET : Fld := { blk := .aon, off := 0x48, hi := 15, lo := 8, acc := .rw }
def F.WAKE_EN_EN : Fld := { blk := .aon, off := 0x4C, hi := 6, lo := 0, acc := .rw, reset := 0x7E }
def F.WAKE_LAST_0_SOURCE : Fld := { blk := .aon, off := 0x50, hi := 3, lo := 0 }
def F.WAKE_LAST_0_ENTRY : Fld := { blk := .aon, off := 0x50, hi := 7, lo := 4 }
def F.WAKE_LAST_0_SLEEP_ABORTED : Fld := { blk := .aon, off := 0x50, hi := 8, lo := 8 }
def F.WAKE_LAST_0_COUNT : Fld := { blk := .aon, off := 0x50, hi := 31, lo := 16 }
def F.WAKE_LAST_1_TS : Fld := { blk := .aon, off := 0x54, hi := 31, lo := 0 }
def F.WAKE_LAST_2_TS : Fld := { blk := .aon, off := 0x58, hi := 15, lo := 0 }
def F.WAKE_PEND_PEND : Fld := { blk := .aon, off := 0x5C, hi := 6, lo := 0, acc := .w1c, m1 := false }
def F.WAKE_AT_LO_AT : Fld := { blk := .aon, off := 0x68, hi := 31, lo := 0, acc := .rw }
def F.WAKE_AT_HI_AT : Fld := { blk := .aon, off := 0x6C, hi := 15, lo := 0, acc := .rw }
def F.AON_OT_THRESH : Fld := { blk := .aon, off := 0x70, hi := 7, lo := 0, acc := .rw, reset := 0x6E, rk := .overtemp }
def F.AON_OT_TEMP : Fld := { blk := .aon, off := 0x70, hi := 31, lo := 16 }
def F.AON_SUPPLY_WARN : Fld := { blk := .aon, off := 0x74, hi := 8, lo := 0, acc := .rw, reset := 0xAA, lim := [(1, 511)] }
def F.AON_SUPPLY_VIO_AON : Fld := { blk := .aon, off := 0x74, hi := 31, lo := 16 }
def F.PD_REQ_ON : Fld := { blk := .aon, off := 0x80, hi := 15, lo := 0, acc := .wo }
def F.PD_REQ_OFF : Fld := { blk := .aon, off := 0x80, hi := 31, lo := 16, acc := .wo }
def F.PUNTY_STAT_HELD : Fld := { blk := .aon, off := 0x84, hi := 7, lo := 0 }
def F.PUNTY_STAT_LOADED : Fld := { blk := .aon, off := 0x84, hi := 15, lo := 8 }
def F.PUNTY_RELEASE_REL : Fld := { blk := .aon, off := 0x88, hi := 7, lo := 0, acc := .wo }
def F.AON_GPIO_OUT : Fld := { blk := .aon, off := 0x8C, hi := 15, lo := 0, acc := .rw }
def F.AON_GPIO_OE : Fld := { blk := .aon, off := 0x8C, hi := 31, lo := 16, acc := .rw }
def F.SERVE_COUNT_COUNT : Fld := { blk := .aon, off := 0x94, hi := 31, lo := 0, acc := .w1a, m1 := false }

/-- The fields of the block's registers: R349. -/
def fieldsAon : List Fld :=
  [F.AON_STAT_SERVE, F.AON_STAT_RESUMED, F.PWR_CMD_TARGET, F.SLEEP_CFG_CTRL_RET, F.SLEEP_CFG_HOST_UP,
   F.SLEEP_CFG_MGMT_SERVE, F.SLEEP_CFG_CB_RET, F.WAKE_EN_EN, F.WAKE_LAST_0_SOURCE, F.WAKE_LAST_0_ENTRY,
   F.WAKE_LAST_0_SLEEP_ABORTED, F.WAKE_LAST_0_COUNT, F.WAKE_LAST_1_TS, F.WAKE_LAST_2_TS, F.WAKE_PEND_PEND,
   F.WAKE_AT_LO_AT, F.WAKE_AT_HI_AT, F.AON_OT_THRESH, F.AON_OT_TEMP, F.AON_SUPPLY_WARN, F.AON_SUPPLY_VIO_AON,
   F.PD_REQ_ON, F.PD_REQ_OFF, F.PUNTY_STAT_HELD]
   ++
  [F.PUNTY_STAT_LOADED, F.PUNTY_RELEASE_REL, F.AON_GPIO_OUT, F.AON_GPIO_OE, F.SERVE_COUNT_COUNT]

/-! ### lehr: R351 -/

def F.LEHR_CFG_PERIOD : Fld := { blk := .lehr, off := 0x40, hi := 16, lo := 0, acc := .rw, reset := 0x3C, lim := [(1, 86400)] }
def F.LEHR_CFG_QCAL : Fld := { blk := .lehr, off := 0x40, hi := 17, lo := 17, acc := .rw, reset := 0x1 }
def F.LEHR_CFG_FIRST_NOW : Fld := { blk := .lehr, off := 0x40, hi := 18, lo := 18, acc := .rw }
def F.LEHR_STAT_RUNNING : Fld := { blk := .lehr, off := 0x44, hi := 0, lo := 0 }
def F.LEHR_STAT_IN_CYCLE : Fld := { blk := .lehr, off := 0x44, hi := 1, lo := 1 }
def F.LEHR_STAT_ENTRY : Fld := { blk := .lehr, off := 0x44, hi := 5, lo := 2 }
def F.LEHR_STAT_CYCLES : Fld := { blk := .lehr, off := 0x44, hi := 31, lo := 16 }
def F.LEHR_ALERT_ASSERTED : Fld := { blk := .lehr, off := 0x48, hi := 0, lo := 0 }
def F.LEHR_ALERT_ACK : Fld := { blk := .lehr, off := 0x48, hi := 1, lo := 1, acc := .wo }
def F.LEHR_ALERT_LAST_ENTRY : Fld := { blk := .lehr, off := 0x48, hi := 5, lo := 2 }
def F.LEHR_LOGCTL_HEAD : Fld := { blk := .lehr, off := 0x4C, hi := 3, lo := 0 }
def F.LEHR_LOGCTL_COUNT : Fld := { blk := .lehr, off := 0x4C, hi := 8, lo := 4 }
def F.LEHR_LOGCTL_OVERFLOW : Fld := { blk := .lehr, off := 0x4C, hi := 30, lo := 16 }
def F.LEHR_LOGCTL_CLEAR : Fld := { blk := .lehr, off := 0x4C, hi := 31, lo := 31, acc := .wo }
def F.LEHR_NEXT_LO_AT : Fld := { blk := .lehr, off := 0x50, hi := 31, lo := 0 }
def F.LEHR_NEXT_HI_AT : Fld := { blk := .lehr, off := 0x54, hi := 15, lo := 0 }
def F.LEHR_LAST_US : Fld := { blk := .lehr, off := 0x58, hi := 23, lo := 0, m1 := false }
def F.LW_CFG_EN : Fld := { blk := .lehr, off := 0x100, hi := 0, lo := 0, cnt := 16, stride := 32, acc := .rw }
def F.LW_CFG_MODE : Fld := { blk := .lehr, off := 0x100, hi := 3, lo := 1, cnt := 16, stride := 32, acc := .rw }
def F.LW_CFG_RULE : Fld := { blk := .lehr, off := 0x100, hi := 6, lo := 4, cnt := 16, stride := 32, acc := .rw }
def F.LW_CFG_INPUT : Fld := { blk := .lehr, off := 0x100, hi := 8, lo := 7, cnt := 16, stride := 32, acc := .rw }
def F.LW_CFG_N : Fld := { blk := .lehr, off := 0x100, hi := 12, lo := 9, cnt := 16, stride := 32, acc := .rw, reset := 0x1 }
def F.LW_CFG_M : Fld := { blk := .lehr, off := 0x100, hi := 16, lo := 13, cnt := 16, stride := 32, acc := .rw, reset := 0x1 }
def F.LW_CFG_ACT_WAKE : Fld := { blk := .lehr, off := 0x100, hi := 17, lo := 17, cnt := 16, stride := 32, acc := .rw }
def F.LW_CFG_ACT_ALERT : Fld := { blk := .lehr, off := 0x100, hi := 18, lo := 18, cnt := 16, stride := 32, acc := .rw }
def F.LW_CFG_ACT_LOG : Fld := { blk := .lehr, off := 0x100, hi := 19, lo := 19, cnt := 16, stride := 32, acc := .rw }
def F.LW_CFG_AF_COUNT : Fld := { blk := .lehr, off := 0x100, hi := 21, lo := 20, cnt := 16, stride := 32, acc := .rw, m1 := false }
def F.LW_FREQ_KHZ : Fld := { blk := .lehr, off := 0x104, hi := 17, lo := 0, cnt := 16, stride := 32, acc := .rw }
def F.LW_FREQ_DWELL : Fld := { blk := .lehr, off := 0x104, hi := 31, lo := 20, cnt := 16, stride := 32, acc := .rw, reset := 0x96 }
def F.LW_P0_P0 : Fld := { blk := .lehr, off := 0x108, hi := 31, lo := 0, cnt := 16, stride := 32, acc := .rw }
def F.LW_P1_P1 : Fld := { blk := .lehr, off := 0x10C, hi := 31, lo := 0, cnt := 16, stride := 32, acc := .rw }
def F.LW_AF0_KHZ : Fld := { blk := .lehr, off := 0x110, hi := 17, lo := 0, cnt := 16, stride := 32, acc := .rw, m1 := false }
def F.LW_AF1_KHZ : Fld := { blk := .lehr, off := 0x114, hi := 17, lo := 0, cnt := 16, stride := 32, acc := .rw, m1 := false }
def F.LW_AF2_KHZ : Fld := { blk := .lehr, off := 0x118, hi := 17, lo := 0, cnt := 16, stride := 32, acc := .rw, m1 := false }
def F.LW_STAT_HISTORY : Fld := { blk := .lehr, off := 0x11C, hi := 7, lo := 0, cnt := 16, stride := 32 }
def F.LW_STAT_AF : Fld := { blk := .lehr, off := 0x11C, hi := 9, lo := 8, cnt := 16, stride := 32 }
def F.LW_STAT_LAST_MATCH : Fld := { blk := .lehr, off := 0x11C, hi := 10, lo := 10, cnt := 16, stride := 32 }
def F.LW_STAT_LAST_VALID : Fld := { blk := .lehr, off := 0x11C, hi := 11, lo := 11, cnt := 16, stride := 32 }
def F.LW_STAT_VALUE : Fld := { blk := .lehr, off := 0x11C, hi := 31, lo := 16, cnt := 16, stride := 32 }
def F.LOG_0_ENTRY : Fld := { blk := .lehr, off := 0x300, hi := 3, lo := 0, cnt := 16, stride := 16 }
def F.LOG_0_RULE : Fld := { blk := .lehr, off := 0x300, hi := 6, lo := 4, cnt := 16, stride := 16 }
def F.LOG_0_WAKE : Fld := { blk := .lehr, off := 0x300, hi := 7, lo := 7, cnt := 16, stride := 16 }
def F.LOG_0_ALERT : Fld := { blk := .lehr, off := 0x300, hi := 8, lo := 8, cnt := 16, stride := 16 }
def F.LOG_0_AF : Fld := { blk := .lehr, off := 0x300, hi := 10, lo := 9, cnt := 16, stride := 16 }
def F.LOG_0_VALUE : Fld := { blk := .lehr, off := 0x300, hi := 31, lo := 16, cnt := 16, stride := 16 }
def F.LOG_1_TS : Fld := { blk := .lehr, off := 0x304, hi := 31, lo := 0, cnt := 16, stride := 16 }
def F.LOG_2_TS : Fld := { blk := .lehr, off := 0x308, hi := 15, lo := 0, cnt := 16, stride := 16 }
def F.LOG_3_KHZ : Fld := { blk := .lehr, off := 0x30C, hi := 17, lo := 0, cnt := 16, stride := 16 }

/-- The fields of the block's registers: R351. -/
def fieldsLehr : List Fld :=
  [F.LEHR_CFG_PERIOD, F.LEHR_CFG_QCAL, F.LEHR_CFG_FIRST_NOW, F.LEHR_STAT_RUNNING, F.LEHR_STAT_IN_CYCLE,
   F.LEHR_STAT_ENTRY, F.LEHR_STAT_CYCLES, F.LEHR_ALERT_ASSERTED, F.LEHR_ALERT_ACK, F.LEHR_ALERT_LAST_ENTRY,
   F.LEHR_LOGCTL_HEAD, F.LEHR_LOGCTL_COUNT, F.LEHR_LOGCTL_OVERFLOW, F.LEHR_LOGCTL_CLEAR, F.LEHR_NEXT_LO_AT,
   F.LEHR_NEXT_HI_AT, F.LEHR_LAST_US, F.LW_CFG_EN, F.LW_CFG_MODE, F.LW_CFG_RULE, F.LW_CFG_INPUT, F.LW_CFG_N,
   F.LW_CFG_M, F.LW_CFG_ACT_WAKE]
   ++
  [F.LW_CFG_ACT_ALERT, F.LW_CFG_ACT_LOG, F.LW_CFG_AF_COUNT, F.LW_FREQ_KHZ, F.LW_FREQ_DWELL, F.LW_P0_P0,
   F.LW_P1_P1, F.LW_AF0_KHZ, F.LW_AF1_KHZ, F.LW_AF2_KHZ, F.LW_STAT_HISTORY, F.LW_STAT_AF,
   F.LW_STAT_LAST_MATCH, F.LW_STAT_LAST_VALID, F.LW_STAT_VALUE, F.LOG_0_ENTRY, F.LOG_0_RULE, F.LOG_0_WAKE,
   F.LOG_0_ALERT, F.LOG_0_AF, F.LOG_0_VALUE, F.LOG_1_TS, F.LOG_2_TS, F.LOG_3_KHZ]

/-! ### otp: R381 -/

def F.OTP_ADDR_WORD : Fld := { blk := .otp, off := 0x40, hi := 13, lo := 2, acc := .rw }
def F.OTP_STAT_CORR : Fld := { blk := .otp, off := 0x48, hi := 0, lo := 0 }
def F.OTP_STAT_UNCORR : Fld := { blk := .otp, off := 0x48, hi := 1, lo := 1 }
def F.FG_STAT_COPY : Fld := { blk := .otp, off := 0x4C, hi := 4, lo := 3 }
def F.FG_STAT_STATE : Fld := { blk := .otp, off := 0x4C, hi := 7, lo := 5 }
def F.FG_STAT_REASON : Fld := { blk := .otp, off := 0x4C, hi := 9, lo := 8 }
def F.FG_STAT_ALERT : Fld := { blk := .otp, off := 0x4C, hi := 10, lo := 10 }
def F.FG_STAT_FORMAT : Fld := { blk := .otp, off := 0x4C, hi := 23, lo := 16 }
def F.FG_CMD_STOP : Fld := { blk := .otp, off := 0x50, hi := 0, lo := 0, acc := .wo }
def F.FG_CMD_ACK : Fld := { blk := .otp, off := 0x50, hi := 1, lo := 1, acc := .wo }
def F.FG_CMD_HANDOVER : Fld := { blk := .otp, off := 0x50, hi := 2, lo := 2, acc := .wo }
def F.FG_CMD_KEEP : Fld := { blk := .otp, off := 0x50, hi := 3, lo := 3, acc := .wo }
def F.FG_CMD_SLOT : Fld := { blk := .otp, off := 0x50, hi := 12, lo := 4, acc := .wo }
def F.FG_HO_STAT_RESULT : Fld := { blk := .otp, off := 0x54, hi := 1, lo := 0 }
def F.FG_HO_STAT_ATTEMPTS : Fld := { blk := .otp, off := 0x54, hi := 4, lo := 2 }
def F.FG_HO_STAT_REASON : Fld := { blk := .otp, off := 0x54, hi := 6, lo := 5 }
def F.FG_HO_STAT_DELAY : Fld := { blk := .otp, off := 0x54, hi := 31, lo := 16, m1 := false }
def F.FG_RX_LEVEL : Fld := { blk := .otp, off := 0x58, hi := 15, lo := 0 }
def F.FG_RX_SNR : Fld := { blk := .otp, off := 0x58, hi := 31, lo := 16, reset := 0x8000 }
def F.FG_WATCH_ACTIVE : Fld := { blk := .otp, off := 0x5C, hi := 3, lo := 0, m1 := false }
def F.FG_WATCH_SEEN : Fld := { blk := .otp, off := 0x5C, hi := 7, lo := 4, acc := .w1c, m1 := false }

/-- The fields of the block's registers: R381. -/
def fieldsOtp : List Fld :=
  [F.OTP_ADDR_WORD, F.OTP_STAT_CORR, F.OTP_STAT_UNCORR, F.FG_STAT_COPY, F.FG_STAT_STATE, F.FG_STAT_REASON,
   F.FG_STAT_ALERT, F.FG_STAT_FORMAT, F.FG_CMD_STOP, F.FG_CMD_ACK, F.FG_CMD_HANDOVER, F.FG_CMD_KEEP,
   F.FG_CMD_SLOT, F.FG_HO_STAT_RESULT, F.FG_HO_STAT_ATTEMPTS, F.FG_HO_STAT_REASON, F.FG_HO_STAT_DELAY,
   F.FG_RX_LEVEL, F.FG_RX_SNR, F.FG_WATCH_ACTIVE, F.FG_WATCH_SEEN]

/-! ### host: R409, R387 -/

def F.HOST_NOTE_RING : Fld := { blk := .host, off := 0x44, hi := 5, lo := 0, acc := .rw }
def F.HOST_NOTE_EN : Fld := { blk := .host, off := 0x44, hi := 6, lo := 6, acc := .rw }
def F.HOST_AER_CAUSE : Fld := { blk := .host, off := 0x48, hi := 7, lo := 0 }
def F.HOST_AER_RING : Fld := { blk := .host, off := 0x48, hi := 13, lo := 8 }
def F.HOST_AER_COUNT : Fld := { blk := .host, off := 0x48, hi := 31, lo := 16 }
def F.HOST_BYTES_LO_BYTES : Fld := { blk := .host, off := 0x4C, hi := 31, lo := 0 }
def F.HOST_BYTES_HI_BYTES : Fld := { blk := .host, off := 0x50, hi := 31, lo := 0 }
def F.PAGE_VEC0_VEC : Fld := { blk := .host, off := 0x100, hi := 5, lo := 0, cnt := 64, stride := 4, acc := .rw }
def F.PAGE_VEC0_EN : Fld := { blk := .host, off := 0x100, hi := 7, lo := 7, cnt := 64, stride := 4, acc := .rw }
def F.PAGE_VEC1_VEC : Fld := { blk := .host, off := 0x100, hi := 13, lo := 8, cnt := 64, stride := 4, acc := .rw }
def F.PAGE_VEC1_EN : Fld := { blk := .host, off := 0x100, hi := 15, lo := 15, cnt := 64, stride := 4, acc := .rw }
def F.PAGE_VEC2_VEC : Fld := { blk := .host, off := 0x100, hi := 21, lo := 16, cnt := 64, stride := 4, acc := .rw }
def F.PAGE_VEC2_EN : Fld := { blk := .host, off := 0x100, hi := 23, lo := 23, cnt := 64, stride := 4, acc := .rw }
def F.PAGE_VEC3_VEC : Fld := { blk := .host, off := 0x100, hi := 29, lo := 24, cnt := 64, stride := 4, acc := .rw }
def F.PAGE_VEC3_EN : Fld := { blk := .host, off := 0x100, hi := 31, lo := 31, cnt := 64, stride := 4, acc := .rw }
def F.MSIX_ADDR_LO_ADDR : Fld := { blk := .host, off := 0x800, hi := 31, lo := 2, cnt := 64, stride := 16, acc := .rw }
def F.MSIX_ADDR_HI_ADDR : Fld := { blk := .host, off := 0x804, hi := 31, lo := 0, cnt := 64, stride := 16, acc := .rw }
def F.MSIX_DATA_DATA : Fld := { blk := .host, off := 0x808, hi := 31, lo := 0, cnt := 64, stride := 16, acc := .rw }
def F.MSIX_CTRL_MASK : Fld := { blk := .host, off := 0x80C, hi := 0, lo := 0, cnt := 64, stride := 16, acc := .rw, reset := 0x1 }
def F.PBA_PEND : Fld := { blk := .host, off := 0xC00, hi := 31, lo := 0, cnt := 2, stride := 4 }

/-- The fields of the block's registers: R409, R387. -/
def fieldsHost : List Fld :=
  [F.HOST_NOTE_RING, F.HOST_NOTE_EN, F.HOST_AER_CAUSE, F.HOST_AER_RING, F.HOST_AER_COUNT,
   F.HOST_BYTES_LO_BYTES, F.HOST_BYTES_HI_BYTES, F.PAGE_VEC0_VEC, F.PAGE_VEC0_EN, F.PAGE_VEC1_VEC,
   F.PAGE_VEC1_EN, F.PAGE_VEC2_VEC, F.PAGE_VEC2_EN, F.PAGE_VEC3_VEC, F.PAGE_VEC3_EN, F.MSIX_ADDR_LO_ADDR,
   F.MSIX_ADDR_HI_ADDR, F.MSIX_DATA_DATA, F.MSIX_CTRL_MASK, F.PBA_PEND]

/-! ### ring: R411 -/

def F.RING_CFG_DIR : Fld := { blk := .ring, off := 0x40, hi := 0, lo := 0, acc := .rw }
def F.RING_CFG_CLASS : Fld := { blk := .ring, off := 0x40, hi := 2, lo := 1, acc := .rw, reset := 0x2 }
def F.RING_CFG_CRC : Fld := { blk := .ring, off := 0x40, hi := 3, lo := 3, acc := .rw }
def F.RING_CFG_DESC_VER : Fld := { blk := .ring, off := 0x40, hi := 5, lo := 4, acc := .rw, reset := 0x1, lim := [(1, 2)], m1 := false }
def F.RING_CFG_REC_VER : Fld := { blk := .ring, off := 0x40, hi := 7, lo := 6, acc := .rw, reset := 0x1, lim := [(1, 2)], m1 := false }
def F.RING_CFG_POTS : Fld := { blk := .ring, off := 0x40, hi := 14, lo := 8, acc := .rw, reset := 0x4, lim := [(1, 64)] }
def F.RING_SIZE_ENTRIES : Fld := { blk := .ring, off := 0x44, hi := 16, lo := 0, acc := .rw, reset := 0x100, lim := [(8, 8), (16, 16), (32, 32), (64, 64), (128, 128), (256, 256), (512, 512), (1024, 1024), (2048, 2048), (4096, 4096), (8192, 8192), (16384, 16384), (32768, 32768), (65536, 65536)] }
def F.RING_BASE_LO_ADDR : Fld := { blk := .ring, off := 0x48, hi := 31, lo := 0, acc := .rw }
def F.RING_BASE_HI_ADDR : Fld := { blk := .ring, off := 0x4C, hi := 31, lo := 0, acc := .rw }
def F.RING_TAIL_TAIL : Fld := { blk := .ring, off := 0x50, hi := 15, lo := 0, acc := .rw }
def F.RING_HEAD_HEAD : Fld := { blk := .ring, off := 0x54, hi := 15, lo := 0 }
def F.RING_FLUSH_FLUSH_US : Fld := { blk := .ring, off := 0x58, hi := 15, lo := 0, acc := .rw, reset := 0x3E8 }
def F.RING_IRQ_VEC : Fld := { blk := .ring, off := 0x5C, hi := 5, lo := 0, acc := .rw }
def F.RING_IRQ_EN : Fld := { blk := .ring, off := 0x5C, hi := 6, lo := 6, acc := .rw }
def F.RING_IRQ_COAL_CNT : Fld := { blk := .ring, off := 0x5C, hi := 15, lo := 8, acc := .rw, reset := 0x1, lim := [(1, 255)] }
def F.RING_IRQ_COAL_US : Fld := { blk := .ring, off := 0x5C, hi := 31, lo := 16, acc := .rw }
def F.RING_STAT_STATE : Fld := { blk := .ring, off := 0x60, hi := 2, lo := 0 }
def F.RING_STAT_HALT_REASON : Fld := { blk := .ring, off := 0x60, hi := 6, lo := 4 }
def F.RING_STAT_GAP_PEND : Fld := { blk := .ring, off := 0x60, hi := 14, lo := 8, m1 := false }
def F.RING_FILL_BYTES : Fld := { blk := .ring, off := 0x64, hi := 22, lo := 0 }
def F.RING_HWM_BYTES : Fld := { blk := .ring, off := 0x68, hi := 22, lo := 0, acc := .w1a, m1 := false }
def F.RING_CULL_REC_COUNT : Fld := { blk := .ring, off := 0x6C, hi := 31, lo := 0, acc := .w1a }
def F.RING_CULL_BYTES_COUNT : Fld := { blk := .ring, off := 0x70, hi := 31, lo := 0, acc := .w1a }
def F.RING_SEQ_SEQ : Fld := { blk := .ring, off := 0x74, hi := 31, lo := 0, m1 := false }
def F.RING_DONE_COUNT : Fld := { blk := .ring, off := 0x78, hi := 31, lo := 0 }
def F.RING_BYTES_LO_BYTES : Fld := { blk := .ring, off := 0x7C, hi := 31, lo := 0 }
def F.RING_BYTES_HI_BYTES : Fld := { blk := .ring, off := 0x80, hi := 31, lo := 0 }
def F.RING_CMD_FLUSH : Fld := { blk := .ring, off := 0x84, hi := 0, lo := 0, acc := .wo }
def F.RING_CMD_RESTART : Fld := { blk := .ring, off := 0x84, hi := 1, lo := 1, acc := .wo }
def F.RING_CMD_EXP_EPOCH : Fld := { blk := .ring, off := 0x84, hi := 31, lo := 24, acc := .wo }
def F.RING_HALT_INDEX : Fld := { blk := .ring, off := 0x88, hi := 15, lo := 0 }

/-- The fields of the block's registers: R411. -/
def fieldsRing : List Fld :=
  [F.RING_CFG_DIR, F.RING_CFG_CLASS, F.RING_CFG_CRC, F.RING_CFG_DESC_VER, F.RING_CFG_REC_VER,
   F.RING_CFG_POTS, F.RING_SIZE_ENTRIES, F.RING_BASE_LO_ADDR, F.RING_BASE_HI_ADDR, F.RING_TAIL_TAIL,
   F.RING_HEAD_HEAD, F.RING_FLUSH_FLUSH_US, F.RING_IRQ_VEC, F.RING_IRQ_EN, F.RING_IRQ_COAL_CNT,
   F.RING_IRQ_COAL_US, F.RING_STAT_STATE, F.RING_STAT_HALT_REASON, F.RING_STAT_GAP_PEND, F.RING_FILL_BYTES,
   F.RING_HWM_BYTES, F.RING_CULL_REC_COUNT, F.RING_CULL_BYTES_COUNT, F.RING_SEQ_SEQ]
   ++
  [F.RING_DONE_COUNT, F.RING_BYTES_LO_BYTES, F.RING_BYTES_HI_BYTES, F.RING_CMD_FLUSH, F.RING_CMD_RESTART,
   F.RING_CMD_EXP_EPOCH, F.RING_HALT_INDEX]

/-! ### xlat: R438 -/

def F.XLAT_CFG_MODE : Fld := { blk := .xlat, off := 0x40, hi := 1, lo := 0, acc := .rw, lim := [(0, 2)] }
def F.XLAT_CFG_PRI_AUTO : Fld := { blk := .xlat, off := 0x40, hi := 2, lo := 2, acc := .rw, reset := 0x1, m1 := false }
def F.XLAT_CFG_PREFETCH : Fld := { blk := .xlat, off := 0x40, hi := 3, lo := 3, acc := .rw, reset := 0x1, m1 := false }
def F.XLAT_ROOT_LO_ADDR : Fld := { blk := .xlat, off := 0x44, hi := 31, lo := 0, acc := .rw }
def F.XLAT_ROOT_HI_ADDR : Fld := { blk := .xlat, off := 0x48, hi := 19, lo := 0, acc := .rw }
def F.XLAT_INV_ALL : Fld := { blk := .xlat, off := 0x4C, hi := 0, lo := 0, acc := .wo }
def F.XLAT_INV_PAGE : Fld := { blk := .xlat, off := 0x4C, hi := 1, lo := 1, acc := .wo }
def F.XLAT_INV_BUSY : Fld := { blk := .xlat, off := 0x4C, hi := 2, lo := 2 }
def F.XLAT_INV_ADDR_LO_ADDR : Fld := { blk := .xlat, off := 0x50, hi := 31, lo := 12, acc := .rw }
def F.XLAT_INV_ADDR_HI_ADDR : Fld := { blk := .xlat, off := 0x54, hi := 15, lo := 0, acc := .rw }
def F.XLAT_STAT_PRI_STOPPED : Fld := { blk := .xlat, off := 0x58, hi := 2, lo := 2 }
def F.XLAT_STAT_WALKING : Fld := { blk := .xlat, off := 0x58, hi := 3, lo := 3 }
def F.XLAT_STAT_CACHED : Fld := { blk := .xlat, off := 0x58, hi := 27, lo := 16 }
def F.XLAT_PRQ_OUTSTANDING : Fld := { blk := .xlat, off := 0x5C, hi := 6, lo := 0, m1 := false }
def F.XLAT_HITS_COUNT : Fld := { blk := .xlat, off := 0x60, hi := 31, lo := 0, acc := .w1a, m1 := false }
def F.XLAT_MISSES_COUNT : Fld := { blk := .xlat, off := 0x64, hi := 31, lo := 0, acc := .w1a, m1 := false }
def F.XLAT_WALKS_COUNT : Fld := { blk := .xlat, off := 0x68, hi := 31, lo := 0, acc := .w1a, m1 := false }

/-- The fields of the block's registers: R438. -/
def fieldsXlat : List Fld :=
  [F.XLAT_CFG_MODE, F.XLAT_CFG_PRI_AUTO, F.XLAT_CFG_PREFETCH, F.XLAT_ROOT_LO_ADDR, F.XLAT_ROOT_HI_ADDR,
   F.XLAT_INV_ALL, F.XLAT_INV_PAGE, F.XLAT_INV_BUSY, F.XLAT_INV_ADDR_LO_ADDR, F.XLAT_INV_ADDR_HI_ADDR,
   F.XLAT_STAT_PRI_STOPPED, F.XLAT_STAT_WALKING, F.XLAT_STAT_CACHED, F.XLAT_PRQ_OUTSTANDING,
   F.XLAT_HITS_COUNT, F.XLAT_MISSES_COUNT, F.XLAT_WALKS_COUNT]

/-! ### fault: R441 -/

def F.FAULT_LOG_HEAD : Fld := { blk := .fault, off := 0x40, hi := 7, lo := 0, acc := .rw }
def F.FAULT_LOG_TAIL : Fld := { blk := .fault, off := 0x40, hi := 15, lo := 8 }
def F.FAULT_LOG_COUNT : Fld := { blk := .fault, off := 0x40, hi := 24, lo := 16 }
def F.FAULT_OVERFLOW_COUNT : Fld := { blk := .fault, off := 0x44, hi := 31, lo := 0, acc := .w1a }
def F.FAULT_SEL_INDEX : Fld := { blk := .fault, off := 0x48, hi := 7, lo := 0, acc := .rw }
def F.FAULT_RESUME_RING : Fld := { blk := .fault, off := 0x6C, hi := 5, lo := 0, acc := .wo }
def F.FAULT_RESUME_ACTION : Fld := { blk := .fault, off := 0x6C, hi := 9, lo := 8, acc := .wo }
def F.FAULT_RESUME_EXP_EPOCH : Fld := { blk := .fault, off := 0x6C, hi := 31, lo := 24, acc := .wo }

/-- The fields of the block's registers: R441. -/
def fieldsFault : List Fld :=
  [F.FAULT_LOG_HEAD, F.FAULT_LOG_TAIL, F.FAULT_LOG_COUNT, F.FAULT_OVERFLOW_COUNT, F.FAULT_SEL_INDEX,
   F.FAULT_RESUME_RING, F.FAULT_RESUME_ACTION, F.FAULT_RESUME_EXP_EPOCH]

/-! ### function: R443 -/

def F.FUNC_STAT_FLR_BUSY : Fld := { blk := .function, off := 0x40, hi := 3, lo := 0 }
def F.FUNC_POTS_QUOTA : Fld := { blk := .function, off := 0x50, hi := 10, lo := 0, cnt := 4, stride := 4, acc := .rw }
def F.FUNC_CEIL_CU : Fld := { blk := .function, off := 0x60, hi := 15, lo := 0, cnt := 4, stride := 4, acc := .rw, reset := 0xA200, lim := [(0, 41472)], m1 := false }
def F.FUNC_CEIL_DEC : Fld := { blk := .function, off := 0x60, hi := 22, lo := 16, cnt := 4, stride := 4, acc := .rw, reset := 0x60, lim := [(0, 96)], m1 := false }
def F.OWN_RING_OWNER : Fld := { blk := .function, off := 0x80, hi := 31, lo := 0, cnt := 4, stride := 4, acc := .rw }
def F.OWN_PORT_OWNER : Fld := { blk := .function, off := 0x90, hi := 15, lo := 0, acc := .rw }
def F.OWN_CTX_OWNER : Fld := { blk := .function, off := 0x94, hi := 31, lo := 0, cnt := 5, stride := 4, acc := .rw }
def F.OWN_SLOT_OWNER : Fld := { blk := .function, off := 0x100, hi := 31, lo := 0, cnt := 32, stride := 4, acc := .rw }
def F.OWN_TAP_OWNER : Fld := { blk := .function, off := 0x200, hi := 31, lo := 0, cnt := 64, stride := 4, acc := .rw }
def F.RESET_SCOPE0_MAIN : Fld := { blk := .function, off := 0x44, hi := 2, lo := 0, acc := .rw }
def F.RESET_SCOPE0_PORTS : Fld := { blk := .function, off := 0x44, hi := 3, lo := 3, acc := .rw, m1 := false }
def F.FLR_COUNT0_COUNT : Fld := { blk := .function, off := 0x4C, hi := 7, lo := 0 }
def F.RESET_SCOPE1_MAIN : Fld := { blk := .function, off := 0x44, hi := 6, lo := 4, acc := .rw }
def F.RESET_SCOPE1_PORTS : Fld := { blk := .function, off := 0x44, hi := 7, lo := 7, acc := .rw, m1 := false }
def F.FLR_COUNT1_COUNT : Fld := { blk := .function, off := 0x4C, hi := 15, lo := 8 }
def F.RESET_SCOPE2_MAIN : Fld := { blk := .function, off := 0x44, hi := 10, lo := 8, acc := .rw }
def F.RESET_SCOPE2_PORTS : Fld := { blk := .function, off := 0x44, hi := 11, lo := 11, acc := .rw, m1 := false }
def F.FLR_COUNT2_COUNT : Fld := { blk := .function, off := 0x4C, hi := 23, lo := 16 }
def F.RESET_SCOPE3_MAIN : Fld := { blk := .function, off := 0x44, hi := 14, lo := 12, acc := .rw }
def F.RESET_SCOPE3_PORTS : Fld := { blk := .function, off := 0x44, hi := 15, lo := 15, acc := .rw, m1 := false }
def F.FLR_COUNT3_COUNT : Fld := { blk := .function, off := 0x4C, hi := 31, lo := 24 }

/-- The fields of the block's registers: R443. -/
def fieldsFunction : List Fld :=
  [F.FUNC_STAT_FLR_BUSY, F.FUNC_POTS_QUOTA, F.FUNC_CEIL_CU, F.FUNC_CEIL_DEC, F.OWN_RING_OWNER,
   F.OWN_PORT_OWNER, F.OWN_CTX_OWNER, F.OWN_SLOT_OWNER, F.OWN_TAP_OWNER, F.RESET_SCOPE0_MAIN,
   F.RESET_SCOPE0_PORTS, F.FLR_COUNT0_COUNT, F.RESET_SCOPE1_MAIN, F.RESET_SCOPE1_PORTS, F.FLR_COUNT1_COUNT,
   F.RESET_SCOPE2_MAIN, F.RESET_SCOPE2_PORTS, F.FLR_COUNT2_COUNT, F.RESET_SCOPE3_MAIN, F.RESET_SCOPE3_PORTS,
   F.FLR_COUNT3_COUNT]

/-! ### ap: R469 -/

def F.AP_CFG_FORMAT : Fld := { blk := .ap, off := 0x40, hi := 2, lo := 0, acc := .rw, lim := [(0, 4)] }
def F.AP_CFG_ROLE : Fld := { blk := .ap, off := 0x40, hi := 3, lo := 3, acc := .rw, reset := 0x1 }
def F.AP_CFG_CLK_SRC : Fld := { blk := .ap, off := 0x40, hi := 4, lo := 4, acc := .rw }
def F.AP_CFG_RATE : Fld := { blk := .ap, off := 0x40, hi := 7, lo := 5, acc := .rw, lim := [(0, 4)] }
def F.AP_CFG_SLOTS : Fld := { blk := .ap, off := 0x40, hi := 13, lo := 8, acc := .rw, reset := 0x2 }
def F.AP_CFG_WIDTH : Fld := { blk := .ap, off := 0x40, hi := 15, lo := 14, acc := .rw, reset := 0x2, lim := [(0, 2)] }
def F.AP_CFG_BCLK_INV : Fld := { blk := .ap, off := 0x40, hi := 16, lo := 16, acc := .rw }
def F.AP_CFG_FS_INV : Fld := { blk := .ap, off := 0x40, hi := 17, lo := 17, acc := .rw }
def F.AP_CFG_ALIGN : Fld := { blk := .ap, off := 0x40, hi := 18, lo := 18, acc := .rw, reset := 0x1, m1 := false }
def F.AP_CFG_MCLK_DIV : Fld := { blk := .ap, off := 0x40, hi := 27, lo := 20, acc := .rw, reset := 0x1, lim := [(1, 255)] }
def F.AP_STAT_STATE : Fld := { blk := .ap, off := 0x44, hi := 2, lo := 0 }
def F.AP_STAT_RATE_VALID : Fld := { blk := .ap, off := 0x44, hi := 3, lo := 3 }
def F.AP_STAT_CLASS : Fld := { blk := .ap, off := 0x44, hi := 7, lo := 4 }
def F.AP_STAT_REF_CLASS : Fld := { blk := .ap, off := 0x44, hi := 11, lo := 8 }
def F.AP_STAT_FG : Fld := { blk := .ap, off := 0x44, hi := 12, lo := 12 }
def F.AP_RATE_RATE : Fld := { blk := .ap, off := 0x48, hi := 21, lo := 0 }
def F.AP_RATE_REF_RATE : Fld := { blk := .ap, off := 0x4C, hi := 21, lo := 0 }
def F.AP_RATE_CFG_TH : Fld := { blk := .ap, off := 0x50, hi := 13, lo := 0, acc := .rw, reset := 0x1F4, lim := [(1, 10000)] }
def F.AP_CMD_RATE_ACK : Fld := { blk := .ap, off := 0x54, hi := 0, lo := 0, acc := .wo }
def F.AP_CMD_EXP_EPOCH : Fld := { blk := .ap, off := 0x54, hi := 31, lo := 24, acc := .wo }
def F.AP_BUF_IN_POTS : Fld := { blk := .ap, off := 0x58, hi := 4, lo := 0, acc := .rw, reset := 0x2, lim := [(1, 16)] }
def F.AP_LAT_LAT : Fld := { blk := .ap, off := 0x5C, hi := 31, lo := 0, reset := 0x5A0000 }
def F.AP_AG_REF_PD : Fld := { blk := .ap, off := 0x60, hi := 31, lo := 0, acc := .rw }
def F.AP_FG_DLY_DELAY : Fld := { blk := .ap, off := 0x64, hi := 23, lo := 0, m1 := false }
def F.AP_FG_DLY_PAIR : Fld := { blk := .ap, off := 0x64, hi := 27, lo := 24, m1 := false }
def F.AP_CULL_UNDER_COUNT : Fld := { blk := .ap, off := 0x80, hi := 31, lo := 0, acc := .w1a }
def F.AP_CULL_LATE_COUNT : Fld := { blk := .ap, off := 0x84, hi := 31, lo := 0, acc := .w1a, m1 := false }
def F.AP_CULL_OVER_COUNT : Fld := { blk := .ap, off := 0x88, hi := 31, lo := 0, acc := .w1a }
def F.AP_CULL_CLK_COUNT : Fld := { blk := .ap, off := 0x8C, hi := 31, lo := 0, acc := .w1a }
def F.AP_SLIPS_COUNT : Fld := { blk := .ap, off := 0x90, hi := 31, lo := 0, acc := .w1a }
def F.AP_PAIR_STAT_UNDER : Fld := { blk := .ap, off := 0x94, hi := 15, lo := 0, m1 := false }
def F.AP_PAIR_STAT_OVER : Fld := { blk := .ap, off := 0x94, hi := 31, lo := 16, m1 := false }
def F.OUT_SRC_KIND : Fld := { blk := .ap, off := 0x100, hi := 2, lo := 0, cnt := 16, stride := 16, acc := .rw }
def F.OUT_SRC_INDEX : Fld := { blk := .ap, off := 0x100, hi := 13, lo := 4, cnt := 16, stride := 16, acc := .rw }
def F.OUT_AG_GROUP : Fld := { blk := .ap, off := 0x104, hi := 5, lo := 0, cnt := 16, stride := 16, acc := .rw }
def F.OUT_AG_MEMBER : Fld := { blk := .ap, off := 0x104, hi := 8, lo := 8, cnt := 16, stride := 16, acc := .rw }
def F.OUT_AG_PART_GROUP : Fld := { blk := .ap, off := 0x104, hi := 21, lo := 16, cnt := 16, stride := 16 }
def F.OUT_AG_PART_MEMBER : Fld := { blk := .ap, off := 0x104, hi := 22, lo := 22, cnt := 16, stride := 16 }
def F.IN_CFG_EN : Fld := { blk := .ap, off := 0x200, hi := 0, lo := 0, cnt := 16, stride := 16, acc := .rw }
def F.IN_CFG_RATE48 : Fld := { blk := .ap, off := 0x200, hi := 1, lo := 1, cnt := 16, stride := 16, acc := .rw, m1 := false }
def F.IN_CFG_PACK : Fld := { blk := .ap, off := 0x200, hi := 3, lo := 2, cnt := 16, stride := 16, acc := .rw, reset := 0x1, lim := [(0, 2)], m1 := false }
def F.IN_CFG_RING : Fld := { blk := .ap, off := 0x200, hi := 9, lo := 4, cnt := 16, stride := 16, acc := .rw }
def F.IN_CFG_BLOCK : Fld := { blk := .ap, off := 0x200, hi := 28, lo := 16, cnt := 16, stride := 16, acc := .rw, reset := 0x1E0, lim := [(48, 4800)] }
def F.IN_AG_GROUP : Fld := { blk := .ap, off := 0x204, hi := 5, lo := 0, cnt := 16, stride := 16, acc := .rw }
def F.IN_AG_MEMBER : Fld := { blk := .ap, off := 0x204, hi := 8, lo := 8, cnt := 16, stride := 16, acc := .rw }
def F.IN_AG_PART_GROUP : Fld := { blk := .ap, off := 0x204, hi := 21, lo := 16, cnt := 16, stride := 16 }
def F.IN_AG_PART_MEMBER : Fld := { blk := .ap, off := 0x204, hi := 22, lo := 22, cnt := 16, stride := 16 }

/-- The fields of the block's registers: R469. -/
def fieldsAp : List Fld :=
  [F.AP_CFG_FORMAT, F.AP_CFG_ROLE, F.AP_CFG_CLK_SRC, F.AP_CFG_RATE, F.AP_CFG_SLOTS, F.AP_CFG_WIDTH,
   F.AP_CFG_BCLK_INV, F.AP_CFG_FS_INV, F.AP_CFG_ALIGN, F.AP_CFG_MCLK_DIV, F.AP_STAT_STATE,
   F.AP_STAT_RATE_VALID, F.AP_STAT_CLASS, F.AP_STAT_REF_CLASS, F.AP_STAT_FG, F.AP_RATE_RATE,
   F.AP_RATE_REF_RATE, F.AP_RATE_CFG_TH, F.AP_CMD_RATE_ACK, F.AP_CMD_EXP_EPOCH, F.AP_BUF_IN_POTS,
   F.AP_LAT_LAT, F.AP_AG_REF_PD, F.AP_FG_DLY_DELAY]
   ++
  [F.AP_FG_DLY_PAIR, F.AP_CULL_UNDER_COUNT, F.AP_CULL_LATE_COUNT, F.AP_CULL_OVER_COUNT,
   F.AP_CULL_CLK_COUNT, F.AP_SLIPS_COUNT, F.AP_PAIR_STAT_UNDER, F.AP_PAIR_STAT_OVER, F.OUT_SRC_KIND,
   F.OUT_SRC_INDEX, F.OUT_AG_GROUP, F.OUT_AG_MEMBER, F.OUT_AG_PART_GROUP, F.OUT_AG_PART_MEMBER, F.IN_CFG_EN,
   F.IN_CFG_RATE48, F.IN_CFG_PACK, F.IN_CFG_RING, F.IN_CFG_BLOCK, F.IN_AG_GROUP, F.IN_AG_MEMBER,
   F.IN_AG_PART_GROUP, F.IN_AG_PART_MEMBER]

/-! ### mgmt: R494 -/

def F.MGMT_CFG_PEC_REQ : Fld := { blk := .mgmt, off := 0x40, hi := 0, lo := 0, acc := .rw, m1 := false }
def F.MGMT_CFG_ATTN_EN : Fld := { blk := .mgmt, off := 0x40, hi := 1, lo := 1, acc := .rw, reset := 0x1 }
def F.MGMT_STAT_LAST_CMD : Fld := { blk := .mgmt, off := 0x44, hi := 15, lo := 8 }
def F.MGMT_STAT_LAST_RESULT : Fld := { blk := .mgmt, off := 0x44, hi := 19, lo := 16 }
def F.MGMT_STAT_BUSY : Fld := { blk := .mgmt, off := 0x44, hi := 20, lo := 20 }
def F.MGMT_STAT_HELD : Fld := { blk := .mgmt, off := 0x44, hi := 21, lo := 21 }
def F.MGMT_STAT_ATTN_ACTIVE : Fld := { blk := .mgmt, off := 0x44, hi := 22, lo := 22 }
def F.MGMT_STAT_DIALECT : Fld := { blk := .mgmt, off := 0x44, hi := 25, lo := 24, reset := 0x1 }
def F.MGMT_ATTN_EN_EN : Fld := { blk := .mgmt, off := 0x48, hi := 11, lo := 0, acc := .rw, reset := 0x137 }
def F.MGMT_ATTN_PEND_PEND : Fld := { blk := .mgmt, off := 0x4C, hi := 11, lo := 0, acc := .w1c }
def F.MGMT_ABORTS_COUNT : Fld := { blk := .mgmt, off := 0x50, hi := 31, lo := 0, acc := .w1a }
def F.MGMT_TIMEOUTS_COUNT : Fld := { blk := .mgmt, off := 0x54, hi := 31, lo := 0, acc := .w1a }
def F.MGMT_PEC_ERRS_COUNT : Fld := { blk := .mgmt, off := 0x58, hi := 31, lo := 0, acc := .w1a }
def F.MGMT_CMDS_COUNT : Fld := { blk := .mgmt, off := 0x5C, hi := 31, lo := 0, acc := .w1a }
def F.MGMT_ATTNS_COUNT : Fld := { blk := .mgmt, off := 0x60, hi := 31, lo := 0, acc := .w1a, m1 := false }

/-- The fields of the block's registers: R494. -/
def fieldsMgmt : List Fld :=
  [F.MGMT_CFG_PEC_REQ, F.MGMT_CFG_ATTN_EN, F.MGMT_STAT_LAST_CMD, F.MGMT_STAT_LAST_RESULT, F.MGMT_STAT_BUSY,
   F.MGMT_STAT_HELD, F.MGMT_STAT_ATTN_ACTIVE, F.MGMT_STAT_DIALECT, F.MGMT_ATTN_EN_EN, F.MGMT_ATTN_PEND_PEND,
   F.MGMT_ABORTS_COUNT, F.MGMT_TIMEOUTS_COUNT, F.MGMT_PEC_ERRS_COUNT, F.MGMT_CMDS_COUNT, F.MGMT_ATTNS_COUNT]

/-! ### health: R516 -/

def F.HLT_TS_TEMP : Fld := { blk := .health, off := 0x40, hi := 15, lo := 0, cnt := 12, stride := 4 }
def F.HLT_TS_VALID : Fld := { blk := .health, off := 0x40, hi := 16, lo := 16, cnt := 12, stride := 4 }
def F.HLT_AGE_SLOW : Fld := { blk := .health, off := 0x74, hi := 15, lo := 0, cnt := 4, stride := 4 }
def F.HLT_AGE_VALID : Fld := { blk := .health, off := 0x74, hi := 16, lo := 16, cnt := 4, stride := 4 }
def F.HLT_AGE_CMD_GO : Fld := { blk := .health, off := 0x84, hi := 0, lo := 0, acc := .wo }
def F.HLT_AGE_CMD_RUNNING : Fld := { blk := .health, off := 0x84, hi := 1, lo := 1 }
def F.HLT_LIFE_EQ_HOURS : Fld := { blk := .health, off := 0x88, hi := 31, lo := 0, m1 := false }
def F.HIST_MINUTES : Fld := { blk := .health, off := 0x100, hi := 31, lo := 0, cnt := 16, stride := 4 }
def F.HIST_BASE_MINUTES : Fld := { blk := .health, off := 0x140, hi := 31, lo := 0, cnt := 16, stride := 4, acc := .rwo, m1 := false }

/-- The fields of the block's registers: R516. -/
def fieldsHealth : List Fld :=
  [F.HLT_TS_TEMP, F.HLT_TS_VALID, F.HLT_AGE_SLOW, F.HLT_AGE_VALID, F.HLT_AGE_CMD_GO, F.HLT_AGE_CMD_RUNNING,
   F.HLT_LIFE_EQ_HOURS, F.HIST_MINUTES, F.HIST_BASE_MINUTES]

/-- The fields of a block. -/
def Blk.fields : Blk → List Fld
  | .global => fieldsGlobal
  | .fe => fieldsFe
  | .cal => fieldsCal
  | .aerial => fieldsAerial
  | .slot => fieldsSlot
  | .bank => fieldsBank
  | .fm => fieldsFm
  | .am => fieldsAm
  | .an => fieldsAn
  | .dab => fieldsDab
  | .drm => fieldsDrm
  | .tap => fieldsTap
  | .auddec => fieldsAuddec
  | .dig => fieldsDig
  | .sidedata => fieldsSidedata
  | .follow => fieldsFollow
  | .metro => fieldsMetro
  | .clock => fieldsClock
  | .dll => fieldsDll
  | .aon => fieldsAon
  | .lehr => fieldsLehr
  | .otp => fieldsOtp
  | .host => fieldsHost
  | .ring => fieldsRing
  | .xlat => fieldsXlat
  | .fault => fieldsFault
  | .function => fieldsFunction
  | .ap => fieldsAp
  | .mgmt => fieldsMgmt
  | .health => fieldsHealth
  | .crucible => []

end Sys2Proof.Machine
end

