-- ==== Sys2Proof/Machine/State.lean ====
section
/-! DEFINITION. The state of the part: plain data. Registers stand in one sparse table (`fields`) keyed by field
(`Fld.key`), a field that is not listed holding its reset value; what the part holds beside its registers stands in the
structures below. Where there are many instances of one thing, a sparse table lists those that are not as after reset. -/

namespace Sys2Proof.Machine

/-- The reasons for which the part stops. There is none: no command of the specification stops it, and what it cannot do it
discards, refuses, logs or ignores and goes on. -/
inductive Fault
deriving DecidableEq, Repr

/-- Why a command has no meaning. -/
inductive Refusal
  /-- Raised by the dispatcher for a row that has no meaning; every row has one, so nothing raises it. Safe. -/
  | notModelled (mnemonic : String)
deriving DecidableEq, Repr

/-- Why a write is not applied; the codes are those of `ACC_LOG.REASON` (R52). -/
inductive Reason | width | owner | locked | stage | dialect | busy | power | stale | range
deriving DecidableEq, Repr

/-- The code of a reason (R52). -/
def Reason.code : Reason → Nat
  | .width => 1 | .owner => 2 | .locked => 3 | .stage => 4 | .dialect => 5 | .busy => 6 | .power => 7
  | .stale => 8 | .range => 9

/-- What the part sends out, in the order sent. -/
inductive Out
  | msix (func vec : Nat) (addr data : Nat)                  -- an MSI-X message (R387)
  | dmaWrite (ring addr : Nat) (data : List Byte)            -- record bytes into host memory (R394, R397)
  | dmaRead (ring addr len : Nat)                            -- a read of host memory by a FROM_HOST ring (R395)
  | walkRead (func addr : Nat)                               -- a read of a table entry (R417)
  | w2Read (addr : Nat) (data : List Byte)                   -- the completion of a read of W2 (R384)
  | descWriteback (ring index used stat first dtime : Nat)   -- bytes 16 to 31 of a descriptor (R391, R392)
  | atsRequest (func addr : Nat)                             -- an ATS Translation Request (R423)
  | pageRequest (func addr : Nat) (write : Bool)             -- a Page Request (R424)
  | invCompletion (func : Nat)                               -- an ATS Invalidate Completion (R422)
  | attention                                                -- an attention signal on the management bus (R486)
  | unsupported (func : Nat)                                 -- a request completed with Unsupported Request (R386)
  | completerAbort (func : Nat)                              -- a request completed with Completer Abort (R384)
deriving DecidableEq, Repr

/-- Who asked for a power transition: the page of R321, or `AON.PD_REQ`. -/
inductive Origin
  | page (p : Nat)
  | pdReq
  | device
deriving DecidableEq, Repr

/-- A domain controller (R322): whether the domain is on, the transition that runs and the one request behind it, each
with who asked. `exempt` says that the next power-on is the first after a device reset or a wake, which increments no
epoch (R323). -/
structure Dom where
  on : Bool := false
  run : Option (Bool × Origin) := none
  pend : Option (Bool × Origin) := none
  exempt : Bool := false
deriving DecidableEq, Repr

/-- What one bank of the crucible holds (R519, R520): its state (0 ON, 1 RETAIN, 2 OFF), the state a requested
transition moves it to, and whether the firmware has cleared it (R374): its bytes that are not listed then read 0. -/
structure CBank where
  state : Nat := 0
  moving : Option Nat := none
  cleared : Bool := false
deriving DecidableEq, Repr

/-- Who holds a pot (R12). -/
inductive PotUser
  | ring (r : Nat) | slotLine (n : Nat) | drm (d : Nat) | tap (t : Nat) | follow (e : Nat) | feed (e : Nat)
  | snap (f : Nat) | port (p : Nat)
deriving DecidableEq, Repr

/-- A pot in use: its user and the function whose quota it counts against (R12, R431). -/
structure Pot where
  func : Nat
  user : PotUser
deriving DecidableEq, Repr

/-- The latches that a read sets for one accessor (R30, R441): the upper register latched and its value, and the entry
words of the fault log. -/
structure Latches where
  upper : List (Nat × Nat) := []
  entry : List Nat := []
deriving DecidableEq, Repr

/-! ### Front-ends (R60 to R110) -/

/-- A probe command as latched at its acceptance (R76), or a tune sweep of port `sweep` (R121). -/
structure Probe where
  tone : Nat := 0
  atten : Nat := 0
  dwell : Nat := 0
  sweep : Option Nat := none
deriving DecidableEq, Repr

/-- A receive burst with its latched settings (R82 to R85): `counting` from the first boundary with real samples,
`starts` the transmission frames that started since. -/
structure Burst where
  after : Nat
  frames : Bool
  drm : Bool
  idx : Nat
  len : Nat
  counting : Bool := false
  starts : Nat := 0
deriving DecidableEq, Repr

/-- What window n holds beside the registers of its page. `step` is the state being entered (R72); `qcal` the quick
calibration that a step into RECEIVE waits for (R73); `probe` the executing and `queued` the waiting probe (R78);
`retuneDue` a retune that starts at the next boundary (R67); `relock` a self relock (R74); `frameFlag` the zero flag of the
bank frame that runs, by its bit in R404, none for real samples; `word` the synthesiser's word, in Hz; `upCount` and `gainNext` the gain control (R87); `calStep` the
calibration step that runs, `calGap` one that interrupts RECEIVE (R107), `cursor` the next step, `winDone` the steps of
the window set measured; `calAt` the device time at which the set was complete; `stopped` since when a relock has kept
the window from delivering frames (R301). -/
structure FeHid where
  step : Option Nat := none
  qcal : Bool := false
  probe : Option Probe := none
  queued : Option Probe := none
  retuneDue : Bool := false
  relock : Bool := false
  frameFlag : Option Nat := some 1
  word : Nat := 0
  burst : Option Burst := none
  upCount : Nat := 0
  gainNext : Option Nat := none
  calStep : Option Nat := none
  calGap : Bool := false
  cursor : Nat := 0
  winDone : List Nat := []
  calAt : Option Nat := none
  stopped : Option Nat := none
deriving DecidableEq, Repr

/-- What a physical front-end holds whatever window it serves (R97, R99, R102): the steps of the hardware set measured,
the device time of its last full calibration, the steps that failed at their last turn, its junction temperature in
0.5 °C. -/
structure HwHid where
  done : List Nat := []
  doneAt : Option Nat := none
  failed : List Nat := []
  temp : Int := 0
deriving DecidableEq, Repr

/-- A rotation handover (R108, R109), one for each kind of spare: the window it serves and the spare's page while it
runs, whether an attempt has passed, whether the freed front-end still runs its full calibration, the window that waits
for it (`due`: `some none` for the period, `some (some n)` for a command), and the window last served. -/
structure Handover where
  run : Option (Nat × Nat) := none
  passed : Bool := false
  fullCal : Bool := false
  due : Option (Option Nat) := none
  last : Nat := 7
deriving DecidableEq, Repr

/-- What an aerial port holds beside its registers: the consecutive samples below OPEN and above SHORT (R125), and
whether NOISE_DROP has been raised since the floor was last near REF (R126). -/
structure PortHid where
  low : Nat := 0
  high : Nat := 0
  dropped : Bool := false
deriving DecidableEq, Repr

/-- What a tuner holds beside `AER_TUN_n` (R119): the setting in force, the word `AER_TUN_n` has and the setting in
force wait to agree at a boundary, and the setting before a sweep. -/
structure TunHid where
  act : Nat := 0
  saved : Nat := 0
  waiting : Bool := false
  sweeping : Option Nat := none
deriving DecidableEq, Repr

/-! ### Slots, alignment groups, banks (R129 to R168) -/

/-- A slot configuration as applied by an accepted commit (R159). -/
structure Bind where
  window : Nat
  subband : Nat
  word : Nat
  kind : Nat
  ctx : Nat
  iqRate : Nat
  profile : Nat
  ring : Nat
  iqFmt : Nat
  iqBlock : Nat
  div : Bool
deriving DecidableEq, Repr

/-- What a slot holds beside its registers: the applied configuration; a start or a stop that waits for the next bank
frame boundary (R161); the target of its delay, a step that waits, and where and when a slew began, in
1/1,024 sample and device time (R141); whether its ring is detached (R435); the
states of its detectors (R149 to R152); the gain events it has reported (R88); the ticks of zeros not yet counted as a
whole output sample; the spans in the slot, oldest first, each with the device time by which it has left, its ticks and
whether it is zeros; whether the last span that left was (R130, R144). -/
structure SlotHid where
  applied : Option Bind := none
  startDue : Bool := false
  stopDue : Bool := false
  target : Nat := 0
  stepNow : Bool := false
  slewFrom : Nat := 0
  slewAt : Nat := 0
  detached : Bool := false
  pkHold : Nat := 0
  pkReset : Bool := false
  rmsReset : Bool := false
  envReset : Bool := false
  rmsY : Nat := 0
  gainSeen : Nat := 0
  zeroAcc : Nat := 0
  line : List (Nat × Nat × Bool) := []
  zeroOut : Bool := true
deriving DecidableEq, Repr

/-- A member of an alignment group (R15, R19): a slot, or an output or input pair of a port. -/
inductive Member
  | slot (n : Nat)
  | out (p k : Nat)
  | inp (p k : Nat)
deriving DecidableEq, Repr

/-- What holds an alignment group beside its members (R16). -/
inductive GrpUser
  | pair (f : Nat) | follow (e : Nat) | feed (e : Nat)
deriving DecidableEq, Repr

/-- An alignment group: the reference latency of its slots and the port delay of its port members, in 1/16 tick, who of the
part holds it, and its members (R145, R146, R460). -/
structure Grp where
  ref : Nat := 0
  pd : Nat := 0
  holder : Option GrpUser := none
  members : List Member := []
deriving DecidableEq, Repr

/-- A FIR profile as loaded (R138): taps, edge in 1/1,024 of the output rate, the stored coefficients. -/
structure Profile where
  taps : Nat
  edge : Nat
  coefs : List Int
deriving DecidableEq, Repr

/-- A snapshot as latched at GO (R156 to R158). -/
structure Snap where
  fine : Bool
  order : Nat
  first : Nat
  last : Nat
  avg : Nat
  ring : Nat
deriving DecidableEq, Repr

/-! ### Analogue lanes (R169 to R201) -/

/-- What an analogue lane holds beside its registers: the consecutive blocks that speak for and against the pilot (R174);
the blend factor b (R176); the valid RDS blocks found in the search, by offset and bits since (R182); the offset expected
of the next block while synchronised (0 A to 3 D, 4 E); which of the last 50 blocks were uncorrectable, newest first; the
blocks of the group so far, by offset, word and status; the last A or C′ word with status 0 or 1 (R184); whether BLER is
counted and the correctable blocks of its window (R185); the consecutive AMSS groups that failed (R191). -/
structure LaneHid where
  pilotUp : Nat := 0
  pilotDn : Nat := 0
  blend : Rat := 0
  rdsSeen : List (Nat × Nat) := []
  rdsNext : Option Nat := none
  rdsLast : List Bool := []
  group : List (Nat × Nat × Nat) := []
  piLast : Option Nat := none
  blerOn : Bool := false
  blerGood : Nat := 0
  amssBad : Nat := 0
deriving DecidableEq, Repr
/-! ### Contexts, taps, side data (R202 to R252) -/

/-- What a context holds beside its registers: in SEARCH, whether a frame has been found (R207); the state before COAST and
the frames missed in a row (R208); the mode last detected; that it keeps the configuration of an earlier MULTIPLEX
(R221); Al of the last FIG 0/0; the subchannels that FIG 0/2 names, its services, the payloads; the same of the next
configuration; the streams of DRM; the frames and superframes counted, and for the records the FIGs lately delivered with
their instants, newest first, and the last SDC block (R244); the services of the last FAC; the device
time of the last frame with a diversity decision (R118). -/
structure CtxHid where
  found : Bool := false
  prev : Nat := 0
  missed : Nat := 0
  modeSeen : Nat := 0
  kept : Bool := false
  al : Bool := false
  named : List Nat := []
  sids : List (Nat × Nat) := []
  pay : List (Nat × Nat) := []
  nextSubs : List SubOrg := []
  nextSids : List (Nat × Nat) := []
  nextPay : List (Nat × Nat) := []
  streams : List StreamOrg := []
  nextStreams : Option (List StreamOrg) := none
  frames : Nat := 0
  superframes : Nat := 0
  figs : List (List Byte × Nat) := []
  sdcLast : Option (List Byte) := none
  facIds : List Nat := []
  divTime : Nat := 0
deriving DecidableEq, Repr

/-- A tap configuration as applied by an accepted commit (R220). -/
structure TapCfg where
  drm : Bool
  ctx : Nat
  sub : Nat
  au : Bool
  pcm : Bool
  pad : Bool
  rate48 : Bool
  pack : Nat
  ring : Nat
deriving DecidableEq, Repr

/-- A dynamic label message that is being put together: toggle, the number expected next, character set, text. -/
structure Label where
  toggle : Bool
  num : Nat
  charset : Nat
  text : List Byte
deriving DecidableEq, Repr

/-- What a tap holds beside its registers: the applied configuration; its Viterbi charge in kbit/s; the units since its
enable, and of the last 2 s how many and how many failed (R260); whether its PCM has started, whether the last frame was
all zeros, and the failed units in a row (R227, R228); superframe synchronisation (R214); the end of what it last
delivered, and the gaps to be reported with their start and REASON (R17, R228, R229); detached (R435); labels (R245). -/
structure TapHid where
  applied : Option TapCfg := none
  vit : Nat := 0
  auIndex : Nat := 0
  pcmOn : Bool := false
  zeros : Bool := false
  bad : Nat := 0
  sync : Bool := false
  syncBad : Nat := 0
  lastOut : Option Nat := none
  gaps : List (Nat × Nat) := []
  detached : Bool := false
  label : Option Label := none
  shown : Option (Bool × List Byte) := none
deriving DecidableEq, Repr

/-! ### The follower (R253 to R264) -/

/-- Pool resources that a candidate holds (R255): a slot, and for a digital candidate a context and a tap. -/
structure PoolUse where
  slot : Nat
  ctx : Option Ctx
  tap : Option Nat
deriving DecidableEq, Repr

/-- A candidate of a follower entry (R253 to R260): what `CAND_ID`, `CAND_FREQ` and `CAND_RES` show, its identifier, the epoch
of its resource when it was found, the pool resources held, the coarse lag in ms, the lag in 1/16 sample, the attempt that
is awaited (1 coarse, 2 fine) with the fine attempts failed in a row, its last scores, newest first, in 0.01, and whether
its line could not obtain its pots. -/
structure Cand where
  band : Nat
  origin : Nat
  khz : Nat
  id : Ident
  res : Nat := 3
  idx : Nat := 0
  epoch : Nat := 0
  held : Option PoolUse := none
  align : Nat := 0
  coarse : Int := 0
  lag : Int := 0
  attempt : Nat := 0
  fails : Nat := 0
  scores : List Nat := []
  noPots : Bool := false
deriving DecidableEq, Repr

/-- What a follower entry holds beside its registers: `FOL_STAT`, the candidates by index, hard links read; the
presentation delay in 1/1,024 sample at device time `since` and where it grows to (R258); the candidate of the incoming
line and the pots of both lines (R259); since when Q of the current candidate is 0, since when the hold runs, the last
switch, the switch decided (R261); the loudness gain in 0.01 dB at `gSince`; whether it holds the scout (R263). -/
structure FolHid where
  state : Nat := 0
  owner : Nat := 0
  cur : Nat := 0
  cands : Tbl (Option Cand) := []
  links : List (Ident × Ident) := []
  group : Nat := 0
  p : Nat := 0
  since : Nat := 0
  target : Nat := 0
  lineIn : Option Nat := none
  potsCur : Nat := 0
  potsIn : Nat := 0
  zeroSince : Option Nat := none
  holdSince : Option Nat := none
  lastSwitch : Nat := 0
  next : Option Nat := none
  g : Int := 0
  gSince : Nat := 0
  scout : Bool := false
deriving DecidableEq, Repr

/-! ### Metrology (R269 to R290) -/

/-- A result of one measurement (R269): its two values as its registers hold them, its flags, and its window end time. -/
structure MetRes where
  a : Nat
  b : Nat
  flags : Nat
  time : Nat
deriving DecidableEq, Repr

/-- The results of a slot: field strength (`MET_FS`, `MET_FS_K`), deviation (`MET_DEV`, `MET_DEV_OVER`), MPX power (`MET_MPX`),
injection (`MET_INJ`), AM depth (`MET_AM_PK`, `MET_AM_RMS`). -/
structure MetHid where
  fs : Option MetRes := none
  dev : Option MetRes := none
  mpx : Option MetRes := none
  inj : Option MetRes := none
  am : Option MetRes := none
deriving DecidableEq, Repr

/-- The reference self-check in PD_0 (R275 to R277): AGE, UNVERIFIED, the accumulated trim in 0.001 dB, whether the check at
the first entry to stage 3 and one that fell due while none could run are still to be made. -/
structure RefHid where
  age : Nat := 65535
  unverified : Bool := true
  trim : Int := 0
  first : Bool := true
  due : Bool := false
deriving DecidableEq, Repr

/-- The PPS latch (R283, R284): the last accepted edge, and whether PPS_MISSING has been raised since. -/
structure PpsHid where
  last : Option Nat := none
  missed : Bool := false
deriving DecidableEq, Repr

/-- What a feed comparison holds beside its registers (R285 to R289): the port and pair joined, the source with its epoch and
that of the port, the attempt awaited (1 coarse, 2 fine), coarse and fine failures in a row, the coarse lag in ms, the
runs in seconds for and against each alarm, the invalid and valid spans of the feed, and the last window's end. -/
structure FcHid where
  port : Nat := 0
  pair : Nat := 0
  tap : Bool := false
  src : Nat := 0
  srcEpoch : Nat := 0
  portEpoch : Nat := 0
  attempt : Nat := 0
  coarseFails : Nat := 0
  fineFails : Nat := 0
  coarse : Int := 0
  silRun : Nat := 0
  silGood : Nat := 0
  misRun : Nat := 0
  misGood : Nat := 0
  window : Nat := 0
deriving DecidableEq, Repr

/-! ### The system PLL (R297 to R303) -/

/-- What the clock generator holds beside its registers: the relock that runs, by the device time of its start, the
reference it acquires, the windows that fitted in a row and whether counter lock is declared (R298, R300); the references
whose loss raised REF_LOST (R302); when holdover and when a slew of line 8 began (R302, R312); whether device time waits
for the CK_AON edge after a lock (R26). -/
structure ClkHid where
  relock : Option Nat := none
  target : Nat := 0
  good : Nat := 0
  counted : Bool := false
  returns : List Nat := []
  holdAt : Nat := 0
  slewAt : Nat := 0
  resume : Bool := false
deriving DecidableEq, Repr

/-! ### Power, wake, the lehr sequencer (R321 to R347) -/

/-- A wake in preparation (R333): the sources that fired in the first CK_AON cycle, bit c − 1 for code c, the AON timer
then, the watch entry. -/
structure WakeHid where
  srcs : Nat := 0
  when_ : Nat := 0
  entry : Nat := 0
deriving DecidableEq, Repr

/-- What punty hold keeps (R336, R337): which of the registers that make up LOADED have been written since the domain
powered up (ports 0 to 7; 8 `AON_GPIO`; 9 to 11 `AER_TUN_n`; 12 `AER_BIAS`; 13 `SYNC_CFG`; 14 `LKA_SEL`), and for each held
group the state its pads are kept in. -/
structure PuntyHid where
  written : List Nat := []
  pads : Tbl Nat := []
deriving DecidableEq, Repr

/-- The settings of a watch entry as a dwell uses them (R347): the frequencies are the primary and the alternatives in
use. -/
structure Watch where
  mode : Nat
  rule : Nat
  input : Nat
  n : Nat
  m : Nat
  wake : Bool
  alert : Bool
  log : Bool
  freqs : List Nat
  p0 : Nat
  p1 : Nat
deriving DecidableEq, Repr

/-- A dwell: the entry, its settings, the frequency tried (0 primary, 1 to 3 alternatives) and those still to be tried,
and for TONE the ms of consecutive blocks that hold the tone. -/
structure Dwell where
  entry : Nat
  set : Watch
  af : Nat
  rest : List Nat
  tone : Nat := 0
deriving DecidableEq, Repr

/-- The lehr sequencer: the AON timer at the start of the cycle, the dwell that runs, a cycle that waits for a serve visit
to end. -/
structure LehrHid where
  start : Nat := 0
  dwell : Option Dwell := none
  due : Bool := false
deriving DecidableEq, Repr

/-! ### Start-up, first gather, OTP (R354 to R379) -/

/-- A preset as first gather uses it (R363). A watch entry is its rule, CONFIRM, END_MS, P0 and P1, in force if its rule is
not 0 and WATCH_EN is 1. -/
structure Preset where
  audio : Bool
  follow : Bool
  mode : Nat
  input : Nat
  khz : Nat
  profile : Nat
  anOpt : Nat
  amBw : Nat
  gain : Nat
  level : Int
  apFmt : Nat
  apSlot : Nat
  bclk : Nat
  tuner : Nat
  rules : List (Nat × Nat × Nat × Nat × Nat)
deriving DecidableEq, Repr

/-- A watch entry of first gather: the consecutive matches, the device time of the last, and for TONE the ms of
consecutive blocks that hold the tone (R366). -/
structure FgWatch where
  hits : Nat := 0
  last : Nat := 0
  tone : Nat := 0
deriving DecidableEq, Repr

/-- A handover (R376): the slot with its epoch, KEEP, the delay d in 1/1,024 sample at 48 kS/s, whether the crossfade has
started, and whether a STOP waits for its end. -/
structure Ho where
  slot : Nat
  epoch : Nat
  keep : Bool
  d : Int
  cross : Bool := false
  stop : Bool := false
deriving DecidableEq, Repr

/-- First gather: the preset in use, its watch entries, the handover that runs. -/
structure FgHid where
  preset : Option Preset := none
  watch : Tbl FgWatch := []
  ho : Option Ho := none
deriving DecidableEq, Repr

/-- Start-up: whether a cause of R356 persists, or PWR_GOOD has not yet risen; whether PWR_GOOD has been high since PD_0
powered up; the straps as latched (R357, R472); whether the condition of stage 1 is met (R358); the flash images that
have been tried since the boot ROM started (R372); the image in control memory, by SOURCE, FW_VER and SEQ. -/
structure StartHid where
  holding : Bool := true
  pwrHigh : Bool := false
  strap : Nat := 0
  ma : Nat := 0
  ready1 : Bool := false
  tried : List Nat := []
  image : Option (Nat × Nat × Nat) := none
deriving DecidableEq, Repr

/-! ### The link and the rings (R383 to R400) -/

/-- The link: up, speed (1 2.5, 2 5, 3 8, 4 16 GT/s), lanes, and whether `PERST_N` is asserted (R361, R385). -/
structure Link where
  up : Bool := false
  speed : Nat := 0
  lanes : Nat := 0
  perst : Bool := true
deriving DecidableEq, Repr

/-- The configuration space of a function, as far as it acts on the part (R383, R386): Bus Master Enable, Memory Space
Enable, D3hot, MSI-X Enable and Function Mask, ATS Enable, PRI Enable, and the codes of Max_Payload_Size and
Max_Read_Request_Size. -/
structure Cfg where
  bme : Bool := false
  mse : Bool := false
  d3 : Bool := false
  msixEn : Bool := false
  msixMask : Bool := false
  ats : Bool := false
  pri : Bool := false
  mps : Nat := 0
  mrrs : Nat := 0
deriving DecidableEq, Repr

/-- A record in an elastic buffer: its SEQ, its VERSION, whether it carries a CRC, and its LENGTH (R401). -/
structure Held where
  body : Rec
  seq : Nat
  ver : Nat
  crc : Bool
  len : Nat
deriving DecidableEq, Repr

/-- A source with culled records on a ring (R400): the TIME of the first, how many, their sample periods, and their type
(0 when they differ). -/
structure Culled where
  kind : SrcKind
  source : Nat
  epoch : Nat
  start : Nat
  records : Nat
  samples : Nat
  ofType : Nat
deriving DecidableEq, Repr

/-- A descriptor that the part has fetched (R392). -/
structure Desc where
  index : Nat
  addr : Nat
  len : Nat
  int : Bool
  cookie : Nat
deriving DecidableEq, Repr

/-- The fault that stopped a ring (R425, R426): access, cause, descriptor, byte offset, IO virtual address, whether a page
request awaits its response, and the slot of the fault log that holds the entry. -/
structure RingFault where
  access : Nat
  cause : Nat
  desc : Nat
  off : Nat
  addr : Nat
  asked : Bool := false
  entry : Option Nat := none
deriving DecidableEq, Repr

/-- An overflow episode (R400): the TIME of its first record, its records and their sample periods. -/
structure Overflow where
  start : Nat
  records : Nat
  samples : Nat
deriving DecidableEq, Repr

/-- What a ring holds beside its registers: the elastic buffer, oldest first, with the bytes of its oldest record already
moved; the descriptors fetched from HEAD on. TO_HOST: of the first one, which is in use, the bytes written, the offset of
its first record header, whether it starts inside a record. FROM_HOST: the number of descriptors wholly read ahead of the
one being read, the bytes read of that one, the bytes consumed of the first, the bytes read and not consumed, and whether
reading of the buffer was cut short (R428). Then a flush asked for (R394); the STAT of a completed buffer that waits for
its writeback; whether the ring drains, whether a reset or the end of DRAINING waits for that writeback, whether DMA has
ended (R396, R429); whether the translation of the next access has just been made (R419); the culled sources, the overflow
episode, those that ended and wait for room (R400), whether the ring is culling; the completions counted (R388); the fault. -/
structure RingHid where
  buf : List Held := []
  sent : Nat := 0
  descs : List Desc := []
  used : Nat := 0
  first : Option Nat := none
  contIn : Bool := false
  ahead : Nat := 0
  taken : Nat := 0
  raw : List Byte := []
  cut : Bool := false
  flush : Bool := false
  closing : Option Nat := none
  draining : Bool := false
  ending : Option Bool := none
  still : Bool := false
  fresh : Bool := false
  culls : List Culled := []
  overflow : Option Overflow := none
  overflowDone : List (Overflow × Nat) := []
  culling : Bool := false
  coal : Nat := 0
  fault : Option RingFault := none
deriving DecidableEq, Repr

/-! ### Translation and faults (R413 to R441) -/

/-- An entry of the translation cache (R419): function, first IO virtual address, bytes, first physical address, R and W. -/
structure XEntry where
  func : Nat
  base : Nat
  size : Nat
  phys : Nat
  r : Bool
  w : Bool
deriving DecidableEq, Repr

/-- An entry of a fault log (R440). -/
structure FaultEntry where
  ring : Nat
  access : Nat
  cause : Nat
  state : Nat := 0
  desc : Nat
  off : Nat
  resp : Nat := 0
  addr : Nat
  time : Nat
deriving DecidableEq, Repr

/-! ### The management bus's attention signal (R485 to R488) -/

/-- The series of attention signals: when each pending bit was set, on the AON timer, whether a series runs, whether a
signal is due, and how many it has given. -/
structure AttnHid where
  setAt : List (Nat × Nat) := []
  active : Bool := false
  due : Bool := false
  given : Nat := 0
deriving DecidableEq, Repr

/-! ### Audio ports (R445 to R468) -/

/-- An output pair: the source in use with its epoch (R454), the sample periods buffered from a ring, each with its rate in
1/16 Hz and the 24-bit left and right samples (R456), the part of a stream period not yet consumed, whether it underruns. -/
structure OutHid where
  kind : Nat := 0
  index : Nat := 0
  fifo : List (Nat × Nat × Nat) := []
  acc : Nat := 0
  under : Bool := false
deriving DecidableEq, Repr

/-- An input pair: whether it is detached (R467), the sample periods of the block being built, each with its flags and its
24-bit samples, and the TIME of the first (R458); the finished records that wait for their ring, the periods discarded
since the buffer was full and the time of the first (R459), the zero periods of the clock break that runs, those beyond
1 s, and the time at which those began (R462). -/
structure InHid where
  detached : Bool := false
  block : List (Nat × Nat × Nat) := []
  start : Nat := 0
  done : List Rec := []
  lost : Nat := 0
  lostAt : Nat := 0
  zeros : Nat := 0
  overrun : Nat := 0
  breakAt : Nat := 0
deriving DecidableEq, Repr

/-- A port: frames since it was enabled (R465), whether it stops at the next frame boundary, whether the reference rate is
set, consecutive windows out of and within the limits of R451, whether RATE_CHANGE may be raised, whether a RATE_ACK waits
for the next frame (R462), the delay of R376 in its path, and whether its pairs are detached (R435). -/
structure ApHid where
  frames : Nat := 0
  stopping : Bool := false
  refSet : Bool := false
  bad : Nat := 0
  good : Nat := 0
  told : Bool := false
  ack : Bool := false
  outs : Tbl OutHid := []
  ins : Tbl InHid := []
deriving DecidableEq, Repr

/-! ### The management port (R472 to R492), health (R513 to R515) -/

/-- What the port holds beside its registers: the command that waits for a full wake (R480). A write-form command is held with
its parameter bytes; of a held read nothing is kept but that it waits. -/
structure MgmtHid where
  held : Option (Option (Nat × List Byte)) := none
deriving DecidableEq, Repr

/-- The histogram's seconds short of a minute, and the bases that have been written (R514, R516); the hottest reading in
0.5 °C and its sensor; the seconds of PD_1 towards the next ageing measurement and the next update of `HLT_LIFE` (R515);
whether the warnings of R513 and R515 have been raised. -/
structure HealthHid where
  secs : Tbl Nat := []
  based : List Nat := []
  tmax : Option (Int × Nat) := none
  ageTold : Bool := false
  lifeTold : Bool := false
deriving DecidableEq, Repr

/-! ### The state -/

/-- The device power mode beneath `AON_STAT.DEV_STATE` (R325): IDLE and RUN follow from the domains that are on while the
mode is `awake`. `waking` is a wake that is not complete (R332); a serve visit (R335) leaves the mode as it is. -/
inductive Mode
  | off | reset | awake
  | entering (lehr : Bool)                     -- a request accepted, before the commit point
  | committed (lehr : Bool)                    -- after the commit point, the domains switch off
  | sleep | lehr
  | waking (lehr : Bool)                       -- a wake that is not complete, out of SLEEP or LEHR
deriving DecidableEq, Repr

/-- The whole part. -/
structure State where
  /-- The commands that wait, first in, first out. -/
  pending : List Instr := []
  /-- Every register field, keyed by `Fld.key`; a field not listed holds its reset value. -/
  fields : Tbl Nat := []
  /-- `PAGE_SPEAK.MAJOR` for each accessor and page (R42), by accessor × 256 + page; 0 where not listed. -/
  speak : Tbl Nat := []
  /-- The epochs (R53, R54): increments common to all, and those of each resource by its code. -/
  epochBase : Nat := 0
  epochs : Tbl Nat := []
  /-- The latches of each accessor (R31). -/
  latches : Tbl Latches := []
  /-- Device time (R25). -/
  time : BitVec 64 := 0
  /-- The AON timer, on CK_AON, and the CK_SAMP ticks since its last edge (R26). -/
  aonTime : BitVec 48 := 0
  aonPhase : Nat := 0
  /-- The model's own field: how many free values have been used (`Config.freeWord`). -/
  freeCount : Nat := 0
  /-- The model's own field: what the last read or bus command returned. -/
  resp : List Nat := []
  /-- The model's own field: everything the part has sent out, newest first. -/
  out : List Out := []
  /-- The power mode and the domain controllers (R322, R325), with the requests of a write of `PD_REQ` still to be made. -/
  mode : Mode := .off
  doms : Tbl Dom := []
  pdQueue : List (Accessor × Nat × Bool) := []
  /-- The crucible (R12 to R14, R519): banks, pots in use, and the bytes written, an unlisted byte being undefined. -/
  banks : Tbl CBank := []
  pots : Tbl (Option Pot) := []
  crucible : List Host.Cell := []
  /-- Front-ends, physical front-ends, rotation handovers (0 VHF, 1 LMH), aerial ports, tuners. -/
  fes : Tbl FeHid := []
  hws : Tbl HwHid := []
  hands : Tbl Handover := []
  aerials : Tbl PortHid := []
  tuners : Tbl TunHid := []
  gainLog : List (Nat × Nat × Nat) := []
  /-- Slots, alignment groups, user profiles and the coefficients of their loader, snapshots. -/
  slots : Tbl SlotHid := []
  groups : Tbl Grp := []
  profiles : Tbl (Option Profile) := []
  loader : Tbl Int := []
  snaps : Tbl (Option Snap) := []
  /-- Analogue lanes. -/
  lanes : Tbl LaneHid := []
  /-- Contexts (DAB c at c, DRM d at 48 + d) and taps; the type of the unit that an alarm rule last matched (R249). -/
  ctxs : Tbl CtxHid := []
  taps : Tbl TapHid := []
  ruleType : Tbl Nat := []
  /-- Follower entries. -/
  fols : Tbl FolHid := []
  /-- Metrology results by slot, the self-check, the PPS latch, feed comparisons. -/
  mets : Tbl MetHid := []
  ref : RefHid := {}
  pps : PpsHid := {}
  fcs : Tbl FcHid := []
  /-- The clock generator. -/
  clk : ClkHid := {}
  /-- Wake in preparation, punty hold, the lehr sequencer. -/
  wakeHid : WakeHid := {}
  punty : PuntyHid := {}
  lehr : LehrHid := {}
  /-- Start-up and first gather. -/
  start : StartHid := {}
  fg : FgHid := {}
  /-- The words of the OTP that OTP_WRITE programs, by word address, a word that is not listed being blank (R378), and the
  spare rows in use. -/
  otp : Tbl Nat := []
  otpSpares : Nat := 0
  /-- The link, the configuration space of each function, the rings. -/
  link : Link := {}
  cfgs : Tbl Cfg := []
  rings : Tbl RingHid := []
  /-- The ring that the DMA engine served last in each class, and the ring that the walker served last (R397, R418). -/
  dmaTurn : Tbl Nat := []
  walkTurn : Tbl Nat := []
  /-- The translation cache, and the entries of the fault logs by function × 256 + index (R419, R440). -/
  xcache : List XEntry := []
  faults : Tbl (Option FaultEntry) := []
  attn : AttnHid := {}
  /-- Audio ports. -/
  aps : Tbl ApHid := []
  /-- The management port and the health monitors. -/
  mgmt : MgmtHid := {}
  health : HealthHid := {}
deriving DecidableEq, Repr

/-- The part right after reset: PD_0 has just powered up from OFF (R355). Every register field holds its reset value,
every epoch is 1, device time is 0, only PD_0 is on and the mode is RESET. -/
def State.reset : State := { mode := .reset }

end Sys2Proof.Machine
end

