-- ==== Sys2Proof/Machine/Table.lean ====
section
/-! DEFINITION. The operations of a sparse table: read, write, and its canonical form. -/

namespace Sys2Proof

variable {α : Type}

/-- The value of key `k`, or the default `d`. -/
def Tbl.get (t : Tbl α) (d : α) (k : Nat) : α :=
  match t with
  | [] => d
  | (k', v) :: r => if k' = k then v else Tbl.get r d k

/-- Puts `(k, v)` in front of the first greater key. -/
def Tbl.insert (t : Tbl α) (k : Nat) (v : α) : Tbl α :=
  match t with
  | [] => [(k, v)]
  | (k', v') :: r => if k < k' then (k, v) :: (k', v') :: r else (k', v') :: Tbl.insert r k v

/-- Removes key `k`. -/
def Tbl.erase (t : Tbl α) (k : Nat) : Tbl α := t.filter fun p => !(p.1 == k)

/-- Writes `v` at key `k`; writing the default removes the entry. -/
def Tbl.set [DecidableEq α] (t : Tbl α) (d : α) (k : Nat) (v : α) : Tbl α :=
  if v = d then Tbl.erase t k else Tbl.insert (Tbl.erase t k) k v

/-- Removes every key from `lo` up to, not including, `hi`. -/
def Tbl.dropRange (t : Tbl α) (lo hi : Nat) : Tbl α := t.filter fun p => !(decide (lo ≤ p.1) && decide (p.1 < hi))

/-- The keys are strictly rising. -/
abbrev Tbl.Sorted (t : Tbl α) : Prop := t.Pairwise fun a b => a.1 < b.1

end Sys2Proof
end

