-- ==== Sys2Proof/Machine/Ops.lean ====
section
/-! DEFINITION. The named operations over the state: register fields, the hidden tables, epochs, free values, time,
domains, owners, pots and crucible bytes. Every other file of the machine reads and writes the state through these. -/

namespace Sys2Proof.Machine

/-! ### Numbers -/

/-- Two's complement reading of a field of `w` bits. -/
def sgn (w v : Nat) : Int := if v < 2 ^ (w - 1) then (v : Int) else (v : Int) - 2 ^ w

/-- The bits of an integer in a field of `w` bits, wrapping. -/
def ofInt (w : Nat) (i : Int) : Nat := (i % 2 ^ w).toNat

/-- An integer limited to a range. -/
def clampI (lo hi v : Int) : Int := if v < lo then lo else if hi < v then hi else v

/-- An integer as an unsigned field of `w` bits, saturating at both ends. -/
def satU (w : Nat) (i : Int) : Nat := min i.toNat (2 ^ w - 1)

/-- An integer as a signed field of `w` bits, saturating at both ends. -/
def satS (w : Nat) (i : Int) : Nat := ofInt w (clampI (-(2 ^ (w - 1))) (2 ^ (w - 1) - 1) i)

/-- Bit `b` of a number. -/
def bit (w b : Nat) : Bool := Nat.testBit w b

/-- A flag as a number. -/
def b2n (b : Bool) : Nat := if b then 1 else 0

/-- Clears in `v` the bits that are set in `m`. -/
def clearBits (v m : Nat) : Nat := v - (v &&& m)

/-! ### Register fields -/

/-- The value of a field of element `e` of instance `n`. -/
def State.getE (s : State) (f : Fld) (n e : Nat) : Nat := Tbl.get s.fields (f.resetAt n) (f.key n e)

/-- Sets a field of element `e` of instance `n`, keeping the bits it has room for. -/
def State.putE (s : State) (f : Fld) (n e v : Nat) : State :=
  { s with fields := Tbl.set s.fields (f.resetAt n) (f.key n e) (v % 2 ^ f.width) }

/-- The value of a field of instance `n`. -/
def State.get (s : State) (f : Fld) (n : Nat) : Nat := s.getE f n 0

/-- Sets a field of instance `n`. -/
def State.put (s : State) (f : Fld) (n v : Nat) : State := s.putE f n 0 v

/-- Whether a one-bit field is 1. -/
def State.on (s : State) (f : Fld) (n : Nat) : Bool := s.get f n == 1

/-- Adds to a counter field, saturating at all ones. -/
def State.count (s : State) (f : Fld) (n k : Nat) : State := s.put f n (min (s.get f n + k) (2 ^ f.width - 1))

/-- Adds to a counter field of element `e`, saturating at all ones. -/
def State.countE (s : State) (f : Fld) (n e k : Nat) : State :=
  s.putE f n e (min (s.getE f n e + k) (2 ^ f.width - 1))

/-- Sets several fields of instance `n`. -/
def State.puts (s : State) (n : Nat) : List (Fld × Nat) → State
  | [] => s
  | (f, v) :: r => State.puts (s.put f n v) n r

/-- Returns every register of instance `n` of block `b` to its reset value. -/
def State.resetRegs (s : State) (b : Blk) (n : Nat) : State :=
  { s with fields := Tbl.dropRange s.fields (blockLo b n) (blockLo b (n + 1)) }

/-- Returns the listed fields of instance `n` to their reset values, in every element. -/
def State.resetFlds (s : State) (n : Nat) : List Fld → State
  | [] => s
  | f :: r => State.resetFlds
      ((List.range f.cnt).foldl (fun t e => { t with fields := Tbl.erase t.fields (f.key n e) }) s) n r

/-- Returns the registers of instance `n` of a block to their reset values, but for the fields to keep. -/
def State.resetKeep (s : State) (b : Blk) (n : Nat) (keep : List Fld) : State :=
  keep.foldl (fun t f => (List.range f.cnt).foldl (fun u e => u.putE f n e (s.getE f n e)) t) (s.resetRegs b n)

/-! ### The common header (R40) and the compact header of a tap (R35) -/

def H.ENABLE (b : Blk) : Fld :=
  if b = .tap then { blk := b, off := 0x04, hi := 0, lo := 0, acc := .rw }
  else { blk := b, off := 0x10, hi := 0, lo := 0, acc := .rw }
/-- RESET reads 1 while a reset runs (R45). -/
def H.RESET (b : Blk) : Fld :=
  if b = .tap then { blk := b, off := 0x04, hi := 1, lo := 1, acc := .sc }
  else { blk := b, off := 0x10, hi := 1, lo := 1, acc := .sc }
def H.LOCK (b : Blk) : Fld :=
  if b = .tap then { blk := b, off := 0x04, hi := 4, lo := 4, acc := .w1s }
  else { blk := b, off := 0x10, hi := 4, lo := 4, acc := .w1s }
def H.EVT (b : Blk) : Fld :=
  if b = .tap then { blk := b, off := 0x0C, hi := 7, lo := 0, acc := .w1c }
  else { blk := b, off := 0x18, hi := 31, lo := 0, acc := .w1c }
def H.EVT_EN (b : Blk) : Fld :=
  if b = .tap then { blk := b, off := 0x0C, hi := 15, lo := 8, acc := .rw }
  else { blk := b, off := 0x1C, hi := 31, lo := 0, acc := .rw }
def H.EVT_AGAIN (b : Blk) : Fld :=
  if b = .tap then { blk := b, off := 0x0C, hi := 23, lo := 16, acc := .w1c }
  else { blk := b, off := 0x20, hi := 31, lo := 0, acc := .w1c }

/-- Whether an instance is enabled. -/
def State.enabled (s : State) (b : Blk) (n : Nat) : Bool := s.on (H.ENABLE b) n

/-! ### Hidden tables -/

def State.fe (s : State) (n : Nat) : FeHid := Tbl.get s.fes {} n
def State.setFe (s : State) (n : Nat) (h : FeHid) : State := { s with fes := Tbl.set s.fes {} n h }
def State.hw (s : State) (n : Nat) : HwHid := Tbl.get s.hws {} n
def State.setHw (s : State) (n : Nat) (h : HwHid) : State := { s with hws := Tbl.set s.hws {} n h }
def State.hand (s : State) (k : Nat) : Handover := Tbl.get s.hands {} k
def State.setHand (s : State) (k : Nat) (h : Handover) : State := { s with hands := Tbl.set s.hands {} k h }
def State.aerial (s : State) (p : Nat) : PortHid := Tbl.get s.aerials {} p
def State.setAerial (s : State) (p : Nat) (h : PortHid) : State := { s with aerials := Tbl.set s.aerials {} p h }
def State.tuner (s : State) (p : Nat) : TunHid := Tbl.get s.tuners {} p
def State.setTuner (s : State) (p : Nat) (h : TunHid) : State := { s with tuners := Tbl.set s.tuners {} p h }
def State.dom (s : State) (d : Nat) : Dom := Tbl.get s.doms {} d
def State.setDom (s : State) (d : Nat) (h : Dom) : State := { s with doms := Tbl.set s.doms {} d h }
def State.bank (s : State) (k : Nat) : CBank := Tbl.get s.banks {} k
def State.setBank (s : State) (k : Nat) (h : CBank) : State := { s with banks := Tbl.set s.banks {} k h }
def State.cfg (s : State) (f : Nat) : Cfg := Tbl.get s.cfgs {} f
def State.setCfg (s : State) (f : Nat) (h : Cfg) : State := { s with cfgs := Tbl.set s.cfgs {} f h }
def State.ring (s : State) (r : Nat) : RingHid := Tbl.get s.rings {} r
def State.setRing (s : State) (r : Nat) (h : RingHid) : State := { s with rings := Tbl.set s.rings {} r h }
def State.latch (s : State) (a : Accessor) : Latches := Tbl.get s.latches {} (accIdx a)
def State.setLatch (s : State) (a : Accessor) (h : Latches) : State :=
  { s with latches := Tbl.set s.latches {} (accIdx a) h }
def State.slot (s : State) (n : Nat) : SlotHid := Tbl.get s.slots {} n
def State.setSlot (s : State) (n : Nat) (h : SlotHid) : State := { s with slots := Tbl.set s.slots {} n h }
def State.grp (s : State) (g : Nat) : Grp := Tbl.get s.groups {} g
def State.setGrp (s : State) (g : Nat) (h : Grp) : State := { s with groups := Tbl.set s.groups {} g h }
def State.lane (s : State) (n : Nat) : LaneHid := Tbl.get s.lanes {} n
def State.setLane (s : State) (n : Nat) (h : LaneHid) : State := { s with lanes := Tbl.set s.lanes {} n h }
/-- Contexts are kept DAB first (R10). -/
def Ctx.key : Ctx → Nat
  | .dab c => c.val
  | .drm d => 48 + d.val
def State.ctxHid (s : State) (c : Ctx) : CtxHid := Tbl.get s.ctxs {} c.key
def State.setCtx (s : State) (c : Ctx) (h : CtxHid) : State := { s with ctxs := Tbl.set s.ctxs {} c.key h }
def State.tap (s : State) (n : Nat) : TapHid := Tbl.get s.taps {} n
def State.setTap (s : State) (n : Nat) (h : TapHid) : State := { s with taps := Tbl.set s.taps {} n h }
def State.fol (s : State) (e : Nat) : FolHid := Tbl.get s.fols {} e
def State.setFol (s : State) (e : Nat) (h : FolHid) : State := { s with fols := Tbl.set s.fols {} e h }
def State.ap (s : State) (p : Nat) : ApHid := Tbl.get s.aps {} p
def State.setAp (s : State) (p : Nat) (h : ApHid) : State := { s with aps := Tbl.set s.aps {} p h }
def ApHid.out (h : ApHid) (k : Nat) : OutHid := Tbl.get h.outs {} k
def ApHid.setOut (h : ApHid) (k : Nat) (o : OutHid) : ApHid := { h with outs := Tbl.set h.outs {} k o }
def ApHid.inp (h : ApHid) (k : Nat) : InHid := Tbl.get h.ins {} k
def ApHid.setInp (h : ApHid) (k : Nat) (i : InHid) : ApHid := { h with ins := Tbl.set h.ins {} k i }

/-! ### Free values and what is sent -/

/-- The next free value. -/
def State.freeNow (s : State) : Nat := Config.freeWord s.freeCount

/-- Uses up the next free value. -/
def State.freeUsed (s : State) : State := { s with freeCount := s.freeCount + 1 }

/-- Sends something out. -/
def State.send (s : State) (o : Out) : State := { s with out := o :: s.out }

/-! ### Epochs (R53, R54) -/

/-- The code of a resource in the table of epochs. -/
def Res.code : Res → Nat
  | .slot n => n * 8 | .tap n => n * 8 + 1 | .ring n => n * 8 + 2 | .fe n => n * 8 + 3
  | .ap n => n * 8 + 4 | .dab n => n * 8 + 5 | .drm n => n * 8 + 6 | .func n => n * 8 + 7

/-- The epoch of a resource, from 1 to 255. -/
def State.epoch (s : State) (r : Res) : Nat := 1 + (s.epochBase + Tbl.get s.epochs 0 r.code) % 255

/-- Increments the epoch of one resource; 255 is followed by 1. -/
def State.bumpEpoch (s : State) (r : Res) : State :=
  { s with epochs := Tbl.set s.epochs 0 r.code (Tbl.get s.epochs 0 r.code + 1) }

/-- Increments every epoch once. -/
def State.bumpAll (s : State) : State := { s with epochBase := s.epochBase + 1 }

/-- Increments the epochs of several resources. -/
def State.bumpList (s : State) (rs : List Res) : State := rs.foldl (fun t r => t.bumpEpoch r) s

/-- The resource whose epoch an instance of a block carries (R53); BANK pages mirror their front-end's (R167), and the
XLAT and FAULT pages report their function's (R438, R441). -/
def resOf (b : Blk) (n : Nat) : Option Res :=
  match b with
  | .slot => some (.slot n) | .tap => some (.tap n) | .ring => some (.ring n) | .fe => some (.fe n)
  | .bank => some (.fe n) | .ap => some (.ap n) | .dab => some (.dab n) | .drm => some (.drm n)
  | .xlat => some (.func n) | .fault => some (.func n)
  | _ => none

/-- The resource that an instance is, whose epoch its own reset increments (R54). -/
def ownRes (b : Blk) (n : Nat) : Option Res :=
  match b with
  | .slot => some (.slot n) | .tap => some (.tap n) | .ring => some (.ring n) | .fe => some (.fe n)
  | .ap => some (.ap n) | .dab => some (.dab n) | .drm => some (.drm n)
  | _ => none

def Ctx.blk : Ctx → Blk
  | .dab _ => .dab
  | .drm _ => .drm

def Ctx.num : Ctx → Nat
  | .dab c => c.val
  | .drm d => d.val

/-! ### Time -/

/-- Device time as a number. -/
def State.now (s : State) : Nat := s.time.toNat

/-- CK_SAMP ticks in one second (R25). -/
def ticksPerSecond : Nat := 245760000

/-! ### Domains (R21) -/

/-- Whether a domain is on. PD_0 is on whenever the part has its supply. -/
def State.domOn (s : State) (d : Nat) : Bool := if d = 0 then decide (s.mode ≠ .off) else (s.dom d).on

/-- The physical front-end behind window n (R60). -/
def State.hwOf (s : State) (n : Nat) : Nat := s.get F.FE_STAT_HW n

/-- The domain that an instance of a block lives in. -/
def State.domainOf (s : State) (b : Blk) (n : Nat) : Nat :=
  match b with
  | .aon => 0 | .lehr => 0
  | .fe => 3 + s.hwOf n
  | .bank => 11 | .slot => 11 | .fm => 11 | .am => 11 | .an => 11 | .dig => 11
  | .dab => 12 | .drm => 12 | .tap => 12 | .auddec => 12 | .follow => 12 | .metro => 12 | .sidedata => 12
  | .crucible => 13
  | .host => 14 | .xlat => 14 | .fault => 14 | .ring => 14
  | .ap => 15
  | _ => 1

/-- Whether the domain of an instance is on. -/
def State.powered (s : State) (b : Blk) (n : Nat) : Bool := s.domOn (s.domainOf b n)

/-- The system PLL is locked, in holdover too (R316): device time counts CK_SAMP. -/
def State.pllLocked (s : State) : Bool := s.get F.CLK_STAT_PLL_STATE 0 == 2 || s.get F.CLK_STAT_PLL_STATE 0 == 3

/-- Whether a long line is LOCKED (R307). -/
def State.lineLocked (s : State) (n : Nat) : Bool := s.getE F.LINE_STAT_STATE 0 n == 3

/-- The start-up stage (R359). -/
def State.stage (s : State) : Nat := s.get F.GLOBAL_STAT_STAGE 0

/-! ### Ownership (R431) -/

/-- Entry i of a row of ownership registers: two bits each, sixteen to a register (R443). -/
def State.ownEntry (s : State) (f : Fld) (i : Nat) : Nat := s.getE f 0 (i / 16) / 2 ^ (2 * (i % 16)) % 4

/-- The function that owns an instance. Blocks of which each function has its own belong to that function, and every
other block to PF_0 (R36, R431). -/
def State.owner (s : State) (b : Blk) (n : Nat) : Nat :=
  match b with
  | .slot => s.ownEntry F.OWN_SLOT_OWNER n
  | .tap => s.ownEntry F.OWN_TAP_OWNER n
  | .ring => s.ownEntry F.OWN_RING_OWNER n
  | .ap => s.ownEntry F.OWN_PORT_OWNER n
  | .dab => s.ownEntry F.OWN_CTX_OWNER n
  | .drm => s.ownEntry F.OWN_CTX_OWNER (48 + n)
  | .global => n | .host => n | .xlat => n | .fault => n
  | .auddec => n | .follow => n | .metro => n | .sidedata => n
  | _ => 0

def State.ctxOwner (s : State) (c : Ctx) : Nat := s.owner c.blk c.num

/-! ### Pots (R12) -/

/-- The pots a function holds. -/
def State.potsHeld (s : State) (f : Nat) : Nat :=
  (s.pots.filter fun p => match p.2 with | some q => q.func == f | none => false).length

/-- The quota of a function; PF_0 has what the others leave (R431). -/
def State.quota (s : State) (f : Nat) : Nat :=
  if f = 0 then 1024 - (s.getE F.FUNC_POTS_QUOTA 0 1 + s.getE F.FUNC_POTS_QUOTA 0 2 + s.getE F.FUNC_POTS_QUOTA 0 3)
  else s.getE F.FUNC_POTS_QUOTA 0 f

/-- Whether a bank is ON and in no transition. -/
def State.bankOn (s : State) (k : Nat) : Bool := (s.bank k).state == 0 && (s.bank k).moving == none && s.domOn 13

/-- The `k` lowest-numbered free pots from pot `i` on that lie in banks that are ON. -/
def State.freePots (s : State) (fuel i k : Nat) : List Nat :=
  match fuel, k with
  | 0, _ => []
  | _, 0 => []
  | fuel + 1, k + 1 =>
    if s.bankOn (i / 128) && (Tbl.get s.pots none i).isNone then i :: s.freePots fuel (i + 1) k
    else s.freePots fuel (i + 1) (k + 1)

/-- Allocates `k` pots of the quota of function `f` to `u`; none if there are too few (R12). -/
def State.allocPots (s : State) (f : Nat) (u : PotUser) (k : Nat) : Option State :=
  let ps := s.freePots 1024 0 k
  if ps.length < k then none
  else if s.quota f < s.potsHeld f + k then none
  else some { s with pots := ps.foldl (fun t p => Tbl.set t none p (some { func := f, user := u })) s.pots }

/-- Frees every pot of a user. -/
def State.freePotsOf (s : State) (u : PotUser) : State :=
  { s with pots := s.pots.filter fun p => match p.2 with | some q => !(q.user == u) | none => false }

/-- The pots of a user. -/
def State.potsOf (s : State) (u : PotUser) : List Nat :=
  (s.pots.filter fun p => match p.2 with | some q => q.user == u | none => false).map (·.1)

/-- Gives back the highest-numbered pots of a user beyond `k`. -/
def State.trimPots (s : State) (u : PotUser) (k : Nat) : State :=
  { s with pots := ((s.potsOf u).drop k).foldl (fun t p => Tbl.set t none p none) s.pots }

/-! ### Crucible bytes (R14, R519)

Memory is the crucible: 64 MiB of bytes, byte `i` of pot `n` at n × 0x1_0000 + i. A byte that nothing has written since
its bank last lost its contents is undefined, and no cell lists it. -/

/-- The number of bytes of the crucible. -/
def Memory.size : Nat := 67108864

/-- The canonical form of memory: addresses strictly rising, all inside the crucible, and no cell that holds what its address reads
as without one: 0 in a bank `k` with `zero k`. -/
def Memory.wf (zero : Nat → Bool) (m : List Host.Cell) : Bool :=
  decide (m.Pairwise fun a b => a.1 < b.1) &&
    m.all fun c => decide (c.1 < Memory.size) && !(zero (c.1 / 8388608) && c.2 == 0)

/-- The byte at an address, if one has been written. -/
def Memory.read (m : List Host.Cell) (a : Nat) : Option Byte :=
  match m with
  | [] => none
  | c :: r => if c.1 = a then some c.2 else Memory.read r a

/-- Writes one byte inside the crucible; outside it nothing is written. -/
def Memory.write (m : List Host.Cell) (a : Nat) (b : Byte) : List Host.Cell :=
  if a < Memory.size then Tbl.insert (Tbl.erase m a) a b else m

/-- Takes one byte off the list. -/
def Memory.clear (m : List Host.Cell) (a : Nat) : List Host.Cell := m.filter fun c => !(c.1 == a)

/-- Forgets the bytes of bank `k`. -/
def Memory.lose (m : List Host.Cell) (k : Nat) : List Host.Cell := m.filter fun c => !(c.1 / 8388608 == k)

/-- The bank that a byte of the crucible lies in. -/
def bankOf (a : Nat) : Nat := a / 8388608

/-- A byte of the crucible, if it is defined. -/
def State.cbRead (s : State) (a : Nat) : Option Byte :=
  match Memory.read s.crucible a with
  | some b => some b
  | none => if (s.bank (bankOf a)).cleared && decide (a < Memory.size) then some 0 else none

/-- Writes one byte of the crucible; in a cleared bank a zero needs no cell. -/
def State.cbWrite (s : State) (a : Nat) (b : Byte) : State :=
  { s with crucible := if (s.bank (bankOf a)).cleared && b == 0 then Memory.clear s.crucible a
    else Memory.write s.crucible a b }

/-- Bank k is cleared to zero. -/
def State.cbClear (s : State) (k : Nat) : State :=
  { s.setBank k { s.bank k with cleared := true } with crucible := Memory.lose s.crucible k }

end Sys2Proof.Machine
end

