-- ==== Sys2Proof/Machine/Flags.lean ====
section
/-! DEFINITION. Events (R46 to R49), the interrupt messages they send (R387), the attention bits they set (R485), and the
log of discarded and refused writes (R52). -/

namespace Sys2Proof.Machine

/-! ### Event bits -/

/-- The common events (R47). -/
def Ev.cfgErr : Nat := 0
def Ev.stale : Nat := 1
def Ev.accErr : Nat := 2
def Ev.resetDone : Nat := 3
def Ev.powerDone : Nat := 4
/-- GLOBAL (R58), CRUCIBLE (R521). -/
def Ev.stageChg : Nat := 8
def Ev.cbDone : Nat := 8
/-- FE (R94). -/
def Ev.stateReached : Nat := 8
def Ev.lockLost : Nat := 9
def Ev.retuneDone : Nat := 10
def Ev.probeDone : Nat := 11
def Ev.probeBusy : Nat := 12
def Ev.probeSuperseded : Nat := 13
def Ev.probeCancel : Nat := 14
def Ev.burstEnd : Nat := 15
def Ev.burstTimeout : Nat := 16
def Ev.burstCancel : Nat := 17
def Ev.gainStep : Nat := 18
def Ev.adcClip : Nat := 19
def Ev.gainLimit : Nat := 20
/-- CAL (R112). -/
def Ev.rotDone : Nat := 8
def Ev.rotFail : Nat := 9
def Ev.winStale : Nat := 10
def Ev.qcalDone : Nat := 11
def Ev.fullCalDone : Nat := 12
def Ev.calStepErr : Nat := 13
/-- AERIAL (R128). -/
def Ev.mismatch : Nat := 8
def Ev.biasOpen : Nat := 9
def Ev.biasShort : Nat := 10
def Ev.noiseDrop : Nat := 11
def Ev.sweepDone : Nat := 12
def Ev.sweepCancel : Nat := 13
/-- Slots (R165). -/
def Ev.dlyReached : Nat := 8
def Ev.dlyZcTimeout : Nat := 9
def Ev.zeroIn : Nat := 10
def Ev.sat : Nat := 11
/-- The events of an analogue lane (R200); the names are those of FM where the bindings differ. -/
def Ev.pilotOn : Nat := 16
def Ev.pilotOff : Nat := 17
def Ev.rdsSync : Nat := 18
def Ev.rdsLost : Nat := 19
def Ev.piChange : Nat := 20
def Ev.audClip : Nat := 21
/-- BANK (R168). -/
def Ev.snapDone : Nat := 8
def Ev.snapTimeout : Nat := 9
def Ev.snapAbort : Nat := 10
def Ev.profLoaded : Nat := 11
/-- DAB and DRM contexts (R236, R238). -/
def Ev.frameSync : Nat := 8
def Ev.syncLost : Nat := 9
def Ev.mciChange : Nat := 10
def Ev.reconfSignalled : Nat := 11
def Ev.modeChange : Nat := 12
def Ev.eidChange : Nat := 13
def Ev.modeUnsup : Nat := 13
def Ev.occMisfit : Nat := 14
/-- Taps (R239). -/
def Ev.capExceeded : Nat := 4
def Ev.capResumed : Nat := 5
def Ev.subGone : Nat := 6
def Ev.noAudio : Nat := 7
/-- AUDDEC (R240). -/
def Ev.tapSuspended : Nat := 8
/-- SIDEDATA (R266). -/
def Ev.alarmOn : Nat := 8
def Ev.alarmOff : Nat := 9
def Ev.alert : Nat := 10
/-- FOLLOW (R268). -/
def Ev.switch : Nat := 8
def Ev.folLost : Nat := 9
def Ev.aligned : Nat := 10
def Ev.alignFail : Nat := 11
def Ev.candFull : Nat := 12
def Ev.fallback : Nat := 13
def Ev.noPots : Nat := 14
/-- METRO (R292). -/
def Ev.refDue : Nat := 8
def Ev.refPass : Nat := 9
def Ev.refFail : Nat := 10
def Ev.ppsMissing : Nat := 11
def Ev.mpxOver : Nat := 12
def Ev.devOver : Nat := 13
def Ev.fcAligned : Nat := 14
def Ev.fcSilence : Nat := 15
def Ev.fcMismatch : Nat := 16
def Ev.fcFeedLost : Nat := 17
def Ev.fcClear : Nat := 18
/-- CLOCK (R317). -/
def Ev.pllLock : Nat := 8
def Ev.pllUnlock : Nat := 9
def Ev.refLost : Nat := 10
def Ev.refReturn : Nat := 11
def Ev.xoLost : Nat := 12
def Ev.x32Lost : Nat := 13
def Ev.x32Ok : Nat := 14
def Ev.audUnlock : Nat := 15
/-- DLL (R319). -/
def Ev.lineLock : Nat := 8
def Ev.lineUnlock : Nat := 9
def Ev.lineFreqErr : Nat := 10
def Ev.dllSyncLost : Nat := 11
def Ev.syncReturn : Nat := 12
def Ev.syncSlew : Nat := 13
def Ev.syncSlewDone : Nat := 14
def Ev.syncSnap : Nat := 15
/-- AON (R350). -/
def Ev.sleepAbort : Nat := 8
def Ev.wake : Nat := 9
def Ev.puntyEarly : Nat := 10
def Ev.overtemp : Nat := 11
def Ev.supplyWarn : Nat := 12
def Ev.pdDone : Nat := 13
/-- LEHR (R352). -/
def Ev.fired : Nat := 8
def Ev.logOverflow : Nat := 9
def Ev.cycleOverrun : Nat := 10
/-- OTP (R382). -/
def Ev.fgAlert : Nat := 8
def Ev.hoDone : Nat := 9
def Ev.hoFail : Nat := 10
def Ev.fgEnd : Nat := 11
def Ev.otpUncorr : Nat := 12
/-- HOST (R410). -/
def Ev.linkUp : Nat := 8
def Ev.linkDown : Nat := 9
def Ev.aerLogged : Nat := 10
def Ev.noteLost : Nat := 11
/-- Rings (R412). -/
def Ev.halt : Nat := 8
def Ev.cull : Nat := 9
def Ev.starved : Nat := 10
def Ev.ringFault : Nat := 11
def Ev.ringDisabled : Nat := 12
/-- XLAT (R439), FAULT (R442), FUNCTION (R444). -/
def Ev.invDone : Nat := 8
def Ev.priStopped : Nat := 9
def Ev.tableErr : Nat := 10
def Ev.fault : Nat := 8
def Ev.faultOverflow : Nat := 9
def Ev.priResolved : Nat := 10
def Ev.flrDone : Nat := 8
def Ev.ownerChg : Nat := 9
/-- Audio ports (R470). -/
def Ev.clkLost : Nat := 8
def Ev.clkBack : Nat := 9
def Ev.haltRate : Nat := 10
def Ev.rateChange : Nat := 11
def Ev.frameSlip : Nat := 12
def Ev.underrun : Nat := 13
def Ev.overrun : Nat := 14
def Ev.lateCull : Nat := 15
/-- MGMT (R495), HEALTH (R517). -/
def Ev.mgmtAbort : Nat := 8
def Ev.mgmtTimeout : Nat := 9
def Ev.mgmtPecErr : Nat := 10
def Ev.attnRead : Nat := 11
def Ev.ageWarn : Nat := 8
def Ev.lifeWarn : Nat := 9

/-! ### Pages and the instances on them (R33, R34) -/

/-- What a page holds: the block type, the instances on the page, the size of an instance block, the index of the
first. -/
structure PageMap where
  blk : Blk
  cnt : Nat
  size : Nat
  first : Nat
deriving DecidableEq, Repr

/-- The page map of R33; none for a reserved page. -/
def pageMap (p : Nat) : Option PageMap :=
  if p = 0x00 then some ⟨.global, 1, 4096, 0⟩
  else if p = 0x01 then some ⟨.aon, 1, 4096, 0⟩
  else if p = 0x02 then some ⟨.clock, 1, 4096, 0⟩
  else if p = 0x03 then some ⟨.dll, 1, 4096, 0⟩
  else if p = 0x05 then some ⟨.health, 1, 4096, 0⟩
  else if p = 0x06 then some ⟨.otp, 1, 4096, 0⟩
  else if p = 0x07 then some ⟨.mgmt, 1, 4096, 0⟩
  else if 0x08 ≤ p ∧ p ≤ 0x0F then some ⟨.fe, 1, 4096, p - 0x08⟩
  else if 0x10 ≤ p ∧ p ≤ 0x17 then some ⟨.bank, 1, 4096, p - 0x10⟩
  else if p = 0x18 then some ⟨.cal, 1, 4096, 0⟩
  else if p = 0x19 then some ⟨.aerial, 1, 4096, 0⟩
  else if 0x20 ≤ p ∧ p ≤ 0x3F then some ⟨.slot, 16, 256, (p - 0x20) * 16⟩
  else if 0x40 ≤ p ∧ p ≤ 0x4B then some ⟨.dab, 4, 1024, (p - 0x40) * 4⟩
  else if 0x4C ≤ p ∧ p ≤ 0x4F then some ⟨.drm, 6, 512, (p - 0x4C) * 6⟩
  else if 0x50 ≤ p ∧ p ≤ 0x57 then some ⟨.tap, 128, 32, (p - 0x50) * 128⟩
  else if p = 0x58 then some ⟨.auddec, 1, 4096, 0⟩
  else if p = 0x59 then some ⟨.follow, 1, 4096, 0⟩
  else if p = 0x5A then some ⟨.metro, 1, 4096, 0⟩
  else if p = 0x5B then some ⟨.sidedata, 1, 4096, 0⟩
  else if p = 0x5C then some ⟨.lehr, 1, 4096, 0⟩
  else if 0x60 ≤ p ∧ p ≤ 0x67 then some ⟨.ap, 1, 4096, p - 0x60⟩
  else if p = 0x70 then some ⟨.host, 1, 4096, 0⟩
  else if p = 0x71 then some ⟨.xlat, 1, 4096, 0⟩
  else if p = 0x72 then some ⟨.fault, 1, 4096, 0⟩
  else if 0x78 ≤ p ∧ p ≤ 0x7F then some ⟨.ring, 8, 512, (p - 0x78) * 8⟩
  else if p = 0x80 then some ⟨.crucible, 1, 4096, 0⟩
  else if p = 0x81 then some ⟨.function, 1, 4096, 0⟩
  else none

/-- The page that instance `n` of a block stands on. -/
def pageOf (b : Blk) (n : Nat) : Nat :=
  match b with
  | .global => 0x00 | .aon => 0x01 | .clock => 0x02 | .dll => 0x03 | .health => 0x05 | .otp => 0x06 | .mgmt => 0x07
  | .fe => 0x08 + n | .bank => 0x10 + n | .cal => 0x18 | .aerial => 0x19
  | .slot => 0x20 + n / 16 | .fm => 0x20 + n / 16 | .am => 0x20 + n / 16 | .an => 0x20 + n / 16
  | .dig => 0x20 + n / 16
  | .dab => 0x40 + n / 4 | .drm => 0x4C + n / 6 | .tap => 0x50 + n / 128
  | .auddec => 0x58 | .follow => 0x59 | .metro => 0x5A | .sidedata => 0x5B | .lehr => 0x5C
  | .ap => 0x60 + n | .host => 0x70 | .xlat => 0x71 | .fault => 0x72 | .ring => 0x78 + n / 8
  | .crucible => 0x80 | .function => 0x81

/-- The offset of instance `n`'s block within its page. -/
def instOffset (b : Blk) (n : Nat) : Nat :=
  match b with
  | .slot => n % 16 * 0x100 | .dab => n % 4 * 0x400 | .drm => n % 6 * 0x200 | .tap => n % 128 * 0x20
  | .ring => n % 8 * 0x200
  | _ => 0

/-- The pages whose every accessor has its own view of the events (R240, R265, R267, R291). -/
def perView (b : Blk) : Bool := b == .auddec || b == .follow || b == .metro || b == .sidedata

/-- The instance whose events an accessor sees: its own where the page has views. -/
def evtInst (a : Accessor) (b : Blk) (n : Nat) : Nat := if perView b then accIdx a else n

/-! ### Interrupt messages (R46, R387) -/

/-- The events of a block that are never raised to an accessor of major 1 (R128, R201, R242, R293, R442, R471, R517). -/
def absentEvts (b : Blk) : Nat :=
  match b with
  | .aerial => 2 ^ Ev.noiseDrop | .slot => 2 ^ Ev.piChange | .dab => 2 ^ Ev.occMisfit | .drm => 2 ^ Ev.occMisfit
  | .metro => 2 ^ Ev.devOver | .fault => 2 ^ Ev.priResolved | .health => 2 ^ Ev.lifeWarn | .ap => 2 ^ Ev.lateCull
  | _ => 0

/-- The MAJOR of page `p` for the accessor of index `v` (R42); the tap pages follow AUDDEC (R35). -/
def State.majorOf (s : State) (v p : Nat) : Nat :=
  Tbl.get s.speak 0 (v * 256 + (if 0x50 ≤ p ∧ p ≤ 0x57 then 0x58 else p))

/-- Event bits as the accessor of index `v` sees them. -/
def State.seenEvts (s : State) (v : Nat) (b : Blk) (n w : Nat) : Nat :=
  if s.majorOf v (pageOf b n) = 1 then clearBits w (absentEvts b) else w

/-- Whether an instance has an enabled event for function `f`. -/
def State.requests (s : State) (f : Nat) (b : Blk) (n : Nat) : Bool :=
  s.seenEvts f b n (s.get (H.EVT b) n &&& s.get (H.EVT_EN b) n) != 0

/-- The request of page `p` to function `f`: the OR over the instances of the page that belong to the function, and on a
page with views over its own. -/
def State.pageRequest (s : State) (f p : Nat) : Bool :=
  match pageMap p with
  | none => false
  | some m =>
    if perView m.blk || m.blk == .global || m.blk == .host || m.blk == .xlat || m.blk == .fault then
      s.requests f m.blk f
    else (List.range m.cnt).any fun i => s.owner m.blk (m.first + i) == f && s.requests f m.blk (m.first + i)

/-- The fields of the vector entry of page `p` (R409). -/
def pageVec (p : Nat) : Fld := match p % 4 with
  | 0 => F.PAGE_VEC0_VEC | 1 => F.PAGE_VEC1_VEC | 2 => F.PAGE_VEC2_VEC | _ => F.PAGE_VEC3_VEC
def pageVecEn (p : Nat) : Fld := match p % 4 with
  | 0 => F.PAGE_VEC0_EN | 1 => F.PAGE_VEC1_EN | 2 => F.PAGE_VEC2_EN | _ => F.PAGE_VEC3_EN

/-- Sends a message on vector `v` of function `f`, or sets its pending bit while Bus Master Enable is 0, the function is
in D3hot, or the vector or the function is masked (R387). With MSI-X disabled there is no message. -/
def State.message (s : State) (f v : Nat) : State :=
  let c := s.cfg f
  if !c.msixEn then s
  else if c.bme && !c.d3 && !c.msixMask && s.getE F.MSIX_CTRL_MASK f v == 0 then
    s.send (.msix f v (s.getE F.MSIX_ADDR_HI_ADDR f v * 2 ^ 32 + s.getE F.MSIX_ADDR_LO_ADDR f v * 4)
      (s.getE F.MSIX_DATA_DATA f v))
  else s.putE F.PBA_PEND f (v / 32) (s.getE F.PBA_PEND f (v / 32) ||| 2 ^ (v % 32))

/-- Sends the message of page `p` to function `f` on its vector, if the entry is enabled. -/
def State.pageMessage (s : State) (f p : Nat) : State :=
  if s.getE (pageVecEn p) f (p / 4) == 1 then s.message f (s.getE (pageVec p) f (p / 4)) else s

/-- Sends the messages whose pending bit is set, once Bus Master Enable is 1, the function is in D0 and neither it nor
the vector is masked (R387). -/
def State.flushPending (s : State) (f : Nat) : State :=
  let c := s.cfg f
  if !(c.msixEn && c.bme && !c.d3 && !c.msixMask) then s
  else (List.range 64).foldl (fun t v =>
    if bit (t.getE F.PBA_PEND f (v / 32)) (v % 32) && t.getE F.MSIX_CTRL_MASK f v == 0 then
      (t.putE F.PBA_PEND f (v / 32) (clearBits (t.getE F.PBA_PEND f (v / 32)) (2 ^ (v % 32)))).message f v
    else t) s

/-- Does `g` and sends the message of the instance's page to function `f` if the request rises (R46). -/
def State.withRise (s : State) (b : Blk) (n f : Nat) (g : State → State) : State :=
  let t := g s
  if !s.pageRequest f (pageOf b n) && t.pageRequest f (pageOf b n) then t.pageMessage f (pageOf b n) else t

/-! ### Attention bits (R485 to R488) -/

/-- The attention source of an event, if any (R485). -/
def attnOf (b : Blk) (e : Nat) : Option Nat :=
  match b with
  | .sidedata => if e = Ev.alert then some 0 else none
  | .global => if e = Ev.stageChg then some 1 else none
  | .aon => if e = Ev.wake then some 2 else if e = Ev.sleepAbort then some 3
    else if e = Ev.overtemp ∨ e = Ev.supplyWarn then some 4 else none
  | .lehr => if e = Ev.fired ∨ e = Ev.logOverflow ∨ e = Ev.cycleOverrun then some 5 else none
  | .otp => if e = Ev.fgAlert then some 0
    else if e = Ev.fgEnd ∨ e = Ev.hoDone ∨ e = Ev.hoFail then some 6 else none
  | .function => if e = Ev.flrDone then some 7 else none
  | .mgmt => if e = Ev.mgmtAbort ∨ e = Ev.mgmtTimeout ∨ e = Ev.mgmtPecErr then some 9 else none
  | .metro => if e = Ev.refDue ∨ e = Ev.refFail then some 10 else none
  | .clock => if e = Ev.pllUnlock ∨ e = Ev.refLost ∨ e = Ev.xoLost then some 11 else none
  | _ => none

/-- Whether attention is given: an enabled pending bit and the master enable (R485). -/
def State.attnWanted (s : State) : Bool :=
  s.get F.MGMT_ATTN_PEND_PEND 0 &&& s.get F.MGMT_ATTN_EN_EN 0 != 0 && s.on F.MGMT_CFG_ATTN_EN 0

/-- Starts or stops the series of attention signals as the pending bits and enables now stand (R487). -/
def State.attnKick (s : State) : State :=
  if s.attnWanted then
    if s.attn.active then s
    else ({ s with attn := { s.attn with active := true, due := true, given := 0 } }).put F.MGMT_STAT_ATTN_ACTIVE 0 1
  else ({ s with attn := { s.attn with active := false, due := false, given := 0 } }).put F.MGMT_STAT_ATTN_ACTIVE 0 0

/-- Sets an attention bit while PD_1 is on, outside SLEEP and LEHR (R485, R488). -/
def State.attnMark (s : State) (k : Nat) : State :=
  if s.domOn 1 && s.mode != .sleep && s.mode != .lehr then
    let p := s.get F.MGMT_ATTN_PEND_PEND 0
    if bit p k then s
    else ({ s.put F.MGMT_ATTN_PEND_PEND 0 (p ||| 2 ^ k) with
        attn := { s.attn with setAt := s.attn.setAt ++ [(k, s.aonTime.toNat)] } }).attnKick
  else s

/-! ### Raising an event -/

/-- Sets the event bit of one instance; if it is set already its AGAIN bit is set (R48). -/
def State.setEvt (s : State) (b : Blk) (n e : Nat) : State :=
  if bit (s.get (H.EVT b) n) e then s.put (H.EVT_AGAIN b) n (s.get (H.EVT_AGAIN b) n ||| 2 ^ e)
  else s.put (H.EVT b) n (s.get (H.EVT b) n ||| 2 ^ e)

/-- Raises event `e` of instance `n`: the bit, the message to the owner if its request rises, the attention source. -/
def State.raise (s : State) (b : Blk) (n e : Nat) : State :=
  let t := s.withRise b n (s.owner b n) (fun u => u.setEvt b n e)
  match attnOf b e with
  | some k => t.attnMark k
  | none => t

/-- Raises an event of a page whose domain is on; without power there is no page to raise it on. -/
def State.raiseOn (s : State) (b : Blk) (n e : Nat) : State := if s.powered b n then s.raise b n e else s

/-- Raises an event in the views of the accessors listed, on a page with views. -/
def State.raiseViews (s : State) (b : Blk) (e : Nat) (vs : List Nat) : State :=
  let t := vs.foldl (fun u v => if v < 4 then u.withRise b v v (fun x => x.setEvt b v e) else u.setEvt b v e) s
  match attnOf b e with
  | some k => t.attnMark k
  | none => t

/-- The views that an event of a resource of function `f` concerns: its owner's, PF_0's, and the management bus's, which
sees PF_0's (R32, R240, R265). -/
def viewsOf (f : Nat) : List Nat := if f = 0 then [0, 4] else [0, f, 4]

/-- Every view. -/
def allViews : List Nat := [0, 1, 2, 3, 4]

/-! ### The access log (R52) -/

/-- The event that a reason raises on the block written (R47). -/
def Reason.event : Reason → Nat
  | .range => Ev.cfgErr
  | .stale => Ev.stale
  | _ => Ev.accErr

/-- Logs a discarded or refused write for its accessor. -/
def State.logAccess (s : State) (a : Accessor) (page off : Nat) (r : Reason) : State :=
  ((((s.put F.ACC_LOG_REASON (accIdx a) r.code).put F.ACC_LOG_PAGE (accIdx a) page).put
    F.ACC_ADDR_OFFSET (accIdx a) off).count F.ACC_COUNT_COUNT (accIdx a) 1)

/-- A write that is not applied: logged, and its event raised on the block, in the writer's view (R47, R52). -/
def State.discard (s : State) (a : Accessor) (b : Blk) (n off : Nat) (r : Reason) : State :=
  (s.logAccess a (pageOf b n) (instOffset b n + off) r).raise b (evtInst a b n) r.event

end Sys2Proof.Machine
end

