-- ==== Sys2Proof/Machine/Records.lean ====
section
/-! DEFINITION. Scezan records (R401 to R407): their bytes, and how a produced record enters a ring's elastic buffer or is
culled (R398 to R400). -/

namespace Sys2Proof.Machine

/-! ### Bytes (R3: little-endian) -/

/-- The `k` low bytes of a number, least significant first. -/
def leBytes (k v : Nat) : List Byte :=
  match k with
  | 0 => []
  | k + 1 => BitVec.ofNat 8 v :: leBytes k (v / 256)

/-- The number that bytes give, least significant first. -/
def ofLe : List Byte → Nat
  | [] => 0
  | b :: r => b.toNat + 256 * ofLe r

/-- Zeros up to a multiple of `k`. -/
def padTo (k : Nat) (l : List Byte) : List Byte := l ++ List.replicate ((k - l.length % k) % k) 0

/-- The prefix and the flag runs of a stream record, then its samples (R404); a VERSION 1 record has no runs. -/
def Stream.bytes (ver : Nat) (t : Stream) : List Byte :=
  let runs := if ver = 1 then [] else t.runs
  let flagsOr := t.runs.foldl (fun x r => x ||| r.flags) 0
  leBytes 4 t.count ++ leBytes 1 t.format ++ leBytes 1 t.channels ++ leBytes 2 runs.length ++
    leBytes 4 t.rate ++ leBytes 4 flagsOr ++
    (runs.map fun r => leBytes 3 r.first ++ leBytes 3 r.count ++ leBytes 2 r.flags).flatten ++ t.data

/-- The metric items that a VERSION 1 record carries (R406). -/
def metricV1 (id : Nat) : Bool := id == 0x0001 || id == 0x0010 || id == 0x0020

/-- The bytes of a payload (R405 to R407), before padding. -/
def Payload.bytes (ver : Nat) : Payload → List Byte
  | .pcm t => t.bytes ver
  | .codedAu p st i u => leBytes 1 p ++ leBytes 1 st ++ leBytes 2 0 ++ leBytes 4 i ++ leBytes 4 u.length ++ u
  | .rdsGroup ws os ss => (ws.map (leBytes 2)).flatten ++ (os.map (leBytes 1)).flatten ++ (ss.map (leBytes 1)).flatten
  | .amss st n g => leBytes 1 st ++ leBytes 1 n ++ leBytes 6 0 ++ g
  | .fig c f st figs => leBytes 2 c ++ leBytes 1 f ++ leBytes 1 st ++ leBytes 1 figs.length ++ leBytes 3 0 ++ figs
  | .padDls k st cs tx dl => leBytes 1 k ++ leBytes 1 st ++ leBytes 1 cs ++ leBytes 1 0 ++ leBytes 2 tx.length ++
      leBytes 2 dl.length ++ tx ++ dl
  | .motSegment t g => leBytes 1 t ++ leBytes 3 0 ++ leBytes 4 g.length ++ g
  | .drmSdc st afs sf b => leBytes 1 st ++ leBytes 1 afs ++ leBytes 2 b.length ++ leBytes 4 sf ++ b
  | .drmFac st k fr b => leBytes 1 st ++ leBytes 1 k ++ leBytes 2 b.length ++ leBytes 4 fr ++ b
  | .metric items => ((items.filter fun i => ver != 1 || metricV1 i.1).map fun i =>
      leBytes 2 i.1 ++ leBytes 2 i.2.length ++ padTo 4 i.2).flatten
  | .detector pk rms env a b c inv => leBytes 4 pk ++ leBytes 4 rms ++ leBytes 4 env ++ leBytes 1 a ++ leBytes 1 b ++
      leBytes 1 c ++ leBytes 1 (b2n inv)
  | .iqBlock t => t.bytes ver
  | .windowRaw t => t.bytes ver
  | .alarm k rk sk si u => leBytes 1 k ++ leBytes 1 rk ++ leBytes 1 sk ++ leBytes 1 0 ++ leBytes 2 si ++
      leBytes 1 (min u.length 32) ++ leBytes 1 0 ++ (u.take 32 ++ List.replicate (32 - u.length) 0)
  | .followEvent ev fr dst al lag p qf qt g => leBytes 1 ev ++ leBytes 1 fr ++ leBytes 1 dst ++ leBytes 1 al ++
      leBytes 4 lag ++ leBytes 4 p ++ leBytes 1 qf ++ leBytes 1 qt ++ leBytes 2 g
  | .spectrum m o f l av vs => leBytes 1 m ++ leBytes 1 o ++ leBytes 1 f ++ leBytes 1 l ++ leBytes 2 av ++
      leBytes 2 0 ++ leBytes 4 vs.length ++ leBytes 4 0 ++ (vs.map fun v => leBytes 2 (ofInt 16 v)).flatten
  | .gap st en rc sm re ot => leBytes 8 st ++ leBytes 8 en ++ leBytes 4 rc ++ leBytes 4 sm ++ leBytes 1 re ++
      leBytes 1 0 ++ leBytes 2 ot ++ leBytes 4 0
  | .faultNote r ac ca d o ad => leBytes 1 r ++ leBytes 1 ac ++ leBytes 1 ca ++ leBytes 1 0 ++ leBytes 4 d ++
      leBytes 4 o ++ leBytes 4 0 ++ leBytes 8 ad
  | .tii mo fr es => leBytes 1 es.length ++ leBytes 1 (b2n mo) ++ leBytes 2 fr ++
      (es.map fun e => leBytes 1 e.1 ++ leBytes 1 e.2.1 ++ leBytes 1 e.2.2).flatten
  | .feedCompare ev st lag rho ld we => leBytes 1 ev ++ leBytes 1 st ++ leBytes 2 0 ++ leBytes 4 lag ++
      leBytes 2 rho ++ leBytes 2 ld ++ leBytes 4 0 ++ leBytes 8 we

/-- One bit step of the reflected CRC-32C (R401). -/
def crcStep (c : Nat) : Nat := if c % 2 = 1 then (c / 2) ^^^ 0x82F63B78 else c / 2

/-- CRC-32C over bytes: reflected, initial value and final XOR all ones (R401). -/
def crc32c (l : List Byte) : Nat :=
  (l.foldl (fun c b => (List.range 8).foldl (fun x _ => crcStep x) (c ^^^ b.toNat)) 0xFFFFFFFF) ^^^ 0xFFFFFFFF

/-- The payload of a record with its padding. -/
def Rec.body (ver : Nat) (r : Rec) : List Byte := padTo 8 (r.payload.bytes ver)

/-- The LENGTH of a record (R401). -/
def Rec.length (ver : Nat) (r : Rec) : Nat := 32 + (r.body ver).length

/-- The FLAGS of a record (R401). -/
def Rec.flags (ver : Nat) (crc : Bool) (r : Rec) : Nat :=
  let runs := match r.payload with
    | .pcm t => !t.runs.isEmpty | .iqBlock t => !t.runs.isEmpty | .windowRaw t => !t.runs.isEmpty | _ => false
  b2n crc + 2 * b2n r.failed + 4 * b2n (runs && ver != 1) + 8 * b2n r.final

/-- The bytes of a record in an elastic buffer (R401). -/
def Held.bytes (h : Held) : List Byte :=
  let body := h.body.body h.ver
  leBytes 2 h.body.payload.code ++ leBytes 1 h.ver ++ leBytes 1 (h.body.flags h.ver h.crc) ++ leBytes 4 h.len ++
    leBytes 2 h.body.source ++ leBytes 2 h.body.kind.code ++ leBytes 4 h.seq ++ leBytes 8 h.body.time ++
    leBytes 1 (if h.ver = 1 then 0 else h.body.epoch) ++ leBytes 3 0 ++
    leBytes 4 (if h.crc then crc32c body else 0) ++ body

/-- The sample periods that a record carries, 0 for a record that is not a stream record. -/
def Rec.samples (r : Rec) : Nat :=
  match r.payload with
  | .pcm t => t.count
  | .iqBlock t => t.count
  | .windowRaw t => t.count
  | _ => 0

/-- Whether a record of this VERSION is produced at all: VERSION 1 has no FOLLOW_EVENT, FEED_COMPARE and FAULT_NOTE
(R405), and a METRIC record needs an item (R406). -/
def Rec.produced (ver : Nat) (r : Rec) : Bool :=
  match r.payload with
  | .followEvent .. => ver != 1
  | .feedCompare .. => ver != 1
  | .faultNote .. => ver != 1
  | .metric items => items.any fun i => ver != 1 || metricV1 i.1
  | _ => true

/-! ### Elastic buffers and culling (R398 to R400) -/

/-- The capacity of a ring's elastic buffer in bytes (R398). -/
def State.ringCap (s : State) (r : Nat) : Nat := s.get F.RING_CFG_POTS r * 65536

/-- The bytes that an elastic buffer holds. -/
def RingHid.fill (h : RingHid) : Nat := (h.buf.foldl (fun n x => n + x.len) 0) - h.sent + h.raw.length

/-- No descriptor of the ring is the part's. -/
def State.noDesc (s : State) (r : Nat) : Bool :=
  (s.ring r).descs.isEmpty && s.get F.RING_HEAD_HEAD r == s.get F.RING_TAIL_TAIL r

/-- A RUNNING ring that has work and no descriptor is STARVED (R398, R412). -/
def State.starve (s : State) (r : Nat) : State :=
  if s.get F.RING_STAT_STATE r = 1 ∧ s.noDesc r then (s.put F.RING_STAT_STATE r 2).raise .ring r Ev.starved else s

/-- Shows the fill of ring `r`, and its highest value (R411). -/
def State.showFill (s : State) (r : Nat) : State :=
  let n := (s.ring r).fill
  let t := s.put F.RING_FILL_BYTES r n
  if t.get F.RING_HWM_BYTES r < n then t.put F.RING_HWM_BYTES r n else t

/-- Puts a record behind the others in the elastic buffer, with the ring's next SEQ. -/
def State.enter (s : State) (r : Nat) (x : Rec) : State :=
  let ver := s.get F.RING_CFG_REC_VER r
  let h := s.ring r
  let t := s.setRing r { h with buf := h.buf ++
    [{ body := x, seq := s.get F.RING_SEQ_SEQ r, ver := ver, crc := s.on F.RING_CFG_CRC r, len := x.length ver }] }
  ((t.put F.RING_SEQ_SEQ r (s.get F.RING_SEQ_SEQ r + 1)).showFill r).starve r

/-- The GAP record that goes ahead of the next record of a source with culled records (R400, R407). -/
def Culled.gap (c : Culled) (stop : Nat) : Rec :=
  { kind := c.kind, source := c.source, time := c.start, epoch := c.epoch,
    payload := .gap c.start stop c.records c.samples 1 c.ofType }

/-- Whether a culled source is the source of a record. -/
def Culled.isOf (c : Culled) (x : Rec) : Bool := c.kind == x.kind && c.source == x.source

/-- Extends the gap of a culled source by one more record. -/
def Culled.more (c : Culled) (x : Rec) : Culled :=
  { c with
    records := c.records + 1
    samples := c.samples + x.samples
    ofType := if c.ofType = x.payload.code then c.ofType else 0 }

/-- The tracking entry that the first culled record of a source makes. -/
def Rec.firstCulled (x : Rec) : Culled :=
  { kind := x.kind, source := x.source, epoch := x.epoch, start := x.time,
    records := 1, samples := x.samples, ofType := x.payload.code }

/-- One more record of an overflow episode. -/
def Overflow.more (o : Overflow) (x : Rec) : Overflow :=
  { o with records := o.records + 1, samples := o.samples + x.samples }

/-- Adds a culled record to the tracked sources; a 65th source starts or extends the overflow episode (R400). -/
def RingHid.track (h : RingHid) (x : Rec) : RingHid :=
  if h.culls.any (·.isOf x) then
    { h with culls := h.culls.map fun c => if c.isOf x then c.more x else c }
  else if h.culls.length < 64 then
    { h with culls := h.culls ++ [x.firstCulled] }
  else { h with overflow := match h.overflow with
    | some o => some (o.more x)
    | none => some { start := x.time, records := 1, samples := x.samples } }

/-- Culls a record: counted, with a SEQ value, and tracked unless the ring is DISABLED or DRAINING (R399, R400). -/
def State.cull (s : State) (r : Nat) (x : Rec) (tracked : Bool) : State :=
  let ver := s.get F.RING_CFG_REC_VER r
  let h := s.ring r
  let h' := if tracked then h.track x else h
  let t := ((((s.setRing r { h' with culling := true }).count F.RING_CULL_REC_COUNT r 1).count
    F.RING_CULL_BYTES_COUNT r (x.length ver)).put F.RING_SEQ_SEQ r (s.get F.RING_SEQ_SEQ r + 1)).put
    F.RING_STAT_GAP_PEND r h'.culls.length
  if h.culling then t else t.raise .ring r Ev.cull

/-- Whether records may enter the elastic buffer: the ring is RUNNING, STARVED, STOPPED, HALTED or FAULTED (R399). -/
def State.ringTakes (s : State) (r : Nat) : Bool :=
  1 ≤ s.get F.RING_STAT_STATE r && s.get F.RING_STAT_STATE r ≤ 5 && s.get F.RING_CFG_DIR r == 0 && !(s.ring r).draining

/-- Offers a record to ring `r`: it enters whole, behind the GAP of its source if records of that source were culled, or
it is culled (R399, R400). -/
def State.offer (s : State) (r : Nat) (x : Rec) : State :=
  let ver := s.get F.RING_CFG_REC_VER r
  if !x.produced ver then s
  else if !s.ringTakes r then s.cull r x false
  else
    let h := s.ring r
    match h.culls.find? (·.isOf x) with
    | some c =>
      if h.fill + 64 + x.length ver ≤ s.ringCap r then
        let t := (s.setRing r { h with culls := h.culls.filter (fun d => !d.isOf x), culling := false })
        ((t.put F.RING_STAT_GAP_PEND r (h.culls.filter (fun d => !d.isOf x)).length).enter r (c.gap x.time)).enter r x
      else s.cull r x true
    | none =>
      if h.fill + x.length ver ≤ s.ringCap r then (s.setRing r { h with culling := false }).enter r x
      else s.cull r x true

/-- The GAP of an overflow episode that has ended enters once the buffer has room (R400). -/
def State.overflowGap (s : State) (r : Nat) : State :=
  let h := s.ring r
  match h.overflowDone with
  | [] => s
  | (o, stop) :: rest =>
    if s.ringTakes r && decide (h.fill + 64 ≤ s.ringCap r) then
      (s.setRing r { h with overflowDone := rest }).enter r
        { kind := .ring, source := r, time := o.start, epoch := s.epoch (.ring r),
          payload := .gap o.start stop o.records o.samples 2 0 }
    else s

/-- Delivers a record of a resource of function `f` to ring `r`, if the ring is the function's own (R23); without power the
ring has no counters. -/
def State.deliver (s : State) (f r : Nat) (x : Rec) : State :=
  if s.owner .ring r == f && s.domOn 14 then s.offer r x else s

end Sys2Proof.Machine
end

