-- ==== Sys2Proof/Machine/Operands.lean ====
section
/-! DEFINITION. How a write reaches a register: who sees which page (R36 to R39), when its registers may be written (R41),
what a write of a plain register does (R4, R43, R50), and the check of the expected epoch (R56). -/

namespace Sys2Proof.Machine

/-! ### Who reaches the registers -/

/-- Whether the accessor's requests reach the registers: a function over a link that is up, with Memory Space Enable and
in D0 (R386); the management bus while PD_1 is on (R32, R335). -/
def State.reaches (s : State) : Accessor → Bool
  | .pf n => s.link.up && s.domOn 14 && (s.cfg n.val).mse && !(s.cfg n.val).d3
  | .mgmt => s.domOn 1

/-- A request that does not reach: over a link that is up it completes with Unsupported Request (R386). -/
def State.unreached (s : State) : Accessor → State
  | .pf n => if s.link.up then s.send (.unsupported n.val) else s
  | .mgmt => s

/-- Blocks partitioned among the functions (R36). -/
def partitioned (b : Blk) : Bool :=
  b == .slot || b == .dab || b == .drm || b == .tap || b == .ring || b == .ap

/-- Blocks that PF_1 to PF_3 do not see (R36). -/
def managerOnly (b : Blk) : Bool :=
  b == .aon || b == .clock || b == .dll || b == .health || b == .otp || b == .mgmt || b == .fe || b == .bank ||
  b == .cal || b == .aerial || b == .lehr || b == .crucible || b == .function

/-- Whether the page of instance `n` is present in the accessor's view (R36). -/
def State.present (s : State) (a : Accessor) (b : Blk) (n : Nat) : Bool :=
  if isManager a then true
  else if managerOnly b then false
  else if partitioned b then
    match pageMap (pageOf b n) with
    | some m => (List.range m.cnt).any fun i => s.owner b (m.first + i) == accView a
    | none => false
  else true

/-- The instance that an accessor sees at a block of which each function, or each accessor, has its own (R36). -/
def viewInst (a : Accessor) (b : Blk) (n : Nat) : Nat :=
  if b == .global then accIdx a
  else if b == .host || b == .xlat || b == .fault then accView a else n

/-- The dialect that a page presents to an accessor (R42). -/
def State.major (s : State) (a : Accessor) (p : Nat) : Nat := s.majorOf (accIdx a) p

/-- Whether an FLR of the accessor's function runs (R434); the management bus keeps its access. -/
def State.flrBusy (s : State) : Accessor → Bool
  | .pf n => bit (s.get F.FUNC_STAT_FLR_BUSY 0) n.val
  | .mgmt => false

/-- Block registers that are written in every stage (R41): those of GLOBAL, and on HOST `PAGE_VEC_0`, the MSI-X table and
the PBA. -/
def stageExempt (b : Blk) (off : Nat) : Bool :=
  b == .global || (b == .host && (off == 0x100 || (0x800 ≤ off && off < 0xC08)))

/-- Block registers that are presented whatever the accessor's MAJOR (R41). -/
def dialectExempt (b : Blk) (off : Nat) : Bool :=
  b == .global || (b == .host && 0x800 ≤ off && off < 0xC08)

/-- Whether a resource is in the follower's reserve pool (R255). -/
def State.pooled (s : State) (b : Blk) (n : Nat) : Bool :=
  let within (first count : Nat) : Bool := decide (first ≤ n) && decide (n < first + count)
  match b with
  | .slot => within (s.get F.FOL_RES_SLOT_FIRST 0) (s.get F.FOL_RES_SLOT_COUNT 0)
  | .dab => within (s.get F.FOL_RES_CTX_DAB_FIRST 0) (s.get F.FOL_RES_CTX_DAB_COUNT 0)
  | .drm => within (s.get F.FOL_RES_CTX_DRM_FIRST 0) (s.get F.FOL_RES_CTX_DRM_COUNT 0)
  | .tap => within (s.get F.FOL_RES_TAP_FIRST 0) (s.get F.FOL_RES_TAP_COUNT 0)
  | _ => false

/-- Whether the page is served by the boot ROM in a serve visit: AON and LEHR (R335). -/
def State.serving (s : State) (b : Blk) : Bool := s.on F.AON_STAT_SERVE 0 && (b == .aon || b == .lehr)

/-- Why a write of a block register is discarded before the register looks at it (R37 to R41, R45), if it is. -/
def State.gateReg (s : State) (a : Accessor) (b : Blk) (n off : Nat) : Option Reason :=
  if s.flrBusy a then some .busy
  else if partitioned b && s.owner b n != accView a then some .owner
  else if s.serving b then (if s.major a (pageOf b n) == 0 then some .dialect else none)
  else if s.stage < 3 && !stageExempt b off then some .stage
  else if s.stage < 3 then none
  else if !s.powered b n then some .power
  else if s.major a (pageOf b n) == 0 && !dialectExempt b off then some .dialect
  else if s.on (H.LOCK b) n then some .locked
  else if s.on (H.RESET b) n || s.pooled b n then some .busy
  else none

/-- Why a write of a header register other than PAGE_SPEAK is discarded (R39, R41). `reset`: the write sets RESET;
`ctrl`: it is PAGE_CTRL, whose POWER field is writable while the domain is off. -/
def State.gateHdr (s : State) (a : Accessor) (b : Blk) (n off : Nat) (reset ctrl : Bool) : Option Reason :=
  if s.flrBusy a then some .busy
  else if partitioned b && s.owner b n != accView a && !(reset && isManager a) then some .owner
  else if s.serving b then none
  else if s.stage < 3 && !(b == .global && 0x18 ≤ off && off ≤ 0x20) then some .stage
  else if s.stage < 3 then none
  else if !s.powered b n && !ctrl then some .power
  else if s.pooled b n && !reset then some .busy
  else none

/-! ### Running a write -/

/-- Applies what the register made of a write: the next state, or the write is discarded with its reason. -/
def State.settle (s : State) (a : Accessor) (b : Blk) (n off : Nat) (r : Except Reason State) : State :=
  match r with
  | .ok t => t
  | .error e => s.discard a b n off e

/-- A write of a block register: reach, presence, the conditions of R41, then what the register does (R28, R52). -/
def State.regWrite (s : State) (a : Accessor) (b : Blk) (n off : Nat) (h : State → Except Reason State) : State :=
  if !s.reaches a then s.unreached a
  else if !s.present a b n then s
  else match s.gateReg a b n off with
    | some r => s.discard a b n off r
    | none => s.settle a b n off (h s)

/-- The check of a command register (R56): EXP_EPOCH, bits [31:24], equals the epoch. -/
def withEpoch (e : Nat) (w : Word) (h : State → Except Reason State) (s : State) : Except Reason State :=
  if bits w.toNat 31 24 = e then h s else .error .stale

/-- The epoch that a command register of an instance checks; 0 where it carries none. -/
def State.epochOf (s : State) (b : Blk) (n : Nat) : Nat :=
  match resOf b n with
  | some r => s.epoch r
  | none => 0

/-- A write of a command register of a block whose instances carry an epoch. -/
def State.cmdWrite (s : State) (a : Accessor) (b : Blk) (n off : Nat) (w : Word) (h : State → Except Reason State) :
    State :=
  s.regWrite a b n off (withEpoch (s.epochOf b n) w h)

/-- A write of a header register. -/
def State.hdrWrite (s : State) (a : Accessor) (b : Blk) (n off : Nat) (reset ctrl : Bool)
    (h : State → Except Reason State) : State :=
  if !s.reaches a then s.unreached a
  else if !s.present a b n then s
  else match s.gateHdr a b n off reset ctrl with
    | some r => s.discard a b n off r
    | none => s.settle a b n off (h s)

/-! ### Plain registers (R4, R43, R50) -/

/-- The fields that stand at an offset of a block in a dialect, each with its element. -/
def fieldsAt (b : Blk) (off major : Nat) : List (Fld × Nat) :=
  b.fields.filterMap fun f =>
    match f.elemAt off with
    | some e => if major == 1 && !f.m1 then none else some (f, e)
    | none => none

/-- What a write of `v` does to one field (R4). -/
def State.writeFld (s : State) (n : Nat) (f : Fld) (e v : Nat) : State :=
  match f.acc with
  | .rw => s.putE f n e v
  | .w1c => s.putE f n e (clearBits (s.getE f n e) v)
  | .w1a => if v = 2 ^ f.width - 1 then s.putE f n e 0 else s
  | .w1s => s.putE f n e (s.getE f n e ||| v)
  | _ => s

/-- Whether a field takes the value that a word gives it. -/
def Fld.takes (f : Fld) (w : Nat) : Bool := f.acc != .rw || f.accepts (f.ofWord w)

/-- A write of a plain register: refused whole if a field does not take its value, else each field by its access code
(R50, R51). Fields that the dialect lacks keep their values (R43). -/
def plainWrite (b : Blk) (n off major : Nat) (w : Word) (s : State) : Except Reason State :=
  let fs := fieldsAt b off major
  if fs.all fun p => p.1.takes w.toNat then
    .ok (fs.foldl (fun t p => t.writeFld n p.1 p.2 (p.1.ofWord w.toNat)) s)
  else .error .range

/-- The same for a register of a pseudo-block, whose fields are kept by the number of its slot. -/
def checked (ok : Bool) (s : State) : Except Reason State := if ok then .ok s else .error .range

/-- Runs `g` on a write that has been accepted. -/
def onOk (r : Except Reason State) (g : State → Except Reason State) : Except Reason State :=
  match r with
  | .ok s => g s
  | .error e => .error e

end Sys2Proof.Machine
end

