-- ==== Sys2Proof/Machine/FrontEnd.lean ====
section
/-! DEFINITION. Radio front-ends: windows and tuning (R59 to R69), the state machine (R70 to R75), probes (R76 to R81),
bursts (R82 to R85), gain control (R86 to R88), pairs and spares (R89 to R92). -/

namespace Sys2Proof.Machine

/-! ### Windows -/

/-- Window n is an LMH window. -/
def isLmh (n : Nat) : Bool := decide (5 ≤ n)

/-- F_OFS in hertz. -/
def fOfs (n : Nat) : Nat := if n < 5 then 2000000 else 900000

/-- The LO of a window, in hertz (R62). -/
def loOf (n start span pol : Nat) : Int :=
  if pol = 0 then (start : Int) * 1000 - fOfs n else ((start : Int) + span) * 1000 + fOfs n

/-- Whether a staged window passes the checks of R63. -/
def windowOk (n start span pol : Nat) : Bool :=
  let lo := loOf n start span pol
  if n < 5 then 45000 ≤ start && start + span ≤ 260000 && 1 ≤ span && span ≤ 108000 &&
    decide (43000000 ≤ lo) && decide (lo ≤ 262000000)
  else 144 ≤ start && start + span ≤ 30000 && 1 ≤ span && span ≤ 13500 && (pol == 1 || 1100 ≤ start) &&
    decide (200000 ≤ lo) && decide (lo ≤ 30900000)

/-- The number of sub-bands of a bank (R129). -/
def sbCount (n : Nat) : Nat := if n < 5 then 128 else 256

/-- The centre of sub-band k at IF, in hertz (R129). -/
def sbCentre (n k : Nat) : Int := if n < 5 then ((k : Int) - 64) * 1920000 else ((k : Int) - 128) * 120000

/-- Whether sub-band k belongs to a window (R129): its centre lies within the IF span, edges included. -/
def sbInWindow (n k start span pol : Nat) : Bool :=
  let lo := loOf n start span pol
  decide (k < sbCount n) && decide ((start : Int) * 1000 - lo ≤ sbCentre n k) &&
    decide (sbCentre n k ≤ ((start : Int) + span) * 1000 - lo)

/-- Whether window n has an applied window. -/
def State.tuned (s : State) (n : Nat) : Bool := s.get F.FE_LO_HZ_LO n != 0

/-- Whether sub-band k belongs to the applied window n. -/
def State.sbApplied (s : State) (n k : Nat) : Bool :=
  s.tuned n && sbInWindow n k (s.get F.FE_APPLIED_START_START n) (s.get F.FE_APPLIED_SPAN_SPAN n)
    (s.get F.FE_APPLIED_SPAN_POLARITY n)

/-- The slots whose applied configuration names window n, shadows included. -/
def State.windowSlots (s : State) (n : Nat) : List (Nat × Bind) :=
  s.slots.filterMap fun p => match p.2.applied with
    | some b => if b.window = n then some (p.1, b) else none
    | none => none

/-- The enabled slots of window n. -/
def State.enabledSlots (s : State) (n : Nat) : List (Nat × Bind) :=
  (s.windowSlots n).filter fun p => s.enabled .slot p.1

/-! ### Roles (R89 to R91) -/

def State.isPaired (s : State) (n : Nat) : Bool := s.get F.FE_ROLE_ROLE n == 1
def State.isSpare (s : State) (n : Nat) : Bool := s.get F.FE_ROLE_ROLE n == 2
def State.partner (s : State) (n : Nat) : Nat := s.get F.FE_ROLE_PARTNER n

/-- A window and, if it is paired, its partner, which moves in step with it (R90). -/
def State.members (s : State) (n : Nat) : List Nat := if s.isPaired n then [n, s.partner n] else [n]

/-- Whether a slot of the window has diversity selection enabled. -/
def State.diversityOn (s : State) (n : Nat) : Bool :=
  (s.members n).any fun m => (s.windowSlots m).any fun p => p.2.div

/-- The lowest free host group AG_0 to AG_60 (R16): held by nothing and without members. -/
def State.freeGroup (s : State) : Option Nat :=
  (List.range 61).find? fun g => (s.grp g).holder.isNone && (s.grp g).members.isEmpty

/-- The page of the rotation spare of a kind (0 VHF, 1 LMH), if there is one (R91). -/
def State.sparePage (s : State) (k : Nat) : Option Nat :=
  (if k = 0 then [0, 1, 2, 3, 4] else [5, 6, 7]).find? fun n => s.isSpare n

/-- The kind of a window: 0 VHF, 1 LMH. -/
def kindOf (n : Nat) : Nat := if n < 5 then 0 else 1

/-! ### Calibration coefficients: STALE (R99 to R101) -/

/-- The window set of window n becomes STALE; in RECEIVE that raises WIN_STALE (R101). -/
def State.markStale (s : State) (n : Nat) : State :=
  let t := (s.put F.FE_STAT_STALE n 1).setFe n { s.fe n with winDone := [], cursor := 0 }
  if !s.on F.FE_STAT_STALE n && s.get F.FE_STAT_STATE n == 3 then t.raise .cal 0 Ev.winStale else t

/-- A complete window set has been measured at the current LO: STALE clears, and its time and temperature are kept
(R99, R100). -/
def State.windowFresh (s : State) (n : Nat) : State :=
  let t := s.setFe n { s.fe n with winDone := [], calAt := some s.now }
  (t.put F.FE_STAT_STALE n 0).putE F.CAL_WIN_TEMP 0 n (ofInt 10 (s.hw (s.hwOf n)).temp)

/-! ### Tuners and sweeps (R119, R123) -/

/-- The word of `AER_TUN_p`. -/
def State.tunWord (s : State) (p : Nat) : Nat :=
  s.getE F.AER_TUN_SERIES 0 p + s.getE F.AER_TUN_SHUNT 0 p * 2 ^ 8 + s.getE F.AER_TUN_LTAP 0 p * 2 ^ 16

/-- Writes the word of `AER_TUN_p`. -/
def State.putTun (s : State) (p w : Nat) : State :=
  ((s.putE F.AER_TUN_SERIES 0 p (bits w 6 0)).putE F.AER_TUN_SHUNT 0 p (bits w 14 8)).putE F.AER_TUN_LTAP 0 p
    (bits w 18 16)

/-- The LMH window that selects port p, if any (R59, R119). -/
def State.portWindow (s : State) (p : Nat) : Option Nat :=
  [5, 6, 7].find? fun n => s.get F.FE_CTRL_INPUT n == p && !s.isSpare n

/-- A sweep of port p ends without a result (R123): the setting before it returns, VALID stays 0. -/
def State.sweepCancel (s : State) (p : Nat) : State :=
  let h := s.tuner p
  let t := (s.setTuner p { h with sweeping := none, act := h.saved, waiting := false }).putTun p h.saved
  ((t.put F.AER_SWEEP_RES_VALID 0 0).put F.AER_SWEEP_RES_RUNNING 0 0).raise .aerial 0 Ev.sweepCancel

/-- A probe command that is dropped: a sweep among them ends under R123. -/
def State.dropProbe (s : State) (p : Option Probe) : State :=
  match p with
  | some q => match q.sweep with
    | some port => s.sweepCancel port
    | none => s
  | none => s

/-! ### State steps (R70 to R73) -/

/-- The next state on the path from `cur` to `tgt` (R71). -/
def nextState (cur tgt : Nat) : Nat :=
  if cur = 4 then (if tgt < 2 then tgt else 2)
  else if cur < tgt then cur + 1
  else tgt

/-- A step into state x starts. -/
def State.beginStep (s : State) (n x : Nat) : State :=
  let h := s.fe n
  let q := x == 3 && s.on F.FE_STAT_STALE n && !s.on F.FE_CAL_USE_STALE n
  (s.setFe n { h with step := some x, qcal := q }).put F.FE_STAT_MOVING n 1

/-- Starts the next step towards the target unless a step, an executing probe or a calibration step runs (R72, R106). -/
def State.startMove (s : State) (n : Nat) : State :=
  let h := s.fe n
  if h.step.isSome || h.probe.isSome || h.calStep.isSome then s
  else if s.get F.FE_STAT_STATE n = s.get F.FE_CTRL_STATE n then s
  else s.beginStep n (nextState (s.get F.FE_STAT_STATE n) (s.get F.FE_CTRL_STATE n))

/-- Clears the probe queue and cuts short an executing probe (R81). -/
def State.cancelProbe (s : State) (n : Nat) : State :=
  let h := s.fe n
  if h.probe.isSome || h.queued.isSome then
    let t := (s.setFe n { h with probe := none, queued := none }).put F.FE_STAT_PROBE_QUEUED n 0
    (((t.put F.FE_PROBE_RES_VALID n 0).dropProbe h.probe).dropProbe h.queued).raise .fe n Ev.probeCancel
  else s

/-- A running burst is stopped at once (R85). -/
def State.cancelBurst (s : State) (n : Nat) : State :=
  if (s.fe n).burst.isSome then
    ((s.setFe n { s.fe n with burst := none }).put F.FE_STAT_BURST_ACTIVE n 0).raise .fe n Ev.burstCancel
  else s

/-- The part itself sets the target of a window: a target of SLEEP or STANDBY cuts a probe (R81). -/
def State.partTarget1 (s : State) (n t : Nat) : State :=
  let u := s.put F.FE_CTRL_STATE n t
  (if t < 2 then u.cancelProbe n else u).startMove n

/-- The part sets the target of a window and of its partner. -/
def State.partTarget (s : State) (n t : Nat) : State := (s.members n).foldl (fun u m => u.partTarget1 m t) s

/-! ### Rotation handovers that end early (R110) -/

/-- The handover fields of a kind. -/
def rotReason (k : Nat) : Fld := if k = 0 then F.CAL_ROT_STAT_VHF_REASON else F.CAL_ROT_STAT_LMH_REASON
def rotRunning (k : Nat) : Fld := if k = 0 then F.CAL_ROT_STAT_VHF_RUNNING else F.CAL_ROT_STAT_LMH_RUNNING
def rotWindow (k : Nat) : Fld := if k = 0 then F.CAL_ROT_STAT_VHF_WINDOW else F.CAL_ROT_STAT_LMH_WINDOW
def rotFromHw (k : Nat) : Fld := if k = 0 then F.CAL_ROT_STAT_VHF_FROM_HW else F.CAL_ROT_STAT_LMH_FROM_HW
def rotToHw (k : Nat) : Fld := if k = 0 then F.CAL_ROT_STAT_VHF_TO_HW else F.CAL_ROT_STAT_LMH_TO_HW
def rotAttempts (k : Nat) : Fld := if k = 0 then F.CAL_ROT_STAT_VHF_ATTEMPTS else F.CAL_ROT_STAT_LMH_ATTEMPTS

/-- The part's reserved group of a kind of spare (R16). -/
def rotGroup (k : Nat) : Nat := 62 + k

/-- The slots of a window join or leave a group that the part holds (R19, R147). -/
def State.partGroup (s : State) (n g : Nat) (join : Bool) : State :=
  (s.windowSlots n).foldl (fun t p =>
    (t.put F.SLOT_AG_PART_GROUP p.1 (if join then g else 0)).put F.SLOT_AG_PART_MEMBER p.1 (b2n join)) s

/-- A handover is abandoned (R110): the spare returns to STANDBY, the working front-end stays in service. -/
def State.abandonHandover (s : State) (k reason : Nat) : State :=
  let h := s.hand k
  match h.run with
  | none => s
  | some (w, sp) =>
    let t := s.setHand k { h with run := none, passed := false }
    let t := ((t.put (rotReason k) 0 reason).put (rotRunning k) 0 0).count F.CAL_COUNT_ROT_FAIL 0 1
    let t := ((t.put F.FE_STAT_HANDOVER w 0).partGroup w (rotGroup k) false).put F.FE_STAT_STATE sp 1
    (t.put F.FE_STAT_LOCKED sp 0).raise .cal 0 Ev.rotFail

/-- Abandons the handover that involves window n, as its window or as its spare. -/
def State.abandonFor (s : State) (n reason : Nat) : State :=
  match (s.hand (kindOf n)).run with
  | some (w, sp) => if w = n ∨ sp = n then s.abandonHandover (kindOf n) reason else s
  | none => s

/-! ### Writes of FE_CTRL (R59, R71, R81, R85, R90 to R92) -/

/-- The host sets a new target of one window: it stops a burst, cuts a probe and ends a handover. -/
def State.hostTarget1 (s : State) (n t : Nat) : State :=
  ((((s.put F.FE_CTRL_STATE n t).cancelBurst n).cancelProbe n).abandonFor n 3).startMove n

/-- A write of `FE_CTRL`. -/
def feCtrlWrite (n : Nat) (w : Word) (s : State) : Except Reason State :=
  let st := bits w.toNat 2 0
  let inp := bits w.toNat 5 4
  let cur := s.get F.FE_STAT_STATE n
  if 4 ≤ st then .error .range
  else if inp = 3 ∨ (n < 5 ∧ inp = 2) then .error .range
  else if s.isSpare n then .error .range
  else if s.on F.FE_STAT_SCOUT_USE n && st < 3 then .error .busy
  else if inp ≠ s.get F.FE_CTRL_INPUT n ∧ (cur = 3 ∨ cur = 4) then .error .range
  else if isLmh n && [5, 6, 7].any (fun m => m != n && s.get F.FE_CTRL_INPUT m == inp) then .error .range
  else
    let t := s.put F.FE_CTRL_INPUT n inp
    if st = s.get F.FE_CTRL_STATE n then .ok t
    else .ok ((t.members n).foldl (fun u m => u.hostTarget1 m st) t)

/-! ### Probes (R76 to R81) -/

/-- Whether a probe command would start at once (R78). -/
def State.probeReady (s : State) (n : Nat) : Bool :=
  let h := s.fe n
  (s.get F.FE_STAT_STATE n == 2 || s.get F.FE_STAT_STATE n == 3) && h.step.isNone && s.on F.FE_STAT_LOCKED n &&
    !s.on F.FE_STAT_RETUNING n && !h.retuneDue && h.calStep.isNone && h.probe.isNone

/-- A probe begins its step 1 (R77). -/
def State.startProbe (s : State) (n : Nat) (p : Probe) : State :=
  let t := (s.setFe n { s.fe n with probe := some p }).put F.FE_PROBE_RES_VALID n 0
  t.beginStep n (if s.get F.FE_STAT_STATE n = 3 then 2 else 4)

/-- A probe command that has been accepted starts, or waits in the queue in place of any other (R78, R80). -/
def State.acceptProbe (s : State) (n : Nat) (p : Probe) : State :=
  if s.probeReady n && (s.fe n).queued.isNone then s.startProbe n p
  else
    let old := (s.fe n).queued
    let t := (s.setFe n { s.fe n with queued := some p }).put F.FE_STAT_PROBE_QUEUED n 1
    if old.isSome then (t.dropProbe old).raise .fe n Ev.probeSuperseded else t

/-- Whether a command that would be queued is refused instead (R80); major 1 lacks PROBE_NOWAIT (R96). -/
def State.probeNowait (s : State) (n major : Nat) : Bool :=
  s.on F.FE_PROBE_CFG_PROBE_NOWAIT n && major != 1 && !(s.probeReady n && (s.fe n).queued.isNone)

/-- A probe command from an accessor (R76, R80, R91, R92); `off` is the register written. -/
def probeGo (a : Accessor) (b : Blk) (off n : Nat) (p : Probe) (okTone : Bool) (s : State) : Except Reason State :=
  let tgt := s.get F.FE_CTRL_STATE n
  if s.isSpare n then .error .range
  else if s.on F.FE_STAT_SCOUT_USE n then .error .busy
  else if tgt < 2 ∨ !okTone then .error .range
  else if s.probeNowait n (s.major a (pageOf .fe n)) then
    .ok ((s.raise .fe n Ev.probeBusy).discard a b (if b = .fe then n else 0) off .busy)
  else .ok (s.acceptProbe n p)

/-- A write of `FE_PROBE`. -/
def feProbeWrite (a : Accessor) (n : Nat) (w : Word) (s : State) : Except Reason State :=
  if s.isSpare n then .error .range
  else if bits w.toNat 0 0 = 0 then .ok s
  else
    let tone := s.get F.FE_PROBE_CFG_TONE_KHZ n
    probeGo a .fe 0x6C n
      { tone := tone, atten := s.get F.FE_PROBE_CFG_ATTEN n, dwell := s.get F.FE_PROBE_DWELL_DWELL n }
      (tone ≤ s.get F.FE_APPLIED_SPAN_SPAN n) s

/-- The reflection coefficient of a probe on an LMH window goes to its port (R120, R124). -/
def State.gammaResult (s : State) (n mag : Nat) (phase : Int) : State :=
  if isLmh n then
    let p := s.get F.FE_CTRL_INPUT n
    let t := ((s.putE F.AER_GAMMA_MAG 0 p mag).putE F.AER_GAMMA_VALID 0 p 1).putE F.AER_GAMMA_PHASE 0 p (ofInt 16 phase)
    if s.get F.AER_MIS_TH_THRESH 0 < mag then t.raise .aerial 0 Ev.mismatch else t
  else s

/-- The probe leaves PROBE (steps 4 and 5 of R77): SYNTH is declared and the front-end goes on to its target. -/
def State.leaveProbe (s : State) (n : Nat) : State :=
  let t := (s.setFe n { s.fe n with probe := none }).put F.FE_STAT_STATE n 2
  if t.get F.FE_CTRL_STATE n = 2 then t.raise .fe n Ev.stateReached else t.startMove n

/-! ### Bursts (R82 to R85) -/

/-- The enabled slot that a context is bound to, with its configuration. -/
def State.ctxSlot (s : State) (drm : Bool) (c : Nat) : Option (Nat × Bind) :=
  (s.slots.filterMap fun p => match p.2.applied with
    | some b => if b.ctx = c ∧ (if drm then b.kind = 4 ∨ b.kind = 5 else b.kind = 3) ∧
        !s.on F.SLOT_STAT_SHADOW p.1 then some (p.1, b) else none
    | none => none).head?

/-- The burst ends by its count (R83, R85). -/
def State.burstEndIfDue (s : State) (n : Nat) : State :=
  match (s.fe n).burst with
  | none => s
  | some b =>
    if b.counting && b.len ≤ s.get F.FE_BURST_DONE_COUNT n then
      (((s.setFe n { s.fe n with burst := none }).put F.FE_STAT_BURST_ACTIVE n 0).raise .fe n Ev.burstEnd).partTarget
        n b.after
    else s

/-- A write of `FE_BURST_CMD`; major 1 counts bank frames only (R96). -/
def feBurstWrite (n major : Nat) (w : Word) (s : State) : Except Reason State :=
  let go := bits w.toNat 0 0
  let stop := bits w.toNat 1 1
  if go = 1 ∧ stop = 1 then .error .range
  else if s.isSpare n then .error .range
  else if go = 1 then
    let frames := s.on F.FE_BURST_UNIT n && major != 1
    let drm := s.on F.FE_BURST_SRC_KIND n
    let idx := s.get F.FE_BURST_SRC_INDEX n
    if s.on F.FE_STAT_SCOUT_USE n then .error .busy
    else if frames && !(match s.ctxSlot drm idx with
      | some (m, b) => s.enabled .slot m && b.window == n
      | none => false) then .error .range
    else
      let b : Burst := { after := s.get F.FE_BURST_AFTER n, frames := frames, drm := drm, idx := idx,
                         len := s.get F.FE_BURST_LEN_LEN n }
      .ok ((((s.setFe n { s.fe n with burst := some b }).put F.FE_STAT_BURST_ACTIVE n 1).put
        F.FE_BURST_DONE_COUNT n 0).partTarget n 3)
  else if stop = 1 then
    match (s.fe n).burst with
    | none => .ok s
    | some b => .ok ((s.cancelBurst n).partTarget n b.after)
  else .ok s

/-- A transmission frame of a context starts: bursts that count its frames count those that have ended (R83). -/
def State.burstFrame (s : State) (drm : Bool) (c : Nat) : State :=
  (List.range 8).foldl (fun t n =>
    match (t.fe n).burst with
    | none => t
    | some b =>
      if b.counting && b.frames && b.drm == drm && b.idx == c then
        (t.setFe n { t.fe n with burst := some { b with starts := b.starts + 1 } }).put F.FE_BURST_DONE_COUNT n b.starts
      else t) s

/-! ### Gain control (R86 to R88) -/

/-- The greatest gain index of a window. -/
def maxGain (n : Nat) : Nat := if n < 5 then 40 else 48

/-- A decided gain change takes effect at the boundary: the index, STEPS, GAIN_STEP, GAIN_LIMIT where AUTO reaches a
limit, and the event for the records of the window's slots (R87, R88). -/
def State.gainStepIfDue (s : State) (n : Nat) : State :=
  match (s.fe n).gainNext with
  | none => s
  | some i =>
    let t := s.setFe n { s.fe n with gainNext := none }
    if i = s.get F.FE_GAIN_STAT_INDEX n then t
    else
      let t := ((t.put F.FE_GAIN_STAT_INDEX n i).count F.FE_GAIN_STAT_STEPS n 1).raise .fe n Ev.gainStep
      let t := { t with gainLog := t.gainLog ++ [(s.now, n, i)] }
      let t := if s.get F.FE_GAIN_MODE n = 0 ∧ (i = 0 ∨ i = maxGain n) then t.raise .fe n Ev.gainLimit else t
      match (s.hand (kindOf n)).run with
      | some (w, sp) => if w = n then t.put F.FE_GAIN_STAT_INDEX sp i else t
      | none => t

/-- The decision at the end of an AGC block (R87): `peak` is the block's peak in 0.01 dBFS. -/
def State.gainDecide (s : State) (n : Nat) (peak : Int) : State :=
  let h := s.fe n
  let i := s.get F.FE_GAIN_STAT_INDEX n
  if s.get F.FE_GAIN_MODE n ≠ 0 then s
  else if -50 * (s.get F.FE_AGC_HI n : Int) < peak then
    s.setFe n { h with gainNext := some (i - 1), upCount := 0 }
  else if peak < -50 * (s.get F.FE_AGC_LO n : Int) then
    if h.upCount + 1 = s.get F.FE_AGC_UP_HOLD n then
      s.setFe n { h with gainNext := some (min (i + 1) (maxGain n)), upCount := 0 }
    else s.setFe n { h with upCount := h.upCount + 1 }
  else s.setFe n { h with upCount := 0 }

/-- The fast attack on a bank frame with `full` samples at full-scale code (R87). -/
def State.gainFast (s : State) (n full : Nat) : State :=
  if s.get F.FE_GAIN_MODE n = 0 ∧ s.on F.FE_AGC_CLIP_FAST n ∧ 4 ≤ full then
    s.setFe n { s.fe n with gainNext := some (s.get F.FE_GAIN_STAT_INDEX n - 2), upCount := 0 }
  else s

/-- After an accepted write of `FE_GAIN` (R87): MANUAL applies INDEX at the next boundary, HOLD keeps the index. -/
def feGainWritten (n : Nat) (s : State) : Except Reason State :=
  let m := s.get F.FE_GAIN_MODE n
  if maxGain n < s.get F.FE_GAIN_INDEX n then .error .range
  else if m = 2 then .ok (s.setFe n { s.fe n with gainNext := some (s.get F.FE_GAIN_INDEX n) })
  else if m = 1 then .ok (s.setFe n { s.fe n with gainNext := none })
  else .ok s

/-! ### Retuning (R64 to R69) -/

/-- The new window is reported from the commit; a moved LO makes the set STALE; in SYNTH and RECEIVE a retune starts at
the next boundary (R64, R67). -/
def State.applyWindow (s : State) (n start span pol : Nat) : State :=
  let lo := (loOf n start span pol).toNat
  let moved := lo != s.get F.FE_LO_HZ_LO n
  let t := (((s.put F.FE_LO_HZ_LO n lo).put F.FE_APPLIED_START_START n start).put F.FE_APPLIED_SPAN_SPAN n span).put
    F.FE_APPLIED_SPAN_POLARITY n pol
  let t := if moved then t.markStale n else t
  if 2 ≤ s.get F.FE_STAT_STATE n then t.setFe n { t.fe n with retuneDue := true } else t

/-- A write of `FE_TUNE` (R63 to R66, R91, R92). -/
def feTuneWrite (n : Nat) (w : Word) (s : State) : Except Reason State :=
  let start := s.get F.FE_WIN_START_START n
  let span := s.get F.FE_WIN_SPAN_SPAN n
  let pol := s.get F.FE_IF_POLARITY n
  if s.isSpare n then .error .range
  else if bits w.toNat 0 0 = 0 then .ok s
  else if s.isPaired n && s.partner n < n then .error .range
  else if s.get F.FE_STAT_STATE n = 4 ∨ (s.fe n).probe.isSome ∨ (s.fe n).queued.isSome then .error .busy
  else if s.on F.FE_STAT_HANDOVER n then .error .busy
  else if s.on F.FE_STAT_SCOUT_USE n then .error .busy
  else if !windowOk n start span pol then .error .range
  else if (s.members n).any (fun m => (s.enabledSlots m).any fun p => !sbInWindow n p.2.subband start span pol) then
    .error .range
  else .ok ((s.members n).foldl (fun t m => t.applyWindow m start span pol) s)

/-- The zero flag of the next bank frame as the window stands, by its bit in R404; none for real samples (R75). -/
def State.zeroFlag (s : State) (n : Nat) : Option Nat :=
  let h := s.fe n
  if s.get F.FE_STAT_STATE n ≠ 3 ∨ h.step.isSome ∨ h.probe.isSome then some 1
  else if s.on F.FE_STAT_RETUNING n then some 0
  else if h.relock || !s.lineLocked (s.hwOf n) then some 1
  else if h.calGap then some 2
  else none

/-- Decides the flag of the bank frame that starts now. -/
def State.latchFrame (s : State) (n : Nat) : State := s.setFe n { s.fe n with frameFlag := s.zeroFlag n }

/-- A retune starts at the boundary (R67): the synthesiser leaves lock for its new word. -/
def State.retuneStart1 (s : State) (n : Nat) : State :=
  if (s.fe n).retuneDue then
    (((s.setFe n { s.fe n with retuneDue := false, word := s.get F.FE_LO_HZ_LO n }).put
      F.FE_STAT_RETUNING n 1).put F.FE_STAT_LOCKED n 0).latchFrame n
  else s

/-- A retune ends at the first boundary at or after lock (R68); RETUNE_DONE tells of real samples, which only RECEIVE has. -/
def State.retuneDone1 (s : State) (n : Nat) : State :=
  if s.on F.FE_STAT_RETUNING n && !(s.fe n).retuneDue then
    let t := ((s.put F.FE_STAT_RETUNING n 0).put F.FE_STAT_LOCKED n 1).latchFrame n
    if s.get F.FE_STAT_STATE n = 3 ∧ (s.fe n).step = none then t.raise .fe n Ev.retuneDone else t
  else s

/-! ### Pairs, spares (R89 to R91) -/

/-- Forms the pair of `n` and the higher page `p` with group `g` (R89). -/
def State.formPair (s : State) (n p g : Nat) : State :=
  let t := s.setGrp g { s.grp g with holder := some (.pair n) }
  let t := t.puts n [(F.FE_ROLE_ROLE, 1), (F.FE_ROLE_PARTNER, p), (F.FE_ROLE_AG, g)]
  let t := t.puts p [(F.FE_ROLE_ROLE, 1), (F.FE_ROLE_PARTNER, n), (F.FE_ROLE_AG, g),
    (F.FE_CTRL_INPUT, 1 - s.get F.FE_CTRL_INPUT n), (F.FE_WIN_START_START, s.get F.FE_WIN_START_START n),
    (F.FE_WIN_SPAN_SPAN, s.get F.FE_WIN_SPAN_SPAN n), (F.FE_IF_POLARITY, s.get F.FE_IF_POLARITY n)]
  if s.tuned n then
    t.applyWindow p (s.get F.FE_APPLIED_START_START n) (s.get F.FE_APPLIED_SPAN_SPAN n)
      (s.get F.FE_APPLIED_SPAN_POLARITY n)
  else t

/-- Dissolves the pair of `n` and frees its group (R90). -/
def State.dissolvePair (s : State) (n : Nat) : State :=
  let p := s.partner n
  let g := s.get F.FE_ROLE_AG n
  let zero := [(F.FE_ROLE_ROLE, 0), (F.FE_ROLE_PARTNER, 0), (F.FE_ROLE_AG, 0)]
  ((s.setGrp g { s.grp g with holder := none }).puts n zero).puts p zero

/-- Why a pair of `n` and `p` cannot be formed (R89). -/
def State.pairRefused (s : State) (n p : Nat) : Bool :=
  !(n < p && p < 5) || s.get F.FE_ROLE_ROLE n != 0 || s.get F.FE_ROLE_ROLE p != 0 ||
  2 < s.get F.FE_STAT_STATE n || 2 < s.get F.FE_STAT_STATE p || !(s.enabledSlots p).isEmpty ||
  4 ≤ ([0, 1, 2, 3, 4].filter fun m => s.isPaired m).length || s.freeGroup.isNone

/-- Why `n` cannot become a rotation spare (R91). -/
def State.spareRefused (s : State) (n : Nat) : Bool :=
  s.get F.FE_ROLE_ROLE n != 0 || s.get F.FE_STAT_STATE n != 0 || (s.fe n).step.isSome ||
  !(s.enabledSlots n).isEmpty || (s.sparePage (kindOf n)).isSome

/-- Whether a handover of this kind runs on spare page n. -/
def State.spareBusy (s : State) (n : Nat) : Bool :=
  match (s.hand (kindOf n)).run with
  | some (_, sp) => sp == n
  | none => false

/-- A write of `FE_ROLE` (R89 to R92). -/
def feRoleWrite (n : Nat) (w : Word) (s : State) : Except Reason State :=
  let role := bits w.toNat 1 0
  let p := bits w.toNat 6 4
  if role = 3 then .error .range
  else if s.on F.FE_STAT_SCOUT_USE n && role != 0 then .error .busy
  else if s.isPaired n then
    if role = 0 then (if s.diversityOn n then .error .range else .ok (s.dissolvePair n))
    else if role = 1 ∧ p = s.partner n then .ok s else .error .range
  else if s.isSpare n then
    if role = 0 then (if s.spareBusy n then .error .busy else .ok ((s.put F.FE_ROLE_ROLE n 0).put F.FE_ROLE_PARTNER n p))
    else if role = 2 then .ok (s.put F.FE_ROLE_PARTNER n p) else .error .range
  else if role = 0 then .ok (s.put F.FE_ROLE_PARTNER n p)
  else if role = 1 then
    if s.pairRefused n p then .error .range
    else match s.freeGroup with
      | some g => .ok (s.formPair n p g)
      | none => .error .range
  else if s.spareRefused n then .error .range
  else .ok (((s.put F.FE_ROLE_ROLE n 2).put F.FE_ROLE_PARTNER n p).partTarget n 1)

/-! ### The reset of an FE page (R95) -/

/-- Whether a reset of the page is discarded with reason BUSY. -/
def State.feResetBusy (s : State) (n : Nat) : Bool := s.isPaired n && s.diversityOn n

/-- A page reset: the front-end goes to SLEEP, the probe queue and any burst are cleared, a pair is dissolved. The
hardware behind the page stays the same (R60). A front-end that was above SLEEP or moving has reached its target (R72). -/
def State.feReset (s : State) (n : Nat) : State :=
  let h := s.fe n
  let hw := s.hwOf n
  let t := s.abandonFor n 3
  let t := if t.isPaired n then t.dissolvePair n else t
  let t := (t.dropProbe h.probe).dropProbe h.queued
  let t := ((t.setFe n { calAt := h.calAt, winDone := [] }).resetRegs .fe n).put F.FE_STAT_HW n hw
  let t := if h.probe.isSome || h.queued.isSome then t.raise .fe n Ev.probeCancel else t
  let t := if h.step.isSome || s.get F.FE_STAT_STATE n != 0 then t.raise .fe n Ev.stateReached else t
  if h.burst.isSome then t.raise .fe n Ev.burstCancel else t

/-! ### Steps that end -/

/-- What leaving the synthesiser off clears. -/
def State.synthOff (s : State) (n : Nat) : State :=
  ((s.put F.FE_STAT_LOCKED n 0).put F.FE_STAT_RETUNING n 0).setFe n { s.fe n with retuneDue := false, relock := false }

/-- The step into state x ends (R72, R77). -/
def State.stepDone (s : State) (n x : Nat) : State :=
  let cur := s.get F.FE_STAT_STATE n
  let t := ((s.setFe n { s.fe n with step := none, qcal := false }).put F.FE_STAT_MOVING n 0).put F.FE_STAT_STATE n x
  let t := if x < 2 then t.synthOff n
    else if cur = 1 then (t.put F.FE_STAT_LOCKED n 1).setFe n { t.fe n with word := t.get F.FE_LO_HZ_LO n } else t
  if (t.fe n).probe.isSome then (if x = 2 then t.beginStep n 4 else t)
  else if x = t.get F.FE_CTRL_STATE n then t.raise .fe n Ev.stateReached
  else t.startMove n

/-! ### The meanings -/

def execTuneCommit (a : Accessor) (f : Fin 8) (w : Word) (s : State) : Host.Outcome State Fault Refusal :=
  .next (s.cmdWrite a .fe f.val 0x54 w (feTuneWrite f.val w))

def execRetuneStart (f : Fin 8) (s : State) : Host.Outcome State Fault Refusal :=
  .next ((s.members f.val).foldl (fun t m => t.retuneStart1 m) s)

def execRetuneDone (f : Fin 8) (s : State) : Host.Outcome State Fault Refusal :=
  .next ((s.members f.val).foldl (fun t m => t.retuneDone1 m) s)

def execFeStateWrite (a : Accessor) (f : Fin 8) (w : Word) (s : State) : Host.Outcome State Fault Refusal :=
  .next (s.regWrite a .fe f.val 0x40 (feCtrlWrite f.val w))

/-- The step that the window and its partner run together ends; RECEIVE waits for the long line (R309). -/
def execFeStepDone (f : Fin 8) (s : State) : Host.Outcome State Fault Refusal :=
  match (s.fe f.val).step with
  | none => .next s
  | some x =>
    if (s.fe f.val).qcal || (x == 3 && !(s.members f.val).all fun m => s.lineLocked (s.hwOf m)) then .next s
    else .next (((s.members f.val).filter fun m => (s.fe m).step == some x).foldl (fun t m => t.stepDone m x) s)

/-- The quick calibration ends (R100): STALE clears and the step into RECEIVE may end. -/
def execQcalDone (f : Fin 8) (s : State) : Host.Outcome State Fault Refusal :=
  if (s.fe f.val).qcal then
    .next (((s.setFe f.val { s.fe f.val with qcal := false }).windowFresh f.val).raise .cal 0 Ev.qcalDone)
  else .next s

/-- The synthesiser loses lock without a retune (R74, R110). -/
def execLockLost (f : Fin 8) (s : State) : Host.Outcome State Fault Refusal :=
  let n := f.val
  if 2 ≤ s.get F.FE_STAT_STATE n ∧ s.on F.FE_STAT_LOCKED n ∧ !s.on F.FE_STAT_RETUNING n then
    let t := ((s.put F.FE_STAT_LOCKED n 0).setFe n { s.fe n with relock := true }).raise .fe n Ev.lockLost
    let t := if (s.fe n).probe.isSome then (t.cancelProbe n).startMove n else t
    .next (t.abandonFor n 2)
  else .next s

/-- Lock is declared again after a loss (R74), the synthesiser's reference being there (R297): XO_IN in XO mode, else the
PLL. Real samples resume at the next boundary. -/
def execFeRelockDone (f : Fin 8) (s : State) : Host.Outcome State Fault Refusal :=
  if (s.fe f.val).relock && (if s.get F.CLK_STAT_REF_ACT 0 = 0 then s.on F.CLK_STAT_XO_OK 0 else s.pllLocked) then
    .next ((s.setFe f.val { s.fe f.val with relock := false }).put F.FE_STAT_LOCKED f.val 1)
  else .next s

def execProbeCommand (a : Accessor) (f : Fin 8) (w : Word) (s : State) : Host.Outcome State Fault Refusal :=
  .next (s.cmdWrite a .fe f.val 0x6C w (feProbeWrite a f.val w))

/-- A queued probe begins once lock is declared and nothing else runs (R78). -/
def execProbeStart (f : Fin 8) (s : State) : Host.Outcome State Fault Refusal :=
  match (s.fe f.val).queued with
  | none => .next s
  | some p =>
    if s.probeReady f.val then
      .next (((s.setFe f.val { s.fe f.val with queued := none }).put F.FE_STAT_PROBE_QUEUED f.val 0).startProbe f.val p)
    else .next s

/-- The dwell of a probe ends (R77, R120). -/
def execProbeDone (f : Fin 8) (level phase : Int) (gammaMag : Fin 1025) (gammaPhase : Int) (s : State) :
    Host.Outcome State Fault Refusal :=
  let n := f.val
  match (s.fe n).probe with
  | none => .next s
  | some p =>
    if p.sweep.isSome ∨ s.get F.FE_STAT_STATE n ≠ 4 then .next s
    else
      let t := s.puts n [(F.FE_PROBE_RES_LEVEL, satS 15 level), (F.FE_PROBE_RES_VALID, 1),
        (F.FE_PROBE_RES_PHASE, satS 16 phase)]
      .next (((t.gammaResult n gammaMag.val gammaPhase).raise .fe n Ev.probeDone).leaveProbe n)

def execBurstGo (a : Accessor) (f : Fin 8) (w : Word) (s : State) : Host.Outcome State Fault Refusal :=
  .next (s.cmdWrite a .fe f.val 0x88 w (feBurstWrite f.val (s.major a (pageOf .fe f.val)) w))

def execBurstStop (a : Accessor) (f : Fin 8) (w : Word) (s : State) : Host.Outcome State Fault Refusal :=
  .next (s.cmdWrite a .fe f.val 0x88 w (feBurstWrite f.val (s.major a (pageOf .fe f.val)) w))

def execBurstEnd (f : Fin 8) (s : State) : Host.Outcome State Fault Refusal := .next (s.burstEndIfDue f.val)

/-- A FRAMES burst whose context lost frame synchronisation ends at its timeout (R84). -/
def execBurstTimeout (f : Fin 8) (s : State) : Host.Outcome State Fault Refusal :=
  match (s.fe f.val).burst with
  | none => .next s
  | some b =>
    if b.frames && b.counting then
      .next (((((s.setFe f.val { s.fe f.val with burst := none }).put F.FE_STAT_BURST_ACTIVE f.val 0).raise
        .fe f.val Ev.burstTimeout).raise .fe f.val Ev.burstEnd).partTarget f.val b.after)
    else .next s

/-- An AGC block of a window in RECEIVE ends (R87). -/
def execGainBlockEnd (f : Fin 8) (peakCdb : Int) (fullScale : Bool) (s : State) : Host.Outcome State Fault Refusal :=
  if s.get F.FE_STAT_STATE f.val ≠ 3 then .next s
  else
    let t := if fullScale then s.raise .fe f.val Ev.adcClip else s
    .next (t.gainDecide f.val peakCdb)

def execGainStep (f : Fin 8) (s : State) : Host.Outcome State Fault Refusal := .next (s.gainStepIfDue f.val)

def execDiversityPairForm (a : Accessor) (f : Fin 8) (w : Word) (s : State) : Host.Outcome State Fault Refusal :=
  .next (s.regWrite a .fe f.val 0x90 (feRoleWrite f.val w))

def execPairDissolve (a : Accessor) (f : Fin 8) (w : Word) (s : State) : Host.Outcome State Fault Refusal :=
  .next (s.regWrite a .fe f.val 0x90 (feRoleWrite f.val w))

def execSpareDesignate (a : Accessor) (f : Fin 8) (w : Word) (s : State) : Host.Outcome State Fault Refusal :=
  .next (s.regWrite a .fe f.val 0x90 (feRoleWrite f.val w))

/-- More than 10 s in SLEEP make the window set STALE (R99). -/
def execFeSleepStale (f : Fin 8) (s : State) : Host.Outcome State Fault Refusal :=
  if s.get F.FE_STAT_STATE f.val = 0 then .next (s.markStale f.val) else .next s

/-- The 100 ms temperature sample, in 0.5 °C (R99). -/
def execFeTempSample (f : Fin 8) (temp : Int) (s : State) : Host.Outcome State Fault Refusal :=
  let n := f.val
  if !s.powered .fe n then .next s
  else
    let k := s.hwOf n
    let t := s.setHw k { s.hw k with temp := temp }
    let d := temp - sgn 10 (s.getE F.CAL_WIN_TEMP 0 n)
    if !s.on F.FE_STAT_STALE n && decide (8 < d ∨ d < -8) then .next (t.markStale n) else .next t

end Sys2Proof.Machine
end

