-- ==== Sys2Proof/Machine/Cal.lean ====
section
/-! DEFINITION. Background calibration (R97 to R107), rotation handover (R108 to R110), aerials: amplifiers (R113), tuners
and sweeps (R119 to R124), bias and noise floor (R125, R126). -/

namespace Sys2Proof.Machine

/-! ### Steps and policies -/

/-- The number of steps of the window set and of the full calibration (R97). -/
def windowSteps : Nat := 8
def fullSteps : Nat := 40

/-- The policy in force for a window (R105): ROTATE without a spare of the kind is GAP. -/
def State.effective (s : State) (n : Nat) : Nat :=
  if s.get F.FE_CAL_POLICY n = 0 ∧ (s.sparePage (kindOf n)).isNone then 1 else s.get F.FE_CAL_POLICY n

/-- After an accepted write of `FE_CAL` (R104). -/
def feCalWritten (n : Nat) (s : State) : Except Reason State :=
  if s.get F.FE_CAL_POLICY n = 3 ∧ s.get F.FE_CAL_USE_STALE n = 0 then .error .range else .ok s

/-- A list with an element once. -/
def addOnce (l : List Nat) (x : Nat) : List Nat := if l.contains x then l else l ++ [x]

/-- Whether all of the steps `lo` to `hi - 1` are in a list. -/
def hasAll (l : List Nat) (lo hi : Nat) : Bool := (List.range (hi - lo)).all fun i => l.contains (lo + i)

/-- A step that measured well is kept; complete sets are noted with their time (R97, R100). -/
def State.stepKept (s : State) (n i : Nat) : State :=
  let k := s.hwOf n
  let t := s.setHw k { s.hw k with failed := (s.hw k).failed.filter (fun j => j != i) }
  if i < windowSteps then
    let d := addOnce (t.fe n).winDone i
    if hasAll d 0 windowSteps then t.windowFresh n else t.setFe n { t.fe n with winDone := d }
  else
    let d := addOnce (t.hw k).done i
    if hasAll d windowSteps fullSteps then t.setHw k { t.hw k with done := [], doneAt := some s.now }
    else t.setHw k { t.hw k with done := d }

/-- A step with an implausible result keeps the previous coefficients; the second failure in a row of one step on one
front-end sets STEP_ERR (R102). -/
def State.stepRejected (s : State) (n i : Nat) : State :=
  let k := s.hwOf n
  let t := s.raise .cal 0 Ev.calStepErr
  if (s.hw k).failed.contains i then (t.put F.CAL_COUNT_STEP_ERR 0 1).raise .cal 0 Ev.calStepErr
  else t.setHw k { t.hw k with failed := addOnce (t.hw k).failed i }

/-- Under GAP a step starts while the front-end rests in SYNTH and no probe is queued (R106). -/
def execCalStepStart (f : Fin 8) (s : State) : Host.Outcome State Fault Refusal :=
  let n := f.val
  let h := s.fe n
  if s.effective n = 1 ∧ s.get F.FE_STAT_STATE n = 2 ∧ s.get F.FE_CTRL_STATE n = 2 ∧ h.step = none ∧
      h.queued = none ∧ h.probe = none ∧ h.calStep = none ∧ !s.on F.FE_STAT_RETUNING n ∧ s.on F.FE_STAT_LOCKED n then
    .next (s.setFe n { h with calStep := some h.cursor })
  else .next s

/-- The SCHEDULED interval of a window in RECEIVE expires: one step interrupts reception with CAL_GAP zeros from the
boundary on (R107). -/
def execScheduledCal (f : Fin 8) (s : State) : Host.Outcome State Fault Refusal :=
  let n := f.val
  let h := s.fe n
  if s.effective n = 2 ∧ s.get F.FE_STAT_STATE n = 3 ∧ h.step = none ∧ h.queued = none ∧ h.probe = none ∧
      h.calStep = none ∧ !s.on F.FE_STAT_RETUNING n ∧ h.relock = false then
    .next ((s.setFe n { h with calStep := some h.cursor, calGap := true }).latchFrame n)
  else .next s

/-- A calibration step ends (R97, R102, R106): its coefficients are kept or rejected, the next step is the next item, and
a move that waited goes on. -/
def execCalStepEnd (f : Fin 8) (plausible : Bool) (s : State) : Host.Outcome State Fault Refusal :=
  let n := f.val
  match (s.fe n).calStep with
  | none => .next s
  | some i =>
    let h := s.fe n
    let t := s.setFe n { h with calStep := none, calGap := false, cursor := (i + 1) % fullSteps }
    let t := if plausible then t.stepKept n i else t.stepRejected n i
    .next (t.startMove n)

/-! ### Rotation handover (R108 to R110) -/

/-- Whether a window is eligible for a handover (R108). -/
def State.eligible (s : State) (n : Nat) : Bool :=
  let h := s.fe n
  s.effective n == 0 && !s.isSpare n && s.get F.FE_STAT_STATE n == 3 && s.get F.FE_CTRL_STATE n == 3 &&
  h.step.isNone && !s.on F.FE_STAT_RETUNING n && !h.retuneDue && h.probe.isNone && h.queued.isNone &&
  !s.on F.FE_STAT_SCOUT_USE n

/-- The windows of a kind in ascending order after window `last`, wrapping around. -/
def rotOrder (k last : Nat) : List Nat :=
  let ws := if k = 0 then [0, 1, 2, 3, 4] else [5, 6, 7]
  ws.filter (fun n => last < n) ++ ws.filter (fun n => n ≤ last)

/-- The next window to serve: a STALE one in RECEIVE first (R101), else in ascending order (R108). -/
def State.nextWindow (s : State) (k : Nat) : Option Nat :=
  let ws := (rotOrder k (s.hand k).last).filter fun n => s.eligible n
  match ws.find? fun n => s.on F.FE_STAT_STALE n with
  | some n => some n
  | none => ws.head?

/-- A handover of window n starts (R109, steps 1 to 3): the spare takes the window's word, INPUT and gain, measures its
window set and enters RECEIVE. -/
def State.startHandover (s : State) (k n sp : Nat) : State :=
  let t := s.setHand k { s.hand k with run := some (n, sp), passed := false, due := none }
  let t := (((((t.put (rotWindow k) 0 n).put (rotFromHw k) 0 (s.hwOf n)).put (rotToHw k) 0 (s.hwOf sp)).put
    (rotAttempts k) 0 0).put (rotReason k) 0 0).put (rotRunning k) 0 1
  let t := t.puts sp [(F.FE_STAT_STATE, 3), (F.FE_STAT_LOCKED, 1), (F.FE_CTRL_INPUT, s.get F.FE_CTRL_INPUT n),
    (F.FE_GAIN_STAT_INDEX, s.get F.FE_GAIN_STAT_INDEX n), (F.FE_LO_HZ_LO, s.get F.FE_LO_HZ_LO n),
    (F.FE_APPLIED_START_START, s.get F.FE_APPLIED_START_START n),
    (F.FE_APPLIED_SPAN_SPAN, s.get F.FE_APPLIED_SPAN_SPAN n),
    (F.FE_APPLIED_SPAN_POLARITY, s.get F.FE_APPLIED_SPAN_POLARITY n)]
  (t.put F.FE_STAT_HANDOVER n 1).partGroup n (rotGroup k) true

/-- Starts a handover of window `w`, or of the next eligible one; while another runs or the freed front-end still
calibrates, it waits (R108). -/
def State.requestHandover (s : State) (k : Nat) (w : Option Nat) : State :=
  match s.sparePage k with
  | none => s
  | some sp =>
    let h := s.hand k
    if h.run.isSome || h.fullCal then s.setHand k { h with due := some w }
    else
      let target := match w with
        | some n => if s.eligible n then some n else none
        | none => s.nextWindow k
      match target with
      | none => s.setHand k { h with due := none }
      | some n => s.startHandover k n sp

def execRotationPeriod (lmh : Bool) (s : State) : Host.Outcome State Fault Refusal :=
  .next (s.requestHandover (b2n lmh) none)

/-- A write of `CAL_ROT_CMD` (R108). -/
def calRotWrite (w : Word) (s : State) : Except Reason State :=
  let n := bits w.toNat 2 0
  if bits w.toNat 3 3 = 0 then .ok s
  else if s.eligible n then .ok (s.requestHandover (kindOf n) (some n))
  else .error .range

def execCalRotCmd (a : Accessor) (w : Word) (s : State) : Host.Outcome State Fault Refusal :=
  .next (s.regWrite a .cal 0 0x48 (calRotWrite w))

/-- Whether a matching attempt passes (R109): gain in 0.001 dB, phase in 0.01°, delay in 1/1,024 sample. -/
def matchPasses (gain phase delay : Int) : Bool :=
  decide (-20 ≤ gain ∧ gain ≤ 20 ∧ -20 ≤ phase ∧ phase ≤ 20 ∧ -16 ≤ delay ∧ delay ≤ 16)

/-- A matching attempt ends (R109, R110). -/
def execMatchAttemptEnd (lmh : Bool) (gain phase delay : Int) (s : State) : Host.Outcome State Fault Refusal :=
  let k := b2n lmh
  let h := s.hand k
  if h.run.isNone || h.passed then .next s
  else
    let tries := s.get (rotAttempts k) 0 + 1
    let t := s.put (rotAttempts k) 0 tries
    let t := if lmh then
        (t.put F.CAL_MATCH_LMH_GAIN_ERR 0 (satS 16 gain)).puts 0
          [(F.CAL_MATCH_LMH_PHASE_ERR, satS 16 phase), (F.CAL_MATCH_LMH_D_DELAY_ERR, satS 16 delay)]
      else
        (t.put F.CAL_MATCH_VHF_GAIN_ERR 0 (satS 16 gain)).puts 0
          [(F.CAL_MATCH_VHF_PHASE_ERR, satS 16 phase), (F.CAL_MATCH_VHF_D_DELAY_ERR, satS 16 delay)]
    if matchPasses gain phase delay then .next (t.setHand k { h with passed := true })
    else if 4 ≤ tries then .next (t.abandonHandover k 1)
    else .next t

/-- The boundary after a passing attempt: every slot of the window switches to the spare's stream, and the front-ends
behind the two pages change places (R109, steps 5 and 6). -/
def State.rotationSwitchIfDue (s : State) (k : Nat) : State :=
  let h := s.hand k
  match h.run with
  | none => s
  | some (w, sp) =>
    if !h.passed then s
    else
      let t := s.setHand k { h with run := none, passed := false, fullCal := true, last := w }
      let t := (t.put F.FE_STAT_HW w (s.hwOf sp)).put F.FE_STAT_HW sp (s.hwOf w)
      let t := ((t.put F.FE_STAT_HANDOVER w 0).partGroup w (rotGroup k) false).windowFresh w
      let t := (t.put F.FE_STAT_STATE sp 2).put (rotRunning k) 0 0
      ((t.count F.CAL_COUNT_ROT_DONE 0 1).raise .cal 0 Ev.rotDone)

def execRotationSwitch (lmh : Bool) (s : State) : Host.Outcome State Fault Refusal :=
  .next (s.rotationSwitchIfDue (b2n lmh))

/-- The freed front-end has run its full calibration (R109, step 6), and a handover that waited for it starts (R108). -/
def execFullCalDone (lmh : Bool) (s : State) : Host.Outcome State Fault Refusal :=
  let k := b2n lmh
  let h := s.hand k
  if !h.fullCal then .next s
  else
    match s.sparePage k with
    | none => .next (s.setHand k { h with fullCal := false, due := none })
    | some sp =>
      let hw := s.hwOf sp
      let t := (s.setHand k { h with fullCal := false }).setHw hw { s.hw hw with done := [], doneAt := some s.now }
      let t := ((t.put F.FE_STAT_STATE sp 1).put F.FE_STAT_LOCKED sp 0).raise .cal 0 Ev.fullCalDone
      match h.due with
      | none => .next t
      | some w => .next (t.requestHandover k w)

/-- The reset of the CAL page: counters and statistics clear, running handovers are abandoned; no coefficient changes. -/
def State.calReset (s : State) : State :=
  let t := ((s.abandonHandover 0 3).abandonHandover 1 3)
  let temps := (List.range 8).map fun n => t.getE F.CAL_WIN_TEMP 0 n
  let u := t.resetRegs .cal 0
  ((List.range 8).zip temps).foldl (fun v p => v.putE F.CAL_WIN_TEMP 0 p.1 p.2) u

/-! ### Aerials -/

/-- After an accepted write of `AER_VHF` (R113): `s` before, `t` after. An amplifier does not change while a front-end
that selects its input is in RECEIVE or PROBE. -/
def aerVhfWritten (s t : State) : Except Reason State :=
  let changed := fun (i : Nat) =>
    if i = 0 then s.get F.AER_VHF_AMP_A_EN 0 != t.get F.AER_VHF_AMP_A_EN 0 ||
      s.get F.AER_VHF_BYPASS_A 0 != t.get F.AER_VHF_BYPASS_A 0
    else s.get F.AER_VHF_AMP_B_EN 0 != t.get F.AER_VHF_AMP_B_EN 0 ||
      s.get F.AER_VHF_BYPASS_B 0 != t.get F.AER_VHF_BYPASS_B 0
  if [0, 1, 2, 3, 4].any fun n => 3 ≤ s.get F.FE_STAT_STATE n && changed (s.get F.FE_CTRL_INPUT n) then .error .range
  else .ok t

/-- After an accepted write of `AER_BIAS` (R125): writing EN again ends a cut. -/
def aerBiasWritten (t : State) : Except Reason State :=
  .ok ((List.range 5).foldl (fun u p =>
    if bit (u.get F.AER_BIAS_EN 0) p then
      (u.putE F.AER_BIAS_MEAS_CUT 0 p 0).setAerial p { u.aerial p with low := 0, high := 0 }
    else u.setAerial p { u.aerial p with low := 0, high := 0 }) t)

/-- A write of `AER_TUN_p` (R119): discarded while a sweep of the port is queued or runs; at once if no window selects
the port, else at the window's next boundary. -/
def aerTunWrite (p : Nat) (w : Word) (s : State) : Except Reason State :=
  let h := s.tuner p
  if h.sweeping.isSome then .error .busy
  else
    let t := s.putTun p w.toNat
    match s.portWindow p with
    | none => .ok (t.setTuner p { h with act := t.tunWord p, waiting := false })
    | some _ => .ok (t.setTuner p { h with waiting := true })

/-- Tuner changes of the port that window n selects take effect at its boundary (R119). -/
def State.tunerBoundary (s : State) (n : Nat) : State :=
  if isLmh n then
    let p := s.get F.FE_CTRL_INPUT n
    if (s.tuner p).waiting then s.setTuner p { s.tuner p with waiting := false, act := s.tunWord p } else s
  else s

/-- The sweep of a port is accepted: the setting before it is kept, and it is a probe command on the window (R121). -/
def State.sweepAccepted (s : State) (p n : Nat) : State :=
  (((s.setTuner p { s.tuner p with sweeping := some n, saved := s.tunWord p }).put F.AER_SWEEP_RES_VALID 0 0).put
    F.AER_SWEEP_RES_RUNNING 0 1)

/-- A write of `AER_SWEEP` (R121). -/
def aerSweepWrite (a : Accessor) (w : Word) (s : State) : Except Reason State :=
  let p := bits w.toNat 1 0
  if p = 3 then .error .range
  else if bits w.toNat 2 2 = 0 then .ok s
  else match s.portWindow p with
    | none => .error .range
    | some n =>
      let freq := s.getE F.AER_SWEEP_CFG_FREQ 0 p
      let start := s.get F.FE_APPLIED_START_START n
      if s.getE F.AER_SWEEP_CFG_L_MASK 0 p = 0 ∨ s.on F.FE_STAT_SCOUT_USE n then .error .range
      else if !s.tuned n ∨ freq < start ∨ start + s.get F.FE_APPLIED_SPAN_SPAN n < freq then .error .range
      else if s.get F.FE_CTRL_STATE n < 2 then .error .range
      else if s.probeNowait n (s.major a (pageOf .fe n)) then
        .ok (((s.raise .fe n Ev.probeBusy).raise .aerial 0 Ev.sweepCancel).discard a .aerial 0 0xB8 .busy)
      else
        let q : Probe := { tone := freq - start, dwell := 0, sweep := some p }
        if (s.tuner p).sweeping.isSome then .ok ((s.acceptProbe n q).sweepAccepted p n)
        else .ok ((s.sweepAccepted p n).acceptProbe n q)

def execSweepGo (a : Accessor) (w : Word) (s : State) : Host.Outcome State Fault Refusal :=
  .next (s.regWrite a .aerial 0 0xB8 (aerSweepWrite a w))

/-- The measured |Γ| of a setting, a word of `AER_TUN`, in 1/1,024; a setting that was not measured reads full
reflection. -/
def gammaOf (g : List (Nat × Nat)) (w : Nat) : Nat :=
  match g.find? fun p => p.1 == w with
  | some p => p.2
  | none => 1024

/-- The word of a setting. -/
def tunSetting (l s h : Nat) : Nat := s + h * 2 ^ 8 + l * 2 ^ 16

/-- The better of the best setting so far and another one; the earlier wins where they are equal. -/
def better (g : List (Nat × Nat)) (best x : Nat) : Nat := if gammaOf g x < gammaOf g best then x else best

/-- The neighbours of a setting at distance `d`, in series and shunt, inside the range of the banks (R122). -/
def neighbours (w d : Nat) : List Nat :=
  let s := bits w 6 0
  let h := bits w 14 8
  let l := bits w 18 16
  let ss : List Int := [(s : Int) - d, s, s + d]
  let hs : List Int := [(h : Int) - d, h, h + d]
  (ss.map fun (x : Int) => hs.filterMap fun (y : Int) =>
    if (0 ≤ x ∧ x ≤ 127) ∧ (0 ≤ y ∧ y ≤ 127) ∧ ¬(x = (s : Int) ∧ y = (h : Int)) then some (tunSetting l x.toNat y.toNat)
    else none).flatten

/-- The descent at one step size, at most `fuel` times (R122). -/
def descend (g : List (Nat × Nat)) (d : Nat) : Nat → Nat → Nat
  | 0, best => best
  | fuel + 1, best =>
    let b := (neighbours best d).foldl (better g) best
    if b = best then best else descend g d fuel b

/-- The search of R122 over the measurements `g`. -/
def sweepSearch (g : List (Nat × Nat)) (mask : Nat) : Nat :=
  let grid := (List.range 8).map fun i => 8 + 16 * i
  let coarse := ((List.range 8).filter fun l => bit mask l).map fun l =>
    (grid.map fun s => grid.map fun h => tunSetting l s h).flatten
  match coarse.flatten with
  | [] => 0
  | x :: xs => [8, 4, 2, 1].foldl (fun b d => descend g d 4 b) (xs.foldl (better g) x)

/-- A sweep ends (R122 to R124): `gammas` are the |Γ| measured, by setting; `phase` the phase at the best one. -/
def execSweepDone (p : Fin 3) (gammas : List (Nat × Nat)) (phase : Int) (s : State) :
    Host.Outcome State Fault Refusal :=
  let h := s.tuner p.val
  match h.sweeping with
  | none => .next s
  | some n =>
    match (s.fe n).probe with
    | none => .next s
    | some q =>
      if q.sweep ≠ some p.val ∨ s.get F.FE_STAT_STATE n ≠ 4 then .next s
      else
        let best := sweepSearch gammas (s.getE F.AER_SWEEP_CFG_L_MASK 0 p.val)
        let mag := min (gammaOf gammas best) 1024
        let t := s.puts 0 [(F.AER_SWEEP_RES_SERIES, bits best 6 0), (F.AER_SWEEP_RES_SHUNT, bits best 14 8),
          (F.AER_SWEEP_RES_LTAP, bits best 18 16), (F.AER_SWEEP_RES_VALID, 1), (F.AER_SWEEP_RES_MAG, mag),
          (F.AER_SWEEP_RES_RUNNING, 0)]
        let w := if s.getE F.AER_SWEEP_CFG_AUTO_APPLY 0 p.val = 1 then best else h.saved
        let t := (t.setTuner p.val { h with sweeping := none, act := w, waiting := false }).putTun p.val w
        .next (((t.gammaResult n mag phase).raise .aerial 0 Ev.sweepDone).leaveProbe n)

/-- The 1 ms sample of a port's bias current, in 0.1 mA (R125). -/
def execBiasSample (p : Fin 5) (current : Fin 65536) (s : State) : Host.Outcome State Fault Refusal :=
  let k := p.val
  if !bit (s.get F.AER_BIAS_EN 0) k || s.getE F.AER_BIAS_MEAS_CUT 0 k == 1 || !s.domOn 1 then .next s
  else
    let h := s.aerial k
    let low := if current.val < s.getE F.AER_BIAS_LIM_OPEN 0 k then h.low + 1 else 0
    let high := if s.getE F.AER_BIAS_LIM_SHORT 0 k < current.val then h.high + 1 else 0
    let t := (s.setAerial k { h with low := min low 8, high := min high 2 }).putE F.AER_BIAS_MEAS_CURRENT 0 k current.val
    let t := (t.putE F.AER_BIAS_MEAS_OPEN 0 k (b2n (8 ≤ low))).putE F.AER_BIAS_MEAS_SHORT 0 k (b2n (2 ≤ high))
    let t := if low = 8 ∧ h.low < 8 then t.raise .aerial 0 Ev.biasOpen else t
    if high = 2 ∧ h.high < 2 then
      let u := t.raise .aerial 0 Ev.biasShort
      .next (if bit (s.get F.AER_BIAS_AUTO_OFF 0) k then u.putE F.AER_BIAS_MEAS_CUT 0 k 1 else u)
    else .next t

/-- Whether an aerial port is served by a front-end in RECEIVE (R126). -/
def State.portServed (s : State) (p : Nat) : Bool :=
  if p < 2 then [0, 1, 2, 3, 4].any fun n => s.get F.FE_STAT_STATE n == 3 && s.get F.FE_CTRL_INPUT n == p
  else [5, 6, 7].any fun n => s.get F.FE_STAT_STATE n == 3 && s.get F.FE_CTRL_INPUT n == p - 2

/-- The one-second noise floor of a port, in 0.1 dBm per sub-band (R126). -/
def execNoiseFloorUpdate (p : Fin 5) (floor : Int) (s : State) : Host.Outcome State Fault Refusal :=
  let k := p.val
  if !s.domOn 1 then .next s
  else if !s.portServed k then .next (s.putE F.AER_NF_FLOOR 0 k 0x8000)
  else
    let t := s.putE F.AER_NF_FLOOR 0 k (ofInt 16 (clampI (-32767) 32767 floor))
    let ref := s.getE F.AER_NF_REF 0 k
    let drop := 5 * (s.get F.AER_NF_CFG_DROP 0 : Int)
    let fall := sgn 16 ref - floor
    if ref = 0x8000 then .next t
    else if (s.aerial k).dropped then
      .next (if decide (2 * fall ≤ drop) then t.setAerial k { t.aerial k with dropped := false } else t)
    else if drop < fall then .next ((t.setAerial k { t.aerial k with dropped := true }).raise .aerial 0 Ev.noiseDrop)
    else .next t

/-- After an accepted write of `AER_NF_CFG` (R127): LEARN copies every tracked floor to its REF. -/
def aerLearn (w : Word) (t : State) : Except Reason State :=
  if bits w.toNat 8 8 = 0 then .ok t
  else .ok ((List.range 5).foldl (fun u p =>
    if u.getE F.AER_NF_FLOOR 0 p = 0x8000 then u else u.putE F.AER_NF_REF 0 p (u.getE F.AER_NF_FLOOR 0 p)) t)

def execLearn (a : Accessor) (w : Word) (s : State) : Host.Outcome State Fault Refusal :=
  .next (s.regWrite a .aerial 0 0x88 fun u =>
    onOk (plainWrite .aerial 0 0x88 (s.major a (pageOf .aerial 0)) w u) (aerLearn w))

/-- The reset of the AERIAL page: its registers return, `AER_TUN` among them, and running sweeps are cancelled. -/
def State.aerialReset (s : State) : State :=
  let t := [0, 1, 2].foldl (fun u p =>
    match (u.tuner p).sweeping with
    | some n =>
      let h := u.fe n
      let v := if h.probe.isSome && (match h.probe with | some q => q.sweep == some p | none => false)
        then (u.setFe n { h with probe := none }).startMove n
        else (u.setFe n { h with queued := none }).put F.FE_STAT_PROBE_QUEUED n 0
      v.sweepCancel p
    | none => u) s
  let t := t.resetRegs .aerial 0
  let t := { t with tuners := [], aerials := [] }
  if [0, 1, 2].any fun p => (s.tuner p).sweeping.isSome then t.raise .aerial 0 Ev.sweepCancel else t

end Sys2Proof.Machine
end

