-- ==== Sys2Proof/Machine/Numeric.lean ====
section
/-! DEFINITION. Exact arithmetic with one rounding at the end, to the nearest: quotients, square roots and decibels. -/

namespace Sys2Proof.Machine

/-- p / q to the nearest, halves upwards; 0 for q = 0. -/
def roundDiv (p q : Nat) : Nat := if q = 0 then 0 else (2 * p + q) / (2 * q)

/-- p / q to the nearest for a signed p. -/
def roundDivI (p : Int) (q : Nat) : Int := if q = 0 then 0 else (2 * p + q) / (2 * q)

/-- The greatest r below 2^40 with r² ≤ n. -/
def isqrt (n : Nat) : Nat :=
  (List.range 40).foldl (fun r i => if (r + 2 ^ (39 - i)) * (r + 2 ^ (39 - i)) ≤ n then r + 2 ^ (39 - i) else r) 0

/-- The square root of p / q to the nearest; 0 for q = 0. -/
def sqrtRatio (p q : Nat) : Nat :=
  if q = 0 then 0
  else
    let r := isqrt (p / q)
    if q * (2 * r + 1) * (2 * r + 1) ≤ 4 * p then r + 1 else r

/-- Whether n ≤ m · log10(p / q), by powers. -/
def leLog (m : Nat) (n : Int) (p q : Nat) : Bool :=
  if 0 ≤ n then decide (10 ^ n.toNat * q ^ m ≤ p ^ m) else decide (q ^ m ≤ p ^ m * 10 ^ (-n).toNat)

/-- The greatest n in a range of 2^fuel values from `lo` with n ≤ m · log10(p / q). -/
def logSearch (m p q : Nat) : Nat → Int → Int
  | 0, lo => lo
  | fuel + 1, lo => if leLog m (lo + 2 ^ fuel) p q then logSearch m p q fuel (lo + 2 ^ fuel) else logSearch m p q fuel lo

/-- m · log10(p / q) to the nearest, for positive p and q: m = 1,000 gives a power ratio in 0.01 dB, m = 100 in
0.1 dB. -/
def dbRatio (m p q : Nat) : Int := (logSearch (2 * m) p q 17 (-65536) + 1) / 2

end Sys2Proof.Machine
end

