-- ==== Sys2Proof/Machine/Slots.lean ====
section
/-! DEFINITION. Slots: bindings, rates and profiles (R131 to R138), delay (R139 to R144), alignment groups (R145 to R147),
detectors (R148 to R153), commits and shadows (R159, R160, R162); raw capture and snapshots of the banks (R155 to R158). -/

namespace Sys2Proof.Machine

/-! ### Rates (R134) -/

/-- The row of R134 that gives a configuration its rate: 1 FM, 2 AM, 3 DAB, 4 DRM30, 5 DRM+, 0 SUBBAND. -/
def Bind.rateRow (b : Bind) : Nat := if b.kind = 6 then b.iqRate else b.kind

/-- Device-time ticks of one output sample (R134). -/
def Bind.ticks (b : Bind) : Nat :=
  match b.rateRow with
  | 1 => 960 | 2 => 10240 | 3 => 120 | 4 => 5120 | 5 => 1280
  | _ => if b.window < 5 then 64 else 1024

/-- The slot output rate in samples per second. -/
def Bind.rate (b : Bind) : Nat := ticksPerSecond / b.ticks

/-- Whether the binding is allowed on the bank (R134). -/
def Bind.onBank (b : Bind) : Bool :=
  match b.rateRow with
  | 1 => b.window < 5 | 2 => true | 3 => b.window < 5 | 4 => 5 ≤ b.window | 5 => b.window < 5
  | _ => b.kind == 6

/-- The rate of a sub-band of the window. -/
def sbRate (n : Nat) : Nat := if n < 5 then 3840000 else 240000

/-! ### Profiles (R136, R137) -/

/-- Whether a built-in profile is listed for a binding (R136). -/
def builtinFor (kind p : Nat) : Bool :=
  match p with
  | 0 => kind == 1 | 1 => kind == 1 | 2 => kind == 1
  | 3 => kind == 2 | 4 => kind == 2 | 5 => kind == 2 | 6 => kind == 2 | 7 => kind == 2
  | 8 => kind == 3 | 9 => kind == 4 | 10 => kind == 4 | 11 => kind == 5
  | 12 => true | 13 => true | 14 => true | 15 => kind == 6
  | _ => false

/-- The taps of a built-in profile (R136). -/
def builtinTaps (p : Nat) : Nat :=
  match p with
  | 0 => 63 | 1 => 79 | 2 => 95 | 3 => 111 | 4 => 111 | 5 => 111 | 6 => 95 | 7 => 127 | 8 => 127 | 9 => 95
  | 10 => 127 | 11 => 63 | 12 => 127 | 13 => 127 | 14 => 1 | _ => 255

/-- The passband edge of a built-in profile in hertz at an output rate (R136), in units of 1/100 Hz. -/
def builtinEdge (p rate : Nat) : Nat :=
  match p with
  | 0 => 10000000 | 1 => 8000000 | 2 => 6000000 | 3 => 1000000 | 4 => 800000 | 5 => 500000 | 6 => 250000
  | 7 => 125000 | 8 => 76800000 | 9 => 500000 | 10 => 1000000 | 11 => 5000000
  | 12 => 45 * rate | 13 => 25 * rate | 14 => 0 | _ => 48 * rate

def State.profile (s : State) (p : Nat) : Option Profile := Tbl.get s.profiles none p

/-- Whether a profile passes R137 for a binding. -/
def State.profileOk (s : State) (kind p : Nat) : Bool := if p < 16 then builtinFor kind p else (s.profile p).isSome

/-- The taps of a profile. -/
def State.profileTaps (s : State) (p : Nat) : Nat :=
  if p < 16 then builtinTaps p else match s.profile p with | some q => q.taps | none => 0

/-- The edge of a profile as a fraction of hertz: numerator and denominator (R136, R137). -/
def State.profileEdge (s : State) (p rate : Nat) : Nat × Nat :=
  if p < 16 then (builtinEdge p rate, 100)
  else match s.profile p with | some q => (q.edge * rate, 1024) | none => (0, 1)

/-- The fit of R131: |offset| + edge within the flat half-width, offset = word × r / 2^32. -/
def State.fits (s : State) (b : Bind) : Bool :=
  let off := (sgn 32 b.word).natAbs * sbRate b.window
  let (en, ed) := s.profileEdge b.profile b.rate
  let half := if b.window < 5 then 1800000 else 108000
  decide (off * ed + en * 2 ^ 32 ≤ half * 2 ^ 32 * ed)

/-- The intrinsic latency for a window kind, binding, IQ rate and profile with its taps (R145). The worked example under R145 gives it for
FM_WIDE and FM_SEL on a VHF window (DEDUCED, log entry on SLOT_LAT); no other value is given. -/
def slotLat (lmh : Bool) (kind iqRate profile taps : Nat) : Nat :=
  if lmh = false ∧ kind = 1 ∧ profile = 0 then 184320
  else if lmh = false ∧ kind = 1 ∧ profile = 2 then 230400
  else Config.slotLat lmh kind iqRate profile taps % 2 ^ 32

/-- The intrinsic latency of a configuration (R145). -/
def State.latOf (s : State) (b : Bind) : Nat :=
  slotLat (isLmh b.window) b.kind b.iqRate b.profile (s.profileTaps b.profile)

/-! ### Delay (R139 to R144) -/

/-- The longest total delay, in 1/1,024 sample (R139). -/
def maxDelay : Nat := 65535 * 1024 + 1023

/-- The equalising delay of a slot, in 1/1,024 sample. -/
def State.eqOf (s : State) (n : Nat) : Nat := s.get F.SLOT_EQ_INT n * 1024 + s.get F.SLOT_EQ_FRAC n

def State.putEq (s : State) (n v : Nat) : State := (s.put F.SLOT_EQ_INT n (v / 1024)).put F.SLOT_EQ_FRAC n (v % 1024)

/-- The pots that a total delay needs (R140). -/
def linePots (total : Nat) : Nat := if total / 1024 ≤ 255 then 0 else (total / 1024 + 1 + 8191) / 8192

/-- The actual programmed delay now, in 1/1,024 sample: during a slew, so many steps of SLEW from where it began. -/
def State.actDelay (s : State) (n : Nat) : Nat :=
  let h := s.slot n
  match h.applied with
  | none => h.slewFrom
  | some b =>
    if s.on F.SLOT_DLY_ACT_MOVING n then
      let moved := (s.now - h.slewAt) / b.ticks * s.get F.SLOT_DLY_CFG_SLEW n
      if h.slewFrom ≤ h.target then min (h.slewFrom + moved) h.target else max (h.slewFrom - moved) h.target
    else h.slewFrom

/-- The equalising delay of a latency in a group of reference REF, rounded to the nearest 1/1,024 sample (R145). -/
def eqDelay (ref lat ticks : Nat) : Nat := roundDiv ((ref - lat) * 1024) (16 * ticks)

/-- Makes the pots of slot `n`'s line at least `k`, from its owner's quota; none if they cannot be had (R140). -/
def State.growLine (s : State) (n k : Nat) : Option State :=
  let held := (s.potsOf (.slotLine n)).length
  let t := if held < k then s.allocPots (s.owner .slot n) (.slotLine n) (k - held) else some s
  t.map fun u => u.put F.SLOT_STAT_POTS n (max held k)

/-- Frees the surplus of slot `n`'s line beyond what its delay now needs (R140). -/
def State.trimLine (s : State) (n : Nat) : State :=
  let k := linePots ((s.slot n).target + s.eqOf n)
  let t := s.trimPots (.slotLine n) k
  t.put F.SLOT_STAT_POTS n (min k ((s.potsOf (.slotLine n)).length))

/-- The shadow of a slot, if it has one (R162). -/
def State.shadowOf (s : State) (n : Nat) : Option Nat :=
  if s.on F.SLOT_STAT_HAS_SHADOW n then some (s.get F.SLOT_STAT_SHADOW_IDX n) else none

/-- Pots for the lines of a slot and of its shadow. -/
def State.growLines (s : State) (n k : Nat) : Option State :=
  match s.shadowOf n with
  | none => s.growLine n k
  | some m => (s.growLine n k).bind fun t => t.growLine m k

/-- The actual delay becomes `v` and rests there. -/
def State.delayRest (s : State) (n v : Nat) : State :=
  ((s.setSlot n { s.slot n with slewFrom := v, stepNow := false }).put F.SLOT_DLY_ACT_MOVING n 0).put
    F.SLOT_DLY_ACT_ZC_PENDING n 0

/-- The actual delay has reached its target (R140, R141). -/
def State.delayReached (s : State) (n : Nat) : State :=
  ((s.delayRest n (s.slot n).target).trimLine n).raise .slot n Ev.dlyReached

/-- A delay command to the target `v` with a mode (R141, R143); `zc` is the ZC_SRC in force. -/
def State.startDelay (s : State) (n v mode : Nat) : State :=
  let from' := s.actDelay n
  let t := (s.delayRest n from').setSlot n { (s.delayRest n from').slot n with target := v, slewAt := s.now }
  if !s.enabled .slot n then t
  else if from' = v then t.delayReached n
  else if mode = 0 then t.put F.SLOT_DLY_ACT_MOVING n 1
  else if mode = 1 then t.put F.SLOT_DLY_ACT_ZC_PENDING n 1
  else t.setSlot n { t.slot n with stepNow := true }

/-- A write of `SLOT_DLY_CMD` (R139 to R143); major 1 always slews, on the I component (R166). -/
def slotDlyWrite (n major : Nat) (w : Word) (s : State) : Except Reason State :=
  let v := s.get F.SLOT_DLY_INT n * 1024 + s.get F.SLOT_DLY_FRAC n
  let mode := if major = 1 then 0 else s.get F.SLOT_DLY_MODE n
  let fm := match (s.slot n).applied with | some b => b.kind == 1 | none => false
  let total := v + s.eqOf n
  if bits w.toNat 0 0 = 0 then .ok s
  else if s.on F.SLOT_STAT_SHADOW n then .error .busy
  else if maxDelay < total then .error .range
  else if mode = 1 ∧ s.on F.SLOT_DLY_CFG_ZC_SRC n ∧ !fm then .error .range
  else match s.growLines n (linePots total) with
    | none => .error .range
    | some t =>
      let u := t.startDelay n v mode
      .ok (match s.shadowOf n with
        | some m => u.startDelay m v mode
        | none => u)

/-- A step of the delay is taken: the actual delay jumps to the target, skipping or repeating content (R141, R142). -/
def State.takeStep (s : State) (n : Nat) : State :=
  let from' := (s.slot n).slewFrom
  let to' := (s.slot n).target
  let t := if to' < from' then s.count F.SLOT_CULL_DLY_COUNT n ((from' - to') / 1024) else s
  t.delayReached n

/-! ### Alignment groups (R145 to R147) -/

/-- The owner of a member of a group. -/
def State.memberOwner (s : State) : Member → Nat
  | .slot n => s.owner .slot n
  | .out p _ => s.owner .ap p
  | .inp p _ => s.owner .ap p

/-- The host group of a slot, if it is a member of one. -/
def State.slotGroup (s : State) (n : Nat) : Option Nat :=
  if s.on F.SLOT_AG_MEMBER n then some (s.get F.SLOT_AG_GROUP n) else none

def Member.isSlot : Member → Bool
  | .slot _ => true
  | _ => false

/-- Whether a group has a slot among its members. -/
def Grp.hasSlot (h : Grp) : Bool := h.members.any Member.isSlot

/-- Why a slot of function `f` with latency `lat` and reference `ref` cannot join group `g` (R146). -/
def State.joinRefused (s : State) (g ref lat f : Nat) : Bool :=
  let h := s.grp g
  let r := if h.hasSlot then h.ref else ref
  decide (61 ≤ g) || h.holder.isSome || decide (32 ≤ h.members.length) ||
  h.members.any (fun m => s.memberOwner m != f) || (h.hasSlot && ref != 0 && ref != h.ref) || decide (r < lat)

/-- A slot joins: the first fixes REF (R146). -/
def State.groupJoin (s : State) (g ref : Nat) (m : Member) : State :=
  let h := s.grp g
  s.setGrp g { h with ref := if h.hasSlot then h.ref else ref, members := h.members ++ [m] }

/-- A member leaves; the last slot frees REF and the last port member PD (R146, R460). -/
def State.groupLeave (s : State) (g : Nat) (m : Member) : State :=
  let h := s.grp g
  let ms := h.members.filter fun x => x != m
  s.setGrp g { h with members := ms, ref := if ms.any Member.isSlot then h.ref else 0
                      pd := if ms.all Member.isSlot then 0 else h.pd }

/-- The slot leaves its host group: its equalising delay becomes 0 (R139, R146). -/
def State.slotLeave (s : State) (n : Nat) : State :=
  match s.slotGroup n with
  | none => s
  | some g =>
    let t := ((s.groupLeave g (.slot n)).put F.SLOT_AG_MEMBER n 0).putEq n 0
    if t.on F.SLOT_DLY_ACT_MOVING n then t else t.trimLine n

/-- A write of `SLOT_AG` (R146). -/
def slotAgWrite (n : Nat) (w : Word) (s : State) : Except Reason State :=
  let g := bits w.toNat 5 0
  if s.on F.SLOT_STAT_SHADOW n then .error .busy
  else if bits w.toNat 8 8 = 0 then .ok ((s.slotLeave n).put F.SLOT_AG_GROUP n g)
  else match (s.slot n).applied with
    | none => .error .range
    | some b =>
      let lat := s.get F.SLOT_LAT_LAT n
      let ref := s.get F.SLOT_AG_REF_REF n
      if b.kind = 0 ∨ s.enabled .slot n ∨ (s.slotGroup n).isSome then .error .range
      else if s.joinRefused g ref lat (s.owner .slot n) then .error .range
      else
        let r := if (s.grp g).hasSlot then (s.grp g).ref else ref
        let eq := eqDelay r lat b.ticks
        let total := (s.slot n).target + eq
        if maxDelay < total then .error .range
        else match s.growLines n (linePots total) with
          | none => .error .range
          | some t => .ok ((((t.groupJoin g ref (.slot n)).putEq n eq).put F.SLOT_AG_GROUP n g).put F.SLOT_AG_MEMBER n 1)

/-! ### Detectors (R148 to R153) -/

/-- Whether a detector source is available to the applied binding of a slot (R148). -/
def State.srcOk (s : State) (n src : Nat) : Bool :=
  let k := match (s.slot n).applied with | some b => b.kind | none => 0
  src == 0 || ((src == 1 || src == 2) && k == 1) || (3 ≤ src && src ≤ 6 && (k == 1 || k == 2))

/-- The rate of a detector source in samples per second (R148). -/
def State.srcRate (s : State) (n src : Nat) : Nat :=
  if src = 0 then match (s.slot n).applied with | some b => b.rate | none => 0
  else if src ≤ 2 then 256000 else 48000

/-- A value in a 32-bit register, saturating. -/
def sat32 (v : Nat) : Nat := min v 0xFFFFFFFF

/-- One sample of the peak detector (R149): the peak and the samples left of HOLD. -/
def pkStep (hold decay rate : Nat) (ph : Nat × Nat) (a : Nat) : Nat × Nat :=
  if ph.1 ≤ a then (a, hold)
  else if 0 < ph.2 then (ph.1, ph.2 - 1)
  else (max a (if decay = 0 then ph.1 else Config.peakDecay ph.1 decay rate), 0)

/-- One sample of the envelope detector (R151). -/
def envStep (ka kr e a : Nat) : Nat :=
  let k := if e < a then ka else kr
  if k = 0 then a else Config.expStep e a k

/-- One sample of the exponential RMS (R150), over the mean square. -/
def rmsStep (k y a : Nat) : Nat := Config.expStep y (a * a) k

/-- Feeds samples to the three detectors of a slot; an excluded sample (R152) is none. -/
def State.feedDetectors (s : State) (n : Nat) (pk rms env : List (Option Nat)) : State :=
  let h := s.slot n
  let rate := s.srcRate n (s.get F.DET_PK_CFG_SRC n)
  let hold := s.get F.DET_PK_CFG_HOLD n * rate / 1000
  let decay := s.get F.DET_PK_DECAY_DECAY n
  let p0 := if h.pkReset && !pk.isEmpty then (0, 0) else (s.get F.DET_PK_VAL_VALUE n, h.pkHold)
  let p := pk.foldl (fun st a => match a with | some v => pkStep hold decay rate st (sat32 v) | none => st) p0
  let e0 := if h.envReset && !env.isEmpty then 0 else s.get F.DET_ENV_VAL_VALUE n
  let e := env.foldl (fun st a => match a with
    | some v => envStep (s.get F.DET_ENV_CFG_KA n) (s.get F.DET_ENV_CFG_KR n) st (sat32 v)
    | none => st) e0
  let exp := s.on F.DET_RMS_CFG_EXP n
  let y0 := if h.rmsReset && !rms.isEmpty then 0 else h.rmsY
  let y := rms.foldl (fun st a => match a with
    | some v => rmsStep (s.get F.DET_RMS_CFG_K n) st (sat32 v)
    | none => st) y0
  let t := s.setSlot n { h with pkHold := p.2, pkReset := h.pkReset && pk.isEmpty,
                                envReset := h.envReset && env.isEmpty,
                                rmsY := if exp then y else h.rmsY,
                                rmsReset := h.rmsReset && rms.isEmpty }
  let t := (t.put F.DET_PK_VAL_VALUE n (sat32 p.1)).put F.DET_ENV_VAL_VALUE n (sat32 e)
  if exp && !rms.isEmpty then t.put F.DET_RMS_VAL_VALUE n (sat32 (sqrtRatio y 1)) else t

/-- Resets the states of the detectors at once (R161). -/
def State.resetDetectors (s : State) (n : Nat) : State :=
  (s.setSlot n { s.slot n with pkHold := 0, pkReset := false, rmsReset := false, envReset := false, rmsY := 0 }).puts n
    [(F.DET_PK_VAL_VALUE, 0), (F.DET_RMS_VAL_VALUE, 0), (F.DET_ENV_VAL_VALUE, 0), (F.SLOT_STAT_RMS_INVALID, 0)]

/-- A write of `DET_CMD` (R152): the reset is at the next input sample. -/
def detCmdWrite (n : Nat) (w : Word) (s : State) : Except Reason State :=
  if s.on F.SLOT_STAT_SHADOW n then .error .busy
  else
    let h := s.slot n
    .ok (s.setSlot n { h with pkReset := h.pkReset || bit w.toNat 0, rmsReset := h.rmsReset || bit w.toNat 1,
                              envReset := h.envReset || bit w.toNat 2 })

/-! ### Commits and shadows (R159, R160, R162) -/

/-- The staged configuration of a slot. -/
def State.staged (s : State) (n : Nat) : Bind :=
  { window := s.get F.SLOT_SRC_WINDOW n, subband := s.get F.SLOT_SRC_SUBBAND n, word := s.get F.SLOT_NCO_WORD n,
    kind := s.get F.SLOT_BIND_KIND n, ctx := s.get F.SLOT_BIND_CTX n, iqRate := s.get F.SLOT_BIND_IQ_RATE n,
    profile := s.get F.SLOT_FIR_PROFILE n, ring := s.get F.SLOT_OUT_RING n, iqFmt := s.get F.SLOT_OUT_IQ_FMT n,
    iqBlock := s.get F.SLOT_OUT_IQ_BLOCK n, div := s.on F.SLOT_SRC_DIV_EN n }

/-- Whether a binding is to a context, and of which kind. -/
def Bind.isDab (b : Bind) : Bool := b.kind == 3
def Bind.isDrm (b : Bind) : Bool := b.kind == 4 || b.kind == 5

/-- Whether another slot than `n` and its shadow holds the context that `b` names. -/
def State.ctxTaken (s : State) (n : Nat) (b : Bind) : Bool :=
  s.slots.any fun p => p.1 != n && !s.on F.SLOT_STAT_SHADOW p.1 && match p.2.applied with
    | some c => (b.isDab && c.isDab || b.isDrm && c.isDrm) && c.ctx == b.ctx
    | none => false

/-- Whether the bound context exists, is free, and is owned by the slot's function (R159). -/
def State.ctxOk (s : State) (n : Nat) (b : Bind) : Bool :=
  if b.isDab then b.ctx < 48 && !s.ctxTaken n b && s.owner .dab b.ctx == s.owner .slot n
  else if b.isDrm then b.ctx < 24 && !s.ctxTaken n b && s.owner .drm b.ctx == s.owner .slot n
  else true

/-- The slot that would be taken as shadow of slot n (R162): the highest-indexed one owned by the same function, disabled,
UNBOUND and not in the reserve pool. -/
def State.findShadow (s : State) (n : Nat) : Option Nat :=
  (List.range 512).reverse.find? fun m =>
    m != n && s.owner .slot m == s.owner .slot n && !s.enabled .slot m && !s.on F.SLOT_STAT_SHADOW m &&
    (match (s.slot m).applied with | some b => b.kind == 0 | none => true) && !s.pooled .slot m

/-- Whether diversity is allowed for a configuration (R114), but for the shadow and its pots. -/
def State.divOk (s : State) (b : Bind) : Bool := s.isPaired b.window && (b.kind == 3 || b.kind == 5)

/-- The checks of R159 for a bound configuration. -/
def State.commitOk (s : State) (n : Nat) (b : Bind) : Bool :=
  s.tuned b.window && !s.isSpare b.window && b.subband < sbCount b.window && s.sbApplied b.window b.subband &&
  s.fits b && b.onBank && s.ctxOk n b && s.profileOk b.kind b.profile && s.owner .ring b.ring == s.owner .slot n &&
  (!b.div || s.divOk b)

/-- The analogue and digital fields of a slot, its events [31:16] and their enables, take the reset values of a new
binding (R169). -/
def State.resetLane (s : State) (n : Nat) : State :=
  let t := (((s.resetRegs .fm n).resetRegs .am n).resetRegs .an n).resetRegs .dig n
  t.puts n [(H.EVT .slot, t.get (H.EVT .slot) n % 65536), (H.EVT_EN .slot, t.get (H.EVT_EN .slot) n % 65536)]

/-- Releases the shadow of a slot: it returns to UNBOUND with its pots (R162). -/
def State.releaseShadow (s : State) (n : Nat) : State :=
  match s.shadowOf n with
  | none => s
  | some m =>
    let t := (s.setSlot m {}).freePotsOf (.slotLine m)
    let t := t.puts m [(H.ENABLE .slot, 0), (F.SLOT_STAT_RUNNING, 0), (F.SLOT_STAT_SHADOW, 0),
      (F.SLOT_STAT_SHADOW_IDX, 0), (F.SLOT_STAT_POTS, 0), (F.SLOT_LAT_LAT, 0), (F.SLOT_EQ_INT, 0), (F.SLOT_EQ_FRAC, 0),
      (F.SLOT_DLY_ACT_MOVING, 0), (F.SLOT_DLY_ACT_ZC_PENDING, 0)]
    [n, m].foldl (fun u k => u.puts k [(F.SLOT_AG_PART_GROUP, 0), (F.SLOT_AG_PART_MEMBER, 0)])
      (t.puts n [(F.SLOT_STAT_HAS_SHADOW, 0), (F.SLOT_STAT_SHADOW_IDX, 0)])

/-- Makes slot m the shadow of slot n with configuration b (R162); both stand in the group of the pair (R16, R19, R147). -/
def State.setShadow (s : State) (n m : Nat) (b : Bind) : State :=
  let t := s.setSlot m { applied := some { b with window := s.partner b.window, div := false },
                         target := (s.slot n).target, slewFrom := (s.slot n).slewFrom }
  let t := t.puts m [(F.SLOT_STAT_SHADOW, 1), (F.SLOT_STAT_SHADOW_IDX, n), (F.SLOT_LAT_LAT, s.get F.SLOT_LAT_LAT n),
    (F.SLOT_EQ_INT, s.get F.SLOT_EQ_INT n), (F.SLOT_EQ_FRAC, s.get F.SLOT_EQ_FRAC n)]
  [n, m].foldl (fun u k => u.puts k [(F.SLOT_AG_PART_GROUP, s.get F.FE_ROLE_AG b.window), (F.SLOT_AG_PART_MEMBER, 1)])
    (t.puts n [(F.SLOT_STAT_HAS_SHADOW, 1), (F.SLOT_STAT_SHADOW_IDX, m)])

/-- Applies a checked configuration: the latency, the lane, the equalising delay with its pots (R145, R146, R169). -/
def State.applyBind (s : State) (n : Nat) (b : Bind) : Option State :=
  let lat := s.latOf b
  let oldKind := match (s.slot n).applied with | some c => c.kind | none => 0
  let eq := match s.slotGroup n with
    | some g => if (s.grp g).ref < lat then none else some (eqDelay (s.grp g).ref lat b.ticks)
    | none => some 0
  match eq with
  | none => none
  | some e =>
    let total := (s.slot n).target + e
    if maxDelay < total then none
    else (s.growLine n (linePots total)).map fun t =>
      let t := (t.setSlot n { t.slot n with applied := some b, detached := false }).put F.SLOT_LAT_LAT n lat
      let t := t.putEq n e
      if oldKind = b.kind then t else t.resetLane n

/-- A commit on a disabled slot of a bound configuration, with its shadow (R159, R162). -/
def State.commitBound (s : State) (n : Nat) (b : Bind) : Option State :=
  if !s.commitOk n b then none
  else if !b.div then (s.releaseShadow n).applyBind n b
  else match s.shadowOf n with
    | some m =>
      (s.applyBind n b).bind fun t =>
        ((t.setShadow n m b).growLine m (linePots ((s.slot n).target + t.eqOf n)))
    | none =>
      match s.findShadow n with
      | none => none
      | some m =>
        (s.applyBind n b).bind fun t =>
          ((t.setShadow n m b).growLine m (linePots ((s.slot n).target + t.eqOf n)))

/-- A write of `SLOT_COMMIT` (R159, R160). -/
def slotCommitWrite (n : Nat) (w : Word) (s : State) : Except Reason State :=
  let b := s.staged n
  if bits w.toNat 0 0 = 0 then .ok s
  else if s.on F.SLOT_STAT_SHADOW n then .error .busy
  else if s.enabled .slot n then
    match (s.slot n).applied with
    | none => .error .range
    | some c =>
      if b = { c with word := b.word, ring := b.ring } ∧ s.commitOk n b then
        let t := s.setSlot n { s.slot n with applied := some b, detached := false }
        .ok (match s.shadowOf n with
          | some m => match (t.slot m).applied with
            | some d => t.setSlot m { t.slot m with applied := some { d with word := b.word, ring := b.ring } }
            | none => t
          | none => t)
      else .error .range
  else if b.kind = 0 then
    if (s.slotGroup n).isSome then .error .range
    else
      let t := (s.releaseShadow n).freePotsOf (.slotLine n)
      .ok (((t.setSlot n { t.slot n with applied := some b, detached := false }).puts n
        [(F.SLOT_LAT_LAT, 0), (F.SLOT_STAT_POTS, 0)]).resetLane n)
  else match s.commitBound n b with
    | none => .error .range
    | some t => .ok t

/-! ### Profiles, raw capture, snapshots (R138, R155 to R158) -/

/-- A write of `PROF_DATA` (R138). -/
def profDataWrite (w : Word) (s : State) : Except Reason State :=
  let i := s.get F.PROF_ADDR_INDEX 0
  if (s.get F.PROF_SEL_TAPS 0 + 1) / 2 ≤ i then .error .range
  else .ok ({ s with loader := Tbl.set s.loader 0 i (sgn 18 (bits w.toNat 17 0)) }.put F.PROF_ADDR_INDEX 0 (i + 1))

/-- Whether an enabled slot uses profile p. -/
def State.profileUsed (s : State) (p : Nat) : Bool :=
  s.slots.any fun q => s.enabled .slot q.1 && match q.2.applied with | some b => b.profile == p | none => false

/-- A write of `PROF_COMMIT` (R138). -/
def profCommitWrite (w : Word) (s : State) : Except Reason State :=
  let p := s.get F.PROF_SEL_PROFILE 0
  let taps := s.get F.PROF_SEL_TAPS 0
  let m := (taps + 1) / 2
  if bits w.toNat 0 0 = 0 then .ok s
  else if s.get F.PROF_ADDR_INDEX 0 ≠ m ∨ s.profileUsed p then .error .range
  else
    let q : Profile := { taps := taps, edge := s.get F.PROF_SEL_EDGE 0,
                         coefs := (List.range m).map fun i => Tbl.get s.loader 0 i }
    let t := { s with profiles := Tbl.set s.profiles none p (some q) }
    .ok ((t.put F.PROF_STAT_LOADED 0 (t.get F.PROF_STAT_LOADED 0 ||| 2 ^ (p - 16))).raise .bank 0 Ev.profLoaded)

/-- After an accepted write of `BANK_RAW` (R155). -/
def bankRawWritten (n : Nat) (t : State) : Except Reason State :=
  if !t.on F.BANK_RAW_EN n then .ok t
  else
    let ws := if n < 5 then [0, 1, 2, 3, 4] else [5, 6, 7]
    if s0 t then .error .range
    else if (if n < 5 then 4 else 3) < (ws.filter fun m => t.on F.BANK_RAW_EN m).length then .error .range
    else .ok t
where
  /-- The ring is not PF_0's. -/
  s0 (t : State) : Bool := t.owner .ring (t.get F.BANK_RAW_RING n) != 0

def State.snap (s : State) (f : Nat) : Option Snap := Tbl.get s.snaps none f
def State.setSnap (s : State) (f : Nat) (x : Option Snap) : State := { s with snaps := Tbl.set s.snaps none f x }

/-- The bins of a snapshot (R156, R157). -/
def Snap.bins (x : Snap) : Nat := (x.last - x.first + 1) * (if x.fine then 2 ^ (x.order - 1) else 1)

/-- A snapshot ends, whatever its outcome: its pots are freed (R158). -/
def State.snapEnd (s : State) (f : Nat) : State :=
  ((s.setSnap f none).freePotsOf (.snap f)).puts f [(F.BANK_SNAP_STAT_RUNNING, 0), (F.BANK_SNAP_STAT_POTS, 0)]

/-- A write of `BANK_SNAP_CMD` (R158); major 1 snapshots are COARSE (R168). -/
def bankSnapWrite (f major : Nat) (w : Word) (s : State) : Except Reason State :=
  let go := bits w.toNat 0 0
  let abort := bits w.toNat 1 1
  if go = 1 then
    let x : Snap := { fine := s.on F.BANK_SNAP_CFG_MODE f && major != 1, order := s.get F.BANK_SNAP_CFG_ORDER f,
                      first := s.get F.BANK_SNAP_CFG_FIRST f, last := s.get F.BANK_SNAP_CFG_LAST f,
                      avg := s.get F.BANK_SNAP_AVG_AVG f, ring := s.get F.BANK_SNAP_AVG_RING f }
    let pots := if x.fine then (4 * x.bins + 65535) / 65536 else 0
    if abort = 1 ∨ (s.snap f).isSome ∨ x.last < x.first ∨ !s.sbApplied f x.first ∨ !s.sbApplied f x.last then
      .error .range
    else if 262144 < x.bins ∨ s.owner .ring x.ring ≠ 0 then .error .range
    else match s.allocPots 0 (.snap f) pots with
      | none => .error .range
      | some t => .ok ((t.setSnap f (some x)).puts f
          [(F.BANK_SNAP_STAT_RUNNING, 1), (F.BANK_SNAP_STAT_POTS, pots), (F.BANK_SNAP_STAT_FRAMES, 0)])
  else if abort = 1 ∧ (s.snap f).isSome then .ok ((s.snapEnd f).raise .bank f Ev.snapAbort)
  else .ok s

/-- The reset of a BANK page: a snapshot is aborted and raw capture disabled; user profiles stay loaded. -/
def State.bankReset (s : State) (f : Nat) : State :=
  let loaded := s.get F.PROF_STAT_LOADED f
  let t := (s.snapEnd f).resetRegs .bank f
  let t := t.put F.PROF_STAT_LOADED f loaded
  if (s.snap f).isSome then t.raise .bank f Ev.snapAbort else t

/-! ### The meanings -/

def execSlotCommit (a : Accessor) (n : Fin 512) (w : Word) (s : State) : Host.Outcome State Fault Refusal :=
  .next (s.cmdWrite a .slot n.val 0x54 w (slotCommitWrite n.val w))

def execDelayCommand (a : Accessor) (n : Fin 512) (w : Word) (s : State) : Host.Outcome State Fault Refusal :=
  .next (s.cmdWrite a .slot n.val 0x60 w (slotDlyWrite n.val (s.major a (pageOf .slot n.val)) w))

/-- A waiting step is taken, at a sign change or at the next output sample (R141, R142). -/
def execDelayStep (n : Fin 512) (s : State) : Host.Outcome State Fault Refusal :=
  if s.on F.SLOT_DLY_ACT_ZC_PENDING n.val || (s.slot n.val).stepNow then .next (s.takeStep n.val) else .next s

/-- 65,536 output samples without a sign change force the step (R141). -/
def execDlyZcTimeout (n : Fin 512) (s : State) : Host.Outcome State Fault Refusal :=
  if s.on F.SLOT_DLY_ACT_ZC_PENDING n.val then .next ((s.raise .slot n.val Ev.dlyZcTimeout).takeStep n.val) else .next s

/-- A slew has reached its target (R141). -/
def execDlyReached (n : Fin 512) (s : State) : Host.Outcome State Fault Refusal :=
  if s.on F.SLOT_DLY_ACT_MOVING n.val then .next (s.delayReached n.val) else .next s

def execAgJoin (a : Accessor) (n : Fin 512) (w : Word) (s : State) : Host.Outcome State Fault Refusal :=
  .next (s.regWrite a .slot n.val 0x6C (slotAgWrite n.val w))

def execAgLeave (a : Accessor) (n : Fin 512) (w : Word) (s : State) : Host.Outcome State Fault Refusal :=
  .next (s.regWrite a .slot n.val 0x6C (slotAgWrite n.val w))

def execPkRst (a : Accessor) (n : Fin 512) (w : Word) (s : State) : Host.Outcome State Fault Refusal :=
  .next (s.regWrite a .slot n.val 0x90 (detCmdWrite n.val w))

def execRmsRst (a : Accessor) (n : Fin 512) (w : Word) (s : State) : Host.Outcome State Fault Refusal :=
  .next (s.regWrite a .slot n.val 0x90 (detCmdWrite n.val w))

def execEnvRst (a : Accessor) (n : Fin 512) (w : Word) (s : State) : Host.Outcome State Fault Refusal :=
  .next (s.regWrite a .slot n.val 0x90 (detCmdWrite n.val w))

/-- A rectangular RMS block ends (R150, R152): `sumSq` is the sum of squares of its `count` valid samples. -/
def execRmsBlockEnd (n : Fin 512) (sumSq count : Nat) (s : State) : Host.Outcome State Fault Refusal :=
  if !s.on F.SLOT_STAT_RUNNING n.val || s.on F.DET_RMS_CFG_EXP n.val then .next s
  else if count = 0 then .next (s.put F.SLOT_STAT_RMS_INVALID n.val 1)
  else
    .next (((s.put F.DET_RMS_VAL_VALUE n.val (sat32 (sqrtRatio sumSq count))).put F.SLOT_STAT_RMS_INVALID n.val 0).setSlot
      n.val { s.slot n.val with rmsReset := false })

/-- A record of slot `n`. -/
def State.slotRec (s : State) (n time : Nat) (p : Payload) : Rec :=
  { kind := .slot, source := n, time := time, epoch := s.epoch (.slot n), payload := p }

/-- Delivers a record of a slot to its ring, unless the slot is detached (R435) or a shadow (R162). -/
def State.slotEmit (s : State) (n : Nat) (x : Rec) : State :=
  match (s.slot n).applied with
  | none => s
  | some b => if (s.slot n).detached || s.on F.SLOT_STAT_SHADOW n then s else s.deliver (s.owner .slot n) b.ring x

/-- The DETECTOR record of a slot as its values stand (R153, R405). -/
def State.detectorRec (s : State) (n : Nat) : Rec :=
  { kind := .slot, source := n, time := s.now, epoch := s.epoch (.slot n),
    payload := .detector (s.get F.DET_PK_VAL_VALUE n) (s.get F.DET_RMS_VAL_VALUE n) (s.get F.DET_ENV_VAL_VALUE n)
      (s.get F.DET_PK_CFG_SRC n) (s.get F.DET_RMS_CFG_SRC n) (s.get F.DET_ENV_CFG_SRC n)
      (s.on F.SLOT_STAT_RMS_INVALID n) }

/-- The instant of a DETECTOR report: the samples since the last one are taken, and the record is emitted while INTERVAL
is not 0 (R149 to R153). -/
def execDetectorReport (n : Fin 512) (pk rms env : List (Option Nat)) (s : State) : Host.Outcome State Fault Refusal :=
  if !s.on F.SLOT_STAT_RUNNING n.val then .next s
  else
    let t := s.feedDetectors n.val pk rms env
    if s.get F.DET_REPORT_INTERVAL n.val = 0 then .next t else .next (t.slotEmit n.val (t.detectorRec n.val))

def execProfDataWrite (a : Accessor) (w : Word) (s : State) : Host.Outcome State Fault Refusal :=
  .next (s.regWrite a .bank 0 0x88 (profDataWrite w))

def execProfCommit (a : Accessor) (w : Word) (s : State) : Host.Outcome State Fault Refusal :=
  .next (s.regWrite a .bank 0 0x8C (profCommitWrite w))

def execRawCapture (a : Accessor) (f : Fin 8) (w : Word) (s : State) : Host.Outcome State Fault Refusal :=
  .next (s.regWrite a .bank f.val 0x58 fun u =>
    onOk (plainWrite .bank f.val 0x58 (s.major a (pageOf .bank f.val)) w u) (bankRawWritten f.val))

def execSnapGo (a : Accessor) (f : Fin 8) (w : Word) (s : State) : Host.Outcome State Fault Refusal :=
  .next (s.regWrite a .bank f.val 0x64 (bankSnapWrite f.val (s.major a (pageOf .bank f.val)) w))

def execSnapAbort (a : Accessor) (f : Fin 8) (w : Word) (s : State) : Host.Outcome State Fault Refusal :=
  .next (s.regWrite a .bank f.val 0x64 (bankSnapWrite f.val (s.major a (pageOf .bank f.val)) w))

/-- AVG frames have been counted (R156 to R158): `vals` are the averaged powers in 0.01 dBFS. -/
def execSnapDone (f : Fin 8) (vals : List Int) (s : State) : Host.Outcome State Fault Refusal :=
  match s.snap f.val with
  | none => .next s
  | some x =>
    let r : Rec := { kind := .window, source := f.val, time := s.now, epoch := s.epoch (.fe f.val),
                     payload := .spectrum (b2n x.fine) x.order x.first x.last x.avg
                       ((vals ++ List.replicate x.bins 0).take x.bins) }
    let t := (s.snapEnd f.val).put F.BANK_SNAP_STAT_FRAMES f.val x.avg
    .next ((t.deliver 0 x.ring r).raise .bank f.val Ev.snapDone)

/-- 10 s pass before AVG frames are counted (R158). -/
def execSnapTimeout (f : Fin 8) (s : State) : Host.Outcome State Fault Refusal :=
  match s.snap f.val with
  | none => .next s
  | some _ => .next ((s.snapEnd f.val).raise .bank f.val Ev.snapTimeout)

end Sys2Proof.Machine
end

