-- ==== Sys2Proof/Machine/Side.lean ====
section
/-! DEFINITION. Side data: alarm rules and patterns (R247 to R252), the FIG and SDC filters (R244), and the writes of the
SIDEDATA page (R265). -/

namespace Sys2Proof.Machine

/-! ### Rules, patterns, the alert latch -/

/-- The owner of a rule's source: 0 a slot, 1 a DAB context, 2 a DRM context (R251). -/
def State.srcOwner (s : State) (kind idx : Nat) : Nat :=
  if kind = 0 then s.owner .slot idx else if kind = 1 then s.owner .dab idx else s.owner .drm idx

def State.ruleOwner (s : State) (r : Nat) : Nat :=
  s.srcOwner (s.getE F.RULE_SRC_SRC_KIND 0 r) (s.getE F.RULE_SRC_SRC_INDEX 0 r)

/-- Whether a one-bit field of rule r is 1. -/
def State.ruleOn (s : State) (f : Fld) (r : Nat) : Bool := s.getE f 0 r == 1

/-- Whether rule r has KIND `k` and watches the source named. -/
def State.ruleIs (s : State) (r k srcKind idx : Nat) : Bool :=
  s.getE F.RULE_CFG_KIND 0 r == k && s.getE F.RULE_SRC_SRC_KIND 0 r == srcKind && s.getE F.RULE_SRC_SRC_INDEX 0 r == idx

/-- The record that rule r makes (R405); rules carry no epoch of their own. -/
def State.alarmRec (s : State) (r kind : Nat) (unit : List Byte) : Rec :=
  { kind := .rule, source := r, time := s.now, epoch := Config.pageEpoch 0x5B,
    payload := .alarm kind (s.getE F.RULE_CFG_KIND 0 r) (s.getE F.RULE_SRC_SRC_KIND 0 r)
      (s.getE F.RULE_SRC_SRC_INDEX 0 r) unit }

/-- An alarm record of rule r on its ring, with ACT_RECORD (R250). -/
def State.alarmEmit (s : State) (r kind : Nat) (unit : List Byte) : State :=
  if s.ruleOn F.RULE_CFG_ACT_RECORD r then
    s.deliver (s.ruleOwner r) (s.getE F.RULE_CFG_RING 0 r) (s.alarmRec r kind unit)
  else s

/-- Whether a rule with ACT_ALERT has an active alarm. -/
def State.alertRule (s : State) : Bool :=
  (List.range 32).any fun r => s.ruleOn F.RULE_STAT_ACTIVE r && s.ruleOn F.RULE_CFG_ACT_ALERT r

/-- In FOLLOW the alert latch clears when no rule with ACT_ALERT has an active alarm (R252). -/
def State.alertFollow (s : State) : State :=
  if s.on F.SD_ALERT_MODE 0 && !s.alertRule then s.put F.SD_ALERT_ASSERTED 0 0 else s

/-- A rule with ACT_ALERT decides: the alert latch sets (R252). -/
def State.alertSet (s : State) (r : Nat) : State :=
  let t := (s.put F.SD_ALERT_ASSERTED 0 1).put F.SD_ALERT_LAST_RULE 0 r
  if s.on F.SD_ALERT_ASSERTED 0 then t else t.raiseViews .sidedata Ev.alert (viewsOf (s.ruleOwner r))

/-- The alarm of rule r becomes active with the unit given (R249, R250). -/
def State.alarmBegin (s : State) (r : Nat) (unit : List Byte) : State :=
  let t := ((s.putE F.RULE_STAT_ACTIVE 0 r 1).put F.SD_ALARM_ACTIVE_ACTIVE 0
    (s.get F.SD_ALARM_ACTIVE_ACTIVE 0 ||| 2 ^ r)).put F.SD_ALARM_SEEN_SEEN 0 (s.get F.SD_ALARM_SEEN_SEEN 0 ||| 2 ^ r)
  let t := t.alarmEmit r 1 unit
  let t := if s.ruleOn F.RULE_CFG_ACT_EVENT r then t.raiseViews .sidedata Ev.alarmOn (viewsOf (s.ruleOwner r)) else t
  if s.ruleOn F.RULE_CFG_ACT_ALERT r then t.alertSet r else t

/-- The alarm of rule r ends, ordinarily (2) or lost (3) (R249, R250). -/
def State.alarmEnd (s : State) (r kind : Nat) : State :=
  if s.ruleOn F.RULE_STAT_ACTIVE r then
    let t := ((s.putE F.RULE_STAT_ACTIVE 0 r 0).putE F.RULE_STAT_COUNT 0 r 0).put F.SD_ALARM_ACTIVE_ACTIVE 0
      (clearBits (s.get F.SD_ALARM_ACTIVE_ACTIVE 0) (2 ^ r))
    let t := t.alarmEmit r kind []
    (if s.ruleOn F.RULE_CFG_ACT_EVENT r then t.raiseViews .sidedata Ev.alarmOff (viewsOf (s.ruleOwner r)) else t).alertFollow
  else s

/-- The counting of rule r starts afresh; an active alarm is lost (R249). -/
def State.ruleRestart (s : State) (r : Nat) : State :=
  let t := (s.alarmEnd r 3).putE F.RULE_STAT_COUNT 0 r 0
  { t with ruleType := Tbl.erase t.ruleType r }

/-- What a unit is to a rule (R249). -/
inductive Verdict | hit | miss | withdraw
deriving DecidableEq, Repr

/-- Rule r examines a unit of type `ty` (R249). -/
def State.ruleUnit (s : State) (r : Nat) (v : Verdict) (ty : Nat) (unit : List Byte) : State :=
  match v with
  | .hit =>
    let c := min (s.getE F.RULE_STAT_COUNT 0 r + 1) 15
    let t := { s.putE F.RULE_STAT_COUNT 0 r c with ruleType := Tbl.set s.ruleType 0 r ty }
    if !s.ruleOn F.RULE_STAT_ACTIVE r && decide (s.getE F.RULE_CFG_CONFIRM 0 r ≤ c) then t.alarmBegin r unit else t
  | .miss => s.putE F.RULE_STAT_COUNT 0 r 0
  | .withdraw => (s.alarmEnd r 2).putE F.RULE_STAT_COUNT 0 r 0

/-- The words of a pattern. -/
def patVal (i : Nat) : Fld := match i with
  | 0 => F.PAT_VAL0_VAL | 1 => F.PAT_VAL1_VAL | 2 => F.PAT_VAL2_VAL | _ => F.PAT_VAL3_VAL
def patMask (i : Nat) : Fld := match i with
  | 0 => F.PAT_MASK0_MASK | 1 => F.PAT_MASK1_MASK | 2 => F.PAT_MASK2_MASK | _ => F.PAT_MASK3_MASK

/-- Byte j of a pattern (R248). -/
def State.patByte (s : State) (f : Nat → Fld) (p j : Nat) : Nat := s.getE (f (j / 4)) 0 p / 2 ^ (8 * (j % 4)) % 256

/-- Whether a byte image matches pattern p (R248). -/
def State.patMatch (s : State) (p : Nat) (unit : List Byte) : Bool :=
  (List.range 16).all fun j =>
    let m := s.patByte patMask p j
    m == 0 || match unit[s.getE F.PAT_CFG_OFFSET 0 p + j]? with
      | some b => b.toNat &&& m == s.patByte patVal p j &&& m
      | none => false

/-- The last byte of the image that pattern p touches, if any. -/
def State.patLast (s : State) (p : Nat) : Option Nat :=
  ((List.range 16).filter fun j => s.patByte patMask p j != 0).getLast?.map (s.getE F.PAT_CFG_OFFSET 0 p + ·)

/-- Feeds every rule that satisfies `c`. -/
def State.rulesDo (s : State) (c : State → Nat → Bool) (g : State → Nat → State) : State :=
  (List.range 32).foldl (fun t r => if c t r then g t r else t) s

/-- Whether rule r is a PATTERN rule on the source with a pattern of KIND `k`. -/
def State.rulePat (s : State) (k srcKind idx r : Nat) : Bool :=
  s.ruleIs r 3 srcKind idx && s.getE F.PAT_CFG_KIND 0 (s.getE F.RULE_CFG_PATTERN 0 r) == k

/-- A unit of type `ty` is compared with the pattern of rule r; where units of several types pass, one of another type
than the last match is no intervening unit (R249). -/
def State.ruleCompare (s : State) (r ty : Nat) (typed : Bool) (unit : List Byte) : State :=
  if s.patMatch (s.getE F.RULE_CFG_PATTERN 0 r) unit then s.ruleUnit r .hit ty unit
  else if !typed || Tbl.get s.ruleType 0 r == ty then s.ruleUnit r .miss ty unit
  else s

/-- The RDS group so far, from block A on, at the arrival of its last block: the rules whose last masked block this is
(R248, R250). -/
def State.alarmRds (s : State) (n : Nat) (g : List (Nat × Nat × Nat)) : State :=
  if g.any (fun b => b.1 == 5) then s
  else s.rulesDo (fun t r => t.rulePat 1 0 n r) fun t r =>
    let p := t.getE F.RULE_CFG_PATTERN 0 r
    let last := match t.patLast p with | some j => min (j / 2) 3 | none => 3
    let first := t.getE F.PAT_CFG_OFFSET 0 p / 2
    let touched := (List.range g.length).filter fun i => decide (first ≤ i) && decide (i ≤ last) &&
      (List.range 16).any fun j => t.patByte patMask p j != 0 && (t.getE F.PAT_CFG_OFFSET 0 p + j) / 2 == i
    if g.length = last + 1 ∧ touched.all (fun i => match g[i]? with | some b => decide (b.2.2 ≤ 1) | none => true) then
      t.ruleCompare r 1 false (g.flatMap fun b => [BitVec.ofNat 8 (b.2.1 / 256), BitVec.ofNat 8 b.2.1])
    else t

/-- An AMSS group that passed its CRC. -/
def State.alarmAmss (s : State) (n : Nat) (group : List Byte) : State :=
  s.rulesDo (fun t r => t.rulePat 5 0 n r) fun t r => t.ruleCompare r 1 false group

/-- The entries of a FIG 0/19. -/
def Fig.entries (f : Fig) : Option (List (Nat × Bool)) :=
  match f.info with
  | .announcement es => some es
  | _ => none

/-- A FIB that passed its CRC: DAB_ALARM rules take the FIB, PATTERN rules each FIG (R247, R248). -/
def State.alarmFib (s : State) (c : Nat) (al : Bool) (figs : List Fig) : State :=
  let asw := figs.filter fun f => f.entries.isSome
  let es := asw.flatMap fun f => f.entries.getD []
  let t := if asw.isEmpty then s else
    s.rulesDo (fun t r => t.ruleIs r 1 1 c) fun t r =>
      let v : Verdict := if es.contains (0xFF, true) && (al || !t.ruleOn F.RULE_CFG_REQ_AL r) then .hit
        else if es.contains (0xFF, false) then .withdraw else .miss
      t.ruleUnit r v 1 ((asw.map (·.bytes)).headD [])
  figs.foldl (fun u f => u.rulesDo (fun v r => v.rulePat 2 1 c r) fun v r =>
    v.ruleCompare r (1 + f.type * 32 + f.ext) true f.bytes) t

/-- A FAC block that passed its CRC. -/
def State.alarmFac (s : State) (d : Nat) (block : List Byte) : State :=
  s.rulesDo (fun t r => t.rulePat 3 2 d r) fun t r => t.ruleCompare r 1 false block

/-- The entities of an SDC block that passed its CRC (R247, R248). -/
def State.alarmSdc (s : State) (d : Nat) (es : List Entity) : State :=
  es.foldl (fun u e =>
    let u := match e.info with
      | .alarm on => u.rulesDo (fun t r => t.ruleIs r 2 2 d) fun t r =>
          t.ruleUnit r (if on then .hit else .withdraw) 1 e.bytes
      | _ => u
    u.rulesDo (fun t r => t.rulePat 4 2 d r) fun t r => t.ruleCompare r (1 + e.type) true e.bytes) s

/-- The source leaves its synchronised state: its alarms are lost and its counts start afresh (R249). -/
def State.alarmSourceLost (s : State) (srcKind idx : Nat) : State :=
  s.rulesDo (fun t r => t.getE F.RULE_CFG_KIND 0 r != 0 && t.getE F.RULE_SRC_SRC_KIND 0 r == srcKind &&
    t.getE F.RULE_SRC_SRC_INDEX 0 r == idx) fun t r => t.ruleRestart r

/-- END_MS passes without a matching unit (R249). -/
def execAlarmEndTimeout (r : Fin 32) (s : State) : Host.Outcome State Fault Refusal := .next (s.alarmEnd r.val 2)

/-! ### Records of contexts, and the filters of R244 -/

/-- A record of a context. -/
def State.ctxRec (s : State) (c : Ctx) (p : Payload) : Rec :=
  match c with
  | .dab i => { kind := .dabCtx, source := i.val, time := s.now, epoch := s.epoch (.dab i.val), payload := p }
  | .drm i => { kind := .drmCtx, source := i.val, time := s.now, epoch := s.epoch (.drm i.val), payload := p }

/-- The slot that a context is bound to. -/
def State.boundSlot (s : State) (c : Ctx) : Option (Nat × Bind) :=
  match c with
  | .dab i => s.ctxSlot false i.val
  | .drm i => s.ctxSlot true i.val

/-- Delivers a record of a context on the ring of its bound slot (R204), unless the slot is detached (R435). -/
def State.ctxEmit (s : State) (c : Ctx) (x : Rec) : State :=
  match s.boundSlot c with
  | some (n, b) => if (s.slot n).detached then s else s.deliver (s.ctxOwner c) b.ring x
  | none => s

/-- Whether a FIG passes the filter of its context (R244). -/
def State.figPasses (s : State) (c : Fin 48) (f : Fig) : Bool :=
  bit (s.getE F.SD_FIG_CTX_TYPE_EN 0 c.val) f.type &&
  !(s.getE F.SD_FIG_CTX_CHANGE_ONLY 0 c.val == 1 &&
    (s.ctxHid (.dab c)).figs.any fun p => p.1 == f.bytes &&
      decide (s.now < p.2 + s.get F.SD_CFG_FIG_REFRESH 0 * ticksPerSecond))

/-- A delivered FIG joins the last 1,024 distinct ones of its context. -/
def State.figKeep (s : State) (c : Fin 48) (f : Fig) : State :=
  let h := s.ctxHid (.dab c)
  s.setCtx (.dab c) { h with figs := ((f.bytes, s.now) :: h.figs.filter fun p => p.1 != f.bytes).take 1024 }

/-- A FIB that passed its CRC is delivered as a FIG record of those FIGs that pass the filter (R244). -/
def State.figDeliver (s : State) (c : Fin 48) (index : Nat) (figs : List Fig) : State :=
  let r := figs.foldl (fun (st : State × List Byte) f =>
    if st.1.figPasses c f then (st.1.figKeep c f, st.2 ++ f.bytes)
    else (st.1.count F.SD_FIG_SUPP_COUNT 0 1, st.2)) (s, [])
  if figs.any (fun f => s.figPasses c f) then
    r.1.ctxEmit (.dab c) (r.1.ctxRec (.dab c) (.fig (s.get F.DAB_CIF_CIF_CNT c.val) index 0 r.2))
  else r.1

/-! ### Writes of the SIDEDATA page (R251, R252, R265) -/

/-- The pattern KIND that suits a source (R248, R251). -/
def State.patSuits (s : State) (k srcKind idx : Nat) : Bool :=
  let b := match (s.slot idx).applied with | some c => c.kind | none => 0
  if srcKind = 0 then (k == 1 && b == 1) || (k == 5 && b == 2)
  else if srcKind = 1 then k == 2
  else k == 3 || k == 4

/-- The checks of a write of `RULE_CFG_r` with KIND not 0, on the values written (R251). -/
def State.ruleOk (t : State) (r : Nat) : Bool :=
  let k := t.getE F.RULE_CFG_KIND 0 r
  let sk := t.getE F.RULE_SRC_SRC_KIND 0 r
  let si := t.getE F.RULE_SRC_SRC_INDEX 0 r
  let pk := t.getE F.PAT_CFG_KIND 0 (t.getE F.RULE_CFG_PATTERN 0 r)
  k == 0 || (t.owner .ring (t.getE F.RULE_CFG_RING 0 r) == t.ruleOwner r &&
    !(t.ruleOn F.RULE_CFG_ACT_ALERT r && t.ruleOwner r != 0) &&
    (k != 3 || (t.patSuits pk sk si && !(pk == 1 && !t.on F.FM_RDS_EN si))) &&
    t.getE F.RULE_CFG_CONFIRM 0 r != 0)

/-- A write of register `reg` of rule r (R251); an accepted write starts the rule afresh (R249). -/
def ruleWrite (a : Accessor) (r reg major : Nat) (w : Word) (s : State) : Except Reason State :=
  let off := 0x200 + 0x10 * r + 4 * reg
  let mine := s.ruleOwner r == accView a
  if reg = 3 then .ok s
  else if reg = 1 then
    let k := bits w.toNat 1 0
    let i := bits w.toNat 15 7
    if k = 3 ∨ (k = 1 ∧ 48 ≤ i) ∨ (k = 2 ∧ 24 ≤ i) then .error .range
    else if s.srcOwner k i ≠ accView a ∨ (s.getE F.RULE_CFG_KIND 0 r ≠ 0 ∧ !mine) then .error .owner
    else plainWrite .sidedata 0 off major w (s.ruleRestart r)
  else if !mine then .error .owner
  else match plainWrite .sidedata 0 off major w s with
    | .error e => .error e
    | .ok t =>
      if major = 1 ∧ reg = 0 ∧ bits w.toNat 2 0 = 2 then .error .range
      else if reg = 0 ∧ !t.ruleOk r then .error .range
      else plainWrite .sidedata 0 off major w (s.ruleRestart r)

/-- A write within pattern p, at a word of its block of 0x40 bytes; the counts of the rules that use it start afresh. -/
def patternWrite (a : Accessor) (p reg major : Nat) (w : Word) (s : State) : Except Reason State :=
  if !isManager a then .error .owner
  else onOk (plainWrite .sidedata 0 (0x400 + 0x40 * p + 4 * reg) major w s) fun t =>
    .ok (t.rulesDo (fun u r => u.getE F.RULE_CFG_KIND 0 r == 3 && u.getE F.RULE_CFG_PATTERN 0 r == p)
      fun u r => u.putE F.RULE_STAT_COUNT 0 r 0)

/-- A write of `SD_ALERT`: MODE and ACK are PF_0's (R252, R265). -/
def alertWrite (a : Accessor) (w : Word) (s : State) : Except Reason State :=
  if !isManager a then .error .owner
  else
    let t := s.put F.SD_ALERT_MODE 0 (bits w.toNat 1 1)
    let t := if bit w.toNat 2 && bits w.toNat 1 1 == 0 then t.put F.SD_ALERT_ASSERTED 0 0 else t
    .ok t.alertFollow

/-- The rules whose bits an accessor sees (R36, R265). -/
def State.ruleMask (s : State) (a : Accessor) : Nat :=
  if isManager a then 0xFFFFFFFF
  else (List.range 32).foldl (fun m r => if s.ruleOwner r = accView a then m + 2 ^ r else m) 0

/-- A write of a block register of the SIDEDATA page; entries of contexts of another function ignore a tenant's writes, and
a manager's are discarded. -/
def sideWrite (a : Accessor) (off major : Nat) (w : Word) (s : State) : Except Reason State :=
  let ctxOff := (0x80 ≤ off && off < 0x200)
  let o := if off < 0x140 then s.owner .dab ((off - 0x80) / 4) else s.owner .drm ((off - 0x140) / 4)
  if off = 0x44 then alertWrite a w s
  else if off = 0x4C then .ok (s.put F.SD_ALARM_SEEN_SEEN 0
    (clearBits (s.get F.SD_ALARM_SEEN_SEEN 0) (w.toNat &&& s.ruleMask a)))
  else if 0x200 ≤ off ∧ off < 0x400 then ruleWrite a ((off - 0x200) / 16) (off % 16 / 4) major w s
  else if 0x400 ≤ off ∧ off < 0x800 then patternWrite a ((off - 0x400) / 64) (off % 64 / 4) major w s
  else if ctxOff && off < 0x1A0 && o != accView a then (if isManager a then .error .owner else .ok s)
  else plainWrite .sidedata 0 off major w s

/-- A reset of the page: every rule turns OFF, the alert latch clears. -/
def State.sideReset (s : State) : State :=
  let t := s.rulesDo (fun t r => t.getE F.RULE_CFG_KIND 0 r != 0) fun t r => t.ruleRestart r
  allViews.foldl (fun u v => u.resetRegs .sidedata v) t

def execRuleWrite (a : Accessor) (r : Fin 32) (reg : Fin 4) (w : Word) (s : State) : Host.Outcome State Fault Refusal :=
  let off := 0x200 + 0x10 * r.val + 4 * reg.val
  .next (s.regWrite a .sidedata 0 off (sideWrite a off (s.major a 0x5B) w))

def execPatternWrite (a : Accessor) (p reg : Fin 16) (w : Word) (s : State) : Host.Outcome State Fault Refusal :=
  let off := 0x400 + 0x40 * p.val + 4 * reg.val
  .next (s.regWrite a .sidedata 0 off (sideWrite a off (s.major a 0x5B) w))

def execAlertAck (a : Accessor) (w : Word) (s : State) : Host.Outcome State Fault Refusal :=
  .next (s.regWrite a .sidedata 0 0x44 (sideWrite a 0x44 (s.major a 0x5B) w))

end Sys2Proof.Machine
end

