-- ==== Sys2Proof/Machine/Analogue.lean ====
section
/-! DEFINITION. Analogue lanes: FM (R173 to R179), RDS (R180 to R185), AM (R186 to R190), AMSS (R191, R192), audio (R193 to
R196), and the writes of their registers (R169). -/

namespace Sys2Proof.Machine

/-- The applied KIND of a slot; UNBOUND where nothing is applied. -/
def State.slotKind (s : State) (n : Nat) : Nat := match (s.slot n).applied with | some b => b.kind | none => 0

/-- Whether the lane of a slot runs with the binding `k`. -/
def State.laneRuns (s : State) (n k : Nat) : Bool := s.on F.SLOT_STAT_RUNNING n && s.slotKind n == k

/-! ### Pilot, SNR, offset (R174, R177, R179) -/

/-- Pilot presence after a block of 10 ms: 3 good blocks in a row declare it, 5 low blocks in a row or one of more than
30° end it (R174). When it returns, the blend factor starts from 0 (R176). -/
def State.pilotDecide (s : State) (n level phaseErr : Nat) : State :=
  let h := s.lane n
  let up := if s.get F.FM_CFG_PILOT_ON n * 100 ≤ level ∧ phaseErr < 1000 then h.pilotUp + 1 else 0
  let dn := if level < s.get F.FM_CFG_PILOT_OFF n * 100 then h.pilotDn + 1 else 0
  if s.on F.AN_STAT_LOCK n then
    if 5 ≤ dn ∨ 3000 < phaseErr then
      ((s.setLane n { h with pilotUp := 0, pilotDn := 0 }).put F.AN_STAT_LOCK n 0).raise .slot n Ev.pilotOff
    else s.setLane n { h with pilotUp := 0, pilotDn := dn }
  else if 3 ≤ up then
    ((s.setLane n { h with pilotUp := 0, pilotDn := 0, blend := 0 }).puts n
      [(F.AN_STAT_LOCK, 1), (F.AN_STAT_BLEND, 0), (F.AN_STAT_STEREO, 0)]).raise .slot n Ev.pilotOn
  else s.setLane n { h with pilotUp := up, pilotDn := 0 }

/-- A pilot block of an FM slot: the level in hertz of deviation, the RMS phase error in 0.01°; a block without valid
samples changes nothing (R171). -/
def execPilotBlock (n : Fin 512) (valid : Bool) (level phaseErr : Nat) (s : State) : Host.Outcome State Fault Refusal :=
  if s.laneRuns n.val 1 && valid then
    .next ((s.put F.AN_LEVEL_LEVEL n.val (min level 65535)).pilotDecide n.val level phaseErr)
  else .next s

/-- An SNR in 0.01 dB from a power ratio p / q, clamped to −10 to +90 dB. -/
def snrOf (p q : Nat) : Int := if q = 0 then 9000 else if p = 0 then -1000 else clampI (-1000) 9000 (dbRatio 1000 p q)

/-- FM SNR and multipath (R177, R178): `nHi` is N_hi in Hz², `mp` the indicator in 0.1 %. The ratio is
75,000² / 2 over nHi · 15³ / (96³ − 64³). -/
def execFmSnrUpdate (n : Fin 512) (valid : Bool) (nHi mp : Nat) (s : State) : Host.Outcome State Fault Refusal :=
  if s.laneRuns n.val 1 && valid then
    .next ((s.put F.AN_SNR_SNR n.val (ofInt 16 (snrOf (2812500000 * 622592) (nHi * 3375)))).put F.AN_SNR_MP n.val
      (min mp 1000))
  else .next s

/-- Carrier offset of an FM or AM slot, in 0.01 Hz (R179, R186). -/
def execOffsetUpdate (n : Fin 512) (valid : Bool) (mean : Int) (s : State) : Host.Outcome State Fault Refusal :=
  if (s.laneRuns n.val 1 || s.laneRuns n.val 2) && valid then .next (s.put F.AN_OFS_OFS n.val (satS 32 mean))
  else .next s

/-! ### Blend (R176) -/

/-- The blend target from an SNR in 0.01 dB and the thresholds in 0.5 dB. -/
def blendTarget (snr : Int) (mono stereo : Nat) : Rat :=
  let t : Rat := mkRat (snr - 50 * mono) (50 * (stereo - mono))
  if t < 0 then 0 else if 1 < t then 1 else t

/-- b moves towards its target by at most `dn` downwards and `up` upwards. -/
def blendMove (b target dn up : Rat) : Rat := if target < b then max target (b - dn) else min target (b + up)

def execBlendUpdate (n : Fin 512) (s : State) : Host.Outcome State Fault Refusal :=
  let n := n.val
  if s.laneRuns n 1 then
    let target := if s.on F.FM_CFG_STEREO n && s.on F.AN_STAT_LOCK n then
      blendTarget (sgn 16 (s.get F.AN_SNR_SNR n)) (s.get F.FM_BLEND_SNR_MONO n) (s.get F.FM_BLEND_SNR_STEREO n) else 0
    let b := blendMove (s.lane n).blend target (mkRat 1 (s.get F.FM_BLEND_BLEND_DN n))
      (mkRat 1 (10 * s.get F.FM_BLEND_BLEND_UP n))
    .next ((s.setLane n { s.lane n with blend := b }).puts n
      [(F.AN_STAT_BLEND, (b * 1024 + mkRat 1 2).floor.toNat), (F.AN_STAT_STEREO, b2n (decide (0 < b)))])
  else .next s

/-! ### RDS (R180 to R185)

The code of IEC 62106: the generator x^10 + x^8 + x^7 + x^5 + x^4 + x^3 + 1 and the offset words. PRESUMED: the
specification names the standard and does not repeat them. -/

/-- The remainder of a block of 26 bits by the generator. -/
def rdsSyndrome (w : Nat) : Nat :=
  (List.range 16).foldl (fun r i => if bit r (25 - i) then r ^^^ (0x5B9 * 2 ^ (15 - i)) else r) w

/-- The offset word of an offset code of R405: 0 A, 1 B, 2 C, 3 C′, 4 D, 5 E. -/
def rdsOffset (c : Nat) : Nat :=
  match c with
  | 0 => 0x0FC | 1 => 0x198 | 2 => 0x168 | 3 => 0x350 | 4 => 0x1B4 | _ => 0

/-- The bits of a burst whose removal clears the syndrome `y`: bursts of up to `len` bits, shortest first. -/
def rdsBurst (y len : Nat) : Option Nat :=
  (((List.range len).map fun l => (List.range (26 - l)).flatMap fun p =>
    (List.range (2 ^ (l - 1))).map fun m => (if l = 0 then 1 else 1 + 2 * m + 2 ^ l) * 2 ^ p).flatten).find?
      fun e => rdsSyndrome e == y

/-- A block decoded against an offset with a correction setting (R182): its information word and its status. -/
def rdsDecode (w c corr : Nat) : Nat × Nat :=
  let y := rdsSyndrome (w ^^^ rdsOffset c)
  if y = 0 then (w / 1024, 0)
  else match rdsBurst y (if corr = 0 then 0 else if corr = 1 then 2 else 5) with
    | some e => ((w ^^^ e) / 1024, if (List.range 26).foldl (fun k i => k + b2n (bit e i)) 0 ≤ 2 then 1 else 2)
    | none => (w / 1024, 3)

/-- The position in group order of an offset code: A 0, B 1, C and C′ 2, D 3, E 4. -/
def rdsPlace (c : Nat) : Nat := match c with | 0 => 0 | 1 => 1 | 2 => 2 | 3 => 2 | 4 => 3 | _ => 4

/-- The place `k` blocks after a place: E is followed by E. -/
def rdsAfter (p k : Nat) : Nat := if p = 4 then 4 else (p + k) % 4

/-- A block decoded at a place: at the third, C or C′, whichever has the lower status. -/
def rdsAt (w p corr : Nat) : Nat × Nat × Nat :=
  match p with
  | 0 => (0, rdsDecode w 0 corr)
  | 1 => (1, rdsDecode w 1 corr)
  | 2 =>
    let c := rdsDecode w 2 corr
    let c' := rdsDecode w 3 corr
    if c'.2 < c.2 then (3, c') else (2, c)
  | 3 => (4, rdsDecode w 4 corr)
  | _ => (5, rdsDecode w 5 corr)

/-- The offset that a block matches without correction, if any (R182); E with STD 1 only. -/
def rdsMatch (w std : Nat) : Option Nat :=
  (if std = 1 then [0, 1, 2, 3, 4, 5] else [0, 1, 2, 3, 4]).find? fun c => rdsSyndrome (w ^^^ rdsOffset c) == 0

/-- Group synchronisation, if it held, ends, with the alarms of the slot (R184, R249). -/
def State.rdsEnd (s : State) (n : Nat) : State :=
  ((s.setLane n { s.lane n with rdsSeen := [], rdsNext := none, rdsLast := [], group := [], piLast := none }).puts n
    [(F.AN_STAT_DSYNC, 0), (F.RDS_PI_VALID, 0)]).alarmSourceLost 0 n

/-- The search starts afresh; synchronisation that held is lost (R182). -/
def State.rdsRestart (s : State) (n : Nat) : State :=
  if s.on F.AN_STAT_DSYNC n then (s.rdsEnd n).raise .slot n Ev.rdsLost else s.rdsEnd n

/-- A confirmed PI (R184). -/
def State.piConfirm (s : State) (n pi : Nat) : State :=
  let t := s.puts n [(F.RDS_PI_PI, pi), (F.RDS_PI_VALID, 1)]
  if pi = s.get F.RDS_PI_PI n then t else t.raise .slot n Ev.piChange

/-- A block of offset `c`, word `v` and status `st` joins the group; at D and at every fourth E the group is complete
and is delivered if no status exceeds MAXERR (R183). -/
def State.rdsGroup (s : State) (n c v st : Nat) : State :=
  let g := if c = 0 then [(c, v, st)] else (s.lane n).group ++ [(c, v, st)]
  let s := s.alarmRds n g
  if c = 4 ∨ (c = 5 ∧ g.length = 4) then
    let t := s.setLane n { s.lane n with group := [] }
    if g.length = 4 && g.all (fun b => decide (b.2.2 ≤ s.get F.FM_RDS_MAXERR n)) then
      t.slotEmit n (s.slotRec n s.now (.rdsGroup (g.map (·.2.1)) (g.map (·.1)) (g.map (·.2.2))))
    else t
  else s.setLane n { s.lane n with group := g }

/-- A decoded block: counted, its PI compared, its group formed, and synchronisation lost at 45 of 50 (R182 to R184). -/
def State.rdsBlock (s : State) (n c v st : Nat) : State :=
  let h := s.lane n
  let bad := st == 3
  let t := if bad then s.count F.DATA_BAD_COUNT n 1 else s.count F.DATA_OK_COUNT n 1
  let pi := if c = 0 ∨ c = 3 then (if st ≤ 1 then some v else none) else h.piLast
  let t := t.setLane n { h with rdsNext := some (rdsAfter (rdsPlace c) 1), rdsLast := (bad :: h.rdsLast).take 50,
                                piLast := pi, blerGood := h.blerGood + b2n (h.blerOn && !bad) }
  let t := if (c = 0 ∨ c = 3) ∧ st ≤ 1 ∧ h.piLast = some v then t.piConfirm n v else t
  let t := t.rdsGroup n c v st
  if 45 ≤ ((bad :: h.rdsLast).take 50).countP id then t.rdsRestart n else t

/-- The search at a bit position (R182): a second matching block declares synchronisation. -/
def State.rdsSearch (s : State) (n w gap : Nat) : State :=
  let h := s.lane n
  let seen := (h.rdsSeen.map fun p => (p.1, p.2 + gap)).filter fun p => decide (p.2 ≤ 104)
  match rdsMatch w (s.get F.FM_RDS_STD n) with
  | none => s.setLane n { h with rdsSeen := seen }
  | some c =>
    if seen.any (fun p => p.2 % 26 == 0 && 0 < p.2 && rdsAfter (rdsPlace p.1) (p.2 / 26) == rdsPlace c) then
      let t := s.setLane n { h with rdsSeen := [], rdsLast := [], group := [], blerOn := true }
      ((t.put F.AN_STAT_DSYNC n 1).raise .slot n Ev.rdsSync).rdsBlock n c (w / 1024) 0
    else s.setLane n { h with rdsSeen := seen ++ [(c, 0)] }

/-- A block of 26 bits, `gap` bits after the last one; `excluded`: all its samples are excluded under R171. -/
def State.rdsTake (s : State) (n w gap : Nat) (excluded : Bool) : State :=
  match (s.lane n).rdsNext with
  | none =>
    if excluded then s.setLane n { s.lane n with rdsSeen := (s.lane n).rdsSeen.map fun p => (p.1, p.2 + gap) }
    else s.rdsSearch n w gap
  | some p =>
    let d := rdsAt w p (s.get F.FM_RDS_CORR n)
    s.rdsBlock n d.1 d.2.1 (if excluded then 3 else d.2.2)

/-- A BLER window ends (R185): what was not correctable among BLER_WIN block periods. -/
def execBlerWindowEnd (n : Fin 512) (s : State) : Host.Outcome State Fault Refusal :=
  let n := n.val
  if s.laneRuns n 1 && s.on F.FM_RDS_EN n && (s.lane n).blerOn then
    let k := s.get F.FM_RDS_BLER_WIN n
    .next ((s.setLane n { s.lane n with blerGood := 0 }).puts n
      [(F.RDS_BLER_BLER, 1000 * (k - (s.lane n).blerGood) / k), (F.RDS_BLER_VALID, 1)])
  else .next s

/-- The count of BLER starts afresh at the next synchronisation (R185). -/
def State.blerStop (s : State) (n : Nat) : State :=
  (s.setLane n { s.lane n with blerOn := false, blerGood := 0 }).put F.RDS_BLER_VALID n 0

/-! ### AM (R186 to R190) and AMSS (R191) -/

/-- The synchronous detector is in use (R188). -/
def State.syncDet (s : State) (n : Nat) : Bool :=
  s.get F.AM_CFG_MODE n == 1 || (s.get F.AM_CFG_MODE n == 2 && s.on F.AN_STAT_LOCK n)

/-- Shows which detector is in use; a change raises MODE_CHG (R188). -/
def State.showDet (s : State) (n : Nat) : State :=
  if s.on F.AN_STAT_SYNC_DET n = s.syncDet n then s
  else (s.put F.AN_STAT_SYNC_DET n (b2n (s.syncDet n))).raise .slot n Ev.piChange

/-- The lock ratio of a window of 100 ms, |mean(Q)| to c (R186). -/
def execAmLockEval (n : Fin 512) (valid : Bool) (meanQ carrier : Nat) (s : State) : Host.Outcome State Fault Refusal :=
  let n := n.val
  if s.laneRuns n 2 && valid then
    if s.on F.AN_STAT_LOCK n then
      if 3 * carrier < 10 * meanQ then
        .next (((s.puts n [(F.AN_STAT_LOCK, 0), (F.AN_SNR_SNR, 0x8000)]).raise .slot n Ev.pilotOff).showDet n)
      else .next s
    else if 10 * meanQ < carrier then .next (((s.put F.AN_STAT_LOCK n 1).raise .slot n Ev.pilotOn).showDet n)
    else .next s
  else .next s

/-- AM SNR and carrier level (R190): `pq` is the mean of R190 in 10^-12, `levelCdb` 20 log10(c) in 0.01 dBFS. -/
def execAmSnrUpdate (n : Fin 512) (valid : Bool) (pq : Nat) (levelCdb : Int) (s : State) :
    Host.Outcome State Fault Refusal :=
  let n := n.val
  if s.laneRuns n 2 && valid then
    let snr := if s.on F.AN_STAT_LOCK n then ofInt 16 (snrOf 500000000000 pq) else 0x8000
    .next ((s.put F.AN_SNR_SNR n snr).put F.AN_LEVEL_LEVEL n (satS 16 levelCdb))
  else .next s

/-- An AMSS group completes (R191): `ok` is the result of its CRC, `declared` that group synchronisation under the
standard is declared with it. -/
def execAmssGroup (n : Fin 512) (declared ok : Bool) (bitCount : Nat) (group : List Byte) (s : State) :
    Host.Outcome State Fault Refusal :=
  let n := n.val
  if s.laneRuns n 2 && s.on F.AM_AMSS_EN n then
    let t := if declared && !s.on F.AN_STAT_DSYNC n then (s.put F.AN_STAT_DSYNC n 1).raise .slot n Ev.rdsSync else s
    let t := if ok then t.count F.DATA_OK_COUNT n 1 else t.count F.DATA_BAD_COUNT n 1
    let bad := if ok then 0 else (s.lane n).amssBad + 1
    let t := if ok || s.on F.AM_AMSS_ALL n then
        t.slotEmit n { s.slotRec n s.now (.amss (b2n (!ok)) bitCount group) with failed := !ok }
      else t
    let t := if ok then t.alarmAmss n group else t
    if 8 ≤ bad then
      let t := t.setLane n { t.lane n with amssBad := 0 }
      .next (if t.on F.AN_STAT_DSYNC n then
        ((t.put F.AN_STAT_DSYNC n 0).raise .slot n Ev.rdsLost).alarmSourceLost 0 n else t)
    else .next (t.setLane n { t.lane n with amssBad := bad })
  else .next s

/-! ### Writes of the lane's registers (R169, R188, R189, R192, R197 to R199) -/

/-- The register block that stands at an offset from 0xC0 of a slot, by the applied binding (R169, R241). -/
def laneBlk (kind off : Nat) : Option Blk :=
  if kind = 1 then some (if off < 0xCC then .fm else .an)
  else if kind = 2 then some (if off < 0xCC then .am else .an)
  else if 3 ≤ kind ∧ kind ≤ 5 then some .dig
  else none

/-- After a write of a register of an FM lane; `s` is the state before. -/
def fmWritten (n off : Nat) (s t : State) : Except Reason State :=
  if off = 0xC0 then checked (t.get F.FM_CFG_PILOT_OFF n < t.get F.FM_CFG_PILOT_ON n) t
  else if off = 0xC4 then checked (t.get F.FM_BLEND_SNR_MONO n < t.get F.FM_BLEND_SNR_STEREO n) t
  else if off = 0xC8 then
    if s.on F.FM_RDS_EN n && !t.on F.FM_RDS_EN n then .ok ((t.rdsEnd n).blerStop n)
    else if s.on F.FM_RDS_EN n != t.on F.FM_RDS_EN n then .ok ((t.rdsRestart n).blerStop n)
    else if s.on F.FM_RDS_STD n != t.on F.FM_RDS_STD n then .ok (t.rdsRestart n)
    else .ok t
  else .ok t

/-- After a write of a register of an AM lane by a write of `w` in a dialect; `s` is the state before. -/
def amWritten (n off major : Nat) (w : Word) (s t : State) : Except Reason State :=
  if off = 0xC0 then
    if t.get F.AM_CFG_MODE n = 0 ∧ major ≠ 1 ∧ bits w.toNat 3 2 ≠ 0 then .error .range
    else if t.on F.AM_AMSS_EN n && decide (2 ≤ t.get F.AM_CFG_PLL_BW n) then .error .range
    else .ok (t.showDet n)
  else if off = 0xC4 then
    if t.on F.AM_AMSS_EN n && decide (2 ≤ t.get F.AM_CFG_PLL_BW n) then .error .range
    else if s.on F.AM_AMSS_EN n != t.on F.AM_AMSS_EN n then
      .ok ((t.setLane n { t.lane n with amssBad := 0 }).put F.AN_STAT_DSYNC n 0)
    else .ok t
  else .ok t

/-- A write of a register from 0xC0 on of a slot instance. -/
def laneWrite (n off major : Nat) (w : Word) (s : State) : Except Reason State :=
  if s.on F.SLOT_STAT_SHADOW n then .error .busy
  else match laneBlk (s.slotKind n) off with
    | none => .error .range
    | some b => onOk (plainWrite b n off major w s) fun t =>
        if b = .fm then fmWritten n off s t else if b = .am then amWritten n off major w s t else .ok t

/-- A write of `FM_RDS` that sets EN or changes STD. -/
def execRdsSearchRestart (a : Accessor) (n : Fin 512) (w : Word) (s : State) : Host.Outcome State Fault Refusal :=
  .next (s.regWrite a .slot n.val 0xC8 (laneWrite n.val 0xC8 (s.major a (pageOf .slot n.val)) w))

/-! ### Audio (R193 to R195) -/

/-- The sample periods of the runs that carry RETUNE, NOT_RX or CAL_GAP (R195). -/
def zeroedPeriods (runs : List Run) : Nat :=
  runs.foldl (fun k r => if r.flags % 8 = 0 then k else k + r.count) 0

/-- Device-time ticks of an audio sample at 48 kS/s. -/
def audTicks : Nat := 5120

/-- PCM_BLOCK audio sample periods complete (R193, R195): `clipped` says that a sample saturated after the gain; the
record is emitted while PCM_EN is 1 and names the instant its first sample left the lane. -/
def execPcmBlockEnd (n : Fin 512) (count : Nat) (runs : List Run) (clipped : Bool) (data : List Byte) (s : State) :
    Host.Outcome State Fault Refusal :=
  let n := n.val
  if s.laneRuns n 1 || s.laneRuns n 2 then
    let t := s.count F.AUD_CULL_COUNT n (zeroedPeriods runs)
    let t := if clipped then t.raise .slot n Ev.audClip else t
    if s.on F.AUD_OUT_PCM_EN n then
      let start := (s.time - BitVec.ofNat 64 (count * audTicks)).toNat
      .next (t.slotEmit n (s.slotRec n start (.pcm { count := count, format := s.get F.AUD_OUT_PCM_PACK n, channels := 2,
                                                     rate := 48000 * 16, runs := runs, data := data })))
    else .next t
  else .next s

end Sys2Proof.Machine
end

