-- ==== Sys2Proof/Machine/Digital.lean ====
section
/-! DEFINITION. Digital contexts (R202 to R219), service taps and shared capacity (R17, R18, R211, R220 to R224), tap
outputs (R225 to R230), diversity selection (R115 to R118). -/

namespace Sys2Proof.Machine

/-! ### Context states (R202, R203) -/

def Ctx.statFld (c : Ctx) : Fld := match c with | .dab _ => F.DAB_STAT_STATE | .drm _ => F.DRM_STAT_STATE
def Ctx.isDrm : Ctx → Bool
  | .dab _ => false
  | .drm _ => true

/-- The state of a context: 0 OFF, 1 SEARCH, 2 FRAME, 3 SIGNAL, 4 MULTIPLEX, 5 COAST. -/
def State.ctxState (s : State) (c : Ctx) : Nat := s.get c.statFld c.num
def State.putCtxState (s : State) (c : Ctx) (x : Nat) : State := s.put c.statFld c.num x

/-- The state beneath COAST. -/
def State.ctxBase (s : State) (c : Ctx) : Nat := if s.ctxState c = 5 then (s.ctxHid c).prev else s.ctxState c

/-- Sets the state beneath COAST. -/
def State.putCtxBase (s : State) (c : Ctx) (x : Nat) : State :=
  if s.ctxState c = 5 then s.setCtx c { s.ctxHid c with prev := x } else s.putCtxState c x

/-- The multiplex configuration of the context is known. -/
def State.ctxMux (s : State) (c : Ctx) : Bool := s.ctxBase c == 4

/-! ### Capacity (R15, R24, R222) -/

def cuLimit : Nat := 41472
def vitLimit : Nat := 384000
def decLimit : Nat := 96

/-- The FIC charge of a DAB context by its MODE (R206, R222). -/
def ficRate (mode : Nat) : Nat := if mode = 0 ∨ mode = 3 then 128 else 96

/-- Capacity units charged, to all taps or to those of one function. -/
def State.cuUsed (s : State) (f : Option Nat) : Nat :=
  s.taps.foldl (fun k p => match f with
    | none => k + s.get F.TAP_RUN_COST p.1
    | some g => if s.owner .tap p.1 = g then k + s.get F.TAP_RUN_COST p.1 else k) 0

/-- The Viterbi charges of taps and enabled contexts, in kbit/s (R222). -/
def State.vitUsed (s : State) : Nat :=
  s.taps.foldl (fun k p => k + p.2.vit) 0 +
  (List.range 48).foldl (fun k c => if s.enabled .dab c then k + ficRate (s.get F.DAB_CFG_MODE c) else k) 0 +
  (List.range 24).foldl (fun k d => if s.enabled .drm d then k + 32 else k) 0

/-- Programme decoders held, by all taps or by those of one function. -/
def State.decUsed (s : State) (f : Option Nat) : Nat :=
  (s.taps.filter fun p => s.on F.TAP_RUN_DEC_HELD p.1 &&
    match f with | none => true | some g => s.owner .tap p.1 == g).length

/-- The lowest-numbered free decoder (R223). -/
def State.freeDecoder (s : State) : Option Nat :=
  (List.range decLimit).find? fun k => !s.taps.any fun p => s.on F.TAP_RUN_DEC_HELD p.1 && s.get F.TAP_RUN_DEC p.1 == k

/-- p / q rounded up. -/
def ceilDiv (p q : Nat) : Nat := if q = 0 then 0 else (p + q - 1) / q

/-! ### The cost of a tap (R213, R222) -/

/-- The context of a tap configuration. -/
def TapCfg.context (t : TapCfg) : Ctx :=
  if t.drm then .drm ⟨t.ctx % 24, Nat.mod_lt _ (by decide)⟩ else .dab ⟨t.ctx % 48, Nat.mod_lt _ (by decide)⟩

/-- The channel bit rate of a stream as a fraction, 8 · (L_A / R_A + L_B / R_B) / T with T in ms (R222). -/
def StreamOrg.bitRate (x : StreamOrg) (ms : Nat) : Nat × Nat :=
  let part (l : Nat) (r : Nat × Nat) : Nat × Nat := if l = 0 then (0, 1) else (l * r.2, r.1)
  let a := part x.lenA x.rateA
  let b := part x.lenB x.rateB
  (8000 * (a.1 * b.2 + b.1 * a.2), a.2 * b.2 * ms)

/-- The needs of a tap: capacity units, Viterbi charge, pots; none while they are not known. -/
def State.tapNeed (s : State) (t : TapCfg) : Option (Nat × Nat × Nat) :=
  if !s.ctxMux t.context then none
  else if t.drm then
    match (s.ctxHid t.context).streams[t.sub]? with
    | none => none
    | some x =>
      if s.getE F.DRM_STREAM_VALID t.ctx t.sub = 0 ∨ s.on F.DRM_STAT_HIER t.ctx then none
      else
        let b := x.bitRate (if s.get F.DRM_STAT_MODE_DET t.ctx = 5 then 100 else 400)
        some (ceilDiv (3 * b.1) (8000 * b.2), ceilDiv (b.1 * (1 + s.get F.DRM_CFG_ITER t.ctx)) (1000 * b.2), 0)
  else if s.getE F.DAB_SUBCH_VALID t.ctx t.sub = 0 then none
  else
    let size := s.getE F.DAB_SUBCH_SIZE t.ctx t.sub
    some (size, ceilDiv (size * 8) 3, ceilDiv size 128)

/-- Whether costs fit the free capacity and the ceiling of the tap's function, its own old charge counting as free. -/
def State.capFits (s : State) (t cu vit : Nat) : Bool :=
  let f := s.owner .tap t
  let old := s.get F.TAP_RUN_COST t
  decide (s.cuUsed none - old + cu ≤ cuLimit) && decide (s.vitUsed - (s.tap t).vit + vit ≤ vitLimit) &&
    decide (s.cuUsed (some f) - old + cu ≤ s.getE F.FUNC_CEIL_CU 0 f)

/-- The deinterleaving pots of a tap become `k` (R213); none if they cannot be had. -/
def State.tapPots (s : State) (t k : Nat) : Option State :=
  let held := (s.potsOf (.tap t)).length
  if held < k then s.allocPots (s.owner .tap t) (.tap t) (k - held) else some (s.trimPots (.tap t) k)

/-- The payload of a tap, as `TAP_RUN.PAYLOAD` (R225). -/
def State.tapPayload (s : State) (t : TapCfg) : Nat :=
  if t.drm then match s.getE F.DRM_STREAM_PAYLOAD t.ctx t.sub with | 1 => 3 | 2 => 4 | 3 => 5 | 4 => 6 | _ => 0
  else match s.getE F.DAB_SUBCH_PAYLOAD t.ctx t.sub with | 1 => 1 | 2 => 2 | 3 => 5 | 4 => 5 | _ => 0

/-! ### The outputs of a tap -/

/-- A record of a tap. -/
def State.tapRec (s : State) (t time : Nat) (p : Payload) : Rec :=
  { kind := .tap, source := t, time := time, epoch := s.epoch (.tap t), payload := p }

/-- The OF_TYPE of a gap by its REASON (R407). -/
def gapType (reason : Nat) : Nat := if reason = 3 ∨ reason = 5 then 0x0001 else if reason = 7 then 0x0002 else 0

/-- The sample periods between two instants at a rate in 1/16 Hz. -/
def samplesIn (start stop rate : Nat) : Nat := (stop - start) * rate / (16 * ticksPerSecond)

/-- Delivers a record of a tap to its ring, behind the gaps of the REASONs that it ends; `stop` is the end of what it
covers (R17, R228, R229). -/
def State.tapEmit (s : State) (t : Nat) (x : Rec) (ends : List Nat) (rate stop : Nat) : State :=
  let h := s.tap t
  match h.applied with
  | none => s
  | some c =>
    let now := h.gaps.filter fun g => ends.contains g.2
    let u := s.setTap t { h with gaps := h.gaps.filter (fun g => !ends.contains g.2), lastOut := some stop }
    if h.detached then u
    else
      let u := now.foldl (fun v g => v.deliver (s.owner .tap t) c.ring
        (s.tapRec t g.1 (.gap g.1 x.time 0 (samplesIn g.1 x.time rate) g.2 (gapType g.2)))) u
      u.deliver (s.owner .tap t) c.ring x

/-- A span without output of a REASON begins for tap t. -/
def State.tapGap (s : State) (t reason : Nat) : State :=
  let h := s.tap t
  let start := h.lastOut.getD s.now
  if reason = 4 then s.setTap t { h with gaps := [(start, 4)] }
  else if h.gaps.any (fun g => g.2 == reason || g.2 == 4) then s
  else s.setTap t { h with gaps := h.gaps ++ [(start, reason)] }

/-! ### Settling charges (R211, R221) -/

/-- The enabled taps on a context, in ascending order. -/
def State.ctxTaps (s : State) (c : Ctx) : List (Nat × TapCfg) :=
  s.taps.filterMap fun p => match p.2.applied with
    | some t => if t.context = c ∧ s.enabled .tap p.1 then some (p.1, t) else none
    | none => none

/-- The tap shows its payload; NO_AUDIO where PCM is asked of what is no audio (R225). -/
def State.showPayload (s : State) (t : Nat) (c : TapCfg) : State :=
  let p := s.tapPayload c
  let u := s.put F.TAP_RUN_PAYLOAD t p
  if c.pcm && (p == 5 || p == 6) && s.get F.TAP_RUN_PAYLOAD t != p then u.raise .tap t Ev.noAudio else u

/-- The tap runs at the charge given. -/
def State.tapRun (s : State) (t : Nat) (c : TapCfg) (cu vit : Nat) : State :=
  ((s.setTap t { s.tap t with vit := vit }).puts t [(F.TAP_RUN_COST, cu), (F.TAP_RUN_STATE, 2)]).showPayload t c

/-- The tap waits without a charge. -/
def State.tapWait (s : State) (t : Nat) : State :=
  let u := (s.setTap t { s.tap t with vit := 0, sync := false }).freePotsOf (.tap t)
  let u := u.puts t [(F.TAP_RUN_COST, 0), (F.TAP_RUN_STATE, 1), (F.TAP_RUN_PAYLOAD, 0)]
  match (s.tap t).applied with
  | some c => if c.au && (s.tap t).lastOut.isSome then u.tapGap t 7 else u
  | none => u

/-- The tap is suspended (R17): it keeps its decoder and its pots. -/
def State.tapSuspend (s : State) (t : Nat) : State :=
  let u := (s.setTap t { s.tap t with vit := 0, pcmOn := false, sync := false }).puts t
    [(F.TAP_RUN_COST, 0), (F.TAP_RUN_STATE, 3)]
  ((u.tapGap t 4).raise .tap t Ev.capExceeded).raiseViews .auddec Ev.tapSuspended (viewsOf (s.owner .tap t))

/-- The charge of a tap rises, or becomes known: it runs at the new cost if that fits and its pots can be had, else it is
suspended (R211 step 2). -/
def State.tapRaise (s : State) (t : Nat) (c : TapCfg) (n : Nat × Nat × Nat) : State :=
  if s.capFits t n.1 n.2.1 then
    match s.tapPots t n.2.2 with
    | some u => u.tapRun t c n.1 n.2.1
    | none => s.tapSuspend t
  else s.tapSuspend t

/-- Whether new needs cost no more than what is charged. -/
def State.costFalls (s : State) (t : Nat) (n : Nat × Nat × Nat) : Bool :=
  s.get F.TAP_RUN_STATE t == 2 && decide (n.1 ≤ s.get F.TAP_RUN_COST t) && decide (n.2.1 ≤ (s.tap t).vit)

/-- R211 step 1 for one tap: gone, or at a lower cost. -/
def State.settleDown (s : State) (p : Nat × TapCfg) : State :=
  match s.tapNeed p.2 with
  | none => if s.get F.TAP_RUN_STATE p.1 = 1 then s else (s.tapWait p.1).raise .tap p.1 Ev.subGone
  | some n =>
    if s.costFalls p.1 n then
      match s.tapPots p.1 n.2.2 with
      | some u => u.tapRun p.1 p.2 n.1 n.2.1
      | none => s.tapSuspend p.1
    else s

/-- R211 step 2 for one tap; a suspended tap waits for R18. -/
def State.settleUp (s : State) (p : Nat × TapCfg) : State :=
  match s.tapNeed p.2 with
  | none => s
  | some n => if s.get F.TAP_RUN_STATE p.1 = 3 || s.costFalls p.1 n then s else s.tapRaise p.1 p.2 n

/-- Settles the charges of the taps of a context whose configuration is known (R211). -/
def State.settleTaps (s : State) (c : Ctx) : State :=
  if s.ctxMux c then (s.ctxTaps c).foldl State.settleUp ((s.ctxTaps c).foldl State.settleDown s) else s

/-- Suspended taps of the context of tap t, up to t in ascending order, resume where their cost and pots fit (R18). -/
def execTapResume (t : Fin 1024) (s : State) : Host.Outcome State Fault Refusal :=
  match (s.tap t.val).applied with
  | none => .next s
  | some c =>
    .next ((s.ctxTaps c.context).foldl (fun u p =>
      if t.val < p.1 ∨ u.get F.TAP_RUN_STATE p.1 ≠ 3 then u
      else match u.tapNeed p.2 with
        | none => u
        | some n =>
          if u.capFits p.1 n.1 n.2.1 then
            match u.tapPots p.1 n.2.2 with
            | some v => (v.tapRun p.1 p.2 n.1 n.2.1).raise .tap p.1 Ev.capResumed
            | none => u
          else u) s)

/-! ### Entering and leaving states -/

/-- What a context shows of its reception is cleared. -/
def State.ctxBlank (s : State) (c : Ctx) : State :=
  match c with
  | .dab i => s.puts i.val [(F.DAB_MER_MER, 0x8000), (F.DAB_MER_WMER, 0x8000), (F.DAB_STAT_MCI_VALID, 0),
      (F.DAB_CIF_VALID, 0), (F.DAB_CIF_RECONF_PENDING, 0)]
  | .drm i => s.puts i.val [(F.DRM_MER_MER, 0x8000), (F.DRM_MER_WMER, 0x8000)]

/-- The configuration that a context mirrors is forgotten. -/
def State.ctxForget (s : State) (c : Ctx) : State :=
  match c with
  | .dab i => s.resetFlds i.val [F.DAB_SUBCH_START, F.DAB_SUBCH_SIZE, F.DAB_SUBCH_VALID, F.DAB_SUBCH_EEP, F.DAB_SUBCH_PROT,
      F.DAB_SUBCH_PAYLOAD]
  | .drm i => s.resetFlds i.val [F.DRM_STREAM_LEN_A, F.DRM_STREAM_LEN_B, F.DRM_STREAM_VALID, F.DRM_STREAM_PAYLOAD]

/-- The source of an alarm rule that a context is. -/
def Ctx.srcKind : Ctx → Nat
  | .dab _ => 1
  | .drm _ => 2

/-- The context looks for frame timing; a known configuration is kept with its taps (R221). -/
def State.ctxSearch (s : State) (c : Ctx) : State :=
  let h := s.ctxHid c
  let h' : CtxHid := { kept := h.kept || s.ctxMux c, modeSeen := h.modeSeen, named := h.named, sids := h.sids,
                       pay := h.pay, streams := h.streams, figs := h.figs, sdcLast := h.sdcLast, frames := h.frames,
                       superframes := h.superframes, facIds := h.facIds }
  let t := ((s.setCtx c h').putCtxState c 1).ctxBlank c
  let t := (s.ctxTaps c).foldl (fun u p =>
    if p.2.au && (u.tap p.1).lastOut.isSome && u.get F.TAP_RUN_STATE p.1 == 2 then u.tapGap p.1 7 else u) t
  if s.ctxState c = 1 then t else t.alarmSourceLost c.srcKind c.num

/-- The context is disabled or loses its running slot (R202): OFF, its taps wait. -/
def State.ctxOff (s : State) (c : Ctx) : State :=
  if s.ctxState c = 0 then s
  else
    let h : CtxHid := { modeSeen := (s.ctxHid c).modeSeen, figs := (s.ctxHid c).figs, sdcLast := (s.ctxHid c).sdcLast }
    let t := (((s.setCtx c h).putCtxState c 0).ctxBlank c).ctxForget c
    let t := (s.ctxTaps c).foldl (fun u p => u.tapWait p.1) t
    t.alarmSourceLost c.srcKind c.num

/-- Whether the slot bound to a context runs. -/
def State.ctxFed (s : State) (c : Ctx) : Bool :=
  match s.boundSlot c with
  | some (n, _) => s.on F.SLOT_STAT_RUNNING n
  | none => false

/-- A context that is enabled and fed begins to decode, and any other is OFF (R202). -/
def State.ctxRefresh (s : State) (c : Ctx) : State :=
  if s.enabled c.blk c.num && s.ctxFed c then (if s.ctxState c = 0 then s.ctxSearch c else s) else s.ctxOff c

/-- The context that a configuration binds, if any. -/
def Bind.context (b : Bind) : Option Ctx :=
  if b.kind = 3 then some (.dab ⟨b.ctx % 48, Nat.mod_lt _ (by decide)⟩)
  else if b.kind = 4 ∨ b.kind = 5 then some (.drm ⟨b.ctx % 24, Nat.mod_lt _ (by decide)⟩)
  else none

/-! ### Enable, disable, reset of contexts (R205, R219, R222) -/

/-- Enables a context: the Viterbi charge must fit, and a DRM context takes 3 pots. -/
def ctxEnable (c : Ctx) (s : State) : Except Reason State :=
  let more := match c with | .dab i => ficRate (s.get F.DAB_CFG_MODE i.val) | .drm _ => 32
  if vitLimit < s.vitUsed + more then .error .range
  else
    let t := match c with
      | .dab _ => some s
      | .drm i => s.allocPots (s.owner .drm i.val) (.drm i.val) 3
    match t with
    | none => .error .range
    | some u => .ok ((u.put (H.ENABLE c.blk) c.num 1).ctxRefresh c)

/-- Disables a context; a DRM context frees its pots. -/
def State.ctxDisable (s : State) (c : Ctx) : State :=
  let t := (s.put (H.ENABLE c.blk) c.num 0).ctxOff c
  match c with
  | .dab _ => t
  | .drm i => t.freePotsOf (.drm i.val)

/-- The effect of a reset of a context (R205). -/
def State.ctxReset (s : State) (c : Ctx) : State := ((s.ctxDisable c).setCtx c {}).resetRegs c.blk c.num

/-- After an accepted write of `DAB_CFG`: a new MODE on a running context restarts acquisition, and its charge must fit
(R205, R222). -/
def dabCfgWritten (c : Fin 48) (s t : State) : Except Reason State :=
  if s.get F.DAB_CFG_MODE c.val = t.get F.DAB_CFG_MODE c.val then .ok t
  else if s.enabled .dab c.val && decide (vitLimit < t.vitUsed) then .error .range
  else .ok (if s.ctxState (.dab c) = 0 then t else t.ctxSearch (.dab c))

/-- After an accepted write of `DRM_CFG` (R237): MODE must suit the bound slot, and charges that follow ITER must fit. -/
def drmCfgWritten (d : Fin 24) (s t : State) : Except Reason State :=
  let m := t.get F.DRM_CFG_MODE d.val
  let misfit := match s.boundSlot (.drm d) with
    | some (_, b) => (b.kind == 5 && 1 ≤ m && m ≤ 4) || (b.kind == 4 && m == 5)
    | none => false
  let u := (t.ctxTaps (.drm d)).foldl (fun v p => match v.tapNeed p.2 with
    | some n => if v.get F.TAP_RUN_STATE p.1 = 2 then v.setTap p.1 { v.tap p.1 with vit := n.2.1 } else v
    | none => v) t
  if misfit then .error .range
  else if vitLimit < u.vitUsed ∧ t.vitUsed < u.vitUsed then .error .range
  else if s.get F.DRM_CFG_MODE d.val = m ∨ s.ctxState (.drm d) = 0 then .ok u
  else .ok (u.ctxSearch (.drm d))

/-- A write of a block register of a context. -/
def ctxWrite (c : Ctx) (off major : Nat) (w : Word) (s : State) : Except Reason State :=
  onOk (plainWrite c.blk c.num off major w s) fun t =>
    if off = 0x40 then (match c with | .dab i => dabCfgWritten i s t | .drm i => drmCfgWritten i s t) else .ok t

def execAcquisitionRestart (a : Accessor) (c : Ctx) (w : Word) (s : State) : Host.Outcome State Fault Refusal :=
  .next (s.regWrite a c.blk c.num 0x40 (ctxWrite c 0x40 (s.major a (pageOf c.blk c.num)) w))

/-! ### Taps: commit, enable, disable, reset (R220 to R224) -/

/-- The staged configuration of a tap. -/
def State.tapStaged (s : State) (t : Nat) : TapCfg :=
  { drm := s.on F.TAP_CFG_KIND t, ctx := s.get F.TAP_CFG_CTX t, sub := s.get F.TAP_CFG_SUB t, au := s.on F.TAP_CFG_AU_EN t,
    pcm := s.on F.TAP_CFG_PCM_EN t, pad := s.on F.TAP_CFG_PAD_EN t, rate48 := s.on F.TAP_CFG_RATE48 t,
    pack := s.get F.TAP_CFG_PCM_PACK t, ring := s.get F.TAP_CFG_RING t }

/-- A write of `TAP_CMD` (R220). -/
def tapCmdWrite (t : Nat) (w : Word) (s : State) : Except Reason State :=
  let c := s.tapStaged t
  let h := s.tap t
  let ok := (if c.drm then c.ctx ≤ 23 && c.sub ≤ 3 else c.ctx ≤ 47 && c.sub ≤ 63) &&
    s.owner .ring c.ring == s.owner .tap t && c.pack != 3
  if bits w.toNat 0 0 = 0 then .ok s
  else if !ok then .error .range
  else if s.enabled .tap t then
    match h.applied with
    | some old => if c = { old with ring := c.ring } then .ok (s.setTap t { h with applied := some c, detached := false })
                  else .error .range
    | none => .error .range
  else .ok (s.setTap t { h with applied := some c, detached := false })

/-- Sets a tap's ENABLE, with a decoder of the ceiling of function `f` (R221, R223). -/
def tapEnableFor (f t : Nat) (s : State) : Except Reason State :=
  match (s.tap t).applied with
  | none => .error .range
  | some c =>
    let twin := s.taps.any fun p => p.1 != t && s.enabled .tap p.1 && match p.2.applied with
      | some d => d.context = c.context ∧ d.sub = c.sub
      | none => false
    let dec : Option State :=
      if c.pcm then
        (if s.decUsed (some f) < s.getE F.FUNC_CEIL_DEC 0 f then s.freeDecoder else none).map fun k =>
          s.puts t [(F.TAP_RUN_DEC_HELD, 1), (F.TAP_RUN_DEC, k)]
      else some s
    match dec with
    | none => .error .range
    | some u =>
      let u := (u.put (H.ENABLE .tap) t 1).setTap t { applied := some c, detached := (s.tap t).detached }
      if twin then .error .range
      else match s.tapNeed c with
        | none => .ok (u.put F.TAP_RUN_STATE t 1)
        | some n =>
          if u.capFits t n.1 n.2.1 then
            match u.tapPots t n.2.2 with
            | some v => .ok (v.tapRun t c n.1 n.2.1)
            | none => .error .range
          else .error .range

/-- Sets a tap's ENABLE for its owner. -/
def tapEnable (t : Nat) (s : State) : Except Reason State :=
  if s.enabled .tap t then .ok s else tapEnableFor (s.owner .tap t) t s

/-- Clears a tap's ENABLE: charges, decoder and pots are released (R223). -/
def State.tapDisable (s : State) (t : Nat) : State :=
  let h := s.tap t
  ((s.freePotsOf (.tap t)).setTap t { applied := h.applied, detached := h.detached }).puts t
    [(H.ENABLE .tap, 0), (F.TAP_RUN_STATE, 0), (F.TAP_RUN_DEC_HELD, 0), (F.TAP_RUN_DEC, 0), (F.TAP_RUN_PAYLOAD, 0),
     (F.TAP_RUN_COST, 0)]

/-- The effect of a reset of a tap (R224). -/
def State.tapReset (s : State) (t : Nat) : State := ((s.tapDisable t).setTap t {}).resetRegs .tap t

def execTapCommit (a : Accessor) (t : Fin 1024) (w : Word) (s : State) : Host.Outcome State Fault Refusal :=
  .next (s.cmdWrite a .tap t.val 0x14 w (tapCmdWrite t.val w))

/-! ### Superframes, access units, audio (R214, R225 to R229) -/

/-- Whether a tap delivers: RUNNING, with its context in MULTIPLEX or COAST. -/
def State.tapRuns (s : State) (t : Nat) : Bool := s.get F.TAP_RUN_STATE t == 2

/-- A superframe of a DAB+ tap (R214): the result of its fire code and the codewords that could not be corrected. -/
def execSuperframe (t : Fin 1024) (fire : Bool) (rsFail : Nat) (s : State) : Host.Outcome State Fault Refusal :=
  let n := t.val
  let h := s.tap n
  if !s.tapRuns n ∨ s.get F.TAP_RUN_PAYLOAD n ≠ 2 then .next s
  else if fire then
    .next ((s.setTap n { h with sync := true, syncBad := 0 }).count F.TAP_ERR_RS_FAIL n rsFail)
  else if !h.sync then .next s
  else if 2 ≤ h.syncBad then .next (s.setTap n { h with sync := false, syncBad := 0 })
  else .next ((s.setTap n { h with syncBad := h.syncBad + 1 }).count F.TAP_ERR_RS_FAIL n rsFail)

/-- Delivers a label, or one segment of it (R245, R405). -/
def State.labelEmit (s : State) (t : Nat) (c : TapCfg) (single toggle : Bool) (charset : Nat) (text dl : List Byte) : State :=
  let dl := if s.on F.SD_CFG_DLPLUS 0 then dl else []
  let st := b2n single + 2 * b2n toggle + 4 * b2n (!dl.isEmpty)
  s.tapEmit t (s.tapRec t s.now (.padDls (b2n c.drm) st charset text dl)) [4] 0 s.now

/-- A unit of PAD of a tap (R245, R246). -/
def State.padTake (s : State) (t : Nat) (c : TapCfg) (p : Pad) : State :=
  match p with
  | .mot ty ok g =>
    if ok && !c.drm && (ty == 12 || ty == 13) then s.tapEmit t (s.tapRec t s.now (.motSegment ty g)) [4] 0 s.now else s
  | .text toggle first last num charset chars dl ok =>
    if !ok || (c.drm && s.getE F.SD_DRM_CTX_TEXT_EN 0 c.ctx == 0) then s
    else if !s.on F.SD_CFG_DLS_ASSEMBLE 0 then s.labelEmit t c true toggle charset chars dl
    else
      let h := s.tap t
      let l : Option Label :=
        if first then some { toggle := toggle, num := 1, charset := charset, text := chars }
        else match h.label with
          | some l => if l.toggle = toggle ∧ l.num = num then some { l with num := num + 1, text := l.text ++ chars } else none
          | none => none
      match l with
      | none => s.setTap t { h with label := none }
      | some l =>
        if !last then s.setTap t { h with label := some l }
        else
          let u := s.setTap t { h with label := none, shown := some (toggle, l.text) }
          if h.shown = some (toggle, l.text) then u else u.labelEmit t c first toggle l.charset l.text dl

/-- An access unit, or a logical frame of data (R227, R229): counted, delivered with AU_EN, its PAD processed if it passed. -/
def execAccessUnit (t : Fin 1024) (ok data : Bool) (unit : List Byte) (pads : List Pad) (s : State) :
    Host.Outcome State Fault Refusal :=
  let n := t.val
  match (s.tap n).applied with
  | none => .next s
  | some c =>
    if !s.tapRuns n then .next s
    else
      let u := if ok then s else s.count F.TAP_ERR_AU_BAD n 1
      let i := (u.tap n).auIndex
      let u := u.setTap n { u.tap n with auIndex := i + 1 }
      let x : Payload := .codedAu (s.get F.TAP_RUN_PAYLOAD n) (b2n (!ok) + 2 * b2n data) i unit
      let u := if c.au then u.tapEmit n { u.tapRec n s.now x with failed := !ok } [4, 7] 0 s.now else u
      .next (if ok && c.pad then pads.foldl (fun v p => v.padTake n c p) u else u)

/-- The bytes of one sample period of two channels in a packing (R404). -/
def packBytes (pack : Nat) : Nat := if pack = 0 then 6 else 8

/-- What one audio frame becomes (R227): `good`, or failed; the failed units in a row decide between a repeat, a fade and
zeros. True: the frame is zeros flagged CONCEAL. -/
def State.conceals (s : State) (t : Nat) (good : Bool) : Bool :=
  !good && decide (s.get F.CONCEAL_REPEAT 0 < (s.tap t).bad)

/-- A source audio frame period of a tap (R226 to R228): `count` sample periods at `rate` in 1/16 Hz leave the decoder from
now on; `pcm` are the samples decoded, repeated or faded. -/
def execAudioFrame (t : Fin 1024) (good : Bool) (count rate : Nat) (pcm : List Byte) (s : State) :
    Host.Outcome State Fault Refusal :=
  let n := t.val
  let h := s.tap n
  match h.applied with
  | none => .next s
  | some c =>
    let audio := 1 ≤ s.get F.TAP_RUN_PAYLOAD n && s.get F.TAP_RUN_PAYLOAD n ≤ 4
    let starts := good && audio && s.tapRuns n
    if !s.on F.TAP_RUN_DEC_HELD n || s.get F.TAP_RUN_STATE n == 3 || !(h.pcmOn || starts) then .next s
    else
      let zero := s.conceals n good
      let data := if zero then List.replicate (count * packBytes c.pack) 0 else pcm
      let runs : List Run := if zero then [{ first := 0, count := count, flags := 64 }] else []
      let u := s.setTap n { h with pcmOn := true, zeros := zero, bad := if good then 0 else h.bad + 1 }
      let u := if zero then u.countE F.DEC_CULL_COUNT 0 (s.get F.TAP_RUN_DEC n) count else u
      let stop := s.now + count * 16 * ticksPerSecond / rate
      .next (u.tapEmit n (u.tapRec n s.now (.pcm { count := count, format := c.pack, channels := 2, rate := rate, runs := runs,
                                                   data := data })) [3, 4, 5] rate stop)

/-- After 1 s of continuous zeros the PCM of a tap stops (R228). -/
def execDecodeStop (t : Fin 1024) (s : State) : Host.Outcome State Fault Refusal :=
  let h := s.tap t.val
  if h.pcmOn && h.zeros then .next ((s.setTap t.val { h with pcmOn := false, zeros := false, bad := 0 }).tapGap t.val 5)
  else .next s

/-! ### Diversity (R115 to R118) -/

/-- The pair counter of a paired window: pairs in ascending order of their lower page. -/
def State.pairCounter (s : State) (n : Nat) : Fld :=
  let low := min n (s.partner n)
  if ([0, 1, 2, 3, 4].filter fun m => s.isPaired m && decide (m < s.partner m) && decide (m < low)).isEmpty
  then F.AER_DIV_SW_0_COUNT else F.AER_DIV_SW_1_COUNT

/-- The decision for one frame of slot n from the SNR of the bound path and of the shadow's, in 0.01 dB (R115, R116). -/
def State.divDecide (s : State) (c : Ctx) (n window : Nat) (a b : Int) : State :=
  let a := clampI (-3000) 6000 a
  let b := clampI (-3000) 6000 b
  let cur := s.get F.DIG_DIV_STAT_PATH n
  let path :=
    if !s.on F.DIG_DIV_STAT_VALID n then (if a < b then 1 else 0)
    else if a = -3000 ∧ b = -3000 then cur
    else if cur = 0 then (if a + 100 < b then 1 else 0)
    else (if b + 100 < a then 0 else 1)
  let t := s.puts n [(F.DIG_DIV_SNR_BOUND, ofInt 16 a), (F.DIG_DIV_SNR_SHADOW, ofInt 16 b), (F.DIG_DIV_STAT_PATH, path),
    (F.DIG_DIV_STAT_VALID, 1)]
  let t := t.setCtx c { t.ctxHid c with divTime := s.now }
  if s.on F.DIG_DIV_STAT_VALID n && path != cur then t.count (s.pairCounter window) 0 1 else t

/-! ### Frames (R207, R208, R215, R217) -/

/-- The fields of a context that a frame updates. -/
def Ctx.modeFld (c : Ctx) : Fld := match c with | .dab _ => F.DAB_STAT_MODE_DET | .drm _ => F.DRM_STAT_MODE_DET
def Ctx.cfgMode (c : Ctx) : Fld := match c with | .dab _ => F.DAB_CFG_MODE | .drm _ => F.DRM_CFG_MODE
def Ctx.missedFld (c : Ctx) : Fld := match c with | .dab _ => F.DAB_MISSED_COUNT | .drm _ => F.DRM_MISSED_COUNT

/-- The measurements of a frame: offset in 0.01 Hz, clock offset in 0.01 ppm, MER and WMER in 0.01 dB (R232). -/
def State.ctxMeasure (s : State) (c : Ctx) (ofs sco mer wmer : Int) : State :=
  let m := ofInt 16 (clampI 0 5000 mer)
  let w := ofInt 16 (clampI 0 5000 wmer)
  match c with
  | .dab i => s.puts i.val [(F.DAB_OFS_OFS, satS 32 ofs), (F.DAB_SCO_SCO, satS 16 sco), (F.DAB_MER_MER, m),
      (F.DAB_MER_WMER, w)]
  | .drm i => s.puts i.val [(F.DRM_OFS_OFS, satS 32 ofs), (F.DRM_SCO_SCO, satS 16 sco), (F.DRM_MER_MER, m),
      (F.DRM_MER_WMER, w)]

/-- FRAME is entered from SEARCH with a mode (R207, R217, R236). -/
def State.ctxFound (s : State) (c : Ctx) (mode : Nat) : State :=
  let m := if s.get c.cfgMode c.num = 0 then mode else s.get c.cfgMode c.num
  let h := s.ctxHid c
  let t := (((s.setCtx c { h with found := false, missed := 0, modeSeen := m }).put c.modeFld c.num m).putCtxState c 2).raise
    c.blk c.num Ev.frameSync
  if h.modeSeen ≠ 0 ∧ h.modeSeen ≠ m then t.raise c.blk c.num Ev.modeChange else t

/-- A frame of a context: found, or missed when it is not found or holds a zero-substituted sample. `twice`: FRAME needs two
frames in a row (R207). -/
def State.ctxFrame (s : State) (c : Ctx) (miss twice : Bool) (mode : Nat) (ofs sco mer wmer : Int) : State :=
  let h := s.ctxHid c
  let x := s.ctxState c
  if x = 0 then s
  else if x = 1 then
    if miss then s.setCtx c { h with found := false }
    else if twice && !h.found then s.setCtx c { h with found := true }
    else (s.ctxFound c mode).ctxMeasure c ofs sco mer wmer
  else if miss then
    let t := s.count c.missedFld c.num 1
    if x ≠ 5 then (t.setCtx c { h with prev := x, missed := 1 }).putCtxState c 5
    else if 3 ≤ h.missed then (t.raise c.blk c.num Ev.syncLost).ctxSearch c
    else t.setCtx c { h with missed := h.missed + 1 }
  else
    let t := if x = 5 then (s.setCtx c { h with missed := 0 }).putCtxState c h.prev else s
    t.ctxMeasure c ofs sco mer wmer

/-- A frame with its diversity decision; a burst that counts the context's frames counts it (R83). -/
def State.frameStart (s : State) (c : Ctx) (miss twice : Bool) (mode : Nat) (ofs sco mer wmer : Int)
    (snr : Option (Int × Int)) : State :=
  let t := if 2 ≤ s.ctxState c then s.burstFrame c.isDrm c.num else s
  let t := match s.boundSlot c, snr with
    | some (n, b), some (x, y) => if b.div then t.divDecide c n b.window x y else t
    | _, _ => t
  t.ctxFrame c miss twice mode ofs sco mer wmer

def execDabFrame (c : Fin 48) (found zeroed : Bool) (mode : Fin 5) (ofs sco mer wmer : Int) (snr : Option (Int × Int))
    (s : State) : Host.Outcome State Fault Refusal :=
  .next (s.frameStart (.dab c) (!found || zeroed) true mode.val ofs sco mer wmer snr)

def execDrmFrame (d : Fin 24) (found zeroed : Bool) (mode : Fin 6) (ofs sco mer wmer : Int) (snr : Option (Int × Int))
    (s : State) : Host.Outcome State Fault Refusal :=
  .next (s.frameStart (.drm d) (!found || zeroed) false mode.val ofs sco mer wmer snr)

/-! ### The DAB configuration (R209, R210) -/

/-- Mirrors one subchannel of DAB context c. -/
def State.putSub (s : State) (c : Nat) (pay : List (Nat × Nat)) (x : SubOrg) : State :=
  let t := ((s.putE F.DAB_SUBCH_START c x.id x.start).putE F.DAB_SUBCH_SIZE c x.id x.size).putE F.DAB_SUBCH_VALID c x.id 1
  let t := (t.putE F.DAB_SUBCH_EEP c x.id (b2n x.eep)).putE F.DAB_SUBCH_PROT c x.id x.prot
  t.putE F.DAB_SUBCH_PAYLOAD c x.id (((pay.find? fun p => p.1 == x.id).map (·.2)).getD 0)

/-- The mirrored payloads follow FIG 0/2 and FIG 0/3. -/
def State.putPay (s : State) (c : Nat) (pay : List (Nat × Nat)) : State :=
  pay.foldl (fun t p => if t.getE F.DAB_SUBCH_VALID c p.1 = 1 then t.putE F.DAB_SUBCH_PAYLOAD c p.1 p.2 else t) s

/-- Adds pairs to a list, the newer one of a key replacing the older. -/
def addPairs (l m : List (Nat × Nat)) : List (Nat × Nat) := m.foldl (fun k p => k.filter (fun q => q.1 != p.1) ++ [p]) l

/-- Adds subchannels to those collected. -/
def addSubs (l m : List SubOrg) : List SubOrg := m.foldl (fun k x => k.filter (fun y => y.id != x.id) ++ [x]) l

/-- Adds services with their subchannels, each pair once. -/
def addSids (l : List (Nat × Nat)) (sid : Nat) (subs : List (Nat × Nat)) : List (Nat × Nat) :=
  subs.foldl (fun k p => if k.contains (sid, p.1) then k else k ++ [(sid, p.1)]) l

/-- FIG 0/0 (R210). -/
def State.figEnsemble (s : State) (c : Fin 48) (eid cif change occur : Nat) (al : Bool) : State :=
  let n := c.val
  let t := (s.setCtx (.dab c) { s.ctxHid (.dab c) with al := al }).puts n
    [(F.DAB_STAT_EID, eid), (F.DAB_CIF_CIF_CNT, cif % 5000), (F.DAB_CIF_VALID, 1)]
  let t := if s.get F.DAB_STAT_EID n ≠ 0 ∧ s.get F.DAB_STAT_EID n ≠ eid then t.raise .dab n Ev.eidChange else t
  if change = 0 then t
  else if s.on F.DAB_CIF_RECONF_PENDING n then t.put F.DAB_CIF_RECONF_AT n (occur % 5000)
  else (t.puts n [(F.DAB_CIF_RECONF_PENDING, 1), (F.DAB_CIF_RECONF_AT, occur % 5000)]).raise .dab n Ev.reconfSignalled

/-- What a FIG tells the context (R209): the next configuration, and one that is collected anew while an earlier one is
kept, are set aside. -/
def State.figTake (s : State) (c : Fin 48) (f : Fig) : State :=
  let h := s.ctxHid (.dab c)
  match f.info with
  | .ensemble eid cif change occur al => s.figEnsemble c eid cif change occur al
  | .organisation next subs =>
    if next || h.kept then s.setCtx (.dab c) { h with nextSubs := addSubs h.nextSubs subs }
    else subs.foldl (fun t x => t.putSub c.val h.pay x) s
  | .components next sid subs =>
    if next || h.kept then
      s.setCtx (.dab c) { h with nextSids := addSids h.nextSids sid subs, nextPay := addPairs h.nextPay subs }
    else
      (s.setCtx (.dab c) { h with sids := addSids h.sids sid subs, pay := addPairs h.pay subs,
                                  named := (addSids h.sids sid subs).map (·.2) }).putPay c.val subs
  | .packet next subs =>
    let ps := subs.map fun i => (i, 4)
    if next || h.kept then s.setCtx (.dab c) { h with nextPay := addPairs h.nextPay ps }
    else (s.setCtx (.dab c) { h with pay := addPairs h.pay ps }).putPay c.val ps
  | _ => s

/-- Whether every subchannel named has a valid entry (R210). -/
def State.mciKnown (s : State) (c : Fin 48) : Bool :=
  let h := s.ctxHid (.dab c)
  !h.named.isEmpty && h.named.all fun i => s.getE F.DAB_SUBCH_VALID c.val i == 1

/-- The entries of a context's subchannels. -/
def State.subWords (s : State) (c : Nat) : List (Nat × Nat × Nat) :=
  (List.range 64).map fun i => (s.getE F.DAB_SUBCH_VALID c i, s.getE F.DAB_SUBCH_SIZE c i, s.getE F.DAB_SUBCH_START c i)

/-- The configuration collected comes into force: a subchannel without FIG 0/1 becomes invalid (R210). -/
def State.applyNext (s : State) (c : Fin 48) : State :=
  let h := s.ctxHid (.dab c)
  let t := s.setCtx (.dab c) { h with sids := h.nextSids, pay := h.nextPay, named := h.nextSids.map (·.2), nextSubs := [],
                                      nextSids := [], nextPay := [], kept := false }
  h.nextSubs.foldl (fun u x => u.putSub c.val h.nextPay x) (t.ctxForget (.dab c))

/-- After the FIGs of a FIB: MCI_VALID, the step to MULTIPLEX, and the charges (R203, R210, R221). -/
def State.dabProgress (s : State) (c : Fin 48) : State :=
  let h := s.ctxHid (.dab c)
  let base := s.ctxBase (.dab c)
  if h.kept then
    let all := !h.nextSids.isEmpty && h.nextSids.all fun p => h.nextSubs.any fun x => x.id == p.2
    if base = 3 ∧ all then
      let t := ((s.applyNext c).putCtxBase (.dab c) 4).put F.DAB_STAT_MCI_VALID c.val 1
      let t := if s.subWords c.val = t.subWords c.val then t else t.raise .dab c.val Ev.mciChange
      t.settleTaps (.dab c)
    else s
  else
    let t := s.put F.DAB_STAT_MCI_VALID c.val (b2n (s.mciKnown c))
    let t := if base = 3 ∧ (List.range 64).any (fun i => s.getE F.DAB_SUBCH_VALID c.val i == 1) then t.putCtxBase (.dab c) 4
      else t
    t.settleTaps (.dab c)

/-- At the signalled CIF count the new configuration applies (R210, R211). -/
def execDabReconfig (c : Fin 48) (s : State) : Host.Outcome State Fault Refusal :=
  if s.on F.DAB_CIF_RECONF_PENDING c.val then
    let t := (s.applyNext c).put F.DAB_CIF_RECONF_PENDING c.val 0
    let t := (t.put F.DAB_STAT_MCI_VALID c.val (b2n (t.mciKnown c))).raise .dab c.val Ev.mciChange
    .next (t.settleTaps (.dab c))
  else .next s

/-! ### The DRM configuration (R216 to R219) -/

/-- The occupied band of a spectrum occupancy about carrier 0, in hertz (ES 201 980). PRESUMED: R216 names the offsets that
centre it and not the bands. -/
def occBand (so : Nat) : Int × Int :=
  match so with
  | 0 => (0, 4500) | 1 => (0, 5000) | 2 => (-4500, 4500) | 3 => (-5000, 5000) | 4 => (-4500, 13500) | _ => (-5000, 15000)

/-- Whether the occupancy fits the passband of the bound slot's profile at the chosen offset (R216). -/
def State.occFits (s : State) (d : Fin 24) (so : Nat) : Bool :=
  match s.boundSlot (.drm d) with
  | none => true
  | some (_, b) =>
    if b.kind = 5 then true
    else
      let e := s.profileEdge b.profile b.rate
      let ref := sgn 16 (s.get F.DRM_CFG_REF_OFS d.val)
      let fits (x : Int) : Bool := decide ((ref + x).natAbs * e.2 ≤ e.1)
      fits (occBand so).1 && fits (occBand so).2

/-- A FAC that passed its CRC (R216 to R219). -/
def State.facTake (s : State) (d : Fin 24) (f : Fac) : State :=
  let n := d.val
  let drmPlus := match s.boundSlot (.drm d) with | some (_, b) => b.kind == 5 | none => false
  let so := if drmPlus then 7 else f.occupancy
  let first := s.ctxBase (.drm d) == 2
  let t := (s.setCtx (.drm d) { s.ctxHid (.drm d) with facIds := f.services }).puts n
    [(F.DRM_STAT_SO, so), (F.DRM_STAT_LONG_IL, b2n f.longIl), (F.DRM_STAT_MSC_QAM, f.mscQam),
     (F.DRM_STAT_SDC_QAM, f.sdcQam), (F.DRM_STAT_HIER, b2n f.hier), (F.DRM_STAT_RECONF_IDX, f.reconf)]
  let t := if first then t.putCtxBase (.drm d) 3 else t
  let t := if f.hier && (first || !s.on F.DRM_STAT_HIER n) then t.raise .drm n Ev.modeUnsup else t
  let t := if !t.occFits d so && (first || s.get F.DRM_STAT_SO n != so) then t.raise .drm n Ev.occMisfit else t
  let t := if f.reconf ≠ 0 ∧ s.get F.DRM_STAT_RECONF_IDX n = 0 then t.raise .drm n Ev.reconfSignalled else t
  if f.hier && !s.on F.DRM_STAT_HIER n then t.settleTaps (.drm d) else t

/-- Mirrors the streams of a DRM context. -/
def State.putStreams (s : State) (d : Fin 24) (xs : List StreamOrg) : State :=
  let h := s.ctxHid (.drm d)
  (List.range 4).foldl (fun t i =>
    match xs[i]? with
    | some x => (((t.putE F.DRM_STREAM_LEN_A d.val i x.lenA).putE F.DRM_STREAM_LEN_B d.val i x.lenB).putE
        F.DRM_STREAM_VALID d.val i 1).putE F.DRM_STREAM_PAYLOAD d.val i (((h.pay.find? fun p => p.1 == i).map (·.2)).getD 0)
    | none => ((t.putE F.DRM_STREAM_LEN_A d.val i 0).putE F.DRM_STREAM_LEN_B d.val i 0).putE F.DRM_STREAM_VALID d.val i 0)
    (s.setCtx (.drm d) { h with streams := xs, kept := false, nextStreams := none })

/-- What an SDC entity tells the context (R217, R218, R221, R225). -/
def State.sdcTake (s : State) (d : Fin 24) (e : Entity) : State :=
  let h := s.ctxHid (.drm d)
  match e.info with
  | .multiplex next xs =>
    if next then s.setCtx (.drm d) { h with nextStreams := some xs }
    else
      let t := s.putStreams d xs
      let t := if s.ctxBase (.drm d) = 3 then t.putCtxBase (.drm d) 4 else t
      let t := if h.kept && h.streams != xs then t.raise .drm d.val Ev.mciChange else t
      t.settleTaps (.drm d)
  | .audio stream payload =>
    let t := s.setCtx (.drm d) { h with pay := addPairs h.pay [(stream, payload)] }
    let t := if s.getE F.DRM_STREAM_VALID d.val stream = 1 then t.putE F.DRM_STREAM_PAYLOAD d.val stream payload else t
    t.settleTaps (.drm d)
  | _ => s

/-- A DRM reconfiguration applies at its superframe boundary (R218). -/
def execDrmReconfig (d : Fin 24) (s : State) : Host.Outcome State Fault Refusal :=
  match (s.ctxHid (.drm d)).nextStreams with
  | some xs =>
    if s.get F.DRM_STAT_RECONF_IDX d.val = 0 then .next s
    else .next (((s.putStreams d xs).raise .drm d.val Ev.mciChange).settleTaps (.drm d))
  | none => .next s

/-! ### TII (R231) -/

def execTiiReport (c : Fin 48) (more : Bool) (frames : Nat) (entries : List (Nat × Nat × Nat)) (s : State) :
    Host.Outcome State Fault Refusal :=
  if s.on F.DAB_CFG_TII_EN c.val && decide (2 ≤ s.ctxState (.dab c)) then
    .next (s.ctxEmit (.dab c) (s.ctxRec (.dab c) (.tii more frames (entries.take 16))))
  else .next s

end Sys2Proof.Machine
end

