-- ==== Sys2Proof/Machine/SlotRun.lean ====
section
/-! DEFINITION. Slots that start, run and stop (R130, R144, R161, R163), and the bank frame boundaries of a window (R20, R75,
R82, R83, R87, R119). -/

namespace Sys2Proof.Machine

/-! ### Enable, disable, reset (R161, R163) -/

/-- The slot and its shadow. -/
def State.withShadow (s : State) (n : Nat) : List Nat :=
  match s.shadowOf n with
  | some m => [n, m]
  | none => [n]

/-- Sets ENABLE: the slot starts at the next boundary, its shadow with it. -/
def State.slotOn (s : State) (n : Nat) : State :=
  (s.withShadow n).foldl (fun t m => (t.put (H.ENABLE .slot) m 1).setSlot m { t.slot m with startDue := true }) s

/-- Clears ENABLE: a running slot stops at the next boundary, its shadow with it. -/
def State.slotOff (s : State) (n : Nat) : State :=
  (s.withShadow n).foldl (fun t m => (t.put (H.ENABLE .slot) m 0).setSlot m
    { t.slot m with startDue := false, stopDue := t.on F.SLOT_STAT_RUNNING m }) s

/-- A write of 1 to a slot's ENABLE (R161). -/
def slotEnable (n : Nat) (s : State) : Except Reason State :=
  if s.on F.SLOT_STAT_SHADOW n then .error .busy
  else if s.enabled .slot n then .ok s
  else match (s.slot n).applied with
    | none => .error .range
    | some b => if b.kind = 0 then .error .range else .ok (s.slotOn n)

/-- A write of 0 to a slot's ENABLE (R161). -/
def slotDisable (n : Nat) (s : State) : Except Reason State :=
  if s.on F.SLOT_STAT_SHADOW n then .error .busy
  else if s.enabled .slot n then .ok (s.slotOff n) else .ok s

/-- The total latency of a slot in ticks, from the bank input to the delay-line output (R145). -/
def State.slotTransit (s : State) (n : Nat) (b : Bind) : Nat :=
  s.get F.SLOT_LAT_LAT n / 16 + (s.actDelay n + s.eqOf n) * b.ticks / 1024

/-- The slot starts at a boundary: its delay is in force in full, its line filled with zeros flagged NOT_RX (R144, R161). -/
def State.slotStart (s : State) (n : Nat) : State :=
  let h := s.slot n
  match h.applied with
  | none => s.setSlot n { h with startDue := false }
  | some b =>
    let t := (s.delayRest n h.target).put F.SLOT_STAT_RUNNING n 1
    let fill := (h.target + t.eqOf n) * b.ticks / 1024
    let t := t.setSlot n { t.slot n with startDue := false, line := [(t.now + t.slotTransit n b, fill, true)],
                                         zeroOut := true, zeroAcc := 0, gainSeen := t.gainLog.length }
    let t := (t.trimLine n).blerStop n
    let t := if h.slewFrom = h.target then t else t.raise .slot n Ev.dlyReached
    match b.context with
    | some c => if t.on F.SLOT_STAT_SHADOW n then t else t.ctxRefresh c
    | none => t

/-- The slot stops: its line is discarded, its detectors are reset, its lane and its context lose the stream (R161, R202). -/
def State.slotStop (s : State) (n : Nat) : State :=
  let t := s.delayRest n (s.slot n).target
  let t := (t.setSlot n { t.slot n with stopDue := false, line := [], zeroAcc := 0, zeroOut := true }).put
    F.SLOT_STAT_RUNNING n 0
  let t := (t.resetDetectors n).rdsEnd n
  match (s.slot n).applied with
  | none => t
  | some b => match b.context with
    | some c => if t.on F.SLOT_STAT_SHADOW n then t else t.ctxRefresh c
    | none => t

/-- The effect of a reset of a slot (R163). -/
def State.slotReset (s : State) (n : Nat) : State :=
  let t := (s.slotOff n).slotLeave n
  let t := (t.withShadow n).foldl (fun u m => u.slotStop m) t
  let ctx := match (s.slot n).applied with | some b => b.context | none => none
  let t := ((t.releaseShadow n).freePotsOf (.slotLine n)).setSlot n {}
  let t := ((t.setLane n {}).resetLane n).resetRegs .slot n
  match ctx with
  | some c => t.ctxRefresh c
  | none => t

/-- The slot starts at the boundary, if its start is due. -/
def execSlotStart (n : Fin 512) (s : State) : Host.Outcome State Fault Refusal :=
  if (s.slot n.val).startDue then .next (s.slotStart n.val) else .next s

/-- The slot stops at the boundary, if its stop is due. -/
def execSlotStop (n : Fin 512) (s : State) : Host.Outcome State Fault Refusal :=
  if (s.slot n.val).stopDue then .next (s.slotStop n.val) else .next s

/-! ### Bank frames (R75, R130) -/

/-- The ticks of a bank frame of 128 input samples. -/
def frameTicks (n : Nat) : Nat := if isLmh n then 1024 else 128

/-- A span has left a slot: its zeros are counted in whole output samples, ZERO_IN at the first zero after a real one
(R130, R165). -/
def State.spanOut (s : State) (n ticks span : Nat) (zero : Bool) : State :=
  let h := s.slot n
  if zero then
    let acc := h.zeroAcc + span
    let t := (s.setSlot n { h with zeroAcc := acc % ticks, zeroOut := true }).count F.SLOT_CULL_ZERO_COUNT n (acc / ticks)
    if h.zeroOut then t else t.raise .slot n Ev.zeroIn
  else s.setSlot n { h with zeroOut := false }

/-- The spans whose time has come leave the slot. -/
def State.lineOut (s : State) (n ticks : Nat) : List (Nat × Nat × Bool) → State
  | [] => s.setSlot n { s.slot n with line := [] }
  | (due, span, zero) :: r =>
    if due ≤ s.now then State.lineOut (s.spanOut n ticks span zero) n ticks r
    else s.setSlot n { s.slot n with line := (due, span, zero) :: r }

/-- A bank frame enters a running slot, and what has passed through it leaves. -/
def State.slotFrame (s : State) (n : Nat) (b : Bind) (zero : Bool) : State :=
  if s.on F.SLOT_STAT_RUNNING n then
    s.lineOut n b.ticks ((s.slot n).line ++ [(s.now + s.slotTransit n b, frameTicks b.window, zero)])
  else s

/-- The counter of a zero flag (R75), by its bit in R404. -/
def cullFld (flag : Nat) : Fld :=
  if flag = 0 then F.FE_CULL_RETUNE_COUNT else if flag = 1 then F.FE_CULL_NOT_RX_COUNT else F.FE_CULL_CAL_COUNT

/-- The frame that ends is counted by its flag and enters the window's slots. -/
def State.frameEnds (s : State) (n : Nat) : State :=
  let flag := (s.fe n).frameFlag
  let t := match flag with
    | some k => if s.powered .fe n then s.count (cullFld k) n 128 else s
    | none => s
  (s.windowSlots n).foldl (fun u p => u.slotFrame p.1 p.2 flag.isSome) t

/-- A burst counts the frame that ends; its counting starts at the first boundary that carries real samples (R82, R83). -/
def State.burstBoundary (s : State) (n : Nat) : State :=
  match (s.fe n).burst with
  | none => s
  | some b =>
    if b.counting then
      (if b.frames then s else s.put F.FE_BURST_DONE_COUNT n (s.get F.FE_BURST_DONE_COUNT n + 1)).burstEndIfDue n
    else if s.zeroFlag n = none then s.setFe n { s.fe n with burst := some { b with counting := true } }
    else s

/-- Slots of the window that wait for the boundary stop and start (R161). -/
def State.slotsBoundary (s : State) (n : Nat) : State :=
  (s.windowSlots n).foldl (fun t p =>
    let t := if (t.slot p.1).stopDue then t.slotStop p.1 else t
    if (t.slot p.1).startDue then t.slotStart p.1 else t) s

/-- Chains that saturated in the frame (R165). -/
def State.satSlots (s : State) (n : Nat) (l : List (Fin 512)) : State :=
  l.foldl (fun t m =>
    if t.on F.SLOT_STAT_RUNNING m.val && (match (t.slot m.val).applied with | some b => b.window == n | none => false) then
      (t.put F.SLOT_STAT_SAT m.val 1).raise .slot m.val Ev.sat
    else t) s

/-- A bank frame boundary of window f, in a frame of which `fullScale` ADC samples reached full-scale code: the frame that
ends is counted; retunes start, the rotation handover switches, gain and tuner changes and slots take effect; the flag of
the next frame is decided. The sample path stands still without the PLL and until the window resumes (R300, R301). -/
def execBankFrame (f : Fin 8) (fullScale : Nat) (sat : List (Fin 512)) (s : State) : Host.Outcome State Fault Refusal :=
  let n := f.val
  if !s.domOn 11 || !s.pllLocked || (s.fe n).stopped.isSome then .next s
  else
    let t := ((s.frameEnds n).satSlots n sat).gainFast n fullScale
    let t := (t.puts n [(F.BANK_FRAME_LO_TIME, s.now % 2 ^ 32), (F.BANK_FRAME_HI_TIME, s.now / 2 ^ 32)])
    let t := t.retuneStart1 n
    let t := match (t.hand (kindOf n)).run with
      | some (w, _) => if w = n then t.rotationSwitchIfDue (kindOf n) else t
      | none => t
    let t := ((t.gainStepIfDue n).tunerBoundary n).slotsBoundary n
    .next ((t.latchFrame n).burstBoundary n)

end Sys2Proof.Machine
end

