-- ==== Sys2Proof/Machine/Follow.lean ====
section
/-! DEFINITION. Service following (R253 to R268): entries, candidates, the reserve pool, alignment, presentation delay and
lines, quality and switching, fallback, and the writes of the FOLLOW page. -/

namespace Sys2Proof.Machine

/-! ### Names -/

/-- A field of entry e. -/
def State.folGet (s : State) (f : Fld) (e : Nat) : Nat := s.getE f 0 e
def State.folOn (s : State) (f : Fld) (e : Nat) : Bool := s.getE f 0 e == 1

/-- Whether entry e runs. -/
def State.folRuns (s : State) (e : Nat) : Bool := (s.fol e).state != 0

/-- Candidate k of entry e. -/
def FolHid.cand (h : FolHid) (k : Nat) : Option Cand := Tbl.get h.cands none k
def State.cand (s : State) (e k : Nat) : Option Cand := (s.fol e).cand k
def FolHid.putCand (h : FolHid) (k : Nat) (c : Option Cand) : FolHid := { h with cands := Tbl.set h.cands none k c }
def State.putCand (s : State) (e k : Nat) (c : Cand) : State := s.setFol e ((s.fol e).putCand k (some c))

/-- The candidates of an entry with their indices, in ascending order. -/
def FolHid.list (h : FolHid) : List (Nat × Cand) := h.cands.filterMap fun p => p.2.map fun c => (p.1, c)

/-- The ticks of a number of milliseconds. -/
def msTicks (ms : Nat) : Nat := ms * 245760

/-! ### Linked identifiers (R253) -/

/-- The key of an entry. -/
def State.folKey (s : State) (e : Nat) : Ident :=
  let k := s.folGet F.FOL_KEY_KEY e
  match s.folGet F.FOL_CFG_KEY_KIND e with
  | 0 => { kind := .pi, id := k % 65536 }
  | 1 => { kind := .sid, id := k }
  | _ => { kind := .drm, id := k % 2 ^ 24 }

/-- With LINK, a 16-bit SId equals a PI. -/
def samePi (link : Bool) (a b : Ident) : Bool :=
  a == b || (link && a.id == b.id && decide (a.id < 65536) &&
    ((a.kind == .pi && b.kind == .sid) || (a.kind == .sid && b.kind == .pi)))

/-- The identifiers reached from `l` over hard links, in as many rounds as there are links. -/
def linkClosure (link : Bool) (links : List (Ident × Ident)) : Nat → List Ident → List Ident
  | 0, l => l
  | fuel + 1, l => linkClosure link links fuel (l ++ links.filterMap fun p =>
      if l.any (samePi link p.1) && !l.any (samePi link p.2) then some p.2
      else if l.any (samePi link p.2) && !l.any (samePi link p.1) then some p.1 else none)

/-- Whether an identifier is linked to the key of an entry. -/
def State.folLinked (s : State) (e : Nat) (i : Ident) : Bool :=
  let link := s.folOn F.FOL_CFG_LINK e
  (linkClosure link (s.fol e).links (s.fol e).links.length [s.folKey e]).any (samePi link i)

/-! ### Presentation delay and lines (R258, R259) -/

/-- P in 1/1,024 sample. -/
def State.folP (s : State) (e : Nat) : Nat :=
  let h := s.fol e
  min (h.p + (s.now - h.since) / 5120 * s.folGet F.FOL_PRESET_STRETCH e) (max h.p h.target)

/-- Whether P is slewing. -/
def State.folGrowing (s : State) (e : Nat) : Bool := decide (s.folP e < (s.fol e).target)

/-- The word of `FOL_P_e`. -/
def State.folPWord (s : State) (e : Nat) : Nat := s.folP e / 1024 % 2 ^ 24 + b2n (s.folGrowing e) * 2 ^ 24

/-- The pots of a line of a delay in 1/1,024 sample, 6 bytes to a sample. -/
def folPots (d : Nat) : Nat := ceilDiv (d * 6) (1024 * 65536)

/-- The delay of a candidate's line at a presentation delay, in 1/1,024 sample; negative when it does not fit. -/
def lineDelay (p : Nat) (c : Cand) : Int := (p : Int) - c.lag * 64

/-- Whether the line of a candidate fits at a presentation delay (R256, R258, R259). -/
def State.lineFits (s : State) (e p : Nat) (c : Cand) : Bool :=
  decide (0 ≤ lineDelay p c) && decide (folPots (lineDelay p c).toNat ≤ s.folGet F.FOL_ALIGN_MAX_POTS e)

/-- The greatest PRESET in ms that MAX_POTS allows (R264). -/
def maxPreset (pots : Nat) : Nat := pots * 65536000 / 288000

/-- The pots of both lines of an entry become those given, from its owner's quota; none if they cannot be had. -/
def State.folTake (s : State) (e cur inc : Nat) : Option State :=
  let held := (s.potsOf (.follow e)).length
  let t := if held < cur + inc then s.allocPots (s.fol e).owner (.follow e) (cur + inc - held)
    else some (s.trimPots (.follow e) (cur + inc))
  t.map fun u => u.setFol e { u.fol e with potsCur := cur, potsIn := inc }

/-! ### Records and events -/

/-- Q of a candidate in 0.01: the mean of its last 10 scores (R260). -/
def Cand.mean (c : Cand) : Nat := roundDiv c.scores.sum c.scores.length

/-- The gain g now, in 0.01 dB: after the crossfade it moves towards 0 (R261). -/
def State.folG (s : State) (e : Nat) : Int :=
  let h := s.fol e
  let moved : Int := if h.state = 3 then 0 else
    ((s.now - h.gSince) * (10 * s.folGet F.FOL_DWELL_RELAX e) / ticksPerSecond : Nat)
  if 0 ≤ h.g then max (h.g - moved) 0 else min (h.g + moved) 0

/-- A FOLLOW_EVENT record of entry e (R405) about candidate k. -/
def State.folRec (s : State) (e event k : Nat) : Rec :=
  let h := s.fol e
  let c := h.cand k
  { kind := .follow, source := e, time := s.now, epoch := Config.pageEpoch 0x59,
    payload := .followEvent event h.cur k ((c.map (·.align)).getD 0)
      (ofInt 32 ((c.map (·.lag)).getD 0)) (s.folPWord e)
      (roundDiv (((h.cand h.cur).map Cand.mean).getD 0) 100) (roundDiv ((c.map Cand.mean).getD 0) 100)
      (ofInt 16 (s.folG e)) }

/-- Delivers a record of an entry on its ring. -/
def State.folEmit (s : State) (e event k : Nat) : State :=
  s.deliver (s.fol e).owner (s.folGet F.FOL_CFG_RING e) (s.folRec e event k)

/-- Raises an event of an entry in the views it concerns. -/
def State.folRaise (s : State) (e ev : Nat) : State := s.raiseViews .follow ev (viewsOf (s.fol e).owner)

/-! ### The reserve pool (R254, R255) -/

/-- A range of the pool. -/
def poolRange (first count : Nat) : List Nat := (List.range count).map (first + ·)

/-- The channel centre of a configuration on its window, in Hz · 2^32 (R179 with OFS 0). -/
def State.bindHz (s : State) (b : Bind) : Int :=
  ((s.get F.FE_LO_HZ_LO b.window : Int) + sbCentre b.window b.subband) * 2 ^ 32 + sgn 32 b.word * sbRate b.window

/-- Whether a configuration's centre lies within `tol` hertz of a frequency in kHz. -/
def State.bindNear (s : State) (b : Bind) (khz tol : Nat) : Bool :=
  decide ((s.bindHz b - (khz : Int) * 1000 * 2 ^ 32).natAbs ≤ tol * 2 ^ 32)

/-- The configuration of a channel on a window: sub-band and word nearest to it (R132), and the profile of R254. -/
def State.bindFor (s : State) (n khz kind ctx : Nat) : Bind :=
  let off : Int := (khz : Int) * 1000 - s.get F.FE_LO_HZ_LO n
  let k := if n < 5 then 64 + roundDivI off 1920000 else 128 + roundDivI off 120000
  let rest := off - sbCentre n k.toNat
  { window := n, subband := k.toNat, word := ofInt 32 (roundDivI (rest * 2 ^ 32) (sbRate n)), kind := kind, ctx := ctx,
    iqRate := 0, ring := 0, iqFmt := 0, iqBlock := 0, div := false,
    profile := match kind with | 1 => 0 | 2 => 5 | 3 => 8 | 4 => 9 | _ => 11 }

/-- The binding that a candidate needs: DRM above 30 MHz is DRM+. -/
def bandKind (band khz : Nat) : Nat :=
  match band with | 0 => 1 | 1 => 2 | 2 => 3 | _ => if khz ≤ 30000 then 4 else 5

/-- The applied windows of the right kind in which a frequency lies. -/
def State.windowsFor (s : State) (kind khz : Nat) : List Nat :=
  (if kind = 2 ∨ kind = 4 then [5, 6, 7] else [0, 1, 2, 3, 4]).filter fun n =>
    s.tuned n && !s.isSpare n && decide (s.get F.FE_APPLIED_START_START n ≤ khz) &&
      decide (khz ≤ s.get F.FE_APPLIED_START_START n + s.get F.FE_APPLIED_SPAN_SPAN n)

/-- The pool slot, contexts and taps that are free. -/
def State.poolSlot (s : State) : Option Nat :=
  (poolRange (s.get F.FOL_RES_SLOT_FIRST 0) (s.get F.FOL_RES_SLOT_COUNT 0)).find? fun n => !s.enabled .slot n
def State.poolDab (s : State) : Option Nat :=
  (poolRange (s.get F.FOL_RES_CTX_DAB_FIRST 0) (s.get F.FOL_RES_CTX_DAB_COUNT 0)).find? fun n => !s.enabled .dab n
def State.poolDrm (s : State) : Option Nat :=
  (poolRange (s.get F.FOL_RES_CTX_DRM_FIRST 0) (s.get F.FOL_RES_CTX_DRM_COUNT 0)).find? fun n => !s.enabled .drm n
def State.poolTap (s : State) : Option Nat :=
  (poolRange (s.get F.FOL_RES_TAP_FIRST 0) (s.get F.FOL_RES_TAP_COUNT 0)).find? fun n => !s.enabled .tap n

/-- The subchannel number of a held tap whose subchannel is not yet known. -/
def noSub : Nat := 127

/-- Binds pool slot n to a configuration and enables it; it emits no records (R255). -/
def State.poolBind (s : State) (n : Nat) (b : Bind) : Option State :=
  if !(s.sbApplied b.window b.subband && s.fits b && b.onBank) then none
  else (s.applyBind n b).map fun t =>
    let t := t.setSlot n { t.slot n with detached := true }
    (if b.kind = 1 then t.put F.FM_RDS_EN n 1 else t).slotOn n

/-- Takes a pool context and a pool tap for a digital candidate, with a decoder of the entry's owner. -/
def State.poolDigital (s : State) (f n t : Nat) (c : Ctx) (b : Bind) : Option State :=
  (s.poolBind n b).bind fun u =>
    match ctxEnable c u with
    | .error _ => none
    | .ok u =>
      let cfg : TapCfg := { drm := c.isDrm, ctx := c.num, sub := noSub, au := false, pcm := true, pad := false, rate48 := true,
                            pack := 1, ring := 0 }
      match tapEnableFor f t (u.setTap t { applied := some cfg, detached := true }) with
      | .ok v => some v
      | .error _ => none

/-- Takes pool resources for a candidate on a window (R254). -/
def State.poolTake (s : State) (f : Nat) (c : Cand) (n : Nat) : Option (State × Cand) :=
  let kind := bandKind c.band c.khz
  match s.poolSlot with
  | none => none
  | some m =>
    if kind ≤ 2 then
      (s.poolBind m (s.bindFor n c.khz kind 0)).map fun t =>
        (t, { c with res := 0, idx := m, epoch := t.epoch (.slot m), held := some { slot := m, ctx := none, tap := none } })
    else
      let x : Option Ctx := if kind = 3 then s.poolDab.map (fun i => .dab ⟨i % 48, Nat.mod_lt _ (by decide)⟩)
        else s.poolDrm.map (fun i => .drm ⟨i % 24, Nat.mod_lt _ (by decide)⟩)
      match x, s.poolTap with
      | some x, some t => (s.poolDigital f m t x (s.bindFor n c.khz kind x.num)).map fun u =>
          (u, { c with res := 1, idx := t, epoch := u.epoch (.tap t),
                       held := some { slot := m, ctx := some x, tap := some t } })
      | _, _ => none

/-- Held resources return to the pool disabled and UNBOUND (R255). -/
def State.poolReturn (s : State) (u : PoolUse) : State :=
  let t := match u.tap with | some k => (s.tapDisable k).setTap k {} | none => s
  let t := match u.ctx with | some c => t.ctxDisable c | none => t
  let t := (t.slotOff u.slot).slotStop u.slot
  (((t.freePotsOf (.slotLine u.slot)).setSlot u.slot {}).puts u.slot [(F.SLOT_LAT_LAT, 0), (F.SLOT_STAT_POTS, 0)]).resetLane
    u.slot

/-! ### Candidates (R253, R254) -/

/-- The slot of function f that carries an analogue candidate. -/
def State.findSlot (s : State) (f : Nat) (c : Cand) : Option Nat :=
  (s.slots.find? fun p => s.owner .slot p.1 == f && s.on F.SLOT_STAT_RUNNING p.1 && !s.pooled .slot p.1 &&
    !s.on F.SLOT_STAT_SHADOW p.1 && match p.2.applied with
      | some b => b.kind == bandKind c.band c.khz && s.bindNear b c.khz (if c.band = 0 then 25000 else 2000)
      | none => false).map (·.1)

/-- The linked SIds, with their subchannels, that a DAB context carries. -/
def State.linkedSubs (s : State) (e : Nat) (c : Ctx) : List (Nat × Nat) :=
  (s.ctxHid c).sids.filter fun p => s.folLinked e { kind := .sid, id := p.1 }

/-- Whether a tap configuration carries a digital candidate of entry e. -/
def State.tapCarries (s : State) (e : Nat) (c : Cand) (t : TapCfg) : Bool :=
  t.drm == (c.band == 3) && match s.boundSlot t.context with
    | some (_, b) =>
      if t.drm then s.bindNear b c.khz 1000 && (s.ctxHid t.context).facIds.any fun i => s.folLinked e { kind := .drm, id := i }
      else s.ctxMux t.context && s.bindNear b c.khz 16000 && (s.linkedSubs e t.context).any fun p => p.2 == t.sub
    | none => false

/-- The enabled tap of function f that carries a digital candidate. -/
def State.findTap (s : State) (e f : Nat) (c : Cand) : Option Nat :=
  (s.taps.find? fun p => s.owner .tap p.1 == f && s.enabled .tap p.1 && !s.pooled .tap p.1 && match p.2.applied with
    | some t => s.tapCarries e c t
    | none => false).map (·.1)

/-- Looks a candidate up: a running resource of the entry's function, else pool resources, else UNREACHED (R254). -/
def State.folLookup (s : State) (e : Nat) (c : Cand) : State × Cand :=
  let f := (s.fol e).owner
  if c.res ≠ 3 then (s, c)
  else if c.band ≤ 1 then
    match s.findSlot f c with
    | some n => (s, { c with res := 0, idx := n, epoch := s.epoch (.slot n), attempt := 1 })
    | none => pool s f c
  else match s.findTap e f c with
    | some t => (s, { c with res := 1, idx := t, epoch := s.epoch (.tap t), attempt := 1 })
    | none => pool s f c
where
  /-- Pool resources on the first window that takes the candidate. -/
  pool (s : State) (f : Nat) (c : Cand) : State × Cand :=
    match (s.windowsFor (bandKind c.band c.khz) c.khz).findSome? fun n => s.poolTake f c n with
    | some (t, d) => (t, { d with attempt := 1 })
    | none => (s, c)

/-- Signalling names a frequency for entry e: a known candidate is looked up again if it is UNREACHED, a new one joins the
set, and a seventeenth is ignored (R254). -/
def State.candName (s : State) (e origin : Nat) (id : Ident) (band khz : Nat) : State :=
  let h := s.fol e
  let c : Cand := { band := band, origin := origin, khz := khz, id := id }
  match h.list.find? fun p => p.2.band == band && p.2.khz == khz with
  | some (k, old) =>
    let r := s.folLookup e old
    r.1.putCand e k r.2
  | none =>
    let r := s.folLookup e c
    if r.2.res ≠ 3 ∧ r.2.held.isNone ∧ h.list.any (fun p => p.2.res == r.2.res && p.2.idx == r.2.idx) then s
    else match ((List.range 16).drop 1).find? fun k => (h.cand k).isNone with
      | some k => if 16 ≤ h.list.length then s.folRaise e Ev.candFull else (r.1.putCand e k r.2).folEmit e 6 k
      | none => s.folRaise e Ev.candFull

/-- The incoming line is given up. -/
def State.lineDrop (s : State) (e : Nat) : State :=
  let t := s.setFol e { s.fol e with lineIn := none }
  (t.folTake e (t.fol e).potsCur 0).getD t

/-- Candidate k leaves the set of entry e (R254). -/
def State.candDrop (s : State) (e k : Nat) : State :=
  match s.cand e k with
  | none => s
  | some c =>
    let t := s.folEmit e 7 k
    let t := match c.held with | some u => t.poolReturn u | none => t
    let t := t.setFol e ((t.fol e).putCand k none)
    let t := if (t.fol e).next = some k then t.setFol e { t.fol e with next := none } else t
    if (t.fol e).lineIn = some k then t.lineDrop e else t

/-- UNREACHED candidates are looked up again, once resources have returned to the pool. -/
def State.candRetry (s : State) : State :=
  (List.range 32).foldl (fun t e => if t.folRuns e then
      (t.fol e).list.foldl (fun u p => match u.cand e p.1 with
        | some c => let r := u.folLookup e c; if r.2.res = c.res then u else r.1.putCand e p.1 r.2
        | none => u) t
    else t) s

/-- Whether the resource of a candidate still stands: enabled and of the same epoch. -/
def State.candStands (s : State) (c : Cand) : Bool :=
  match c.res with
  | 0 => s.enabled .slot c.idx && s.epoch (.slot c.idx) == c.epoch
  | 1 => s.enabled .tap c.idx && s.epoch (.tap c.idx) == c.epoch
  | _ => true

/-- Candidates whose resource is disabled, reset or of another epoch leave their sets (R254). -/
def State.folSweep (s : State) : State :=
  (List.range 32).foldl (fun t e => if t.folRuns e then
      (t.fol e).list.foldl (fun u p => if u.candStands p.2 then u else u.candDrop e p.1) t
    else t) s

/-! ### Signalling (R253) -/

/-- Whether an entry uses what an origin gives. -/
def State.folUses (s : State) (e origin : Nat) : Bool :=
  match origin with
  | 1 => s.folOn F.FOL_CFG_USE_AF e
  | 2 => s.folOn F.FOL_CFG_USE_EON e
  | 3 => s.folOn F.FOL_CFG_USE_FIG06 e
  | 4 => s.folOn F.FOL_CFG_USE_FIG021 e
  | 5 => s.folOn F.FOL_CFG_USE_SDC e
  | 6 => s.folOn F.FOL_CFG_USE_SDC e
  | _ => false

/-- One signalling read by entry e; `dab` is the context that carries it, for the candidate that a hard link adds. -/
def State.folSig (s : State) (e : Nat) (dab : Option Ctx) (x : Sig) : State :=
  match x with
  | .freq origin id band khz => if s.folUses e origin && s.folLinked e id then s.candName e origin id band khz else s
  | .hardLink a b =>
    if !s.folUses e 3 then s
    else
      let h := s.fol e
      let t := if h.links.contains (a, b) then s else s.setFol e { h with links := h.links ++ [(a, b)] }
      match dab with
      | none => t
      | some c => match t.linkedSubs e c, t.boundSlot c with
        | p :: _, some (_, bd) => t.candName e 3 { kind := .sid, id := p.1 } 2
            (roundDivI (t.bindHz bd) (1000 * 2 ^ 32)).toNat
        | _, _ => t

/-- The running entries read the signalling of a source that carries the identifiers given (R253). -/
def State.folSigs (s : State) (ids : List Ident) (dab : Option Ctx) (xs : List Sig) : State :=
  if xs.isEmpty then s
  else (List.range 32).foldl (fun t e =>
    if t.folRuns e && ids.any (fun i => t.folLinked e i) then xs.foldl (fun u x => u.folSig e dab x) t else t) s

/-- Held taps of a context take the subchannel of their service once it is known (R254). -/
def State.folSubs (s : State) (c : Ctx) : State :=
  let t := (List.range 32).foldl (fun u e => (u.fol e).list.foldl (fun v p =>
    match p.2.held.bind (·.tap) with
    | some t => match (v.tap t).applied with
      | some cfg =>
        if cfg.context = c ∧ cfg.sub = noSub then
          let sub := if cfg.drm then
              (if v.ctxMux c then (List.range 4).find? fun i => v.getE F.DRM_STREAM_VALID c.num i == 1 &&
                decide (0 < v.getE F.DRM_STREAM_PAYLOAD c.num i) else none)
            else ((v.linkedSubs e c).find? fun q => decide (v.getE F.DAB_SUBCH_PAYLOAD c.num q.2 ≤ 2)).map (·.2)
          match sub with
          | some i => v.setTap t { v.tap t with applied := some { cfg with sub := i } }
          | none => v
        else v
      | none => v
    | none => v) u) s
  t.settleTaps c

/-! ### Eligibility (R256) -/

/-- Whether the identity of a candidate is confirmed. -/
def State.candKnown (s : State) (e : Nat) (c : Cand) : Bool :=
  match c.res with
  | 0 => match c.band with
    | 0 => s.on F.RDS_PI_VALID c.idx && s.folLinked e { kind := .pi, id := s.get F.RDS_PI_PI c.idx }
    | 1 => true
    | _ => false
  | 1 => match (s.tap c.idx).applied with
    | some t =>
      if t.drm then (s.ctxHid t.context).facIds.any fun i => s.folLinked e { kind := .drm, id := i }
      else s.ctxMux t.context && (s.linkedSubs e t.context).any fun p => p.2 == t.sub
    | none => false
  | _ => false

/-- Whether candidate k of entry e is eligible. -/
def State.candEligible (s : State) (e k : Nat) (c : Cand) : Bool :=
  s.candKnown e c && !c.noPots &&
    (k == 0 || ((c.align == 2 || (c.align == 1 && s.folOn F.FOL_CFG_ALLOW_COARSE e)) && s.lineFits e (s.folP e) c))

/-- Whether the source of a candidate produces audio (R260). -/
def State.candAudio (s : State) (c : Cand) : Bool :=
  match c.res with
  | 0 => s.on F.SLOT_STAT_RUNNING c.idx && (if c.band = 0 then s.on F.AN_STAT_DSYNC c.idx else s.on F.AN_STAT_LOCK c.idx)
  | 1 => match (s.tap c.idx).applied with
    | some t => (s.ctxState t.context == 4 || s.ctxState t.context == 5) && s.get F.TAP_RUN_STATE c.idx == 2
    | none => false
  | _ => false

/-- Q of candidate k in 0.01 (R260). -/
def State.candQ (s : State) (e k : Nat) : Nat :=
  match s.cand e k with
  | some c => if s.candAudio c then c.mean else 0
  | none => 0

/-- The best eligible candidate other than `but`, with Q above 0; ties go to the lower index (R261). -/
def State.folBest (s : State) (e : Nat) (but : Option Nat) : Option Nat :=
  ((s.fol e).list.filter fun p => but != some p.1 && s.candEligible e p.1 p.2 && decide (0 < s.candQ e p.1)).foldl
    (fun b p => match b with
      | none => some p.1
      | some k => if s.candQ e k < s.candQ e p.1 then some p.1 else some k) none

/-! ### Lines (R258, R259) -/

/-- A line that cannot obtain its pots raises NO_POTS, and its candidate is not used. -/
def State.linePoor (s : State) (e k : Nat) : State :=
  match s.cand e k with
  | some c => (s.putCand e k { c with noPots := true }).folRaise e Ev.noPots
  | none => s

/-- With its pots the incoming line is that of candidate k; without them it is not. -/
def State.lineTake (t : State) (e k : Nat) (got : Option State) : State :=
  match got with
  | some u => u.setFol e { u.fol e with lineIn := some k }
  | none => t.linePoor e k

/-- The incoming line becomes that of candidate k. -/
def State.lineFor (s : State) (e k : Nat) : State :=
  if (s.fol e).lineIn = some k then s
  else match s.cand e k with
    | none => s
    | some c =>
      let t := s.lineDrop e
      t.lineTake e k (t.folTake e (t.fol e).potsCur (folPots (lineDelay (t.folP e) c).toNat))

/-- P grows to the lag of candidate k, as far as MAX_POTS allows and the current line can obtain its pots (R258). -/
def State.folGrow (s : State) (e k : Nat) : State :=
  let h := s.fol e
  match h.cand k with
  | none => s
  | some c =>
    let goal := (c.lag * 64).toNat
    if c.lag * 64 ≤ (max (s.folP e) h.target : Nat) then s
    else
      let cur := (h.cand h.cur).map fun d => lineDelay goal d
      let need := folPots (cur.getD goal).toNat
      let cap := s.folGet F.FOL_ALIGN_MAX_POTS e
      if cap < need ∨ cap < folPots goal then s
      else match s.folTake e (max h.potsCur need) h.potsIn with
        | some u => u.setFol e { u.fol e with p := s.folP e, since := s.now, target := goal }
        | none => s.linePoor e k

/-! ### The end of an entry (R264) -/

/-- The scout is released (R263). -/
def State.scoutRelease (s : State) (e : Nat) : State :=
  let h := s.fol e
  if h.scout then
    let n := match h.cand h.cur with | some c => if c.band = 0 then 0 else 5 | none => 0
    let t := (s.put F.FE_STAT_SCOUT_USE n 0).setFol e { h with scout := false }
    match h.cand h.cur with
    | some c => t.putCand e h.cur { c with res := 3 }
    | none => t
  else s

/-- An entry ends: its lines and group are freed, held resources return to the pool. -/
def State.folEnd (s : State) (e : Nat) : State :=
  if s.folRuns e then
    let t := (s.folEmit e 9 (s.fol e).cur).scoutRelease e
    let t := (t.fol e).list.foldl (fun u p => match p.2.held with | some x => u.poolReturn x | none => u) t
    let g := (t.fol e).group
    (((t.freePotsOf (.follow e)).setGrp g { t.grp g with holder := none }).setFol e {}).candRetry
  else s

/-- Every entry ends (R264, R328), or those of one function. -/
def State.folEndAll (s : State) (f : Option Nat) : State :=
  (List.range 32).foldl (fun t e => if f.isNone || f == some (t.fol e).owner then t.folEnd e else t) s

/-! ### GO, STOP, REALIGN (R264) -/

/-- The start source of an entry as candidate 0, if it runs and belongs to function f. -/
def State.folStart (s : State) (e f : Nat) : Option Cand :=
  let i := s.folGet F.FOL_START_INDEX e
  if s.folGet F.FOL_START_KIND e = 0 then
    match (s.slot i).applied with
    | some b =>
      if i < 512 ∧ s.owner .slot i = f ∧ s.on F.SLOT_STAT_RUNNING i ∧ !s.on F.SLOT_STAT_SHADOW i then
        some { band := if b.kind = 2 then 1 else if b.kind = 3 then 2 else if 4 ≤ b.kind ∧ b.kind ≤ 5 then 3 else 0,
               origin := 0, khz := (roundDivI (s.bindHz b) (1000 * 2 ^ 32)).toNat, id := s.folKey e, res := 0, idx := i,
               epoch := s.epoch (.slot i) }
      else none
    | none => none
  else match (s.tap i).applied with
    | some t =>
      if s.owner .tap i = f ∧ s.get F.TAP_RUN_STATE i = 2 then
        let khz := match s.boundSlot t.context with
          | some (_, b) => (roundDivI (s.bindHz b) (1000 * 2 ^ 32)).toNat
          | none => 0
        some { band := if t.drm then 3 else 2, origin := 0, khz := khz, id := s.folKey e, res := 1, idx := i,
               epoch := s.epoch (.tap i) }
      else none
    | none => none

/-- Whether PRESET exceeds what MAX_POTS allows. -/
def State.presetBad (s : State) (e : Nat) : Bool :=
  decide (maxPreset (s.folGet F.FOL_ALIGN_MAX_POTS e) < s.folGet F.FOL_PRESET_PRESET e)

/-- PRESET in 1/1,024 sample. -/
def State.folPreset (s : State) (e : Nat) : Nat := s.folGet F.FOL_PRESET_PRESET e * 48 * 1024

/-- With its pots an entry starts; without them GO is refused. -/
def folBegin (e : Nat) (got : Option State) : Except Reason State :=
  match got with
  | some u => .ok (u.folEmit e 8 0)
  | none => .error .range

/-- GO on an entry that is OFF, by function f (R264). -/
def folGo (e f : Nat) (s : State) : Except Reason State :=
  match s.folStart e f, s.freeGroup with
  | some c, some g =>
    if s.owner .ring (s.folGet F.FOL_CFG_RING e) ≠ f ∨ s.presetBad e then .error .range
    else
      let p := s.folPreset e
      let t := (s.setGrp g { s.grp g with holder := some (.follow e) }).setFol e
        { state := 1, owner := f, cands := [(0, some c)], group := g, p := p, since := s.now, target := p,
          lastSwitch := s.now }
      folBegin e (t.folTake e (folPots p) 0)
  | _, _ => .error .range

/-- REALIGN restarts a running entry at P = PRESET: the start source is current, every other candidate is aligned anew. -/
def folRealign (e : Nat) (s : State) : Except Reason State :=
  if s.presetBad e then .error .range
  else
    let t := (s.scoutRelease e).lineDrop e
    let h := t.fol e
    let p := t.folPreset e
    let cs := h.cands.map fun q => (q.1, q.2.map fun c =>
      if q.1 = 0 then c else { c with align := 0, lag := 0, coarse := 0, fails := 0, noPots := false,
                                      attempt := if c.res = 3 then 0 else 1 })
    match (t.setFol e { h with state := 1, cur := 0, cands := cs, p := p, since := s.now, target := p, next := none,
                               zeroSince := none, holdSince := none, g := 0 }).folTake e (folPots p) 0 with
    | some u => .ok u
    | none => .error .range

/-- A write of `FOL_CMD_e` (R264). -/
def folCmdWrite (a : Accessor) (e : Nat) (w : Word) (s : State) : Except Reason State :=
  let go := bit w.toNat 0
  let stop := bit w.toNat 1
  let t := if stop then s.folEnd e else s
  if t.folRuns e then (if bit w.toNat 2 then folRealign e t else .ok t)
  else if go then folGo e (accView a) t else .ok t

/-! ### Writes of the FOLLOW page (R255, R264, R267) -/

/-- Whether the resources of a pool range satisfy R255: owned by PF_0, disabled, in no host group, UNBOUND. -/
def State.poolOk (s : State) (b : Blk) (first count : Nat) : Bool :=
  (poolRange first count).all fun n => s.owner b n == 0 && !s.enabled b n && !s.on F.SLOT_STAT_SHADOW n &&
    (b != .slot || ((s.slotGroup n).isNone && match (s.slot n).applied with | some c => c.kind == 0 | none => true))

/-- The pool resources of a block that are held. -/
def State.poolHeld (s : State) (b : Blk) : List Nat :=
  (List.range 512).foldl (fun l i => match (s.fol (i / 16)).cand (i % 16) with
    | some c => match c.held, b with
      | some u, .slot => l ++ [u.slot]
      | some u, .tap => l ++ u.tap.toList
      | some u, .dab => match u.ctx with | some (.dab i) => l ++ [i.val] | _ => l
      | some u, .drm => match u.ctx with | some (.drm i) => l ++ [i.val] | _ => l
      | _, _ => l
    | none => l) []

/-- Whether a new range may stand: inside the resources, as R255 asks, and without removing a held one. -/
def State.poolRangeOk (s : State) (b : Blk) (size first count : Nat) : Bool :=
  decide (first + count ≤ size ∨ count = 0) && s.poolOk b first count &&
    (s.poolHeld b).all fun n => decide (first ≤ n) && decide (n < first + count)

/-- A write of a pool register (R255). -/
def poolWrite (a : Accessor) (off major : Nat) (w : Word) (s : State) : Except Reason State :=
  if !isManager a then .error .owner
  else
    let v := w.toNat
    let ok := if off = 0x44 then s.poolRangeOk .slot 512 (bits v 8 0) (bits v 21 16)
      else if off = 0x4C then s.poolRangeOk .tap 1024 (bits v 9 0) (bits v 21 16)
      else s.poolRangeOk .dab 48 (bits v 5 0) (bits v 11 8) && s.poolRangeOk .drm 24 (bits v 20 16) (bits v 26 24)
    if ok then plainWrite .follow 0 off major w s else .error .range

/-- A write of a block register of the FOLLOW page. -/
def folWrite (a : Accessor) (off major : Nat) (w : Word) (s : State) : Except Reason State :=
  let e := (off - 0x100) / 64
  if off = 0x40 then (if isManager a then plainWrite .follow 0 off major w s else .error .owner)
  else if off = 0x44 ∨ off = 0x48 ∨ off = 0x4C then poolWrite a off major w s
  else if off = 0x54 then plainWrite .follow (accIdx a) off major w s
  else if 0x100 ≤ off ∧ off < 0x900 then
    let cmd := off % 64 = 0x18
    if s.folRuns e && (s.fol e).owner != accView a && !(cmd && isManager a && bits w.toNat 2 0 == 2) then .error .owner
    else if cmd then folCmdWrite a e w s
    else plainWrite .follow 0 off major w s
  else plainWrite .follow 0 off major w s

/-- A reset of the page ends every entry; the pool stays as long as R255 needs no release. -/
def State.folReset (s : State) : State :=
  allViews.foldl (fun u v => u.resetRegs .follow v) (s.folEndAll none)

def execReservePoolWrite (a : Accessor) (which : Fin 3) (w : Word) (s : State) : Host.Outcome State Fault Refusal :=
  let off := 0x44 + 4 * which.val
  .next (s.regWrite a .follow 0 off (folWrite a off (s.major a 0x59) w))

/-- Whether a GO would be refused only because its line cannot have its pots: NO_POTS is raised beside the refusal (R259). -/
def State.goPoor (s : State) (a : Accessor) (e : Nat) (w : Word) : Bool :=
  bit w.toNat 0 && !bit w.toNat 1 && !s.folRuns e && s.reaches a && (s.gateReg a .follow 0 (0x118 + 64 * e)).isNone &&
    (s.folStart e (accView a)).isSome && s.freeGroup.isSome && !s.presetBad e &&
    s.owner .ring (s.folGet F.FOL_CFG_RING e) == accView a &&
    (s.allocPots (accView a) (.follow e) (folPots (s.folPreset e))).isNone

def execFolGo (a : Accessor) (e : Fin 32) (w : Word) (s : State) : Host.Outcome State Fault Refusal :=
  let off := 0x118 + 64 * e.val
  let t := if s.goPoor a e.val w then s.raiseViews .follow Ev.noPots (viewsOf (accView a)) else s
  .next (t.regWrite a .follow 0 off (folWrite a off (s.major a 0x59) w))

def execFolStop (a : Accessor) (e : Fin 32) (w : Word) (s : State) : Host.Outcome State Fault Refusal :=
  let off := 0x118 + 64 * e.val
  .next (s.regWrite a .follow 0 off (folWrite a off (s.major a 0x59) w))

def execFolRealign (a : Accessor) (e : Fin 32) (w : Word) (s : State) : Host.Outcome State Fault Refusal :=
  let off := 0x118 + 64 * e.val
  .next (s.regWrite a .follow 0 off (folWrite a off (s.major a 0x59) w))

/-! ### Alignment (R257) -/

/-- Reports the result of an attempt. -/
def State.alignReport (s : State) (e k : Nat) (pass : Bool) : State :=
  (s.folEmit e (if pass then 2 else 3) k).folRaise e (if pass then Ev.aligned else Ev.alignFail)

/-- The candidate has passed: P grows to it if it must, and the incoming line is filled if none is (R258, R259). -/
def State.alignUse (s : State) (e k : Nat) : State :=
  let t := s.folGrow e k
  match t.cand e k with
  | some c => if k ≠ (t.fol e).cur ∧ (t.fol e).lineIn.isNone ∧ t.candEligible e k c then t.lineFor e k else t
  | none => t

/-- A coarse attempt ends: the peak and the best peak more than 50 ms away in 0.0001, the lag in ms. -/
def execFolCoarseAlign (e : Fin 32) (k : Fin 16) (peak second lag : Int) (s : State) : Host.Outcome State Fault Refusal :=
  let e := e.val
  let k := k.val
  match s.cand e k with
  | none => .next s
  | some c =>
    if c.attempt ≠ 1 ∨ !s.folRuns e then .next s
    else if 100 * (s.folGet F.FOL_ALIGN_COARSE_TH e : Int) ≤ peak ∧ 1000 ≤ peak - second then
      .next ((s.putCand e k { c with coarse := lag, lag := lag * 768, align := 0, attempt := 2, fails := 0 }).alignReport e k
        true)
    else .next ((s.putCand e k { c with align := 3, attempt := 0 }).alignReport e k false)

/-- A fine attempt ends: the peak in 0.0001, the lag in 1/16 sample. After four failures in a row the candidate keeps its
coarse result. -/
def execFolFineAlign (e : Fin 32) (k : Fin 16) (peak lag : Int) (s : State) : Host.Outcome State Fault Refusal :=
  let e := e.val
  let k := k.val
  match s.cand e k with
  | none => .next s
  | some c =>
    if c.attempt ≠ 2 ∨ !s.folRuns e then .next s
    else if 100 * (s.folGet F.FOL_ALIGN_FINE_TH e : Int) ≤ peak then
      let t := s.putCand e k { c with lag := lag, align := 2, attempt := 0, fails := 0, noPots := false }
      let t := if c.align = 2 ∧ (lag - c.lag).natAbs ≤ 16 then t.folEmit e 2 k else t.alignReport e k true
      .next (t.alignUse e k)
    else if c.fails < 3 then
      .next ((s.putCand e k { c with fails := c.fails + 1 }).alignReport e k false)
    else
      let t := s.putCand e k { c with lag := c.coarse * 768, align := 1, attempt := 0, fails := 0, noPots := false }
      let t := t.alignReport e k false
      .next (if t.folOn F.FOL_CFG_ALLOW_COARSE e then t.alignUse e k else t)

/-- The 10 s of a fine alignment, or the COARSE_S of a coarse failure, are over: a new attempt starts. -/
def execFolAlignTimer (e : Fin 32) (k : Fin 16) (s : State) : Host.Outcome State Fault Refusal :=
  match s.cand e.val k.val with
  | none => .next s
  | some c =>
    if k.val = 0 ∨ c.res = 3 ∨ c.attempt ≠ 0 then .next s
    else .next (s.putCand e.val k.val { c with attempt := if c.align = 3 then 1 else 2, fails := 0 })

/-- No signalling has named a candidate for 60 s (R254); the start source always stays candidate 0. -/
def execCandExpire (e : Fin 32) (k : Fin 16) (s : State) : Host.Outcome State Fault Refusal :=
  if k.val = 0 then .next s else .next ((s.candDrop e.val k.val).candRetry)

/-! ### Quality and switching (R260 to R262) -/

/-- The score of a source in 0.01 points; `failed` of `total` units in the last 2 s. -/
def State.candScore (s : State) (c : Cand) (failed total : Nat) : Nat :=
  let snr := sgn 16 (s.get F.AN_SNR_SNR c.idx)
  let base := clampI 0 10000 (2 * (snr - 1000))
  let q : Int :=
    if c.res = 0 then
      (if c.band = 0 then base - min (10 * s.get F.AN_SNR_MP c.idx) 5000 else base)
    else match (s.tap c.idx).applied with
      | some t =>
        let w := sgn 16 (match t.context with | .dab i => s.get F.DAB_MER_WMER i.val | .drm i => s.get F.DRM_MER_WMER i.val)
        if total = 0 then clampI 0 10000 (5 * (w - 500))
        else roundDivI (clampI 0 10000 (5 * (w - 500)) * (total - failed : Nat)) total
      | none => 0
  if s.candAudio c then q.toNat else 0

/-- Scores every candidate; one that is not eligible loses its scores, but for the current one. -/
def State.folScores (s : State) (e : Nat) (aus : List (Nat × Nat)) : State :=
  (s.fol e).list.foldl (fun t p =>
    let u := (aus[p.1]?).getD (0, 0)
    if s.candEligible e p.1 p.2 then t.putCand e p.1 { p.2 with scores := (s.candScore p.2 u.1 u.2 :: p.2.scores).take 10 }
    else if p.1 = (s.fol e).cur then t.putCand e p.1 { p.2 with scores := (0 :: p.2.scores).take 10 }
    else t.putCand e p.1 { p.2 with scores := [] }) s

/-- A switch to candidate k is decided, if its line holds its pots. -/
def State.folDecide (s : State) (e k : Nat) : State :=
  let t := if k = (s.fol e).cur then s else s.lineFor e k
  if k = (t.fol e).cur ∨ (t.fol e).lineIn = some k then t.setFol e { t.fol e with next := some k } else t

/-- Whether the best other candidate beats the current one by HYST (R261). -/
def State.folBeats (s : State) (e : Nat) (best : Option Nat) : Bool :=
  match best with
  | some k => decide (s.candQ e (s.fol e).cur + 100 * s.folGet F.FOL_XFADE_HYST e ≤ s.candQ e k)
  | none => false

/-- The decision after scoring (R261 to R263). -/
def State.folJudge (s : State) (e : Nat) : State :=
  let h := s.fol e
  let q := s.candQ e h.cur
  let zero := if q = 0 then some (h.zeroSince.getD s.now) else none
  let best := s.folBest e (some h.cur)
  let beats := s.folBeats e best
  let hold := if beats then some (h.holdSince.getD s.now) else none
  let t := s.setFol e { h with zeroSince := zero, holdSince := hold,
                               state := if h.state = 1 ∧ 0 < q then 2 else h.state }
  if h.state = 4 ∨ h.state = 5 then
    match s.folBest e none with
    | some k => t.folDecide e k
    | none => t
  else match zero with
    | some since =>
      if s.now < since + msTicks 300 then t
      else match best with
        | some k => t.folDecide e k
        | none => ((t.setFol e { t.fol e with state := 4 }).folEmit e 4 h.cur).folRaise e Ev.folLost
    | none =>
      match best, hold with
      | some k, some since =>
        if since + msTicks (s.folGet F.FOL_XFADE_HOLD_MS e) ≤ s.now ∧
            h.lastSwitch + msTicks (s.folGet F.FOL_DWELL_MIN_DWELL e) ≤ s.now then t.folDecide e k
        else t.lineFor e k
      | some k, none => t.lineFor e k
      | none, _ => t

/-- Every 100 ms: `aus` gives for each candidate the units failed and all units of the last 2 s. -/
def execFolScore (e : Fin 32) (aus : List (Nat × Nat)) (s : State) : Host.Outcome State Fault Refusal :=
  let e := e.val
  if !s.folRuns e then .next s
  else
    let t := s.folScores e aus
    if (t.fol e).state = 3 ∨ (t.fol e).next.isSome then .next t else .next (t.folJudge e)

/-- A decided switch begins: loudness of the current and of the incoming stream in 0.01 dB (R261). -/
def execSwitch (e : Fin 32) (cur inc : Int) (s : State) : Host.Outcome State Fault Refusal :=
  let e := e.val
  match (s.fol e).next with
  | none => .next s
  | some k =>
    let lim : Int := 50 * s.folGet F.FOL_DWELL_LOUD_MAX e
    let g := clampI (-lim) lim (cur - inc)
    let t := s.scoutRelease e
    let t := t.setFol e { t.fol e with state := 3, next := none, g := g, gSince := s.now, lastSwitch := s.now,
                                       zeroSince := none, holdSince := none }
    let t := ((t.countE F.FOL_SWITCHES_COUNT 0 e 1).folEmit e 1 k).folRaise e Ev.switch
    .next (t.setFol e { t.fol e with cur := k })

/-- The crossfade is over: the line of the old candidate is freed (R259, R261). -/
def execFolCrossfadeEnd (e : Fin 32) (s : State) : Host.Outcome State Fault Refusal :=
  let e := e.val
  let h := s.fol e
  if h.state ≠ 3 then .next s
  else
    let cur := if h.lineIn = some h.cur then h.potsIn else h.potsCur
    let t := s.setFol e { h with state := 2, lineIn := none, gSince := s.now }
    .next ((t.folTake e cur 0).getD t)

/-! ### Fallback (R263, R340) -/

/-- The scout window of a frequency in kHz: START, SPAN and the range of FREQ (R340). -/
def scoutStart (n khz : Nat) : Nat := if n = 0 then max 45000 (khz - 1840) else max 144 (khz - 180)
def scoutEnd (n khz : Nat) : Nat := if n = 0 then khz + 1840 else khz + 180
def scoutRange (n khz : Nat) : Bool :=
  if n = 0 then 45000 ≤ khz && khz ≤ 258160 else 144 ≤ khz && khz ≤ 29820

/-- Whether the scout may take front-end n for the follower. -/
def State.scoutFree (s : State) (n : Nat) : Bool :=
  !s.on F.FE_STAT_SCOUT_USE n && (List.range 32).all (fun e => !(s.fol e).scout) && (s.enabledSlots n).isEmpty &&
    s.get F.FE_ROLE_ROLE n == 0 && !s.on F.GLOBAL_STAT_FG_ACTIVE 0 && s.powered .fe n

/-- Places the scout window on front-end n and moves it to RECEIVE. -/
def State.scoutTune (s : State) (n khz : Nat) : State :=
  let t := (s.put F.FE_STAT_SCOUT_USE n 1).applyWindow n (scoutStart n khz) (scoutEnd n khz - scoutStart n khz) 1
  t.partTarget n 3

/-- A LOST entry takes the scout for its lowest UNREACHED FM or AM candidate that it can serve. -/
def execFallback (e : Fin 32) (s : State) : Host.Outcome State Fault Refusal :=
  let e := e.val
  let h := s.fol e
  let fe (c : Cand) : Nat := if c.band = 0 then 0 else 5
  let pick := h.list.find? fun p => p.2.res == 3 && decide (p.2.band ≤ 1) && scoutRange (fe p.2) p.2.khz &&
    s.scoutFree (fe p.2)
  if h.state ≠ 4 ∨ !s.on F.FOL_GCFG_FALLBACK_SCOUT 0 ∨ h.next.isSome then .next s
  else match pick with
    | none => .next s
    | some (k, c) =>
      let t := (s.scoutTune (fe c) c.khz).putCand e k { c with res := 2 }
      let t := t.setFol e { t.fol e with state := 5, cur := k, scout := true }
      .next ((t.folEmit e 5 k).folRaise e Ev.fallback)

end Sys2Proof.Machine
end

