-- ==== Sys2Proof/Machine/Reception.lean ====
section
/-! DEFINITION. What the broadcast brings: RDS blocks (R182 to R184), FIBs (R203, R209, R210), FAC and SDC blocks (R217,
R218), their records (R243, R244), the rules and follower entries that read them (R247 to R254). -/

namespace Sys2Proof.Machine

/-! ### RDS -/

/-- The identifiers that an FM slot carries. -/
def State.slotIds (s : State) (n : Nat) : List Ident :=
  if s.on F.RDS_PI_VALID n then [{ kind := .pi, id := s.get F.RDS_PI_PI n }] else []

/-- An RDS block period of an FM slot; `sigs` is what groups 0A and 14A complete with it (R253). -/
def execRdsBlock (n : Fin 512) (word : BitVec 26) (gap : Nat) (excluded : Bool) (sigs : List Sig) (s : State) :
    Host.Outcome State Fault Refusal :=
  let n := n.val
  if s.laneRuns n 1 && s.on F.FM_RDS_EN n then
    let t := s.rdsTake n word.toNat gap excluded
    .next (if t.on F.AN_STAT_DSYNC n && !excluded then t.folSigs (t.slotIds n) none sigs else t)
  else .next s

/-! ### DAB -/

/-- The identifiers that a context carries. -/
def State.ctxIds (s : State) (c : Ctx) : List Ident :=
  match c with
  | .dab _ => (s.ctxHid c).sids.map fun p => { kind := .sid, id := p.1 }
  | .drm _ => (s.ctxHid c).facIds.map fun i => { kind := .drm, id := i }

/-- The signalling that FIGs hold. -/
def figSigs (figs : List Fig) : List Sig :=
  figs.flatMap fun f => match f.info with
    | .signalling xs => xs
    | _ => []

/-- A FIB that passed its CRC: the first one in FRAME declares SIGNAL; its FIGs are read, delivered and examined. -/
def State.fibGood (s : State) (c : Fin 48) (index : Nat) (figs : List Fig) : State :=
  let t := s.count F.DAB_FIB_OK_COUNT c.val 1
  let t := if t.ctxBase (.dab c) = 2 then t.putCtxBase (.dab c) 3 else t
  let t := (figs.foldl (fun u f => u.figTake c f) t).dabProgress c
  let t := (t.figDeliver c index figs).alarmFib c.val (t.ctxHid (.dab c)).al figs
  let t := t.folSubs (.dab c)
  t.folSigs (t.ctxIds (.dab c)) (some (.dab c)) (figSigs figs)

/-- A FIB of a frame: `index` is its place, `raw` its 30 data bytes. -/
def execFibReceived (c : Fin 48) (index : Nat) (ok : Bool) (figs : List Fig) (raw : List Byte) (s : State) :
    Host.Outcome State Fault Refusal :=
  if s.ctxState (.dab c) < 2 then .next s
  else if ok then .next (s.fibGood c index figs)
  else
    let t := s.count F.DAB_FIB_BAD_COUNT c.val 1
    if s.on F.DAB_CFG_FIB_ALL c.val then
      .next (t.ctxEmit (.dab c) { t.ctxRec (.dab c) (.fig (s.get F.DAB_CIF_CIF_CNT c.val) index 1 raw) with failed := true })
    else .next t

/-! ### DRM -/

/-- Delivers a FAC block, numbered by its frame. -/
def State.facDeliver (s : State) (d : Fin 24) (ok : Bool) (f : Nat) (block : List Byte) : State :=
  let x := s.ctxRec (.drm d) (.drmFac (b2n (!ok)) f (s.ctxHid (.drm d)).frames block)
  s.ctxEmit (.drm d) { x with failed := !ok }

/-- The FAC block of a frame. -/
def execFacReceived (d : Fin 24) (ok : Bool) (fac : Fac) (block : List Byte) (s : State) :
    Host.Outcome State Fault Refusal :=
  let n := d.val
  let on := s.getE F.SD_DRM_CTX_FAC_EN 0 n == 1
  let next (t : State) : State := t.setCtx (.drm d) { t.ctxHid (.drm d) with frames := (t.ctxHid (.drm d)).frames + 1 }
  if s.ctxState (.drm d) < 2 then .next s
  else if ok then
    let t := (s.count F.DRM_FAC_OK_COUNT n 1).facTake d fac
    let t := if on then t.facDeliver d true fac.frame block else t
    .next (next ((t.alarmFac n block).folSubs (.drm d)))
  else
    let t := s.count F.DRM_FAC_BAD_COUNT n 1
    .next (next (if on && s.on F.DRM_CFG_FAC_ALL n then t.facDeliver d false fac.frame block else t))

/-- The signalling that SDC entities hold. -/
def entitySigs (es : List Entity) : List Sig :=
  es.flatMap fun e => match e.info with
    | .signalling xs => xs
    | _ => []

/-- Delivers an SDC block, numbered by its superframe; a good one that repeats the last delivered is withheld with
CHANGE_ONLY (R244). -/
def State.sdcDeliver (s : State) (d : Fin 24) (ok : Bool) (afs : Nat) (block : List Byte) : State :=
  let h := s.ctxHid (.drm d)
  let x := s.ctxRec (.drm d) (.drmSdc (b2n (!ok)) afs h.superframes block)
  if s.getE F.SD_DRM_CTX_SDC_EN 0 d.val = 0 then s
  else if ok && s.getE F.SD_DRM_CTX_CHANGE_ONLY 0 d.val == 1 && h.sdcLast == some block then s
  else
    let t := if ok then s.setCtx (.drm d) { h with sdcLast := some block } else s
    t.ctxEmit (.drm d) { x with failed := !ok }

/-- The SDC block of a superframe. -/
def execSdcReceived (d : Fin 24) (ok : Bool) (afs : Nat) (entities : List Entity) (block : List Byte) (s : State) :
    Host.Outcome State Fault Refusal :=
  let n := d.val
  let next (t : State) : State :=
    t.setCtx (.drm d) { t.ctxHid (.drm d) with superframes := (t.ctxHid (.drm d)).superframes + 1 }
  if s.ctxBase (.drm d) < 3 then .next s
  else if ok then
    let t := entities.foldl (fun u e => u.sdcTake d e) (s.count F.DRM_SDC_OK_COUNT n 1)
    let t := ((t.sdcDeliver d true afs block).alarmSdc n entities).folSubs (.drm d)
    .next (next (t.folSigs (t.ctxIds (.drm d)) none (entitySigs entities)))
  else
    let t := s.count F.DRM_SDC_BAD_COUNT n 1
    .next (next (if s.on F.DRM_CFG_SDC_ALL n then t.sdcDeliver d false afs block else t))

end Sys2Proof.Machine
end

