-- ==== Sys2Proof/Machine/Metro.lean ====
section
/-! DEFINITION. Compliance metrology (R269 to R284): windows and results, the reference self-check, PPS, and METRIC records
(R170, R271, R406). -/

namespace Sys2Proof.Machine

/-! ### Windows (R269, R270) -/

/-- The flags VALID and PARTIAL of a window with `valid` valid samples of `total`; none: the window gives no result. -/
def windowFlags (valid total : Nat) : Option Nat :=
  if total = 0 ∨ 2 * valid < total then none else if 100 * valid < 99 * total then some 3 else some 1

/-- The instant of the last sample of a window that ends now, at the bank input (R270). -/
def State.windowEnd (s : State) (n : Nat) : Nat :=
  match (s.slot n).applied with
  | some b => s.now - s.slotTransit n b
  | none => s.now

/-- Whether a slot is measured: it runs and is no shadow. -/
def State.measured (s : State) (n : Nat) : Bool := s.on F.SLOT_STAT_RUNNING n && !s.on F.SLOT_STAT_SHADOW n

/-- Without a new result the old one loses its VALID flag. -/
def MetRes.expire (r : MetRes) : MetRes := { r with flags := r.flags - r.flags % 2 }

/-- The result of a window: the new one, or the old one without VALID. -/
def windowResult (old : Option MetRes) (valid total a b extra time : Nat) : Option MetRes :=
  match windowFlags valid total with
  | some f => some { a := a, b := b, flags := f + extra, time := time }
  | none => old.map MetRes.expire

/-! ### Field strength (R272 to R274) -/

/-- The aerial port that a window's front-end is connected to, numbered as under R125. -/
def State.windowPort (s : State) (n : Nat) : Nat :=
  if isLmh n then 2 + s.get F.FE_CTRL_INPUT n else s.get F.FE_CTRL_INPUT n

/-- `MET_FS_K.MISLOSS` of a window in 0.01 dB (R273). -/
def State.misloss (s : State) (n : Nat) : Nat :=
  let p := s.get F.FE_CTRL_INPUT n
  let g := s.getE F.AER_GAMMA_MAG 0 p
  if !isLmh n || s.getE F.AER_GAMMA_VALID 0 p == 0 then 0
  else if 1024 ≤ g then 65535
  else satU 16 (dbRatio 1000 1048576 (1048576 - g * g))

/-- The tracked floor of a port in 0.01 dBm per sub-band, if it is tracked (R126). -/
def State.floorOf (s : State) (p : Nat) : Option Int :=
  if s.getE F.AER_NF_FLOOR 0 p = 0x8000 then none else some (10 * sgn 16 (s.getE F.AER_NF_FLOOR 0 p))

/-- A field-strength window ends: `dbm` is the mean power of the valid samples, each converted with the k in force, in
0.01 dBm at the aerial ball; `k` that of the last sample in 0.01 dB; `stale` and `clip` whether a sample carried the flag;
`nbw` the profile's noise bandwidth over a sub-band in 0.01 dB. -/
def execFsWindowEnd (n : Fin 512) (valid total : Nat) (dbm k : Int) (stale clip : Bool) (nbw : Int) (s : State) :
    Host.Outcome State Fault Refusal :=
  let n := n.val
  let h := Tbl.get s.mets {} n
  match (s.slot n).applied with
  | none => .next s
  | some b =>
    if !s.measured n then .next s
    else
      let level := dbm + 10700
      let field := level + sgn 16 (s.getE F.MET_AF_AF 0 (s.windowPort b.window))
      let low := match s.floorOf (s.windowPort b.window) with
        | some f => decide (dbm < f + nbw + 2000)
        | none => false
      let extra := 4 * b2n stale + 8 * b2n clip + 16 * b2n s.ref.unverified + 32 * b2n (decide (365 < s.ref.age)) +
        64 * b2n low
      let r := windowResult h.fs valid total (satS 16 level + 65536 * satS 16 field)
        (satS 16 k + 65536 * s.misloss b.window) extra (s.windowEnd n)
      .next { s with mets := Tbl.set s.mets {} n { h with fs := r } }

/-! ### FM and AM (R278 to R281) -/

/-- The upper edge, in 0.01 kHz, of the lowest 0.1 kHz bin above which at most `ppm` of the valid samples lie (R278). -/
def excEdge (hist : List Nat) (valid ppm : Nat) : Nat :=
  match (List.range hist.length).find? fun i => decide ((hist.drop (i + 1)).sum * 1000000 ≤ ppm * valid) with
  | some i => 10 * (i + 1)
  | none => 0

/-- A deviation window ends: the greatest |u| in hertz, its histogram in bins of 0.1 kHz, the samples above LIMIT. -/
def execDevWindowEnd (n : Fin 512) (valid total peak : Nat) (hist : List Nat) (above : Nat) (s : State) :
    Host.Outcome State Fault Refusal :=
  let n := n.val
  let h := Tbl.get s.mets {} n
  if !(s.measured n && s.slotKind n == 1) then .next s
  else
    let exc := excEdge hist valid (s.get F.MET_DEV_CFG_EXCEED 0)
    let r := windowResult h.dev valid total (satU 16 (roundDiv peak 10) + 65536 * satU 16 exc)
      (satU 24 (roundDiv (1000000 * above) valid)) 0 (s.windowEnd n)
    let t := { s with mets := Tbl.set s.mets {} n { h with dev := r } }
    if (windowFlags valid total).isSome ∧ 0 < above then
      .next (t.raiseViews .metro Ev.devOver (viewsOf (s.owner .slot n)))
    else .next t

/-- MPX power in 0.01 dBr from a sum of squares in Hz² over `count` samples, clamped (R279). -/
def mpxPower (sumSq count : Nat) : Int :=
  if sumSq = 0 then -4000 else clampI (-4000) 2000 (dbRatio 1000 (2 * sumSq) (361000000 * count))

/-- An MPX power window ends (R279). -/
def execMpxWindowEnd (n : Fin 512) (valid total sumSq : Nat) (s : State) : Host.Outcome State Fault Refusal :=
  let n := n.val
  let h := Tbl.get s.mets {} n
  if !(s.measured n && s.slotKind n == 1) then .next s
  else
    let p := mpxPower sumSq valid
    let run := (h.mpx.map fun r => r.a / 65536).getD 0
    let r := windowResult h.mpx valid total (ofInt 16 p + 65536 * run) 0 0 (s.windowEnd n)
    let t := { s with mets := Tbl.set s.mets {} n { h with mpx := r } }
    if (windowFlags valid total).isSome ∧ sgn 16 (s.get F.MET_MPX_CFG_LIMIT 0) < p then
      .next (t.raiseViews .metro Ev.mpxOver (viewsOf (s.owner .slot n)))
    else .next t

/-- Every second P_RUN is computed over the latest T_S seconds (R279). -/
def execMpxRunUpdate (n : Fin 512) (valid total sumSq : Nat) (s : State) : Host.Outcome State Fault Refusal :=
  let n := n.val
  let h := Tbl.get s.mets {} n
  if !(s.measured n && s.slotKind n == 1) ∨ (windowFlags valid total).isNone then .next s
  else
    let p := 65536 * ofInt 16 (mpxPower sumSq valid)
    let r : MetRes := match h.mpx with
      | some r => { r with a := r.a % 65536 + p }
      | none => { a := p, b := 0, flags := 0, time := 0 }
    .next { s with mets := Tbl.set s.mets {} n { h with mpx := some r } }

/-- An injection window ends (R280): the mean pilot level in hertz, the sum of squares of the RDS band in Hz². -/
def execInjectionWindowEnd (n : Fin 512) (valid total pilot rdsSq : Nat) (s : State) : Host.Outcome State Fault Refusal :=
  let n := n.val
  let h := Tbl.get s.mets {} n
  if !(s.measured n && s.slotKind n == 1) then .next s
  else
    let r := windowResult h.inj valid total
      (satU 16 (roundDiv pilot 10) + 65536 * satU 16 (sqrtRatio (2 * rdsSq) (100 * valid))) 0 0 (s.windowEnd n)
    .next { s with mets := Tbl.set s.mets {} n { h with inj := r } }

/-- A depth in 0.1 %, clamped to 409.5 % (R281). -/
def depth (v : Int) : Nat := (clampI 0 4095 v).toNat

/-- An AM depth window ends (R281): the extremes of a in 0.1 %, its sum of squares in (0.1 %)², the samples at −99 % or
below. -/
def execAmDepthWindowEnd (n : Fin 512) (valid total : Nat) (hi lo : Int) (sumSq pinch : Nat) (s : State) :
    Host.Outcome State Fault Refusal :=
  let n := n.val
  let h := Tbl.get s.mets {} n
  if !(s.measured n && s.slotKind n == 2) then .next s
  else
    let r := windowResult h.am valid total (depth hi + 4096 * depth (-lo))
      (depth (sqrtRatio (2 * sumSq) valid) + 65536 * satU 16 pinch) 0 (s.windowEnd n)
    .next { s with mets := Tbl.set s.mets {} n { h with am := r } }

/-! ### The reference self-check (R275 to R277) -/

/-- A self-check starts. -/
def State.refStart (s : State) : State :=
  { s.put F.MET_REF_STAT_RUNNING 0 1 with ref := { s.ref with due := false } }

/-- A write of `MET_REF_CMD` (R276). -/
def refCmdWrite (a : Accessor) (w : Word) (s : State) : Except Reason State :=
  if !isManager a then .error .owner
  else if bits w.toNat 0 0 = 0 then .ok s
  else if s.on F.MET_REF_STAT_RUNNING 0 then .error .range
  else .ok s.refStart

/-- A power-state transition or a page reset aborts a running self-check (R276). -/
def State.refAbort (s : State) : State :=
  if s.on F.MET_REF_STAT_RUNNING 0 then s.puts 0 [(F.MET_REF_STAT_RUNNING, 0), (F.MET_REF_STAT_RESULT, 3)] else s

/-- A self-check ends (R275); `dev` is in 0.001 dB. -/
def execRefCheckDone (dev : Int) (s : State) : Host.Outcome State Fault Refusal :=
  if !s.on F.MET_REF_STAT_RUNNING 0 then .next s
  else
    let t := s.puts 0 [(F.MET_REF_STAT_RUNNING, 0), (F.MET_REF_DEV_DEV, satS 16 (roundDivI dev 10))]
    if dev.natAbs ≤ 500 then
      let u := { t.put F.MET_REF_STAT_RESULT 0 1 with
        ref := { t.ref with age := 0, unverified := false, trim := t.ref.trim - dev } }
      .next (u.raiseViews .metro Ev.refPass [0, 4])
    else
      let u := { t.put F.MET_REF_STAT_RESULT 0 2 with ref := { t.ref with unverified := true } }
      .next (u.raiseViews .metro Ev.refFail [0, 4])

/-- Whether a self-check may run: in IDLE or RUN with PD_1 on. -/
def State.refCan (s : State) : Bool := s.mode == .awake && s.domOn 1 && !s.on F.MET_REF_STAT_RUNNING 0

/-- A self-check that falls due runs, now or at the next entry to IDLE or RUN (R276). -/
def State.refDueNow (s : State) : State :=
  if s.on F.MET_REF_STAT_RUNNING 0 then s
  else if s.refCan then s.refStart else { s with ref := { s.ref with due := true } }

/-- On an entry to IDLE or RUN. -/
def State.refPending (s : State) : State := if s.ref.due && s.refCan then s.refStart else s

/-- At the first entry to stage 3 after PD_0 powered up from OFF (R276). -/
def State.refFirst (s : State) : State :=
  if s.ref.first then
    let t := { s with ref := { s.ref with first := false } }
    if t.on F.MET_REF_CFG_AUTO 0 then t.refDueNow else t
  else s

/-- A day passes on the AON timer (R277). -/
def execRefAgeDay (s : State) : Host.Outcome State Fault Refusal :=
  if s.mode = .off then .next s
  else
    let age := min (s.ref.age + 1) 65535
    let t := { s with ref := { s.ref with age := age } }
    if s.ref.age ≠ age ∧ age = s.get F.MET_REF_CFG_PERIOD 0 then
      let t := t.raiseViews .metro Ev.refDue [0, 4]
      .next (if t.on F.MET_REF_CFG_AUTO 0 then t.refDueNow else t)
    else .next t

/-! ### PPS (R283, R284) -/

/-- An edge on PPS_IN. -/
def execPpsEdge (falling : Bool) (s : State) : Host.Outcome State Fault Refusal :=
  if !(s.powered .metro 0 && s.on F.MET_PPS_CFG_EN 0 && s.pllLocked && s.on F.MET_PPS_CFG_EDGE 0 == falling) then .next s
  else
    let early := match s.pps.last with
      | some t => decide (10 * (s.now - t) < 9 * ticksPerSecond)
      | none => false
    if early then .next (s.count F.MET_PPS_COUNT_REJECT 0 1)
    else
      let period := match s.pps.last with
        | some t => satU 32 ((s.now - t : Nat) : Int)
        | none => 0
      .next { s.puts 0 [(F.MET_PPS_LO_TIME, s.now), (F.MET_PPS_HI_TIME, s.now / 2 ^ 32), (F.MET_PPS_PERIOD_TICKS, period),
          (F.MET_PPS_COUNT_COUNT, s.get F.MET_PPS_COUNT_COUNT 0 + 1)] with pps := { last := some s.now } }

/-- 1.1 s pass after an accepted edge without another. -/
def execPpsMissing (s : State) : Host.Outcome State Fault Refusal :=
  if s.pps.last.isSome && !s.pps.missed && s.on F.MET_PPS_CFG_EN 0 then
    .next ({ s with pps := { s.pps with missed := true } }.raiseViews .metro Ev.ppsMissing allViews)
  else .next s

/-! ### METRIC records (R170, R271, R406) -/

/-- The word of a register as its fields stand. -/
def State.regWord (s : State) (b : Blk) (n off : Nat) : Nat :=
  (fieldsAt b off 2).foldl (fun w p => w + s.getE p.1 n p.2 * 2 ^ p.1.lo) 0

/-- The word of `AN_STAT`: CLIP follows AUD_CLIP. -/
def State.anStat (s : State) (n : Nat) : Nat :=
  s.regWord .an n 0xD4 + 16 * b2n (bit (s.get (H.EVT .slot) n) Ev.audClip)

/-- An item of one or two registers, flags and a window end time. -/
def metItem (id : Nat) (words : List Nat) (r : MetRes) : Nat × List Byte :=
  (id, words.flatMap (leBytes 4) ++ leBytes 2 r.flags ++ leBytes 2 0 ++ leBytes 8 r.time)

/-- The measurement items of a slot. -/
def State.metItems (s : State) (n : Nat) : List (Nat × List Byte) :=
  let h := Tbl.get s.mets {} n
  let k := s.slotKind n
  let two (id : Nat) (r : Option MetRes) := (r.map fun x => metItem id [x.a, x.b] x).toList
  let one (id : Nat) (r : Option MetRes) := (r.map fun x => metItem id [x.a] x).toList
  two 0x0020 h.fs ++
    (if k = 1 then two 0x0021 h.dev ++ one 0x0022 h.mpx ++ one 0x0023 h.inj else []) ++
    (if k = 2 then two 0x0024 h.am else [])

/-- The gain steps of a slot's window since its last METRIC record (R88). -/
def State.gainItems (s : State) (n : Nat) : List (Nat × List Byte) :=
  match (s.slot n).applied with
  | some b => ((s.gainLog.drop (s.slot n).gainSeen).filter fun g => g.2.1 == b.window).map fun g =>
      (0x0030, leBytes 8 g.1 ++ leBytes 2 g.2.1 ++ leBytes 2 g.2.2)
  | none => []

/-- The gain steps so far have been reported. -/
def State.gainTold (s : State) (n : Nat) : State := s.setSlot n { s.slot n with gainSeen := s.gainLog.length }

/-- The METRIC record of an FM or AM slot. -/
def State.slotMetric (s : State) (n : Nat) : Rec :=
  s.slotRec n s.now (.metric ((0x0001, [s.anStat n, s.regWord .an n 0xD8, s.regWord .an n 0xDC, s.regWord .an n 0xE0,
    s.regWord .an n 0xE4].flatMap (leBytes 4)) :: (s.metItems n ++ s.gainItems n)))

/-- The METRIC record of a context bound to slot n; `mers` are the carriers' MER in 0.1 dB (R232). -/
def State.ctxMetric (s : State) (c : Ctx) (n : Nat) (b : Bind) (mers : List Nat) : Rec :=
  let car := match c with | .dab i => s.on F.DAB_CFG_CAR_MER i.val | .drm i => s.on F.DRM_CFG_CAR_MER i.val
  let offs := match c with | .dab _ => [0x48, 0x50, 0x54, 0x58] | .drm _ => [0x48, 0x4C, 0x50, 0x54]
  s.ctxRec c (.metric ((0x0010, (offs.map (s.regWord c.blk c.num)).flatMap (leBytes 4)) ::
    ((if car then [(0x0011, mers.map fun m => BitVec.ofNat 8 (min m 255))] else []) ++
     (if b.div then [(0x0012, leBytes 4 (s.regWord .dig n 0xC0) ++ leBytes 4 (s.regWord .dig n 0xC4) ++
        leBytes 8 (s.ctxHid c).divTime)] else []) ++ s.metItems n ++ s.gainItems n)))

/-- The METRIC interval of a slot or context expires. -/
def execMetricReport (src : MetSrc) (mers : List Nat) (s : State) : Host.Outcome State Fault Refusal :=
  match src with
  | .slot n =>
    if s.measured n.val && (s.slotKind n.val == 1 || s.slotKind n.val == 2) && s.get F.MET_CFG_INTERVAL n.val != 0 then
      .next ((s.slotEmit n.val (s.slotMetric n.val)).gainTold n.val)
    else .next s
  | .ctx c =>
    let on := match c with | .dab i => s.get F.DAB_MET_INTERVAL i.val != 0 | .drm i => s.get F.DRM_MET_INTERVAL i.val != 0
    match s.boundSlot c with
    | some (n, b) =>
      if on && s.ctxState c != 0 then .next ((s.ctxEmit c (s.ctxMetric c n b mers)).gainTold n) else .next s
    | none => .next s

end Sys2Proof.Machine
end

