-- ==== Sys2Proof/Machine/Clock.lean ====
section
/-! DEFINITION. The clock sources, the system PLL and its relocks, the audio PLLs, the long delay-locked lines and the chain
(R294 to R320). -/

namespace Sys2Proof.Machine

/-! ### Long lines (R306 to R309) -/

/-- A line goes to a state other than LOCKED; LINE_UNLOCK if it leaves LOCKED (R319). -/
def State.lineTo (s : State) (n st : Nat) : State :=
  let t := (s.putE F.LINE_STAT_STATE 0 n st).putE F.LINE_STAT_LOCK 0 n 0
  if s.lineLocked n then t.raise .dll 0 Ev.lineUnlock else t

/-- A front-end line runs while its front-end's domain is on and the system PLL is locked (R309). -/
def State.lineRun (s : State) (n : Nat) : State :=
  if s.domOn (3 + n) && s.pllLocked then (if s.getE F.LINE_STAT_STATE 0 n = 0 then s.lineTo n 1 else s)
  else if s.getE F.LINE_STAT_STATE 0 n = 0 then s else s.lineTo n 0

/-- Starts or stops the eight front-end lines as things stand. -/
def State.linesRun (s : State) : State := (List.range 8).foldl (fun t n => t.lineRun n) s

/-! ### Relocks (R299 to R301) -/

/-- Holdover ends: HOLD_TIME shows how long it was (R302). -/
def State.holdEnd (s : State) : State :=
  if s.get F.CLK_STAT_PLL_STATE 0 = 3 then
    s.put F.HOLD_TIME_SECONDS 0 (min ((s.now - s.clk.holdAt) / ticksPerSecond) (2 ^ 20 - 1))
  else s

/-- The sample path stops: windows stand still, and the taps that deliver PCM see a gap (R301). -/
def State.pathStops (s : State) : State :=
  let t := (List.range 8).foldl (fun u n =>
    if (u.fe n).stopped.isSome then u else u.setFe n { u.fe n with stopped := some s.now }) s
  s.taps.foldl (fun u p => if p.2.pcmOn then u.tapGap p.1 3 else u) t

/-- Starts a relock to a reference (R300 step 1). A relock that runs already goes on as one, to the new reference. -/
def State.startRelock (s : State) (ref : Nat) : State :=
  let locked := s.pllLocked
  let t := s.holdEnd.puts 0 [(F.CLK_STAT_PLL_STATE, 1), (F.CLK_STAT_FRC_ACTIVE, 1), (F.GLOBAL_STAT_PLL_LOCKED, 0)]
  let t := { t with clk := { t.clk with relock := some (t.clk.relock.getD s.now), target := ref, good := 0, counted := false } }
  if locked then t.pathStops.linesRun else t

/-- The system PLL starts with PD_1: its first lock is in XO mode (R299). -/
def State.pllStart (s : State) : State := s.startRelock 0

/-- Whether a reference is present (R294). -/
def State.refOk (s : State) (ref : Nat) : Bool :=
  if ref = 0 then s.on F.CLK_STAT_XO_OK 0 else if ref = 1 then s.on F.CLK_STAT_REF_OK 0
  else s.on F.CLK_STAT_SYNC_OK 0 && s.getE F.LINE_STAT_STATE 0 8 != 6

/-- The cycles of CK_SAMP expected over a reference window (R298). -/
def pllExpected (ref : Nat) : Nat := if ref = 0 then 20480 else if ref = 1 then 30720 else 16384

/-- The distance of a count from what is expected. -/
def countMiss (count expected : Nat) : Nat := (count - expected) + (expected - count)

/-- A reference window of the system PLL ends (R298): acquiring, two windows within ±1 declare counter lock, in SYNC mode
with the snap of line 8 (R300, R313); locked, a miss beyond ±4 loses it. -/
def execPllCounterWindow (count : Nat) (s : State) : Host.Outcome State Fault Refusal :=
  let st := s.get F.CLK_STAT_PLL_STATE 0
  let act := s.get F.CLK_STAT_REF_ACT 0
  if st = 1 then
    if s.clk.counted || !s.refOk s.clk.target then .next s
    else if 1 < countMiss count (pllExpected s.clk.target) then .next { s with clk := { s.clk with good := 0 } }
    else if s.clk.good = 0 then .next { s with clk := { s.clk with good := 1 } }
    else
      let t := { s with clk := { s.clk with counted := true } }
      .next (if s.clk.target = 2 then t.raise .dll 0 Ev.syncSnap else t)
  else if st = 0 then .next s
  else if 4 < countMiss count (pllExpected (if st = 3 then 0 else act)) then
    .next ((s.raise .clock 0 Ev.pllUnlock).startRelock (if s.refOk act then act else 0))
  else .next s

/-- A write of `PLL_CMD` (R299). -/
def pllCmdWrite (w : Word) (s : State) : Except Reason State :=
  let sel := s.get F.PLL_CFG_REF_SEL 0
  if bits w.toNat 0 0 = 0 then .ok s
  else if s.clk.relock.isSome || (sel == 1 && !s.on F.CLK_STAT_REF_OK 0) ||
      (sel == 2 && !(s.on F.CLK_STAT_SYNC_OK 0 && s.get F.SYNC_CFG_ROLE 0 == 2)) then .error .range
  else .ok (s.startRelock sel)

def execPllApply (a : Accessor) (w : Word) (s : State) : Host.Outcome State Fault Refusal :=
  .next (s.regWrite a .clock 0 0x48 (pllCmdWrite w))

/-- Microseconds of a number of ticks. -/
def ticksUs (t : Nat) : Nat := t * 1000000 / ticksPerSecond

/-- A relock ends (R300 step 3): the clocks come back, the reference acquired is in force, the lines start. -/
def State.pllLocks (s : State) (start : Nat) : State :=
  let target := s.clk.target
  let t := s.puts 0 [(F.CLK_STAT_PLL_STATE, 2), (F.CLK_STAT_FRC_ACTIVE, 0), (F.CLK_STAT_REF_ACT, target),
    (F.GLOBAL_STAT_PLL_LOCKED, 1), (F.PLL_HIST_LAST_US, min (ticksUs (s.now - start)) 65535)]
  let t := (t.count F.PLL_HIST_RELOCKS 0 1).count F.RELOCK_TICKS_COUNT 0 (s.now - start)
  let t := { t with clk := { t.clk with relock := none, good := 0, counted := false, resume := true } }
  let t := if target = 2 then t.lineTo 8 1
    else if s.getE F.LINE_STAT_STATE 0 8 = 4 then t else t.lineTo 8 0
  t.linesRun.raise .clock 0 Ev.pllLock

/-! ### Windows resume (R301) -/

/-- The GAP of REASON RELOCK of a slot's stream: PCM of an analogue lane, IQ. -/
def State.relockGap (s : State) (n start : Nat) (b : Bind) : State :=
  let gap (ty rate : Nat) : State :=
    s.slotEmit n (s.slotRec n start (.gap start s.now 0 (samplesIn start s.now (16 * rate)) 3 ty))
  if (b.kind == 1 || b.kind == 2) && s.on F.AUD_OUT_PCM_EN n then gap 0x0001 48000
  else if b.kind == 6 then gap 0x0050 b.rate
  else s

/-- The GAP of REASON RELOCK of a window's raw stream (R155). -/
def State.rawGap (s : State) (n start : Nat) : State :=
  if s.on F.BANK_RAW_EN n then
    s.deliver 0 (s.get F.BANK_RAW_RING n)
      { kind := .window, source := n, time := start, epoch := s.epoch (.fe n),
        payload := .gap start s.now 0 ((s.now - start) * 128 / frameTicks n) 3 0x0051 }
  else s

/-- The window on which a follower entry's current candidate is received. -/
def State.folWindow (s : State) (e : Nat) : Option Nat :=
  match s.cand e (s.fol e).cur with
  | none => none
  | some c =>
    let slot : Option Nat :=
      if c.res = 0 then some c.idx
      else if c.res = 1 then
        match (s.tap c.idx).applied with
        | some t => (s.ctxSlot t.drm t.ctx).map (·.1)
        | none => none
      else none
    match slot with
    | some n => (s.slot n).applied.map (·.window)
    | none => none

/-- The GAP of REASON RELOCK of the follower entries that play from the window. -/
def State.folGap (s : State) (n start : Nat) : State :=
  (List.range 32).foldl (fun t e =>
    if t.folRuns e && t.folOn F.FOL_CFG_PCM_EN e && t.folWindow e == some n then
      t.deliver (t.fol e).owner (t.folGet F.FOL_CFG_RING e)
        { kind := .follow, source := e, time := start, epoch := Config.pageEpoch 0x59,
          payload := .gap start t.now 0 (samplesIn start t.now (16 * 48000)) 3 0x0001 }
    else t) s

/-- A window resumes after a relock, at the first bank frame boundary after its synthesiser and its line have declared lock
again: its running slots restart as though enabled there, and every stream carries one GAP (R301). -/
def execWindowResume (f : Fin 8) (s : State) : Host.Outcome State Fault Refusal :=
  let n := f.val
  match (s.fe n).stopped with
  | none => .next s
  | some start =>
    if s.pllLocked && (!s.powered .fe n || s.lineLocked (s.hwOf n)) then
      let t := s.setFe n { s.fe n with stopped := none }
      let t := ((t.windowSlots n).foldl (fun u p =>
        if u.on F.SLOT_STAT_RUNNING p.1 then (u.relockGap p.1 start p.2).slotStart p.1 else u) t)
      .next (((t.rawGap n start).folGap n start).latchFrame n)
    else .next s

/-! ### Reference sources (R294, R302, R303) -/

/-- The events and the PLL at the loss of the active reference: holdover, or a relock in XO mode (R299, R302, R303). -/
def State.refGone (s : State) (ref : Nat) : State :=
  let t := { s with clk := { s.clk with returns := ref :: s.clk.returns.filter (· != ref) } }.raise .clock 0 Ev.refLost
  let st := s.get F.CLK_STAT_PLL_STATE 0
  if st = 2 then
    if s.on F.PLL_CFG_HOLDOVER 0 && s.on F.CLK_STAT_XO_OK 0 then
      { t.put F.CLK_STAT_PLL_STATE 0 3 with clk := { t.clk with holdAt := s.now } }
    else t.startRelock 0
  else if st = 1 && s.clk.target == ref then t.startRelock 0
  else t

/-- A reference is there again: the PLL tracks it if it holds over for it (R302). -/
def State.refBack (s : State) (ref : Nat) : State :=
  let t := if s.get F.CLK_STAT_PLL_STATE 0 = 3 ∧ s.get F.CLK_STAT_REF_ACT 0 = ref then
      s.holdEnd.put F.CLK_STAT_PLL_STATE 0 2 else s
  if s.clk.returns.contains ref then
    { t with clk := { t.clk with returns := t.clk.returns.filter (· != ref) } }.raise .clock 0 Ev.refReturn
  else t

/-- SYNC_IN is lost: line 8 coasts (R311). -/
def State.syncCoast (s : State) : State :=
  if s.getE F.LINE_STAT_STATE 0 8 = 0 then s
  else ((s.lineTo 8 4).count F.SYNC_COUNT_LOSSES 0 1).raise .dll 0 Ev.dllSyncLost

/-- The OK bit of REF_IN or SYNC_IN. -/
def refOkFld (sync : Bool) : Fld := if sync then F.CLK_STAT_SYNC_OK else F.CLK_STAT_REF_OK

/-- Two windows of 100 ms within ±10 ppm of nominal against XO_IN; `ppm` is the measurement in 0.001 ppm. -/
def execRefPresent (sync : Bool) (ppm : Int) (s : State) : Host.Outcome State Fault Refusal :=
  if s.powered .clock 0 && s.on F.CLK_STAT_XO_OK 0 then
    let t := (s.put (refOkFld sync) 0 1).put (if sync then F.SYNC_MEAS_PPM else F.REF_MEAS_PPM) 0 (satS 24 ppm)
    .next (t.refBack (if sync then 2 else 1))
  else .next s

/-- The active reference, REF or SYNC, is declared lost. -/
def execRefLost (s : State) : Host.Outcome State Fault Refusal :=
  let act := s.get F.CLK_STAT_REF_ACT 0
  if s.powered .clock 0 && act != 0 && s.on (refOkFld (act == 2)) 0 then
    let t := s.put (refOkFld (act == 2)) 0 0
    .next ((if act = 2 then t.syncCoast else t).refGone act)
  else .next s

/-- REF_IN or SYNC_IN is lost while it is not the active reference: only its bit clears. A relock that acquires it goes on
in XO mode. -/
def execInactiveReferenceLost (sync : Bool) (s : State) : Host.Outcome State Fault Refusal :=
  let ref := if sync then 2 else 1
  if s.get F.CLK_STAT_REF_ACT 0 ≠ ref ∧ s.on (refOkFld sync) 0 then
    let t := s.put (refOkFld sync) 0 0
    .next (if s.clk.relock.isSome && s.clk.target == ref then t.startRelock 0 else t)
  else .next s

/-- XO_IN has run for 1 ms within ±5 % of nominal; `frcKhz` is CK_FRC measured against it. -/
def execXoOk (frcKhz : Nat) (s : State) : Host.Outcome State Fault Refusal :=
  if s.powered .clock 0 then
    let t := s.put F.CLK_STAT_XO_OK 0 1
    .next (if s.get F.FRC_MEAS_KHZ 0 = 0 then t.put F.FRC_MEAS_KHZ 0 (min frcKhz (2 ^ 17 - 1)) else t)
  else .next s

/-- XO_IN is lost (R303): in XO mode and in holdover a relock starts that waits for it. -/
def execXoLost (s : State) : Host.Outcome State Fault Refusal :=
  if s.powered .clock 0 && s.on F.CLK_STAT_XO_OK 0 then
    let t := (s.put F.CLK_STAT_XO_OK 0 0).raise .clock 0 Ev.xoLost
    let st := s.get F.CLK_STAT_PLL_STATE 0
    .next (if (st = 2 ∧ s.get F.CLK_STAT_REF_ACT 0 = 0) ∨ st = 3 ∨ (st = 1 ∧ s.clk.target = 0) then t.startRelock 0 else t)
  else .next s

/-! ### The crystal and the internal RC (R295, R296) -/

/-- The crystal has qualified. -/
def execX32Ok (s : State) : Host.Outcome State Fault Refusal :=
  if s.mode ≠ .off ∧ !s.on F.X32_CFG_X32_DIS 0 ∧ !s.on F.CLK_STAT_X32_OK 0 then
    .next ((s.puts 0 [(F.CLK_STAT_X32_SRC, 1), (F.CLK_STAT_X32_OK, 1)]).raiseOn .clock 0 Ev.x32Ok)
  else .next s

/-- The crystal has stopped for 250 µs. -/
def execX32Lost (s : State) : Host.Outcome State Fault Refusal :=
  if s.on F.CLK_STAT_X32_SRC 0 then
    .next ((s.puts 0 [(F.CLK_STAT_X32_SRC, 0), (F.CLK_STAT_X32_OK, 0)]).raiseOn .clock 0 Ev.x32Lost)
  else .next s

/-- A write of `X32_CFG`. -/
def x32CfgWrite (major : Nat) (w : Word) (s : State) : Except Reason State :=
  onOk (plainWrite .clock 0 0x5C major w s) fun t =>
    .ok (if t.on F.X32_CFG_X32_DIS 0 then t.puts 0 [(F.CLK_STAT_X32_SRC, 0), (F.CLK_STAT_X32_OK, 0)] else t)

def execX32DisWrite (a : Accessor) (w : Word) (s : State) : Host.Outcome State Fault Refusal :=
  .next (s.regWrite a .clock 0 0x5C (x32CfgWrite (s.major a 0x02) w))

/-- The internal RC is trimmed; `err` is the error found, in ppm. -/
def execRcTrim (err : Int) (s : State) : Host.Outcome State Fault Refusal :=
  if s.pllLocked then .next (s.put F.X32_CFG_RC_ERR 0 (satS 16 err)) else .next s

/-! ### Audio PLLs (R304) -/

/-- Whether a running port takes its clock from audio PLL A or, `b`, B (R448). -/
def State.audPllUsed (s : State) (b : Bool) : Bool :=
  (List.range 8).any fun p => s.get F.AP_STAT_STATE p != 0 && s.get F.AP_CFG_ROLE p == 0 && s.get F.AP_CFG_CLK_SRC p == 0 &&
    (s.get F.AP_CFG_RATE p == 1 || s.get F.AP_CFG_RATE p == 3) == b

def audPllEn (b : Bool) : Fld := if b then F.AUD_PLL_CFG_B_EN else F.AUD_PLL_CFG_A_EN
def audPllLockFld (b : Bool) : Fld := if b then F.CLK_STAT_AUD_B_LOCK else F.CLK_STAT_AUD_A_LOCK

/-- A write of `AUD_PLL_CFG`. -/
def audPllWrite (w : Word) (s : State) : Except Reason State :=
  let offUsed (b : Bool) : Bool := bits w.toNat (b2n b) (b2n b) == 0 && s.audPllUsed b
  if offUsed false || offUsed true then .error .range
  else
    let set (t : State) (b : Bool) : State :=
      if bits w.toNat (b2n b) (b2n b) = 1 then t.put (audPllEn b) 0 1
      else (t.put (audPllEn b) 0 0).put (audPllLockFld b) 0 0
    .ok (set (set s false) true)

def execAudPllEnable (a : Accessor) (w : Word) (s : State) : Host.Outcome State Fault Refusal :=
  .next (s.regWrite a .clock 0 0x60 (audPllWrite w))

/-- An enabled audio PLL locks. -/
def execAudPllLock (b : Bool) (s : State) : Host.Outcome State Fault Refusal :=
  if s.on (audPllEn b) 0 && s.on F.CLK_STAT_XO_OK 0 then .next (s.put (audPllLockFld b) 0 1) else .next s

/-- An enabled audio PLL loses lock (R317). -/
def execAudUnlock (b : Bool) (s : State) : Host.Outcome State Fault Refusal :=
  if s.on (audPllEn b) 0 && s.on (audPllLockFld b) 0 then
    .next ((s.put (audPllLockFld b) 0 0).raise .clock 0 Ev.audUnlock)
  else .next s

/-! ### Lines that measure and lock (R307, R308) -/

/-- A counter window of 65,536 reference cycles of a line ends; `diff` is its output cycles less the reference's. -/
def execLineCounterWindow (n : Fin 9) (diff : Int) (s : State) : Host.Outcome State Fault Refusal :=
  let n := n.val
  let st := s.getE F.LINE_STAT_STATE 0 n
  if st = 1 ∨ st = 6 then .next (s.lineTo n (if diff.natAbs ≤ 1 then 2 else 1))
  else if st = 3 ∧ 100 * 65536 < diff.natAbs * 1000000 then
    let t := (s.lineTo n 6).raise .dll 0 Ev.lineFreqErr
    .next (if n = 8 ∧ s.get F.CLK_STAT_REF_ACT 0 = 2 then t.refGone 2 else t)
  else .next s

/-- The phase error has stayed below 2 taps for 256 cycles; line 8 gives the PLL its reference back. -/
def execLineLock (n : Fin 9) (s : State) : Host.Outcome State Fault Refusal :=
  let n := n.val
  if s.getE F.LINE_STAT_STATE 0 n = 2 then
    let t := ((s.putE F.LINE_STAT_STATE 0 n 3).putE F.LINE_STAT_LOCK 0 n 1).raise .dll 0 Ev.lineLock
    .next (if n = 8 ∧ s.refOk 2 then t.refBack 2 else t)
  else .next s

/-! ### The chain (R310 to R313) -/

/-- A write of `SYNC_CFG`: refused where it would leave OUT_EN with ROLE OFF, or change ROLE while REF_ACT is SYNC. -/
def syncCfgWrite (major : Nat) (w : Word) (s : State) : Except Reason State :=
  onOk (plainWrite .dll 0 0x64 major w s) fun t =>
    let role := s.get F.SYNC_CFG_ROLE 0
    if t.on F.SYNC_CFG_OUT_EN 0 && t.get F.SYNC_CFG_ROLE 0 == 0 then .error .range
    else if t.get F.SYNC_CFG_ROLE 0 ≠ role ∧ s.get F.CLK_STAT_REF_ACT 0 = 2 then .error .range
    else if t.get F.SYNC_CFG_ROLE 0 ≠ 2 ∧ t.getE F.LINE_STAT_STATE 0 8 ≠ 0 then .ok (t.lineTo 8 0)
    else .ok t

/-- SYNC_IN has returned and one counter window has passed (R312): `err` is the phase error in taps. -/
def execSyncReturn (err : Int) (s : State) : Host.Outcome State Fault Refusal :=
  if s.getE F.LINE_STAT_STATE 0 8 = 4 ∧ s.on F.CLK_STAT_SYNC_OK 0 ∧ s.get F.CLK_STAT_REF_ACT 0 = 2 ∧
      s.get F.CLK_STAT_PLL_STATE 0 = 2 then
    let t := (s.put F.SYNC_STAT_JUMP 0 (satS 16 err)).raise .dll 0 Ev.syncReturn
    if err.natAbs ≤ 2 then
      .next (((t.putE F.LINE_STAT_STATE 0 8 3).putE F.LINE_STAT_LOCK 0 8 1).raise .dll 0 Ev.lineLock)
    else if s.on F.SYNC_CFG_RECOVER 0 then .next (t.startRelock 2)
    else
      let t := ((t.putE F.LINE_STAT_STATE 0 8 5).count F.SYNC_COUNT_SLEWS 0 1).raise .dll 0 Ev.syncSlew
      .next { t.put F.SYNC_STAT_LEFT 0 err.natAbs with clk := { t.clk with slewAt := s.now } }
  else .next s

/-- The taps that an anneal slew still has to go: one is done every 2^SLEW_K cycles of CK_SAMP/4. -/
def State.slewLeft (s : State) : Nat :=
  if s.getE F.LINE_STAT_STATE 0 8 = 5 then
    s.get F.SYNC_STAT_LEFT 0 - (s.now - s.clk.slewAt) / 2 ^ (s.get F.SYNC_CFG_SLEW_K 0 + 2)
  else 0

/-- The error has fallen to 2 taps: the line goes on as in R307 step 2. -/
def execSyncSlewDone (s : State) : Host.Outcome State Fault Refusal :=
  if s.getE F.LINE_STAT_STATE 0 8 = 5 then
    .next (((s.lineTo 8 2).put F.SYNC_STAT_LEFT 0 0).raise .dll 0 Ev.syncSlewDone)
  else .next s

/-! ### Page resets (R320) -/

/-- A reset of the CLOCK page: events, counters and RW fields; nothing is applied. -/
def State.clockReset (s : State) : State :=
  s.resetKeep .clock 0 [F.CLK_STAT_PLL_STATE, F.CLK_STAT_REF_ACT, F.CLK_STAT_FRC_ACTIVE, F.CLK_STAT_XO_OK, F.CLK_STAT_REF_OK,
    F.CLK_STAT_SYNC_OK, F.CLK_STAT_X32_SRC, F.CLK_STAT_X32_OK, F.CLK_STAT_AUD_A_LOCK, F.CLK_STAT_AUD_B_LOCK, F.REF_MEAS_PPM,
    F.SYNC_MEAS_PPM, F.X32_CFG_X32_DIS, F.X32_CFG_RC_ERR, F.FRC_MEAS_KHZ]

/-- A reset of the DLL page: ROLE stays where the move would be refused. -/
def State.dllReset (s : State) : State :=
  let keep := [F.LINE_STAT_STATE, F.LINE_STAT_LOCK, F.SYNC_STAT_JUMP, F.SYNC_STAT_LEFT]
  if s.get F.SYNC_CFG_ROLE 0 = 2 ∧ s.get F.CLK_STAT_REF_ACT 0 = 2 then s.resetKeep .dll 0 (F.SYNC_CFG_ROLE :: keep)
  else s.resetKeep .dll 0 keep

end Sys2Proof.Machine
end

