-- ==== Sys2Proof/Machine/Domain.lean ====
section
/-! DEFINITION. What each power domain holds and loses (R21, R323, R326), and punty hold (R336 to R338). -/

namespace Sys2Proof.Machine

/-! ### What a domain holds -/

/-- The number of instances of a block in the table of registers; a page with a view for each accessor counts five. -/
def blkCount : Blk → Nat
  | .global => 5 | .fe => 8 | .bank => 8 | .slot => 512 | .fm => 512 | .am => 512 | .an => 512 | .dig => 512
  | .dab => 48 | .drm => 24 | .tap => 1024 | .auddec => 5 | .follow => 5 | .metro => 5 | .sidedata => 5
  | .ap => 8 | .host => 4 | .xlat => 4 | .fault => 5 | .ring => 64
  | _ => 1

/-- Every register of a block returns to its reset value. -/
def State.dropBlk (s : State) (b : Blk) : State :=
  { s with fields := Tbl.dropRange s.fields (blockLo b 0) (blockLo b (blkCount b)) }

/-- The blocks of a domain, but for the FE pages of PD_3 to PD_10 (R21). -/
def domBlocks (d : Nat) : List Blk :=
  if d = 1 then [.global, .clock, .dll, .health, .otp, .mgmt, .cal, .aerial, .function]
  else if d = 11 then [.bank, .slot, .fm, .am, .an, .dig]
  else if d = 12 then [.dab, .drm, .tap, .auddec, .follow, .metro, .sidedata]
  else if d = 13 then [.crucible]
  else if d = 14 then [.host, .xlat, .fault, .ring]
  else if d = 15 then [.ap]
  else []

/-- The windows whose front-end is in domain d. -/
def State.domWindows (s : State) (d : Nat) : List Nat := (List.range 8).filter fun n => 3 + s.hwOf n == d

/-- The resources of a domain that carry an epoch (R53). -/
def State.domRes (s : State) (d : Nat) : List Res :=
  if d = 11 then (List.range 512).map .slot
  else if d = 12 then (List.range 48).map .dab ++ (List.range 24).map .drm ++ (List.range 1024).map .tap
  else if d = 14 then (List.range 64).map .ring
  else if d = 15 then (List.range 8).map .ap
  else (s.domWindows d).map .fe

/-- The registers on pages of PD_1 that are held in PD_0 (R326): the crystal and the RC, the tuners, the histogram, the
latch of first gather (R366), the dialect of the port (R491). -/
def aonKept : List (Blk × List Fld) :=
  [(.clock, [F.X32_CFG_X32_DIS, F.X32_CFG_RC_ERR, F.CLK_STAT_X32_SRC, F.CLK_STAT_X32_OK]),
   (.aerial, [F.AER_TUN_SERIES, F.AER_TUN_SHUNT, F.AER_TUN_LTAP]),
   (.health, [F.HIST_MINUTES, F.HIST_BASE_MINUTES]),
   (.otp, [F.FG_STAT_ALERT]),
   (.mgmt, [F.MGMT_STAT_DIALECT])]

/-- The registers of PD_1 return to their reset values, but for those held in PD_0, `GLOBAL.SPEAK` of every accessor among
them. -/
def State.dropCtrl (s : State) : State :=
  let t := (domBlocks 1).foldl (fun t b =>
    match aonKept.find? (·.1 == b) with
    | some (_, keep) => t.resetKeep b 0 keep
    | none => t.dropBlk b) s
  (List.range 5).foldl (fun u a => u.put F.SPEAK_MAJOR a (s.get F.SPEAK_MAJOR a)) t

/-- Members that satisfy `p` leave every alignment group. -/
def State.dropMembers (s : State) (p : Member → Bool) : State :=
  { s with groups := s.groups.map fun x => (x.1, { x.2 with members := x.2.members.filter fun m => !p m }) }

/-- Whose pots a domain's loss frees. -/
def PotUser.inDom (u : PotUser) : Nat :=
  match u with
  | .slotLine _ => 11 | .snap _ => 11
  | .drm _ => 12 | .tap _ => 12 | .follow _ => 12 | .feed _ => 12
  | .ring _ => 14
  | .port _ => 15

/-- A group without the entry or comparison of PD_12 that held it. -/
def Grp.noDemod (g : Grp) : Grp :=
  match g.holder with
  | some (.follow _) => { g with holder := none }
  | some (.feed _) => { g with holder := none }
  | _ => g

/-- The pots of a domain's users are freed. -/
def State.dropPots (s : State) (d : Nat) : State :=
  { s with pots := s.pots.filter fun x => match x.2 with
      | some q => q.user.inDom != d
      | none => false }

/-- What a domain holds beside its registers is lost. -/
def State.dropHidden (s : State) (d : Nat) : State :=
  if d = 1 then
    { s with hands := [], aerials := [], latches := [], clk := {}, attn := {}, fg := {},
             tuners := s.tuners.map fun p => (p.1, { act := s.tunWord p.1 }) }
  else if 3 ≤ d ∧ d ≤ 10 then
    (s.domWindows d).foldl (fun t n => { t with fes := Tbl.erase t.fes n }) { s with hws := Tbl.erase s.hws (d - 3) }
  else if d = 11 then
    { (s.dropMembers Member.isSlot).dropPots 11 with
      slots := [], snaps := [], profiles := [], loader := [], lanes := [], gainLog := [] }
  else if d = 12 then
    { s.dropPots 12 with
      ctxs := [], taps := [], ruleType := [], fols := [], mets := [], fcs := [], pps := {},
      groups := s.groups.map fun x => (x.1, x.2.noDemod) }
  else if d = 14 then
    { s.dropPots 14 with
      rings := [], cfgs := [], link := { perst := s.link.perst }
      xcache := [], faults := [], dmaTurn := [], walkTurn := [] }
  else if d = 15 then
    { (s.dropMembers fun m => !m.isSlot).dropPots 15 with aps := [] }.puts 0 [(F.CLK_STAT_AUD_A_LOCK, 0), (F.CLK_STAT_AUD_B_LOCK, 0)]
  else s

/-- The header fields that outlast a power-off of a single domain, so that POWER_DONE can be seen (R40, R47). -/
def hdrKept (b : Blk) : List Fld := [H.EVT b, H.EVT_EN b, H.EVT_AGAIN b]

/-- The registers of a domain's pages as the domain goes off: block registers are lost, the events of the headers stay. -/
def State.fadeRegs (s : State) (d : Nat) : State :=
  if 3 ≤ d ∧ d ≤ 10 then (s.domWindows d).foldl (fun t n => t.resetKeep .fe n (F.FE_STAT_HW :: hdrKept .fe)) s
  else (domBlocks d).foldl (fun t b =>
    (List.range (blkCount b)).foldl (fun u n =>
      let e := (s.get (H.EVT b) n, s.get (H.EVT_EN b) n, s.get (H.EVT_AGAIN b) n)
      if e = (0, 0, 0) then u else ((u.put (H.EVT b) n e.1).put (H.EVT_EN b) n e.2.1).put (H.EVT_AGAIN b) n e.2.2)
      (t.dropBlk b)) s

/-- The registers of a domain's pages as the domain comes on: as after a reset (R323). -/
def State.freshRegs (s : State) (d : Nat) : State :=
  if d = 1 then s.dropCtrl
  else if 3 ≤ d ∧ d ≤ 10 then (s.domWindows d).foldl (fun t n => t.resetKeep .fe n [F.FE_STAT_HW]) s
  else (domBlocks d).foldl (fun t b => t.dropBlk b) s

/-! ### Punty hold (R336 to R338) -/

/-- The domain of a pad group (R337). -/
def puntyDom (g : Nat) : Nat := if g ≤ 1 then 15 else if g = 7 then 14 else 1

/-- The registers whose writes make up LOADED of a group. -/
def puntyNeeds (g : Nat) : List Nat :=
  if g = 0 then [0, 1, 2, 3] else if g = 1 then [4, 5, 6, 7] else if g = 3 ∨ g = 4 then [8]
  else if g = 5 then [9, 10, 11, 12] else if g = 6 then [13, 14] else []

def State.held (s : State) (g : Nat) : Bool := bit (s.get F.PUNTY_STAT_HELD 0) g
def State.loaded (s : State) (g : Nat) : Bool := bit (s.get F.PUNTY_STAT_LOADED 0) g

def State.setLoaded (s : State) (g : Nat) (v : Bool) : State :=
  let w := s.get F.PUNTY_STAT_LOADED 0
  s.put F.PUNTY_STAT_LOADED 0 (if v then w ||| 2 ^ g else clearBits w (2 ^ g))

/-- What the pads of a group drive when it is not held: GPIO values and enables, tuner settings and bias enables, SYNC_OUT and
AUD_LKA, and for the ports a bit for each one that drives its pads. -/
def State.padLive (s : State) (g : Nat) : Nat :=
  if g ≤ 1 then (List.range 4).foldl (fun w i => w + b2n (s.get F.AP_STAT_STATE (4 * g + i) != 0) * 2 ^ i) 0
  else if g = 3 then s.get F.AON_GPIO_OUT 0 % 256 + s.get F.AON_GPIO_OE 0 % 256 * 2 ^ 8
  else if g = 4 then s.get F.AON_GPIO_OUT 0 / 256 + s.get F.AON_GPIO_OE 0 / 256 * 2 ^ 8
  else if g = 5 then
    (s.tuner 0).act + (s.tuner 1).act * 2 ^ 24 + (s.tuner 2).act * 2 ^ 48 + s.get F.AER_BIAS_EN 0 * 2 ^ 72
  else if g = 6 then s.get F.SYNC_CFG_OUT_EN 0 + s.get F.LKA_SEL_SEL 0 * 2
  else if g = 2 then b2n (s.loaded 2)
  else b2n (s.domOn 14)

/-- What the pads of a group drive: what they were held at, or their live values. -/
def State.padOut (s : State) (g : Nat) : Nat := if s.held g then Tbl.get s.punty.pads 0 g else s.padLive g

/-- A group is held with the values its pads have. -/
def State.hold (s : State) (g : Nat) : State :=
  if s.held g then s
  else { s.put F.PUNTY_STAT_HELD 0 (s.get F.PUNTY_STAT_HELD 0 ||| 2 ^ g) with
    punty := { s.punty with pads := Tbl.set s.punty.pads 0 g (s.padLive g) } }

/-- A group is held with its output enables at 0 (R356). -/
def State.holdOff (s : State) (g : Nat) : State :=
  { s.put F.PUNTY_STAT_HELD 0 (s.get F.PUNTY_STAT_HELD 0 ||| 2 ^ g) with
    punty := { s.punty with pads := Tbl.set s.punty.pads 0 g 0 } }

/-- A group is released: its pads take their live values, HELD and LOADED clear. -/
def State.release (s : State) (g : Nat) : State :=
  ({ s.put F.PUNTY_STAT_HELD 0 (clearBits (s.get F.PUNTY_STAT_HELD 0) (2 ^ g)) with
    punty := { s.punty with pads := Tbl.erase s.punty.pads g } }).setLoaded g false

/-- The pad groups of a domain. -/
def domGroups (d : Nat) : List Nat := (List.range 8).filter fun g => puntyDom g == d

/-- The pad groups of a domain are held as it goes off. -/
def State.holdDom (s : State) (d : Nat) : State := (domGroups d).foldl (fun t g => t.hold g) s

/-- As a domain powers up, nothing of its groups has been written yet. -/
def State.unloadDom (s : State) (d : Nat) : State :=
  let t := (domGroups d).foldl (fun u g => u.setLoaded g false) s
  let t := { t with punty := { t.punty with
    written := t.punty.written.filter fun c => !(domGroups d).any fun g => (puntyNeeds g).contains c } }
  if d = 14 then t.setLoaded 7 true else t

/-- A register that counts towards LOADED has been written (R337). -/
def State.padWritten (s : State) (c : Nat) : State :=
  let t := { s with punty := { s.punty with written := addOnce s.punty.written c } }
  (List.range 8).foldl (fun u g =>
    if (puntyNeeds g).contains c && (puntyNeeds g).all u.punty.written.contains then u.setLoaded g true else u) t

/-- A write of `PUNTY_RELEASE` (R338). -/
def puntyReleaseWrite (a : Accessor) (w : Word) (s : State) : Except Reason State :=
  .ok ((List.range 8).foldl (fun t g =>
    if !bit w.toNat g || !t.held g then t
    else if t.domOn (puntyDom g) && t.loaded g then t.release g
    else (t.logAccess a 0x01 0x88 (if t.domOn (puntyDom g) then .busy else .power)).raise .aon 0 Ev.puntyEarly) s)

def execPuntyRelease (a : Accessor) (w : Word) (s : State) : Host.Outcome State Fault Refusal :=
  .next (s.regWrite a .aon 0 0x88 (puntyReleaseWrite a w))

end Sys2Proof.Machine
end

