-- ==== Sys2Proof/Machine/Boot.lean ====
section
/-! DEFINITION. The OTP as it is read (R378), and the firmware loader (R369 to R374): policy, images, the mailbox. -/

namespace Sys2Proof.Machine

/-! ### OTP words (R378) -/

/-- Whether OTP_WRITE may program the word at word address `w`. -/
def otpWritable (w : Nat) : Bool :=
  (decide (0x400 ≤ w) && decide (w < 0x800)) || (decide (0x830 ≤ w) && decide (w < 0x834))

/-- The word at word address `w`, corrected and remapped. -/
def State.otpWord (s : State) (w : Nat) : Nat :=
  if otpWritable w then Tbl.get s.otp 0 w else Config.otpFactory w % 2 ^ 32

/-- `4 * k` bytes of the OTP from a word address on. -/
def State.otpBytes (s : State) (w k : Nat) : List Byte :=
  ((List.range k).map fun i => leBytes 4 (s.otpWord (w + i))).flatten

/-- The policy of BOOT_CFG (R369). -/
def State.bootPolicy (s : State) : Nat := s.otpWord 0x831 % 4

/-- The number of bits set in a word. -/
def popCount (w : Nat) : Nat := ((List.range 32).filter fun i => bit w i).length

/-- SVN_FLOOR, by the thermometer (R369). -/
def State.svnFloor (s : State) : Nat := popCount (s.otpWord 0x832) + popCount (s.otpWord 0x833)

/-- Whether KEY_k is revoked. -/
def State.keyRevoked (s : State) (k : Nat) : Bool := bit (s.otpWord 0x830) k

/-! ### The loader (R369 to R374, R380) -/

/-- The loader moves to a state; WAIT_HOST and HALTED are attention sources (R485). -/
def State.bootTo (s : State) (x : Nat) : State :=
  let t := s.put F.BOOT_STAT_STATE 0 x
  if x = 2 ∨ x = 7 then t.attnMark 8 else t

/-- No candidate remains (R372). -/
def State.noImage (s : State) : State := s.bootTo (if s.bootPolicy = 1 then 7 else 2)

/-- The boot ROM starts to look for an image. To read flash it configures its controller, which sets LOADED of PG_2, and
PG_2 is released (R337, R370). -/
def State.bootRom (s : State) : State :=
  let t := { s with start := { s.start with tried := [], image := none } }
  if 2 ≤ t.bootPolicy then t.bootTo 2 else ((t.setLoaded 2 true).release 2).bootTo 1

/-- An image starts: it is the running image until the next start (R371, R380). -/
def State.imageStart (s : State) (src ver seq : Nat) : State :=
  let t := s.puts 0 [(F.BOOT_STAT_SOURCE, src), (F.FW_VER_VER, ver), (F.FW_SEQ_SEQ, seq),
    (F.GLOBAL_STAT_FW_IMAGE, if src = 1 then 1 else 0)]
  { t.bootTo 5 with start := { t.start with image := some (src, ver, seq) } }

/-- After a wake STAGE reads 2; the retained firmware is resumed, or the boot ROM loads as at start-up (R334, R349). -/
def State.bootWake (s : State) : State :=
  let t := s.put F.GLOBAL_STAT_STAGE 0 2
  let load := (t.put F.AON_STAT_RESUMED 0 0).bootRom
  match s.start.image with
  | some (src, ver, seq) =>
    if s.on F.SLEEP_CFG_CTRL_RET 0 then (t.put F.AON_STAT_RESUMED 0 1).imageStart src ver seq else load
  | none => load

/-- Control memory as PD_1 goes off (R326). -/
def State.ctrlOff (s : State) : State :=
  if s.on F.SLEEP_CFG_CTRL_RET 0 then s else { s with start := { s.start with image := none } }

/-! ### Images (R370 to R372) -/

/-- The number at `k` bytes from offset `i` of a header, little-endian. -/
def hdrNum (h : List Byte) (i k : Nat) : Nat := ofLe ((h.drop i).take k)

/-- Check 1: MAGIC and FORMAT. -/
def hdrOk (h : List Byte) : Bool := hdrNum h 0 4 == 0x57465645 && hdrNum h 4 2 == 1

/-- The outcome of the checks in their order: 0, or the ERR code. `total` is the byte count of an image that the host loads;
`keyOk`, `sigOk` and `hashOk` say what the key hash, the signature and the payload hash give. -/
def State.imageErr (s : State) (h : List Byte) (total : Option Nat) (keyOk sigOk hashOk : Bool) : Nat :=
  let len := hdrNum h 8 4
  let key := hdrNum h 6 2
  let sized := match total with | some n => n == 512 + len | none => true
  if !hdrOk h then 2
  else if len < 4 ∨ 786432 < len ∨ len % 4 ≠ 0 ∨ !sized then 3
  else if 3 < key ∨ s.keyRevoked key ∨ !keyOk then 4
  else if !sigOk then 5
  else if !hashOk then 6
  else if hdrNum h 16 4 < s.svnFloor then 7
  else 0

/-- The flash images that pass check 1 and have not been tried: A unless B has the higher SEQ. -/
def nextImage (flash : List (List Byte)) (tried : List Nat) : Option (Nat × List Byte) :=
  let cand (i : Nat) : Option (Nat × List Byte) :=
    match flash[i]? with
    | some h => if hdrOk h && !tried.contains i then some (i, h) else none
    | none => none
  match cand 0, cand 1 with
  | some a, some b => if hdrNum a.2 12 4 < hdrNum b.2 12 4 then some b else some a
  | some a, none => some a
  | none, x => x

/-- The header of a host image, in the first bytes of crucible memory. A byte that is not defined reads a free value. -/
def State.hostHeader (s : State) : List Byte :=
  (List.range 512).map fun i => (s.cbRead i).getD (BitVec.ofNat 8 (Config.freeWord (s.freeCount + i)))

/-- Authentication of a flash image ends. -/
def State.flashDone (s : State) (flash : List (List Byte)) (keyOk sigOk hashOk : Bool) : State :=
  match nextImage flash s.start.tried with
  | none =>
    (if s.start.tried.isEmpty then s.put F.BOOT_STAT_ERR 0 (if flash.isEmpty then 1 else 2) else s).noImage
  | some (i, h) =>
    let t := { s.put F.BOOT_STAT_SOURCE 0 i with start := { s.start with tried := i :: s.start.tried } }
    let e := s.imageErr h none keyOk sigOk hashOk
    if e = 0 then t.imageStart i (hdrNum h 20 4) (hdrNum h 12 4)
    else
      let u := t.put F.BOOT_STAT_ERR 0 e
      if (nextImage flash u.start.tried).isSome then u else u.noImage

/-- Authentication of the host's image ends. -/
def State.hostDone (s : State) (keyOk sigOk hashOk : Bool) : State :=
  let h := s.hostHeader
  let e := s.imageErr h (some (s.get F.MBX_LEN_LEN 0)) keyOk sigOk hashOk
  let t := { s with freeCount := s.freeCount + 512 }
  if e = 0 then t.imageStart 2 (hdrNum h 20 4) (hdrNum h 12 4) else (t.put F.BOOT_STAT_ERR 0 e).bootTo 2

/-- An image finishes authentication and is started or rejected. `flash` holds the headers of images A and B as flash gives
them, none where no flash answers. -/
def execImageAuthDone (flash : List (List Byte)) (keyOk sigOk hashOk : Bool) (s : State) :
    Host.Outcome State Fault Refusal :=
  let x := s.get F.BOOT_STAT_STATE 0
  if x = 1 then .next (s.flashDone flash keyOk sigOk hashOk)
  else if x = 3 ∨ x = 4 then .next (s.hostDone keyOk sigOk hashOk)
  else .next s

/-- The running image has not reached stage 3 within 2 s: the gaffer and control memory are reset, and the next candidate
starts, or the host is waited for (R372, R374). -/
def execBootWatchdog (s : State) : Host.Outcome State Fault Refusal :=
  if s.get F.BOOT_STAT_STATE 0 = 5 then
    let t := { s.puts 0 [(F.BOOT_STAT_ERR, 9), (F.FW_VER_VER, 0), (F.FW_SEQ_SEQ, 0)] with
      start := { s.start with image := none } }
    if s.get F.BOOT_STAT_SOURCE 0 = 2 then .next (t.bootTo 2)
    else .next (((t.put F.BOOT_STAT_FALLBACK 0 1).attnMark 8).bootTo 1)
  else .next s

/-! ### The mailbox (R373, R374, R380) -/

/-- ABORT, or an FLR of PF_0, while an image is loaded or authenticated. -/
def State.bootAbort (s : State) : State :=
  if s.get F.BOOT_STAT_STATE 0 = 3 ∨ s.get F.BOOT_STAT_STATE 0 = 4 then (s.put F.BOOT_STAT_ERR 0 10).bootTo 2 else s

/-- From GO until the state leaves AUTH, writes to CB_0 through W2 are discarded. -/
def State.cb0Locked (s : State) : Bool := s.get F.BOOT_STAT_STATE 0 == 3 || s.get F.BOOT_STAT_STATE 0 == 4

/-- A write of `MBX_CMD`. -/
def mbxCmdWrite (a : Accessor) (w : Word) (s : State) : Except Reason State :=
  let go := bit w.toNat 0
  let ab := bit w.toNat 1
  if !isManager a then .error .owner
  else if go && ab then .error .range
  else if ab then .ok s.bootAbort
  else if go then
    if s.get F.BOOT_STAT_STATE 0 ≠ 2 then .error .busy
    else if s.get F.MBX_LEN_LEN 0 < 516 then .error .range
    else .ok ((s.put F.BOOT_STAT_SOURCE 0 2).bootTo 3)
  else .ok s

/-- A write of `MBX_LEN`. -/
def mbxLenWrite (a : Accessor) (w : Word) (s : State) : Except Reason State :=
  let n := bits w.toNat 19 0
  if !isManager a then .error .owner
  else if n < 516 ∨ 786944 < n ∨ n % 4 ≠ 0 then .error .range
  else .ok (s.put F.MBX_LEN_LEN 0 n)

def execMbxGo (a : Accessor) (w : Word) (s : State) : Host.Outcome State Fault Refusal :=
  .next (s.regWrite a .global (accIdx a) 0x114 (mbxCmdWrite a w))

def execMbxAbort (a : Accessor) (w : Word) (s : State) : Host.Outcome State Fault Refusal :=
  .next (s.regWrite a .global (accIdx a) 0x114 (mbxCmdWrite a w))

end Sys2Proof.Machine
end

