-- ==== Sys2Proof/Machine/Power.lean ====
section
/-! DEFINITION. The domain controllers (R321 to R323), crucible banks (R519 to R521), the device power states, sleep and
wake (R325 to R335), and the AON page (R349). -/

namespace Sys2Proof.Machine

/-! ### Crucible banks (R13, R519 to R521) -/

/-- The banks as PD_13 goes off. -/
def State.banksOff (s : State) : State :=
  (List.range 8).foldl (fun t k =>
    let h := t.bank k
    if h.state = 0 then
      if bit (t.get F.SLEEP_CFG_CB_RET 0) k then t.setBank k { h with state := 1, moving := none }
      else { t.setBank k { state := 2 } with crucible := Memory.lose t.crucible k }
    else t.setBank k { h with moving := none }) s

/-- The banks as PD_13 comes on. -/
def State.banksOn (s : State) : State :=
  (List.range 8).foldl (fun t k => if (t.bank k).state = 1 then t.setBank k { t.bank k with state := 0 } else t) s

/-- Every bank is marked ON with undefined contents. -/
def State.banksFresh (s : State) : State := { s with banks := [], crucible := [] }

/-- The state that `CB_STATE` reads for a bank. -/
def State.bankShown (s : State) (k : Nat) : Nat := (s.bank k).moving.getD (s.bank k).state

/-- Whether a pot of the bank is in use. -/
def State.bankUsed (s : State) (k : Nat) : Bool := s.pots.any fun p => p.1 / 128 == k && p.2.isSome

/-- A write of `CB_STATE`. -/
def cbStateWrite (w : Word) (s : State) : Except Reason State :=
  let want (k : Nat) : Nat := bits w.toNat (2 * k + 1) (2 * k)
  let changed := (List.range 8).filter fun k => want k != s.bankShown k
  if (List.range 8).any fun k => want k == 3 then .error .range
  else if changed.any fun k => (s.bank k).moving.isSome then .error .busy
  else if changed.any fun k => want k != 0 && s.bankUsed k then .error .range
  else .ok (changed.foldl (fun t k => t.setBank k { t.bank k with moving := some (want k) }) s)

def execCbStateWrite (a : Accessor) (w : Word) (s : State) : Host.Outcome State Fault Refusal :=
  .next (s.regWrite a .crucible 0 0x40 (cbStateWrite w))

/-- A requested bank transition ends. -/
def execCbDone (k : Fin 8) (s : State) : Host.Outcome State Fault Refusal :=
  match (s.bank k.val).moving with
  | none => .next s
  | some x =>
    let t := s.setBank k.val (if x = 2 then { state := 2 } else { s.bank k.val with state := x, moving := none })
    let t := if x = 2 then { t with crucible := Memory.lose t.crucible k.val } else t
    .next (t.raise .crucible 0 Ev.cbDone)

/-! ### Domain controllers (R321 to R323) -/

/-- The prerequisites of a domain are on (R21); a domain that goes off does not count. -/
def State.prereqOk (s : State) (d : Nat) : Bool :=
  let up (x : Nat) : Bool := s.domOn x && (match (s.dom x).run with | some (false, _) => false | _ => true)
  if d = 2 then up 1 && (up 3 || up 8)
  else if d = 12 then up 11 && up 13
  else if d = 14 then up 1 && up 13
  else up 1

/-- A powered domain would lose a prerequisite if d went off. -/
def State.neededBy (s : State) (d : Nat) : Bool :=
  let t := s.setDom d { s.dom d with run := some (false, .device) }
  (List.range 16).any fun x => x != d && x != 0 && x != 1 &&
    (s.domOn x || (match (s.dom x).run with | some (true, _) => true | _ => false)) && !t.prereqOk x

/-- Whether an instance or block on a page of the domain has ENABLE set. -/
def State.domEnabled (s : State) (d : Nat) : Bool :=
  if 3 ≤ d ∧ d ≤ 10 then (s.domWindows d).any fun n => s.enabled .fe n
  else (domBlocks d).any fun b => (List.range (blkCount b)).any fun n => s.enabled b n

/-- A power-off is refused by R323. -/
def State.offRefused (s : State) (d : Nat) : Bool :=
  s.domEnabled d ||
  (d == 2 && (s.on F.GLOBAL_STAT_FG_ACTIVE 0 || (List.range 32).any fun e => (s.fol e).scout)) ||
  (decide (3 ≤ d) && decide (d ≤ 10) && (s.domWindows d).any fun n =>
    s.get F.FE_CTRL_STATE n != 0 || s.get F.FE_STAT_STATE n != 0) ||
  (d == 13 && s.pots.any fun p => p.2.isSome)

/-- A device power-state transition runs (R322). -/
def State.devMoves (s : State) : Bool :=
  match s.mode with
  | .entering _ => true | .committed _ => true | .waking _ => true | .reset => true | .off => true
  | _ => false

/-- The controller starts a transition; a power-off first holds the pads (R336). -/
def State.domStart (s : State) (d : Nat) (on : Bool) (o : Origin) : State :=
  let t := s.setDom d { s.dom d with run := some (on, o) }
  if on then t else t.holdDom d

/-- One request to a controller (R322). -/
def State.domRequest (s : State) (d : Nat) (on : Bool) (o : Origin) : Except Reason State :=
  let h := s.dom d
  if s.devMoves then .error .busy else
  match h.run with
  | some (cur, _) =>
    if cur = on then .ok (s.setDom d { h with pend := none })
    else if !on && s.offRefused d then .error .range
    else .ok (s.setDom d { h with pend := some (on, o) })
  | none =>
    if h.on = on then .ok s
    else if on && !s.prereqOk d then .error .range
    else if !on && (s.neededBy d || s.offRefused d) then .error .range
    else .ok (s.domStart d on o)

/-- A request of `PD_REQ` still waits for its transition to end. -/
def State.pdWaits (s : State) : Bool :=
  s.doms.any fun p => (match p.2.run with | some (_, .pdReq) => true | _ => false) ||
    (match p.2.pend with | some (_, .pdReq) => true | _ => false)

/-- Makes the requests of `PD_REQ` that can be made now. -/
def State.pdRun (s : State) : List (Accessor × Nat × Bool) → State
  | [] => { s with pdQueue := [] }
  | (a, d, on) :: r =>
    if s.pdWaits then { s with pdQueue := (a, d, on) :: r }
    else match s.domRequest d on .pdReq with
      | .ok t => State.pdRun t r
      | .error e => State.pdRun (s.discard a .aon 0 0x80 e) r

def State.pdNext (s : State) : State := s.pdRun s.pdQueue

/-- A write of `PD_REQ`. -/
def pdReqWrite (a : Accessor) (w : Word) (s : State) : Except Reason State :=
  let v := w.toNat
  if bit v 0 || bit v 1 || bit v 16 || bit v 17 || (bits v 15 0 &&& bits v 31 16) != 0 then .error .range
  else if s.devMoves then .error .busy
  else
    let ons := ((List.range 16).filter fun d => bit v d).map fun d => (a, d, true)
    let offs := ((List.range 16).reverse.filter fun d => bit v (16 + d)).map fun d => (a, d, false)
    .ok (s.pdRun (s.pdQueue ++ ons ++ offs))

def execPdReq (a : Accessor) (w : Word) (s : State) : Host.Outcome State Fault Refusal :=
  .next (s.regWrite a .aon 0 0x80 (pdReqWrite a w))

/-- The page whose POWER field requests a domain (R321). -/
def State.domPage (s : State) (d : Nat) : Option Nat :=
  if 3 ≤ d ∧ d ≤ 10 then ((s.domWindows d).map (0x08 + ·)).head?
  else if d = 11 then some 0x10 else if d = 12 then some 0x58 else if d = 13 then some 0x80
  else if d = 14 then some 0x70 else if d = 15 then some 0x60 else none

/-- Raises an event in the header of a page, in the view of PF_0 where accessors have their own. -/
def State.raisePage (s : State) (p e : Nat) : State :=
  match pageMap p with
  | none => s
  | some m => if perView m.blk then s.raiseViews m.blk e [0, 4] else s.raise m.blk m.first e

/-- A domain is on: its pages start as after a reset, and their epochs increment unless the increment of a device reset or
a wake stands for it (R323). -/
def State.domUp (s : State) (d : Nat) : State :=
  let t := (s.setDom d { s.dom d with on := true, exempt := false }).freshRegs d
  let t := if (s.dom d).exempt then t else t.bumpList (t.domRes d)
  let t := t.unloadDom d
  if d = 13 then t.banksOn else if 3 ≤ d ∧ d ≤ 10 then t.linesRun else t

/-- A domain is off. -/
def State.domDown (s : State) (d : Nat) : State :=
  let t := ((s.setDom d { s.dom d with on := false }).dropHidden d).fadeRegs d
  if d = 13 then t.banksOff else if 3 ≤ d ∧ d ≤ 10 then t.linesRun else t

/-- A pending request starts, or is dropped with CFG_ERR on the page that carried it. -/
def State.pendStart (s : State) (d : Nat) (on : Bool) (o : Origin) : State :=
  let ok := if on then s.prereqOk d else !s.neededBy d
  if ok then s.domStart d on o
  else match o with
    | .page p => s.raisePage p Ev.cfgErr
    | .pdReq => s.raise .aon 0 Ev.cfgErr
    | .device => s

/-- The next domain of a wake or a start-up after d: PD_13, then PD_14 if it is wanted (R332, R358). -/
def State.upNext (s : State) (d : Nat) : State :=
  let host := match s.mode with | .reset => true | .waking _ => s.on F.SLEEP_CFG_HOST_UP 0 | _ => false
  let chain := match s.mode with | .reset => true | .waking _ => true | _ => false
  if !chain then s
  else if d = 1 then
    let t := s.pllStart
    let t := if s.mode = .reset then t else t.bootWake
    t.domStart 13 true .device
  else if d = 13 && host then s.domStart 14 true .device
  else s

/-- A transition ends (R322): a pending request is then checked and started. -/
def State.powerDone (s : State) (d : Nat) (on : Bool) (o : Origin) : State :=
  let h := s.dom d
  let t := s.setDom d { h with run := none, pend := none }
  let t := if on then t.domUp d else t.domDown d
  let t := match t.domPage d with | some p => t.raisePage p Ev.powerDone | none => t
  let t := if o = .pdReq then t.raise .aon 0 Ev.pdDone else t
  let t := match h.pend with | some (x, po) => t.pendStart d x po | none => t
  (if on then t.upNext d else t).pdNext

/-! ### Everything off (R326, R328, R356) -/

/-- Every domain but PD_0 goes off, and what they hold is lost; `held`: the pads keep their values, else their output enables
go to 0. The banks are left to the caller. -/
def State.allOff (s : State) (held : Bool) : State :=
  let t := (List.range 8).foldl (fun u g => if held then u.hold g else u.holdOff g) s
  let t := [15, 14, 12, 11, 2, 3, 4, 5, 6, 7, 8, 9, 10, 13, 1].foldl (fun u d => u.dropHidden d) t
  let t := ([15, 14, 12, 11, 13].foldl (fun u d => (domBlocks d).foldl (fun v b => v.dropBlk b) u) t).dropBlk .fe
  let t := t.dropCtrl
  { t with doms := [], pdQueue := [], pots := [], groups := [], fes := [], hws := [] }

/-- The first power-on of every domain from now on increments no epoch (R323). -/
def State.exemptAll (s : State) : State :=
  { s with doms := (List.range 15).map fun i => (i + 1, { s.dom (i + 1) with exempt := true }) }

/-! ### Entering SLEEP or LEHR (R327 to R329) -/

/-- Whether a watch entry is enabled, and with ACT_WAKE. -/
def State.watchOn (s : State) (wake : Bool) : Bool :=
  (List.range 16).any fun e => s.getE F.LW_CFG_EN 0 e == 1 && (!wake || s.getE F.LW_CFG_ACT_WAKE 0 e == 1)

/-- A request to enter a power state is refused (R327). -/
def State.sleepRefused (s : State) (lehr : Bool) : Bool :=
  let en := s.get F.WAKE_EN_EN 0
  let sources := clearBits en (2 ^ 4) != 0 || (bit en 4 && lehr && s.watchOn true)
  !sources || (lehr && (!s.watchOn false || s.on F.GLOBAL_STAT_FG_ACTIVE 0)) || s.mode != .awake

/-- A request to enter SLEEP or LEHR. -/
def sleepEnter (target : Nat) (s : State) : Except Reason State :=
  if target = 0 ∨ 3 ≤ target then .error .range
  else if s.sleepRefused (target == 2) then .error .range
  else .ok { s with mode := .entering (target == 2), wakeHid := {} }

/-- A write of `PWR_CMD`. -/
def pwrCmdWrite (w : Word) (s : State) : Except Reason State := sleepEnter (bits w.toNat 1 0) s

def execSleepRequest (a : Accessor) (w : Word) (s : State) : Host.Outcome State Fault Refusal :=
  .next (s.regWrite a .aon 0 0x44 (pwrCmdWrite w))

/-! ### Wake (R331 to R334) -/

/-- The source that WAKE_LAST names among those that fired: SUPPLY, OVERTEMP, LEHR, HOST, PIN, MGMT, TIMER. -/
def firstSource (srcs : Nat) : Nat := (([7, 6, 5, 4, 3, 2, 1].find? fun c => bit srcs (c - 1))).getD 0

/-- WAKE_LAST takes the wake or the abort (R333). -/
def State.wakeRecord (s : State) (aborted : Bool) : State :=
  let h := s.wakeHid
  let src := firstSource h.srcs
  ((s.puts 0 [(F.WAKE_LAST_0_SOURCE, src), (F.WAKE_LAST_0_ENTRY, if src = 5 then h.entry else 0),
    (F.WAKE_LAST_0_SLEEP_ABORTED, b2n aborted), (F.WAKE_LAST_1_TS, h.when_ % 2 ^ 32),
    (F.WAKE_LAST_2_TS, h.when_ / 2 ^ 32)]).count F.WAKE_LAST_0_COUNT 0 1)

/-- The rest of a cycle is abandoned: PD_2 and the front-ends go off, PD_1 stays for the wake (R345). -/
def State.cycleAbandon (s : State) : State :=
  if s.on F.LEHR_STAT_IN_CYCLE 0 then
    let t := [2, 3, 8].foldl (fun u d => if u.domOn d then u.domDown d else u) s
    { t.puts 0 [(F.LEHR_STAT_IN_CYCLE, 0), (F.LEHR_STAT_ENTRY, 0)] with lehr := { t.lehr with dwell := none } }
  else s

/-- A wake starts out of SLEEP or LEHR: PD_1 comes up, or goes on where it is up already (R332). -/
def State.wakeStart (s : State) (lehr : Bool) : State :=
  let t := s.cycleAbandon
  let t := { t.puts 0 [(F.AON_STAT_SERVE, 0), (F.LEHR_STAT_RUNNING, 0)] with
    mode := .waking lehr, lehr := { t.lehr with due := false } }
  if t.domOn 1 then
    let u := t.bootWake
    (if u.clk.relock.isSome || u.pllLocked then u else u.pllStart).exemptAll.domStart 13 true .device
  else t.exemptAll.domStart 1 true .device

/-- Sources fire together: bit c − 1 for code c. Those not enabled, and all while the part is awake, do nothing. -/
def State.wakeFire (s : State) (srcs entry : Nat) : State :=
  let f := srcs &&& s.get F.WAKE_EN_EN 0
  let watched := s.mode != .off && s.mode != .reset && s.mode != .awake
  if f = 0 || !watched then s
  else
    let t := s.put F.WAKE_PEND_PEND 0 (s.get F.WAKE_PEND_PEND 0 ||| f)
    let h := t.wakeHid
    let t := if h.srcs = 0 then { t with wakeHid := { srcs := f, when_ := t.aonTime.toNat, entry := entry } }
      else if h.when_ = t.aonTime.toNat then
        { t with wakeHid := { h with srcs := h.srcs ||| f, entry := if bit f 4 then entry else h.entry } }
      else t
    match s.mode with
    | .entering _ => ({ t.wakeRecord true with mode := .awake, wakeHid := {} }).raise .aon 0 Ev.sleepAbort
    | .sleep => t.wakeStart false
    | .lehr => t.wakeStart true
    | _ => t

/-- An enabled source fires on a pin: WAKE_IN_N, or PERST_N or electrical idle on PE_RX_0 while PD_14 is off. -/
def execWakeEvent (host : Bool) (s : State) : Host.Outcome State Fault Refusal :=
  if host && s.domOn 14 then .next s else .next (s.wakeFire (if host then 2 ^ 3 else 2 ^ 2) 0)

/-- The AON timer reaches `WAKE_AT`. -/
def execAonTimerMatch (s : State) : Host.Outcome State Fault Refusal :=
  if s.aonTime.toNat = s.get F.WAKE_AT_LO_AT 0 + s.get F.WAKE_AT_HI_AT 0 * 2 ^ 32 then .next (s.wakeFire (2 ^ 0) 0)
  else .next s

/-- The sample of every second: the junction temperature in 0.5 °C and VIO_AON in 10 mV (R331, R350). -/
def execAonSample (temp : Int) (vio : Nat) (s : State) : Host.Outcome State Fault Refusal :=
  if s.mode = .off then .next s
  else
    let t := s.puts 0 [(F.AON_OT_TEMP, satS 16 temp), (F.AON_SUPPLY_VIO_AON, min vio 65535)]
    let hot := decide (2 * (s.get F.AON_OT_THRESH 0 : Int) ≤ temp)
    let low := decide (vio < s.get F.AON_SUPPLY_WARN 0)
    let t := if hot then t.raise .aon 0 Ev.overtemp else t
    let t := if low then t.raise .aon 0 Ev.supplyWarn else t
    .next (t.wakeFire (b2n hot * 2 ^ 5 + b2n low * 2 ^ 6) 0)

/-- A wake completes (R334): the system PLL is locked and the domains of the wake are up. -/
def execWake (s : State) : Host.Outcome State Fault Refusal :=
  match s.mode with
  | .waking _ =>
    if s.pllLocked && s.domOn 13 && (!s.on F.SLEEP_CFG_HOST_UP 0 || s.domOn 14) then
      let t := { s.bumpAll with mode := .awake }
      let t := t.wakeRecord false
      .next ((({ t with wakeHid := {} }).raise .aon 0 Ev.wake).refPending)
    else .next s
  | _ => .next s

/-! ### Commit and declaration (R328, R329) -/

/-- The commit point: `pin` says that WAKE_IN_N is low. Without a source asserted, rings, front-ends and ports stop,
follower entries, comparisons, a self-check and first gather end, pads are held, the domains go off. -/
def execSleepCommit (pin : Bool) (s : State) : Host.Outcome State Fault Refusal :=
  match s.mode with
  | .entering lehr =>
    let u := if pin then s.wakeFire (2 ^ 2) 0 else s
    if u.mode = .awake then .next u
    else
      let t := (s.folEndAll none).refAbort.ctrlOff
      let t := if t.on F.GLOBAL_STAT_FG_ACTIVE 0 then t.raise .otp 0 Ev.fgEnd else t
      .next { (t.allOff true).banksOff with mode := .committed lehr }
  | _ => .next s

/-- Ticks of CK_AON in a second. -/
def aonPerSecond : Nat := 32768

/-- The AON timer value of the next lehr cycle. -/
def State.putLehrNext (s : State) (t : Nat) : State :=
  s.puts 0 [(F.LEHR_NEXT_LO_AT, t % 2 ^ 32), (F.LEHR_NEXT_HI_AT, t / 2 ^ 32)]

def State.lehrNext (s : State) : Nat := s.get F.LEHR_NEXT_LO_AT 0 + s.get F.LEHR_NEXT_HI_AT 0 * 2 ^ 32

/-- SLEEP or LEHR is declared; a source latched since the commit point starts its wake. The first cycle starts one period
later, or at once (R339). -/
def execSleepDeclared (s : State) : Host.Outcome State Fault Refusal :=
  match s.mode with
  | .committed lehr =>
    let t := { s with mode := if lehr then .lehr else .sleep }
    let t := if lehr then
        (t.put F.LEHR_STAT_RUNNING 0 1).putLehrNext (t.aonTime.toNat +
          (if t.on F.LEHR_CFG_FIRST_NOW 0 then 0 else t.get F.LEHR_CFG_PERIOD 0 * aonPerSecond))
      else t
    .next (if t.wakeHid.srcs ≠ 0 then t.wakeStart lehr else t)
  | _ => .next s

/-! ### The AON page (R349) -/

/-- `DEV_STATE` (R325). -/
def State.devState (s : State) : Nat :=
  match s.mode with
  | .off => 0 | .reset => 6 | .sleep => 1 | .lehr => 2 | .entering _ => 5 | .committed _ => 5
  | .waking l => if l then 2 else 1
  | .awake => if [2, 3, 4, 5, 6, 7, 8, 9, 10, 11, 12, 15].any fun d => s.domOn d then 4 else 3

/-- A write of `AON_OT`: THRESH from 60 °C to the maximum of the grade. -/
def aonOtWrite (major : Nat) (w : Word) (s : State) : Except Reason State :=
  let v := bits w.toNat 7 0
  if v < 60 ∨ (if Config.gradeX then 125 else 110) < v then .error .range else plainWrite .aon 0 0x70 major w s

/-- A write of a block register of the AON page. -/
def aonWrite (a : Accessor) (off major : Nat) (w : Word) (s : State) : Except Reason State :=
  if off = 0x44 then pwrCmdWrite w s
  else if off = 0x70 then aonOtWrite major w s
  else if off = 0x80 then pdReqWrite a w s
  else if off = 0x88 then puntyReleaseWrite a w s
  else if off = 0x8C then onOk (plainWrite .aon 0 off major w s) fun t => .ok (t.padWritten 8)
  else plainWrite .aon 0 off major w s

/-- A reset of the AON page: RW fields and events; not WAKE_LAST, the AON timer, punty state or domain state. -/
def State.aonReset (s : State) : State :=
  s.resetKeep .aon 0 [F.WAKE_LAST_0_SOURCE, F.WAKE_LAST_0_ENTRY, F.WAKE_LAST_0_SLEEP_ABORTED, F.WAKE_LAST_0_COUNT,
    F.WAKE_LAST_1_TS, F.WAKE_LAST_2_TS, F.PUNTY_STAT_HELD, F.PUNTY_STAT_LOADED, F.AON_STAT_SERVE, F.AON_STAT_RESUMED,
    F.AON_OT_TEMP, F.AON_SUPPLY_VIO_AON, F.WAKE_PEND_PEND, F.SERVE_COUNT_COUNT]

end Sys2Proof.Machine
end

