-- ==== Sys2Proof/Machine/Lehr.lean ====
section
/-! DEFINITION. The lehr sequencer (R339 to R347), the match conditions of watch entries (R342), and serve visits (R335).
-/

namespace Sys2Proof.Machine

/-! ### Match conditions (R342) -/

/-- Whether a unit matches a rule with its parameters; TONE and CARRIER need more than one unit says and are decided by
their callers. -/
def WatchUnit.hits (u : WatchUnit) (rule p0 p1 : Nat) : Bool :=
  match u with
  | .rds pi statA ty verB b statB =>
    rule == 3 && decide (statA ≤ 1) && pi == bits p0 15 0 &&
      (bit p0 21 || (ty == bits p0 19 16 && verB == bit p0 20)) && decide (statB ≤ 1) &&
      (b &&& bits p1 15 0) == (bits p1 31 16 &&& bits p1 15 0)
  | .fib ok alarm eid al =>
    rule == 4 && ok && alarm && (bit p0 16 || eid == bits p0 15 0) && (!bit p0 17 || al)
  | .sdc ok service =>
    rule == 5 && ok && (match service with | some x => bit p0 24 || x == bits p0 23 0 | none => false)
  | .tone _ => false
  | .carrier _ _ => false

/-- Whether a block of 10 ms holds the tone. -/
def holdsTone (p1 : Nat) (level : Int) : Bool := decide (sgn 16 (bits p1 15 0) ≤ level)

/-- The ms of consecutive blocks that hold the tone. -/
def toneRun (p1 run : Nat) (level : Int) : Nat := if holdsTone p1 level then run + 10 else 0

/-- CARRIER at a frequency: presence, or absence with ABSENT, at a level of at least THRESH. -/
def carrierMatch (p0 p1 : Nat) (present : Bool) (level : Int) : Bool :=
  (present != bit p1 0) && decide (sgn 16 (bits p0 15 0) ≤ level)

/-- The parameters of TONE are in range (R351). -/
def toneParamsOk (rule p0 p1 : Nat) : Bool :=
  rule != 6 || (decide (50 ≤ bits p0 13 0) && decide (bits p0 13 0 ≤ 15000) && decide (10 ≤ bits p1 31 16))

/-! ### Watch entries (R341) -/

/-- The front-end of a mode: FE_0 for FM, DAB and DRM+, FE_5 for AM and DRM30. -/
def watchFe (mode : Nat) : Nat := if mode = 1 ∨ mode = 3 then 5 else 0

/-- Whether a rule is allowed for a mode. -/
def ruleAllowed (rule mode : Nat) : Bool :=
  if rule = 3 then mode == 0 else if rule = 4 then mode == 2 else if rule = 5 then mode == 3 || mode == 4
  else if rule = 6 then mode == 0 || mode == 1 else decide (rule ≤ 2)

/-- The entry as its registers stand. -/
def State.watchOf (s : State) (e : Nat) : Watch :=
  let afs := [s.getE F.LW_AF0_KHZ 0 e, s.getE F.LW_AF1_KHZ 0 e, s.getE F.LW_AF2_KHZ 0 e]
  { mode := s.getE F.LW_CFG_MODE 0 e, rule := s.getE F.LW_CFG_RULE 0 e, input := s.getE F.LW_CFG_INPUT 0 e,
    n := s.getE F.LW_CFG_N 0 e, m := s.getE F.LW_CFG_M 0 e, wake := s.getE F.LW_CFG_ACT_WAKE 0 e == 1,
    alert := s.getE F.LW_CFG_ACT_ALERT 0 e == 1, log := s.getE F.LW_CFG_ACT_LOG 0 e == 1,
    freqs := s.getE F.LW_FREQ_KHZ 0 e :: afs.take (s.getE F.LW_CFG_AF_COUNT 0 e),
    p0 := s.getE F.LW_P0_P0 0 e, p1 := s.getE F.LW_P1_P1 0 e }

/-- The checks of an entry that is enabled (R341). -/
def Watch.ok (x : Watch) (dwell : Nat) : Bool :=
  let n := watchFe x.mode
  decide (x.mode ≤ 4) && decide (x.rule ≤ 6) && decide (x.input ≤ (if n = 0 then 1 else 2)) &&
    x.freqs.all (scoutRange n) && ruleAllowed x.rule x.mode &&
    decide (1 ≤ x.n) && decide (1 ≤ x.m) && decide (x.n ≤ x.m) && decide (x.m ≤ 8) && dwell != 0 &&
    toneParamsOk x.rule x.p0 x.p1

/-- A write of register `reg` of entry e: the check when it is enabled, and the history clears. -/
def watchWrite (e reg major : Nat) (w : Word) (s : State) : Except Reason State :=
  onOk (plainWrite .lehr 0 (0x100 + 0x20 * e + 4 * reg) major w s) fun t =>
    if reg = 0 ∧ t.getE F.LW_CFG_EN 0 e = 1 ∧ !(t.watchOf e).ok (t.getE F.LW_FREQ_DWELL 0 e) then .error .range
    else .ok (t.putE F.LW_STAT_HISTORY 0 e 0)

def execWatchEntryWrite (a : Accessor) (e : Fin 16) (reg : Fin 8) (w : Word) (s : State) :
    Host.Outcome State Fault Refusal :=
  .next (s.regWrite a .lehr 0 (0x100 + 0x20 * e.val + 4 * reg.val) (watchWrite e.val reg.val (s.major a 0x5C) w))

/-! ### Cycles (R339) -/

/-- A cycle starts: PD_1 comes up for the system PLL, unless a serve visit or a wake has it up already. -/
def State.cycleStart (s : State) : State :=
  let t := (s.put F.LEHR_STAT_IN_CYCLE 0 1).count F.LEHR_STAT_CYCLES 0 1
  let t := { t with lehr := { start := t.aonTime.toNat } }
  (if t.domOn 1 then t else t.domUp 1).pllStart

/-- The period expires. -/
def execLehrCycleStart (s : State) : Host.Outcome State Fault Refusal :=
  if s.mode = .lehr then
    let t := s.putLehrNext (s.lehrNext + s.get F.LEHR_CFG_PERIOD 0 * aonPerSecond)
    if s.on F.LEHR_STAT_IN_CYCLE 0 then .next (t.raise .lehr 0 Ev.cycleOverrun)
    else if s.on F.AON_STAT_SERVE 0 then .next { t with lehr := { t.lehr with due := true } }
    else .next t.cycleStart
  else .next s

/-- The order in which the frequencies of an entry are tried: the one that last gave VALID 1 first (R343). -/
def tryOrder (last count : Nat) : List Nat :=
  let all := List.range count
  if last < count then last :: all.filter (· != last) else all

/-- Tunes the scout to a frequency of the entry: its front-end returns to SYNTH, retunes, calibrates with QCAL, and enters
RECEIVE (R339, R340). -/
def State.dwellTune (s : State) (x : Watch) (af : Nat) : State :=
  let n := watchFe x.mode
  let t := s.puts n [(F.FE_CTRL_INPUT, x.input), (F.FE_CAL_USE_STALE, 1 - s.get F.LEHR_CFG_QCAL 0)]
  let t := if 3 ≤ t.get F.FE_STAT_STATE n then t.put F.FE_STAT_STATE n 2 else t
  t.scoutTune n (x.freqs.getD af 0)

/-- The front-end domain of an entry and then PD_2 come up. -/
def State.scoutUp (s : State) (n : Nat) : State :=
  let t := if s.domOn (3 + n) then s else s.domUp (3 + n)
  if t.domOn 2 then t else t.domUp 2

/-- An entry starts. -/
def State.entryStart (s : State) (e : Nat) : State :=
  let x := s.watchOf e
  let order := tryOrder (s.getE F.LW_STAT_AF 0 e) x.freqs.length
  let af := order.headD 0
  let t := (s.scoutUp (watchFe x.mode)).put F.LEHR_STAT_ENTRY 0 e
  { t.dwellTune x af with lehr := { t.lehr with dwell := some { entry := e, set := x, af := af, rest := order.drop 1 } } }

/-- The end of a cycle: PD_2, then the front-ends, then PD_1 go off; PD_1 stays for a serve visit. -/
def State.cycleEnd (s : State) : State :=
  let us := (s.aonTime.toNat - s.lehr.start) * 1000000 / aonPerSecond
  let t := [2, 3, 8].foldl (fun u d => if u.domOn d then u.domDown d else u) s
  let t := if t.on F.AON_STAT_SERVE 0 then t else (t.domDown 1).dropCtrl
  let t := t.puts 0 [(F.LEHR_STAT_IN_CYCLE, 0), (F.LEHR_STAT_ENTRY, 0), (F.LEHR_LAST_US, min us (2 ^ 24 - 1))]
  { t with lehr := { t.lehr with dwell := none } }

/-- The next enabled entry from index e on starts, or the cycle ends. -/
def State.cycleNext (s : State) (e : Nat) : State :=
  match (List.range 16).find? fun k => decide (e ≤ k) && s.getE F.LW_CFG_EN 0 k == 1 with
  | some k => s.entryStart k
  | none => s.cycleEnd

/-! ### Firing (R344 to R346) -/

/-- The lehr alert latch sets. -/
def State.lehrAlert (s : State) (e : Nat) : State :=
  (s.puts 0 [(F.LEHR_ALERT_ASSERTED, 1), (F.LEHR_ALERT_LAST_ENTRY, e)]).attnMark 0

/-- A log entry is written. -/
def State.lehrLog (s : State) (e : Nat) (x : Watch) (af value : Nat) : State :=
  let k := s.get F.LEHR_LOGCTL_HEAD 0
  let full := s.get F.LEHR_LOGCTL_COUNT 0 == 16
  let t := [(F.LOG_0_ENTRY, e), (F.LOG_0_RULE, x.rule), (F.LOG_0_WAKE, b2n x.wake), (F.LOG_0_ALERT, b2n x.alert),
      (F.LOG_0_AF, af), (F.LOG_0_VALUE, value), (F.LOG_1_TS, s.aonTime.toNat % 2 ^ 32),
      (F.LOG_2_TS, s.aonTime.toNat / 2 ^ 32), (F.LOG_3_KHZ, x.freqs.getD af 0)].foldl
    (fun u p => u.putE p.1 0 k p.2) s
  let t := t.put F.LEHR_LOGCTL_HEAD 0 ((k + 1) % 16)
  if full then (t.count F.LEHR_LOGCTL_OVERFLOW 0 1).raise .lehr 0 Ev.logOverflow
  else t.put F.LEHR_LOGCTL_COUNT 0 (t.get F.LEHR_LOGCTL_COUNT 0 + 1)

/-- The ones among the low m bits of a history. -/
def onesIn (h m : Nat) : Nat := ((List.range m).filter fun i => bit h i).length

/-- An entry's outcome is recorded; it fires when at least N of its last M outcomes are matches. -/
def State.outcome (s : State) (d : Dwell) (valid ok : Bool) (af : Option Nat) (value : Int) : State :=
  let e := d.entry
  let v := satS 16 value
  let hist := (s.getE F.LW_STAT_HISTORY 0 e * 2 + b2n ok) % 256
  let t := (((s.putE F.LW_STAT_HISTORY 0 e hist).putE F.LW_STAT_LAST_MATCH 0 e (b2n ok)).putE F.LW_STAT_LAST_VALID 0 e
    (b2n valid)).putE F.LW_STAT_VALUE 0 e v
  let t := match af with | some k => t.putE F.LW_STAT_AF 0 e k | none => t
  if d.set.n ≤ onesIn hist d.set.m then
    let t := (t.putE F.LW_STAT_HISTORY 0 e 0).raise .lehr 0 Ev.fired
    let t := if d.set.alert then t.lehrAlert e else t
    let t := if d.set.log then t.lehrLog e d.set d.af v else t
    let t := if d.set.wake then t.wakeFire (2 ^ 4) e else t
    if t.mode = .lehr then t.cycleNext (e + 1) else t
  else t.cycleNext (e + 1)

/-- The dwell that runs: the system PLL is locked and the entry's front-end is in RECEIVE. -/
def State.dwelling (s : State) : Option Dwell :=
  match s.lehr.dwell with
  | some d =>
    let n := watchFe d.set.mode
    if s.mode = .lehr ∧ s.pllLocked ∧ s.get F.FE_STAT_STATE n = 3 ∧ (s.fe n).step.isNone then some d else none
  | none => none

/-- What VALUE shows when a unit decides a dwell: the PI, the tone level; the other rules show a level, which no unit
carries, so the last one stays. -/
def WatchUnit.value (u : WatchUnit) (old : Int) : Int :=
  match u with
  | .rds pi _ _ _ _ _ => pi
  | .tone l => l
  | .carrier _ l => l
  | _ => old

/-- A unit's check completes: a match ends the dwell at once (R342). -/
def execLehrUnitMatch (unit : WatchUnit) (s : State) : Host.Outcome State Fault Refusal :=
  match s.dwelling with
  | none => .next s
  | some d =>
    let old := sgn 16 (s.getE F.LW_STAT_VALUE 0 d.entry)
    let stop := fun (t : State) => t.outcome d true true (some d.af) (unit.value old)
    match unit with
    | .tone l =>
      if d.set.rule = 6 then
        let run := toneRun d.set.p1 d.tone l
        if bits d.set.p1 31 16 ≤ run then .next (stop s)
        else .next { s with lehr := { s.lehr with dwell := some { d with tone := run } } }
      else .next s
    | _ => if unit.hits d.set.rule d.set.p0 d.set.p1 then .next (stop s) else .next s

/-- VALID and the match of a dwell that runs to its end at a frequency. -/
def dwellResult (x : Watch) (level : Int) (present sync : Bool) : Bool × Bool :=
  let thr := sgn 16 (bits x.p0 15 0)
  if x.rule = 0 then (true, decide (thr < level))
  else if x.rule = 1 then (true, decide (level < thr))
  else if x.rule = 2 then (present, carrierMatch x.p0 x.p1 present level)
  else if x.rule = 6 then (present, false)
  else (sync, false)

/-- The dwell at a frequency ends without a deciding unit: `level` in 0.1 dBµV, `present` by the presence test of CARRIER,
`sync` whether the rule reached synchronisation, `value` the PI or the tone level where the rule shows one (R342, R343). -/
def execLehrDwellEnd (level : Int) (present sync : Bool) (value : Int) (s : State) : Host.Outcome State Fault Refusal :=
  match s.dwelling with
  | none => .next s
  | some d =>
    let r := dwellResult d.set level present sync
    let shown := if d.set.rule = 3 ∨ d.set.rule = 6 then value else level
    if r.1 then .next (s.outcome d true r.2 (some d.af) shown)
    else match d.rest with
      | k :: rest =>
        .next { s.dwellTune d.set k with lehr := { s.lehr with dwell := some { d with af := k, rest := rest, tone := 0 } } }
      | [] =>
        if d.set.rule = 2 then .next (s.outcome d true (bit d.set.p1 0) none shown)
        else .next (s.outcome d false false none shown)

/-! ### The LEHR page (R351) -/

/-- A write of `LEHR_ALERT`. -/
def lehrAlertWrite (w : Word) (s : State) : Except Reason State :=
  .ok (if bit w.toNat 1 then s.put F.LEHR_ALERT_ASSERTED 0 0 else s)

def execLehrAlertAck (a : Accessor) (w : Word) (s : State) : Host.Outcome State Fault Refusal :=
  .next (s.regWrite a .lehr 0 0x48 (lehrAlertWrite w))

/-- A write of `LEHR_LOGCTL`. -/
def logClearWrite (w : Word) (s : State) : Except Reason State :=
  .ok (if bit w.toNat 31 then
    s.puts 0 [(F.LEHR_LOGCTL_HEAD, 0), (F.LEHR_LOGCTL_COUNT, 0), (F.LEHR_LOGCTL_OVERFLOW, 0)] else s)

def execLogClear (a : Accessor) (w : Word) (s : State) : Host.Outcome State Fault Refusal :=
  .next (s.regWrite a .lehr 0 0x4C (logClearWrite w))

/-- A write of a block register of the LEHR page. -/
def lehrWrite (off major : Nat) (w : Word) (s : State) : Except Reason State :=
  if off = 0x48 then lehrAlertWrite w s
  else if off = 0x4C then logClearWrite w s
  else if 0x100 ≤ off ∧ off < 0x300 then watchWrite ((off - 0x100) / 0x20) ((off - 0x100) % 0x20 / 4) major w s
  else plainWrite .lehr 0 off major w s

/-- A reset of the LEHR page: entries, histories, log, alert latch; the cycle that runs goes on. -/
def State.lehrReset (s : State) : State :=
  s.resetKeep .lehr 0 [F.LEHR_STAT_RUNNING, F.LEHR_STAT_IN_CYCLE, F.LEHR_STAT_ENTRY, F.LEHR_STAT_CYCLES, F.LEHR_NEXT_LO_AT,
    F.LEHR_NEXT_HI_AT, F.LEHR_LAST_US]

/-! ### Serve visits (R335) -/

/-- A serve visit starts: PD_1 comes up on CK_FRC. -/
def State.serveStart (s : State) : State :=
  let t := if s.domOn 1 then s else (s.domUp 1).put F.CLK_STAT_FRC_ACTIVE 0 1
  (t.put F.AON_STAT_SERVE 0 1).count F.SERVE_COUNT_COUNT 0 1

/-- The address matches in SLEEP or LEHR: a serve visit, or with MGMT_SERVE 0 a full wake. -/
def State.addressMatch (s : State) : State :=
  if s.mode = .sleep ∨ s.mode = .lehr then
    if s.on F.AON_STAT_SERVE 0 then s
    else if s.on F.SLEEP_CFG_MGMT_SERVE 0 then s.serveStart
    else s.wakeFire (2 ^ 1) 0
  else if s.devMoves then s.wakeFire (2 ^ 1) 0
  else s

def execServeVisit (s : State) : Host.Outcome State Fault Refusal :=
  if (s.mode = .sleep ∨ s.mode = .lehr) ∧ s.on F.SLEEP_CFG_MGMT_SERVE 0 then .next s.addressMatch else .next s

/-- A visit ends: PD_1 goes off unless a cycle has it; a cycle that fell due meanwhile starts. -/
def State.serveEnd (s : State) : State :=
  let t := s.put F.AON_STAT_SERVE 0 0
  let t := if t.on F.LEHR_STAT_IN_CYCLE 0 then t else (t.domDown 1).dropCtrl
  if t.lehr.due then { t with lehr := { t.lehr with due := false } }.cycleStart else t

def execServeVisitEnd (s : State) : Host.Outcome State Fault Refusal :=
  if s.on F.AON_STAT_SERVE 0 then .next s.serveEnd else .next s

end Sys2Proof.Machine
end

