-- ==== Sys2Proof/Machine/Start.lean ====
section
/-! DEFINITION. Start-up (R354 to R361), first gather (R362 to R368), the handover to a slot (R375 to R377), device reset
(R356), and the OTP page (R381). -/

namespace Sys2Proof.Machine

/-! ### Stages (R358, R359) -/

/-- STAGE advances one step; every accessor's GLOBAL page raises STAGE_CHG. -/
def State.stageUp (s : State) : State :=
  [0, 1, 2, 3, 4].foldl (fun t a => t.raise .global a Ev.stageChg) (s.put F.GLOBAL_STAT_STAGE 0 (s.stage + 1))

/-- The condition of stage 1 is met; stage 1 follows stage 0 at once. -/
def State.stage1Ready (s : State) : State :=
  let t := { s with start := { s.start with ready1 := true } }
  if t.stage = 0 ∧ t.domOn 1 ∧ t.domOn 14 then t.stageUp else t

def execStage1Timeout (s : State) : Host.Outcome State Fault Refusal :=
  if s.domOn 1 ∧ s.stage = 0 then .next s.stage1Ready else .next s

/-! ### Presets (R362 to R364) -/

/-- A copy is usable if its FORMAT is 1 or 2 and its CRC is correct. -/
def copyOk (b : List Byte) : Bool :=
  (hdrNum b 0 1 == 1 || hdrNum b 0 1 == 2) && crc32c (b.take 124) == hdrNum b 124 4

/-- The highest-numbered usable copy of preset p, with its number. -/
def State.presetCopy (s : State) (p : Nat) : Option (Nat × List Byte) :=
  ([3, 2, 1, 0].map fun c => (c, s.otpBytes (0x400 + p * 0x80 + c * 0x20) 32)).find? fun x => copyOk x.2

/-- In FORMAT 1, bytes 18 to 71 are read as 0. -/
def presetBytes (b : List Byte) : List Byte :=
  if hdrNum b 0 1 = 1 then b.take 18 ++ List.replicate 54 0 ++ b.drop 72 else b

/-- A zero field gives its default. -/
def orElse0 (v d : Nat) : Nat := if v = 0 then d else v

/-- The preset of a copy (R363). -/
def presetOf (raw : List Byte) : Preset :=
  let b := presetBytes raw
  let flags := hdrNum b 1 1
  { audio := bit flags 1, follow := bit flags 3, mode := hdrNum b 2 1, input := hdrNum b 3 1, khz := hdrNum b 4 4,
    profile := hdrNum b 8 1, anOpt := hdrNum b 9 1, amBw := orElse0 (hdrNum b 10 1) 50, gain := hdrNum b 11 1,
    level := sgn 16 (hdrNum b 12 2), apFmt := hdrNum b 14 1, apSlot := hdrNum b 15 1,
    bclk := orElse0 (hdrNum b 16 2) 64, tuner := hdrNum b 18 3,
    rules := (List.range 4).map fun e =>
      let o := 24 + 12 * e
      (if bit flags 2 then hdrNum b o 1 else 0, hdrNum b (o + 1) 1, hdrNum b (o + 2) 2, hdrNum b (o + 4) 4,
        hdrNum b (o + 8) 4) }

/-- The front-end of a preset. -/
def Preset.fe (p : Preset) : Nat := if p.mode = 1 then 5 else 0

/-- SLOTS and the bits of a slot on AP_0 (R468). -/
def Preset.frame (p : Preset) : Nat × Nat := if p.apFmt % 4 < 2 then (2, p.bclk / 2) else (p.bclk / 32, 32)

/-- The sampling rate of AP_0. -/
def Preset.rate (p : Preset) : Nat := if bits p.apFmt 4 3 = 0 then 48000 else if bits p.apFmt 4 3 = 1 then 44100 else 32000

/-- AP_FMT, AP_SLOT and BCLK_FS fit (R364, R446, R448). -/
def Preset.apOk (p : Preset) : Bool :=
  let f := p.frame
  let pll := if bits p.apFmt 4 3 = 1 then 22579200 else 24576000
  p.apFmt < 0x18 && [32, 48, 64, 128, 256, 512].contains p.bclk && [16, 24, 32].contains f.2 &&
    decide (2 ≤ f.1) && f.1 % 2 == 0 && p.apSlot % 2 == 0 && decide (p.apSlot < f.1) &&
    (bit p.apFmt 2 || pll % (p.rate * p.bclk) == 0)

/-- AN_OPT, AM_BW and LEVEL are in the ranges of their register fields (R197 to R199). -/
def Preset.anOk (p : Preset) : Bool :=
  decide (-400 ≤ p.level) && decide (p.level ≤ 200) &&
    (if p.mode = 0 then decide (p.anOpt < 8) && bits p.anOpt 2 1 != 3
     else if p.mode = 1 then
       decide (p.anOpt < 16) && bits p.anOpt 1 0 != 3 && bits p.anOpt 3 2 != 3 &&
         (bits p.anOpt 1 0 != 0 || bits p.anOpt 3 2 == 0) && decide (25 ≤ p.amBw) && decide (p.amBw ≤ 100) && p.amBw % 5 == 0
     else true)

/-- An entry that is in force keeps to R364. -/
def fgRuleOk (mode : Nat) (r : Nat × Nat × Nat × Nat × Nat) : Bool :=
  r.1 == 0 ||
    ((if mode = 0 then r.1 == 2 || r.1 == 3 || r.1 == 6 else if mode = 1 then r.1 == 2 || r.1 == 6
      else r.1 == 2 || r.1 == 4) &&
      decide (1 ≤ r.2.1) && decide (r.2.1 ≤ 15) && decide (100 ≤ r.2.2.1) && toneParamsOk r.1 r.2.2.2.1 r.2.2.2.2)

/-- The checks of R364. -/
def Preset.ok (p : Preset) : Bool :=
  decide (p.mode ≤ 2) && decide (p.input ≤ (if p.fe = 0 then 1 else 2)) && scoutRange p.fe p.khz &&
    builtinFor (p.mode + 1) p.profile && decide (p.profile < 16) && p.anOk &&
    (p.gain == 255 || decide (p.gain ≤ maxGain p.fe)) && p.apOk && p.rules.all (fgRuleOk p.mode)

/-- The engine reads the preset as PD_1 comes up: it starts, or FG_STAT names why not (R364, R365). -/
def State.fgRead (s : State) : State :=
  match s.presetCopy s.start.strap with
  | none => (s.put F.FG_STAT_REASON 0 1).stage1Ready
  | some (c, b) =>
    let p := presetOf b
    let t := s.puts 0 [(F.FG_STAT_COPY, c), (F.FG_STAT_FORMAT, hdrNum b 0 1)]
    if !bit (hdrNum b 1 1) 0 then (t.put F.FG_STAT_REASON 0 2).stage1Ready
    else if !p.ok then (t.put F.FG_STAT_REASON 0 3).stage1Ready
    else { t.puts 0 [(F.FG_STAT_STATE, 1), (F.GLOBAL_STAT_FG_ACTIVE, 1)] with fg := { preset := some p } }

/-! ### What the engine does (R365, R367) -/

/-- AP_0 takes the format of the preset (R468); PG_0 is loaded and released. -/
def State.fgPort (s : State) (p : Preset) : State :=
  let f := p.frame
  let t := s.puts 0 [(F.AP_CFG_FORMAT, p.apFmt % 4), (F.AP_CFG_ROLE, bits p.apFmt 2 2), (F.AP_CFG_CLK_SRC, 0),
    (F.AP_CFG_RATE, bits p.apFmt 4 3), (F.AP_CFG_SLOTS, f.1), (F.AP_CFG_WIDTH, if f.2 = 16 then 0 else if f.2 = 24 then 1 else 2),
    (H.ENABLE .ap, 1), (F.AP_STAT_STATE, 1), (F.AP_STAT_FG, 1),
    (if bits p.apFmt 4 3 = 1 then F.AUD_PLL_CFG_B_EN else F.AUD_PLL_CFG_A_EN, 1)]
  ((t.putE F.OUT_SRC_KIND 0 (p.apSlot / 2) 6).setLoaded 0 true).release 0

/-- The scout is tuned: INPUT, GAIN and TUNER apply, and the front-end calibrates and enters RECEIVE. -/
def State.fgTune (s : State) (p : Preset) : State :=
  let n := p.fe
  let t := s.put F.FE_CTRL_INPUT n p.input
  let t := if p.gain = 255 then t
    else (t.puts n [(F.FE_GAIN_MODE, 2), (F.FE_GAIN_INDEX, p.gain)]).setFe n { t.fe n with gainNext := some p.gain }
  let t := if n = 5 then
      let u := t.putTun p.input p.tuner
      u.setTuner p.input { u.tuner p.input with act := u.tunWord p.input, waiting := false }
    else t
  t.scoutTune n p.khz

/-- The next step of the engine once domain d is on: the front-end's domain, PD_2, PD_15 with AUDIO_EN. -/
def State.fgDomain (s : State) (d : Nat) : State :=
  match s.fg.preset with
  | none => s
  | some p =>
    if s.get F.FG_STAT_STATE 0 ≠ 1 then s
    else if d = 3 + p.fe then s.domStart 2 true .device
    else if d = 2 then
      let t := s.fgTune p
      if p.audio then (if t.domOn 15 then t.fgPort p else t.domStart 15 true .device) else t
    else if d = 15 && p.audio then s.fgPort p
    else s

/-- A transition of a domain ends. At start-up PD_1 brings the boot ROM and first gather with it (R358). -/
def execPowerDone (d : Fin 16) (s : State) : Host.Outcome State Fault Refusal :=
  match (s.dom d.val).run with
  | none => .next s
  | some (on, o) =>
    let t := s.powerDone d.val on o
    let t := if on ∧ d.val = 1 ∧ s.mode = .reset then t.bootRom.fgRead else t
    let t := if on ∧ d.val = 14 ∧ t.start.ready1 ∧ t.stage = 0 then t.stageUp else t
    .next (if on then t.fgDomain d.val else t)

/-- Counter lock is declared and the outputs are ungated (R300). Out of RESET the part is in IDLE or RUN from the first lock
on (R325), and the engine powers the front-end; in a lehr cycle the first enabled entry starts (R339). -/
def execPllLock (s : State) : Host.Outcome State Fault Refusal :=
  match s.clk.relock with
  | none => .next s
  | some start =>
    if s.clk.counted then
      let t := s.pllLocks start
      if t.mode = .reset then
        let u := { t with mode := .awake }.refPending
        match u.fg.preset with
        | some p => .next (u.domStart (3 + p.fe) true .device)
        | none => .next u
      else if t.mode = .lehr ∧ t.on F.LEHR_STAT_IN_CYCLE 0 ∧ t.lehr.dwell.isNone then .next (t.cycleNext 0)
      else .next t
    else .next s

/-- The preset's scout receives. -/
def State.fgReceives (s : State) : Option Preset :=
  match s.fg.preset with
  | some p =>
    if s.on F.GLOBAL_STAT_FG_ACTIVE 0 ∧ s.get F.FE_STAT_STATE p.fe = 3 ∧ (s.fe p.fe).step.isNone then some p else none
  | none => none

/-- First gather is established. -/
def execFgEstablished (s : State) : Host.Outcome State Fault Refusal :=
  match s.fgReceives with
  | some p =>
    if s.get F.FG_STAT_STATE 0 = 1 then
      .next (s.put F.FG_STAT_STATE 0 (if p.audio ∧ p.mode ≤ 1 then 2 else 3)).stage1Ready
    else .next s
  | none => .next s

/-! ### Watch entries (R366) -/

/-- An entry activates: the latch sets and ALERT_N falls. -/
def State.fgActivate (s : State) (e : Nat) : State :=
  (s.puts 0 [(F.FG_WATCH_ACTIVE, s.get F.FG_WATCH_ACTIVE 0 ||| 2 ^ e), (F.FG_WATCH_SEEN, s.get F.FG_WATCH_SEEN 0 ||| 2 ^ e),
    (F.FG_STAT_ALERT, 1)]).raise .otp 0 Ev.fgAlert

/-- Whether a unit matches a rule, and the run of tone blocks it leaves. -/
def fgMatch (rule p0 p1 tone : Nat) (u : WatchUnit) : Bool × Nat :=
  match u with
  | .tone l => let run := toneRun p1 tone l; (rule == 6 && decide (bits p1 31 16 ≤ run), run)
  | .carrier present l => (rule == 2 && carrierMatch p0 p1 present l, tone)
  | _ => (u.hits rule p0 p1, tone)

/-- A unit, block or measurement of entry e is checked: CONFIRM consecutive matches activate its alarm. -/
def execFgWatchMatch (e : Fin 4) (unit : WatchUnit) (s : State) : Host.Outcome State Fault Refusal :=
  match s.fgReceives with
  | none => .next s
  | some p =>
    let r := p.rules.getD e.val (0, 0, 0, 0, 0)
    if r.1 = 0 then .next s
    else
      let h := Tbl.get s.fg.watch {} e.val
      let m := fgMatch r.1 r.2.2.2.1 r.2.2.2.2 h.tone unit
      let h' : FgWatch := if m.1 then { hits := h.hits + 1, last := s.now, tone := m.2 }
        else { h with hits := 0, tone := m.2 }
      let t := { s with fg := { s.fg with watch := Tbl.set s.fg.watch {} e.val h' } }
      if m.1 && decide (r.2.1 ≤ h'.hits) && !bit (s.get F.FG_WATCH_ACTIVE 0) e.val then .next (t.fgActivate e.val)
      else .next t

/-- END_MS pass without a match: the alarm of entry e ends. -/
def execFgWatchEnd (e : Fin 4) (s : State) : Host.Outcome State Fault Refusal :=
  match s.fg.preset with
  | none => .next s
  | some p =>
    let r := p.rules.getD e.val (0, 0, 0, 0, 0)
    if bit (s.get F.FG_WATCH_ACTIVE 0) e.val && decide (msTicks r.2.2.1 ≤ s.now - (Tbl.get s.fg.watch {} e.val).last) then
      let w := clearBits (s.get F.FG_WATCH_ACTIVE 0) (2 ^ e.val)
      let t := s.put F.FG_WATCH_ACTIVE 0 w
      .next (if p.follow && w == 0 then t.put F.FG_STAT_ALERT 0 0 else t)
    else .next s

/-! ### The handover (R375 to R377) -/

/-- The part's group of a handover (R16). -/
def hoGroup : Nat := 61

/-- L_FG in ticks. -/
def fgLatency (mode : Nat) : Nat := if mode = 0 then 737280 else 1228800

/-- `AUD_LAT` in 1/16 tick (R193). -/
def audLat (kind : Nat) : Nat := if kind = 1 then 7864320 else if kind = 2 then 9830400 else 0

/-- L_S in 1/16 tick. -/
def State.slotLatency (s : State) (n : Nat) (b : Bind) : Nat :=
  s.latOf b + s.actDelay n * b.ticks * 16 / 1024 + audLat b.kind

/-- `FG_HO_STAT.DELAY`: d in 1/16 sample. -/
def Ho.delay (h : Ho) : Nat := (roundDivI h.d 64).toNat % 2 ^ 16

/-- S leaves the group. -/
def State.hoLeave (s : State) (n : Nat) : State :=
  { (s.put F.SLOT_AG_PART_GROUP n 0).put F.SLOT_AG_PART_MEMBER n 0 with fg := { s.fg with ho := none } }

/-- The handover is abandoned; AP_0 stays on, or returns to, the scout. -/
def State.hoFail (s : State) (reason : Nat) : State :=
  match s.fg.ho with
  | none => s
  | some h => ((s.hoLeave h.slot).puts 0 [(F.FG_HO_STAT_RESULT, 3), (F.FG_HO_STAT_REASON, reason),
      (F.FG_STAT_STATE, 2)]).raise .otp 0 Ev.hoFail

/-- A handover whose slot is disabled, reset or of another epoch is abandoned. -/
def State.hoSweep (s : State) : State :=
  match s.fg.ho with
  | none => s
  | some h => if s.enabled .slot h.slot && s.epoch (.slot h.slot) == h.epoch then s else s.hoFail 2

/-- HANDOVER with slot n. -/
def handover (n : Nat) (keep : Bool) (s : State) : Except Reason State :=
  if s.fg.ho.isSome then .error .busy
  else match s.fg.preset, (s.slot n).applied with
    | some p, some b =>
      let l := s.slotLatency n b
      if s.get F.FG_STAT_STATE 0 ≠ 2 ∨ !s.on F.SLOT_STAT_RUNNING n ∨ s.owner .slot n ≠ 0 ∨ (s.slotGroup n).isSome ∨
          b.kind ≠ p.mode + 1 ∨ !s.bindNear b p.khz (if p.mode = 0 then 25000 else 2000) ∨ 16 * fgLatency p.mode < l then
        .error .range
      else
        let h : Ho := { slot := n, epoch := s.epoch (.slot n), keep := keep, d := roundDiv (16 * fgLatency p.mode - l) 80 }
        let t := s.puts 0 [(F.FG_STAT_STATE, 4), (F.FG_HO_STAT_RESULT, 1), (F.FG_HO_STAT_ATTEMPTS, 0),
          (F.FG_HO_STAT_REASON, 0), (F.FG_HO_STAT_DELAY, h.delay)]
        .ok { (t.put F.SLOT_AG_PART_GROUP n hoGroup).put F.SLOT_AG_PART_MEMBER n 1 with
          fg := { t.fg with ho := some h } }
    | _, _ => .error .range

/-- A correlation attempt ends: `peak` in 0.0001, `lag` in 1/16 sample. -/
def execHoAttemptEnd (peak lag : Int) (s : State) : Host.Outcome State Fault Refusal :=
  match s.fg.ho with
  | none => .next s
  | some h =>
    if h.cross then .next s
    else
      let k := s.get F.FG_HO_STAT_ATTEMPTS 0 + 1
      let t := s.put F.FG_HO_STAT_ATTEMPTS 0 k
      if 8000 ≤ peak ∧ lag.natAbs ≤ 4 then .next { t with fg := { t.fg with ho := some { h with cross := true } } }
      else
        let h' := { h with d := h.d + lag * 64 }
        let u := { t.put F.FG_HO_STAT_DELAY 0 h'.delay with fg := { t.fg with ho := some h' } }
        .next (if k < 4 then u else u.hoFail 1)

/-- First gather ends (R368): the scout is released, its pair reads OFF, and the watch stops. -/
def State.fgRelease (s : State) : State :=
  match s.fg.preset with
  | none => s
  | some p =>
    let k := p.apSlot / 2
    let t := s.puts 0 [(F.FG_STAT_STATE, 6), (F.GLOBAL_STAT_FG_ACTIVE, 0), (F.FG_WATCH_ACTIVE, 0), (F.AP_STAT_FG, 0)]
    let t := t.put F.FE_STAT_SCOUT_USE p.fe 0
    let t := if t.getE F.OUT_SRC_KIND 0 k = 6 then t.putE F.OUT_SRC_KIND 0 k 0 else t
    { t with fg := {} }

/-- The crossfade ends: AP_0 plays S with the delay d in its path (R376, R468). -/
def execHoDone (s : State) : Host.Outcome State Fault Refusal :=
  match s.fg.ho, s.fg.preset with
  | some h, some p =>
    if h.cross then
      let k := p.apSlot / 2
      let t := ((s.hoLeave h.slot).putE F.OUT_SRC_KIND 0 k 1).putE F.OUT_SRC_INDEX 0 k h.slot
      let t := t.puts 0 [(F.AP_FG_DLY_DELAY, h.delay), (F.AP_FG_DLY_PAIR, k), (F.AP_STAT_FG, 0), (F.FG_HO_STAT_RESULT, 2)]
      let t := t.raise .otp 0 Ev.hoDone
      if h.stop then .next (t.fgRelease.raise .otp 0 Ev.fgEnd)
      else if h.keep then .next (t.put F.FG_STAT_STATE 0 5)
      else .next t.fgRelease
    else .next s
  | _, _ => .next s

/-! ### Commands (R381) -/

/-- STOP: a handover that is not yet crossfading fails; one that is completes first. -/
def State.fgStop (s : State) : State :=
  if !s.on F.GLOBAL_STAT_FG_ACTIVE 0 then s
  else match s.fg.ho with
    | some h =>
      if h.cross then { s with fg := { s.fg with ho := some { h with stop := true } } }
      else (s.hoFail 3).fgRelease.raise .otp 0 Ev.fgEnd
    | none => s.fgRelease.raise .otp 0 Ev.fgEnd

/-- ACK clears the latch. -/
def State.fgAck (s : State) : State := s.put F.FG_STAT_ALERT 0 0

/-- A write of `FG_CMD`. -/
def fgCmdWrite (w : Word) (s : State) : Except Reason State :=
  let v := w.toNat
  onOk (if bit v 2 then handover (bits v 12 4) (bit v 3) s else .ok s) fun t =>
    let t := if bit v 1 then t.fgAck else t
    .ok (if bit v 0 then t.fgStop else t)

/-- A write of a block register of the OTP page. -/
def otpPageWrite (off major : Nat) (w : Word) (s : State) : Except Reason State :=
  if off = 0x50 then fgCmdWrite w s else plainWrite .otp 0 off major w s

/-- A reset of the OTP page: first gather, a handover that runs and the latch go on. -/
def State.otpReset (s : State) : State :=
  s.resetKeep .otp 0 ([F.FG_STAT_COPY, F.FG_STAT_STATE, F.FG_STAT_REASON, F.FG_STAT_ALERT, F.FG_STAT_FORMAT,
    F.FG_WATCH_ACTIVE] ++
    (if s.fg.ho.isSome then [F.FG_HO_STAT_RESULT, F.FG_HO_STAT_ATTEMPTS, F.FG_HO_STAT_DELAY] else []))

def execFgStop (a : Accessor) (w : Word) (s : State) : Host.Outcome State Fault Refusal :=
  .next (s.regWrite a .otp 0 0x50 (fgCmdWrite w))

def execFgAck (a : Accessor) (w : Word) (s : State) : Host.Outcome State Fault Refusal :=
  .next (s.regWrite a .otp 0 0x50 (fgCmdWrite w))

def execFgHandover (a : Accessor) (w : Word) (s : State) : Host.Outcome State Fault Refusal :=
  .next (s.regWrite a .otp 0 0x50 (fgCmdWrite w))

/-! ### Reset inputs (R354 to R357, R499) -/

/-- A device reset: every domain but PD_0 goes off with its pads held at output enable 0, every epoch increments once, and
PD_0 keeps its state but for what R326 names. -/
def State.deviceReset (s : State) : State :=
  let t := (s.allOff false).banksFresh.bumpAll.exemptAll
  let t := (List.range 5).foldl (fun u a => u.put F.SPEAK_MAJOR a 0) t
  let t := t.puts 0 [(F.FG_STAT_ALERT, 0), (F.LEHR_ALERT_ASSERTED, 0), (F.MGMT_STAT_DIALECT, 1), (F.LEHR_STAT_RUNNING, 0),
    (F.LEHR_STAT_IN_CYCLE, 0), (F.LEHR_STAT_ENTRY, 0), (F.AON_STAT_SERVE, 0)]
  { t with
    mode := .reset, speak := [], wakeHid := {}, lehr := {}, fg := {}, mgmt := {},
    start := { t.start with holding := true, ready1 := false, tried := [], image := none } }

/-- VIO_AON enters its range: PD_0 powers up from OFF, and the address straps are sampled (R355, R472). -/
def execAonPowerUp (ma : Fin 8) (s : State) : Host.Outcome State Fault Refusal :=
  if s.mode = .off then .next { s with mode := .reset, start := { s.start with ma := ma.val } } else .next s

/-- VIO_AON falls below its threshold: PD_0 goes OFF with all it holds. What remains is what is programmed in OTP. -/
def execVioAonRemoval (s : State) : Host.Outcome State Fault Refusal :=
  .next { State.reset with
    mode := .off, pending := s.pending, freeCount := s.freeCount, out := s.out, otp := s.otp, otpSpares := s.otpSpares }

/-- PWR_GOOD rises, or the last cause of a reset is released: the straps are latched and start-up begins. -/
def execPwrGoodRise (straps ma : Fin 8) (s : State) : Host.Outcome State Fault Refusal :=
  if s.mode = .reset ∧ s.start.holding then
    let t := { s with start := { s.start with
      holding := false, pwrHigh := true, strap := straps.val, ma := ma.val, ready1 := false } }
    .next (((List.range 8).foldl (fun u g => u.holdOff g) t).domStart 1 true .device)
  else .next s

/-- PWR_GOOD falls; before its first rise that is no reset. -/
def execPwrGoodFall (s : State) : Host.Outcome State Fault Refusal :=
  if s.mode ≠ .off ∧ s.start.pwrHigh then .next s.deviceReset else .next s

def execSysRstNLow (s : State) : Host.Outcome State Fault Refusal :=
  if s.mode ≠ .off then .next s.deviceReset else .next s

end Sys2Proof.Machine
end

