-- ==== Sys2Proof/Machine/Xlat.lean ====
section
/-! DEFINITION. Translation of the addresses that rings use (R413 to R424), the faults of rings (R425 to R429), and the
accesses that a ring needs. -/

namespace Sys2Proof.Machine

/-! ### Rings and their functions -/

/-- The function that a ring belongs to. -/
def State.ringFunc (s : State) (r : Nat) : Nat := s.owner .ring r

/-- The rings of a function. -/
def State.ringsOf (s : State) (f : Nat) : List Nat := (List.range 64).filter fun r => s.ringFunc r == f

def State.ringState (s : State) (r : Nat) : Nat := s.get F.RING_STAT_STATE r

/-- The IO virtual address of the descriptor array. -/
def State.ringBase (s : State) (r : Nat) : Nat := s.get F.RING_BASE_LO_ADDR r + s.get F.RING_BASE_HI_ADDR r * 2 ^ 32

/-- The IO virtual address of descriptor `i`, modulo ENTRIES. -/
def State.descAddr (s : State) (r i : Nat) : Nat :=
  (s.ringBase r + 32 * (i % s.get F.RING_SIZE_ENTRIES r)) % 2 ^ 64

/-- Whether a function may send requests (R386, R434). -/
def State.mayRequest (s : State) (f : Nat) : Bool :=
  s.link.up && s.domOn 14 && (s.cfg f).bme && !(s.cfg f).d3 && !bit (s.get F.FUNC_STAT_FLR_BUSY 0) f

/-- Whether a ring performs DMA: RUNNING, or DRAINING and not halted, and its function may send requests. -/
def State.ringMoves (s : State) (r : Nat) : Bool :=
  (s.ringState r == 1 || s.ringState r == 6) && !(s.ring r).still && s.mayRequest (s.ringFunc r)

/-- Whether there is a descriptor to fetch: handed over, and at most 8 ahead of the one in use (R391). -/
def State.descMore (s : State) (r : Nat) : Bool :=
  (s.ring r).descs.length < 9 &&
    (s.get F.RING_HEAD_HEAD r + (s.ring r).descs.length) % s.get F.RING_SIZE_ENTRIES r != s.get F.RING_TAIL_TAIL r

/-- The index of the next descriptor to fetch. -/
def State.descNext (s : State) (r : Nat) : Nat :=
  (s.get F.RING_HEAD_HEAD r + (s.ring r).descs.length) % s.get F.RING_SIZE_ENTRIES r

/-- The descriptor whose buffer a FROM_HOST ring reads. -/
def RingHid.reading (h : RingHid) : Option Desc := h.descs[h.ahead]?

/-- The access that a ring needs now, by its code in R425, and its address: the writeback of a completed buffer, buffer data,
or a descriptor. -/
def State.ringNeed (s : State) (r : Nat) : Option (Nat × Nat) :=
  let h := s.ring r
  let fetch := if s.descMore r then some (2, s.descAddr r (s.descNext r)) else none
  if h.closing.isSome then some (3, (s.descAddr r (s.get F.RING_HEAD_HEAD r) + 16) % 2 ^ 64)
  else if s.get F.RING_CFG_DIR r = 0 then
    if h.fill = 0 then none
    else match h.descs with
      | d :: _ => some (0, (d.addr + h.used) % 2 ^ 64)
      | [] => fetch
  else if h.cut then none
  else match h.reading with
    | some d => if d.len ≠ 0 ∧ h.raw.length < s.ringCap r then some (1, (d.addr + h.used) % 2 ^ 64) else none
    | none => if h.descs.isEmpty || decide (h.raw.length < s.ringCap r) then fetch else none

/-- Whether an access writes host memory (R417). -/
def accWrites (acc : Nat) : Bool := acc == 0 || acc == 3

/-! ### The cache (R419) -/

/-- Whether an entry of the cache covers an address of a function. -/
def XEntry.covers (e : XEntry) (f addr : Nat) : Bool := e.func == f && e.base ≤ addr && decide (addr < e.base + e.size)

/-- The address that an access sends, if its translation is known (R413, R415). -/
def State.xlate (s : State) (f addr : Nat) (write : Bool) : Option Nat :=
  if s.get F.XLAT_CFG_MODE f = 0 then some addr
  else if 2 ^ 48 ≤ addr then none
  else (s.xcache.find? fun e => e.covers f addr && (if write then e.w else e.r)).map fun e => e.phys + (addr - e.base)

/-- Counts a hit of the cache, but for an access whose translation has just been made (R438). -/
def State.hit (s : State) (r : Nat) : State :=
  let f := s.ringFunc r
  let h := s.ring r
  if s.get F.XLAT_CFG_MODE f = 0 then s
  else (if h.fresh then s else s.count F.XLAT_HITS_COUNT f 1).setRing r { h with fresh := false }

/-- The entries of the cache that cover an address of a function are dropped. -/
def State.xdrop (s : State) (f addr : Nat) : State := { s with xcache := s.xcache.filter fun e => !e.covers f addr }

/-- Every entry of a function is dropped. -/
def State.xdropAll (s : State) (f : Nat) : State := { s with xcache := s.xcache.filter fun e => e.func != f }

/-- Puts an entry into the cache in place of those that cover the same address; a full cache of 2,048 entries gives one up,
which one being left open (R15, R419). -/
def State.xput (s : State) (e : XEntry) (addr : Nat) : State :=
  let t := s.xdrop e.func addr
  if t.xcache.length < 2048 then { t with xcache := t.xcache ++ [e] }
  else { t.freeUsed with xcache := t.xcache.eraseIdx (t.freeNow % 2048) ++ [e] }

/-- The addresses that a RUNNING ring translates ahead of need (R420): the next page of its buffer, the next page of its
descriptor array, and the descriptor that it may fetch ahead. -/
def State.ahead (s : State) (r : Nat) : List (Nat × Nat) :=
  let h := s.ring r
  let next (a : Nat) : Nat := a / 4096 * 4096 + 4096
  let acc := if s.get F.RING_CFG_DIR r = 0 then 0 else 1
  let cur := if acc = 0 then h.descs.head? else h.reading
  let buf := match cur with
    | some d => if next (d.addr + h.used) < d.addr + d.len then [(acc, next (d.addr + h.used))] else []
    | none => []
  let desc := next (s.descAddr r (s.get F.RING_HEAD_HEAD r))
  let arr := if desc < s.ringBase r + 32 * s.get F.RING_SIZE_ENTRIES r then [(2, desc)] else []
  buf ++ arr ++ (if s.descMore r then [(2, s.descAddr r (s.descNext r))] else [])

/-- The access of a ring whose translation is to be made next, its address, and whether the ring needs it now. -/
def State.missing (s : State) (r : Nat) : Option (Nat × Nat × Bool) :=
  let f := s.ringFunc r
  let pre := if s.ringState r = 1 ∧ s.on F.XLAT_CFG_PREFETCH f then
      ((s.ahead r).find? fun p => decide (p.2 < 2 ^ 48) && (s.xlate f p.2 (accWrites p.1)).isNone).map
        fun p => (p.1, p.2, false)
    else none
  if !s.ringMoves r || s.get F.XLAT_CFG_MODE f == 0 then none
  else match s.ringNeed r with
    | some (acc, addr) => if (s.xlate f addr (accWrites acc)).isNone then some (acc, addr, true) else pre
    | none => pre

/-! ### Choice among rings (R397, R418) -/

/-- The first ring that satisfies `ok`, by class, and within a class in turn after the one served last. -/
def State.pickRing (s : State) (turn : Tbl Nat) (ok : Nat → Bool) : Option Nat :=
  (List.range 4).findSome? fun c =>
    ((List.range 64).map fun i => (Tbl.get turn 63 c + 1 + i) % 64).find? fun r =>
      s.get F.RING_CFG_CLASS r == c && ok r

/-- The ring whose walk runs. -/
def State.walkRing (s : State) : Option Nat :=
  s.pickRing s.walkTurn fun r => s.get F.XLAT_CFG_MODE (s.ringFunc r) == 2 && (s.missing r).isSome

/-! ### AER, the fault log, FAULT_NOTE (R389, R405, R426, R440) -/

/-- Logs a condition of R389 for a ring. -/
def State.aerLog (s : State) (f r cause : Nat) : State :=
  (((s.puts f [(F.HOST_AER_CAUSE, cause), (F.HOST_AER_RING, r)]).count F.HOST_AER_COUNT f 1)).raise .host f Ev.aerLogged

/-- The key of entry `i` of a fault log. -/
def faultKey (f i : Nat) : Nat := f * 256 + i % 256

def State.putFault (s : State) (f i : Nat) (e : FaultEntry) : State :=
  { s with faults := Tbl.set s.faults none (faultKey f i) (some e) }

/-- Changes an entry of a fault log that has not been freed. -/
def State.editFault (s : State) (f : Nat) (i : Option Nat) (g : FaultEntry → FaultEntry) : State :=
  match i with
  | some k => (match Tbl.get s.faults none (faultKey f k) with
      | some e => s.putFault f k (g e)
      | none => s)
  | none => s

/-- Sends a FAULT_NOTE to the ring that `HOST_NOTE` names, if that is enabled; a note that cannot be delivered raises
NOTE_LOST (R405). -/
def State.faultNote (s : State) (f : Nat) (e : FaultEntry) : State :=
  let k := s.get F.HOST_NOTE_RING f
  if !s.on F.HOST_NOTE_EN f then s
  else if s.ringFunc k == f && s.ringTakes k && s.ringState k != 5 then
    s.offer k
      { kind := .function, source := f, time := s.now, epoch := s.epoch (.func f)
        payload := .faultNote e.ring e.access e.cause e.desc e.off e.addr }
  else s.raise .host f Ev.noteLost

/-- Writes an entry at TAIL of the function's fault log, raises FAULT and sends the note; a fault that finds the log full is
counted (R426). Answers the state and where the entry stands. -/
def State.logFault (s : State) (f : Nat) (e : FaultEntry) : State × Option Nat :=
  if s.get F.FAULT_LOG_COUNT f < 256 then
    let i := s.get F.FAULT_LOG_TAIL f
    let t := (s.putFault f i e).puts f [(F.FAULT_LOG_TAIL, i + 1), (F.FAULT_LOG_COUNT, s.get F.FAULT_LOG_COUNT f + 1)]
    ((t.raise .fault f Ev.fault).faultNote f e, some i)
  else ((s.count F.FAULT_OVERFLOW_COUNT f 1).raise .fault f Ev.faultOverflow, none)

/-- Shows how many page requests of a function await their response. -/
def State.showAsked (s : State) (f : Nat) : State :=
  s.put F.XLAT_PRQ_OUTSTANDING f
    (((s.ringsOf f).filter fun r => match (s.ring r).fault with | some x => x.asked | none => false).length)

/-- A fault is settled: its entry takes its final STATE, a response still due is ignored. -/
def State.settleFault (s : State) (r state : Nat) : State :=
  match (s.ring r).fault with
  | some x =>
    ((s.editFault (s.ringFunc r) x.entry fun e => { e with state := state }).setRing r
      { s.ring r with fault := none }).showAsked (s.ringFunc r)
  | none => s

/-- The byte offset in the buffer that a fault entry states: that of the faulting byte for an access to the buffer. -/
def State.faultOff (s : State) (r acc : Nat) : Nat := if acc ≤ 1 then (s.ring r).used else 0

/-- The descriptor that a fault entry names. -/
def State.faultDesc (s : State) (r acc : Nat) : Nat :=
  let h := s.ring r
  if acc = 2 then s.descNext r
  else if acc = 1 then (match h.reading with | some d => d.index | none => s.get F.RING_HEAD_HEAD r)
  else s.get F.RING_HEAD_HEAD r

/-- Stops a ring at the faulting byte: FAULTED, logged, noted, and with `ask` a page request is sent (R423, R426). -/
def State.faultRing (s : State) (r acc cause addr : Nat) (ask : Bool) : State :=
  let f := s.ringFunc r
  let e : FaultEntry := { ring := r, access := acc, cause := cause, desc := s.faultDesc r acc, off := s.faultOff r acc,
                          addr := addr, time := s.now }
  let t := (s.put F.RING_STAT_STATE r 5).raise .ring r Ev.ringFault
  let t := if cause = 4 then t.raise .xlat f Ev.tableErr else t
  let (t, i) := t.logFault f e
  let ask := ask && (t.cfg f).pri && !t.on F.XLAT_STAT_PRI_STOPPED f
  let t := if ask then t.send (.pageRequest f (addr / 4096 * 4096) (accWrites acc)) else t
  let x : RingFault := { access := acc, cause := cause, desc := e.desc, off := e.off, addr := addr, asked := ask, entry := i }
  (t.setRing r { t.ring r with fault := some x }).showAsked f

/-! ### The ring's end (R396) -/

/-- A draining or reset ring ends: its pots are freed and it is DISABLED. A reset also returns the registers to their reset
values, but for RESET, which reads 1 until the reset is done. -/
def State.ringFinish (s : State) (r : Nat) (reset : Bool) : State :=
  let t := { (s.freePotsOf (.ring r)) with rings := Tbl.erase s.rings r }
  if reset then t.resetKeep .ring r [H.RESET .ring]
  else (t.puts r [(F.RING_STAT_STATE, 0), (F.RING_STAT_GAP_PEND, 0), (F.RING_FILL_BYTES, 0)]).raise .ring r Ev.ringDisabled

/-- A fault of a translation that a ring needs. The final writeback of a ring that ends is dropped, and its entry is
ABANDONED at once (R429). -/
def State.failNeeded (s : State) (r acc cause addr : Nat) (ask : Bool) : State :=
  match (s.ring r).ending with
  | some reset =>
    let t := s.faultRing r acc cause addr false
    (t.settleFault r 3).ringFinish r reset
  | none => s.faultRing r acc cause addr ask

/-- A translation has been made or has failed (R417, R419, R420, R423): a failed prefetch is dropped. -/
def State.translated (s : State) (r acc addr : Nat) (needed ask : Bool) (res : Except Nat XEntry) : State :=
  match res with
  | .error c => if needed then (s.xdrop (s.ringFunc r) addr).failNeeded r acc c addr ask else s
  | .ok e =>
    let t := s.xput e addr
    if !needed then t
    else if (if accWrites acc then e.w else e.r) then t.setRing r { t.ring r with fresh := true }
    else (t.xdrop (s.ringFunc r) addr).failNeeded r acc 2 addr ask

/-- Counts a translation (R438). -/
def State.countWalk (s : State) (f : Nat) (needed : Bool) : State :=
  let t := s.count F.XLAT_WALKS_COUNT f 1
  if needed then t.count F.XLAT_MISSES_COUNT f 1 else t

/-! ### LOCAL walks (R416, R417) -/

/-- How a walk ends: a fault with its cause and, for a read that failed, the condition for AER; or a page. -/
inductive WalkEnd
  | fail (cause aer : Nat)
  | page (phys : Nat) (r w : Bool)
deriving DecidableEq, Repr

/-- A walk of the `k` levels that remain from a table on: what each read answered, by completion status (0 good) and value.
Answers the reads made and the end. -/
def walkFrom (va : Nat) : Nat → Nat → List (Nat × Nat) → List Nat × WalkEnd
  | 0, _, _ => ([], .fail 4 0)
  | k + 1, table, reads =>
    let a := table + va / 2 ^ (12 * (k + 1)) % 4096 * 8
    match reads with
    | [] => ([a], .fail 4 4)
    | (st, v) :: rest =>
      if st ≠ 0 then ([a], .fail 4 (min st 4))
      else if !bit v 0 then ([a], .fail 1 0)
      else if bits v 11 3 ≠ 0 ∨ bits v 63 52 ≠ 0 then ([a], .fail 4 0)
      else if k = 0 then ([a], .page (bits v 51 12 * 4096) (bit v 1) (bit v 2))
      else if bits v 14 12 ≠ 0 then ([a], .fail 4 0)
      else
        let (l, e) := walkFrom va k (bits v 51 12 * 4096) rest
        (a :: l, e)

/-- The root table of a function. -/
def State.xroot (s : State) (f : Nat) : Nat := s.get F.XLAT_ROOT_LO_ADDR f + s.get F.XLAT_ROOT_HI_ADDR f * 2 ^ 32

/-- A LOCAL walk completes. An IO virtual address that no table covers faults without a walk (R415). -/
def execLocalWalk (r : Fin 64) (reads : List (Nat × Nat)) (s : State) : Host.Outcome State Fault Refusal :=
  let f := s.ringFunc r.val
  if s.walkRing ≠ some r.val then .next s
  else match s.missing r.val with
  | none => .next s
  | some (acc, addr, needed) =>
    let s := { s with walkTurn := Tbl.set s.walkTurn 63 (s.get F.RING_CFG_CLASS r.val) r.val }
    if 2 ^ 48 ≤ addr then .next (s.translated r.val acc addr needed false (.error 1))
    else
      let (l, e) := walkFrom addr 3 (s.xroot f) reads
      let t := l.foldl (fun u a => u.send (.walkRead f a)) (s.countWalk f needed)
      .next (match e with
        | .page phys rd wr => t.translated r.val acc addr needed false
            (.ok { func := f, base := addr / 4096 * 4096, size := 4096, phys := phys, r := rd, w := wr })
        | .fail c aer => (if aer ≠ 0 then t.aerLog f r.val aer else t).translated r.val acc addr needed false (.error c))

/-! ### ATS and page requests (R422 to R424) -/

/-- The cache entry that a Translation Completion gives for an address. -/
def Grant.entry (g : Grant) (f addr : Nat) : XEntry :=
  let size := 4096 * 2 ^ min g.k 36
  { func := f, base := addr / size * size, size := size, phys := g.phys / size * size, r := g.r, w := g.w }

/-- What a Translation Completion makes of a request (R423): UR or CA status gives CAUSE 3, no grant CAUSE 1. -/
def grantResult (grant : Option Grant) (f addr : Nat) : Except Nat XEntry :=
  match grant with
  | none => .error 3
  | some g => if g.r || g.w then .ok (g.entry f addr) else .error 1

/-- A Translation Completion arrives, for the request that the part sent (R422, R423). With ATS Enable cleared there is no
request, and the translation fails with CAUSE 3 (R414). -/
def execAtsCompletion (r : Fin 64) (grant : Option Grant) (s : State) : Host.Outcome State Fault Refusal :=
  let f := s.ringFunc r.val
  if s.get F.XLAT_CFG_MODE f ≠ 1 then .next s
  else match s.missing r.val with
  | none => .next s
  | some (acc, addr, needed) =>
    if 2 ^ 48 ≤ addr then .next (s.translated r.val acc addr needed false (.error 1))
    else if !(s.cfg f).ats then .next (s.translated r.val acc addr needed false (.error 3))
    else
      let t := (s.send (.atsRequest f (addr / 4096 * 4096))).countWalk f needed
      .next (t.translated r.val acc addr needed grant.isSome (grantResult grant f addr))

/-- The state of a ring that goes on after a fault or a stop: DRAINING, STOPPED while its function may not send, else RUNNING
or STARVED (R386, R429). -/
def State.ringGoes (s : State) (r : Nat) : State :=
  let c := s.cfg (s.ringFunc r)
  if (s.ring r).draining then s.put F.RING_STAT_STATE r 6
  else if !c.bme || c.d3 then s.put F.RING_STAT_STATE r 3
  else (s.put F.RING_STAT_STATE r 1).starve r

/-- A Success response with PRI_AUTO 1: the page is translated again, and if the access is now allowed the ring goes on at
the faulting byte (R424). -/
def State.prgRetry (s : State) (r : Nat) (x : RingFault) (grant : Option Grant) : State :=
  let f := s.ringFunc r
  let t := (s.send (.atsRequest f (x.addr / 4096 * 4096))).count F.XLAT_WALKS_COUNT f 1
  match grantResult grant f x.addr with
  | .error _ => t
  | .ok e =>
    if (if accWrites x.access then e.w else e.r) then
      let t := (t.xput e x.addr).settleFault r 1
      ((t.setRing r { t.ring r with fresh := true }).ringGoes r).raise .fault f Ev.priResolved
    else t

/-- A Page Request Group Response (R424): 0 Success, 1 Invalid Request, 2 Response Failure. One whose fault has been settled
is ignored. -/
def execPrgResponse (r : Fin 64) (code : Fin 3) (grant : Option Grant) (s : State) : Host.Outcome State Fault Refusal :=
  let f := s.ringFunc r.val
  match (s.ring r.val).fault with
  | none => .next s
  | some x =>
    if !x.asked then .next s
    else
      let x := { x with asked := false, cause := if code.val = 0 then x.cause else 3 }
      let t := ((s.setRing r.val { s.ring r.val with fault := some x }).showAsked f).editFault f x.entry
        fun e => { e with resp := code.val + 1, cause := x.cause }
      if code.val = 0 then .next (if t.on F.XLAT_CFG_PRI_AUTO f then t.prgRetry r.val x grant else t)
      else if code.val = 1 then .next t
      else .next ((t.put F.XLAT_STAT_PRI_STOPPED f 1).raise .xlat f Ev.priStopped)

/-! ### The XLAT page (R414, R421, R438) -/

/-- Whether every ring of a function is DISABLED. -/
def State.ringsIdle (s : State) (f : Nat) : Bool := (s.ringsOf f).all fun r => s.ringState r == 0

/-- A write of `XLAT_CFG` (R414). Translations made under another mode are dropped with it. -/
def xlatCfgWrite (f major : Nat) (w : Word) (s : State) : Except Reason State :=
  let m := bits w.toNat 1 0
  let old := s.get F.XLAT_CFG_MODE f
  if m ≠ old ∧ !s.ringsIdle f then .error .range
  else if m = 1 ∧ !(s.cfg f).ats then .error .range
  else onOk (plainWrite .xlat f 0x40 major w s) fun t => .ok (if m = old then t else t.xdropAll f)

def execXlatCfgWrite (a : Accessor) (w : Word) (s : State) : Host.Outcome State Fault Refusal :=
  let f := accView a
  .next (s.regWrite a .xlat f 0x40 (xlatCfgWrite f (s.major a 0x71) w))

/-- The page that an invalidation names. -/
def State.invPage (s : State) (f : Nat) : Nat :=
  s.get F.XLAT_INV_ADDR_LO_ADDR f * 4096 + s.get F.XLAT_INV_ADDR_HI_ADDR f * 2 ^ 32

/-- A write of `XLAT_INV` (R421). -/
def xlatInvWrite (f : Nat) (w : Word) (s : State) : Except Reason State :=
  let all := bit w.toNat 0
  let page := bit w.toNat 1
  if !all && !page then .ok s
  else if s.on F.XLAT_INV_BUSY f then .error .busy
  else if all && page then .error .range
  else .ok ((if all then s.xdropAll f else s.xdrop f (s.invPage f)).put F.XLAT_INV_BUSY f 1)

/-- A write of a register of the XLAT page. -/
def xlatWrite (f off major : Nat) (w : Word) (s : State) : Except Reason State :=
  if off = 0x40 then xlatCfgWrite f major w s
  else if off = 0x4C then xlatInvWrite f w s
  else if (off = 0x44 ∨ off = 0x48) ∧ !s.ringsIdle f then .error .range
  else if off = 0x44 ∧ bits w.toNat 14 0 ≠ 0 then .error .range
  else plainWrite .xlat f off major w s

def execInvAll (a : Accessor) (w : Word) (s : State) : Host.Outcome State Fault Refusal :=
  .next (s.regWrite a .xlat (accView a) 0x4C (xlatInvWrite (accView a) w))

def execInvPage (a : Accessor) (w : Word) (s : State) : Host.Outcome State Fault Refusal :=
  .next (s.regWrite a .xlat (accView a) 0x4C (xlatInvWrite (accView a) w))

/-- An invalidation completes (R421). -/
def execInvDone (f : Fin 4) (s : State) : Host.Outcome State Fault Refusal :=
  if s.on F.XLAT_INV_BUSY f.val then .next ((s.put F.XLAT_INV_BUSY f.val 0).raise .xlat f.val Ev.invDone)
  else .next s

/-- An ATS Invalidate Request: the entries of the range named are dropped, and the request is answered (R422). -/
def execAtsInvalidateRequest (f : Fin 4) (addr size : Nat) (s : State) : Host.Outcome State Fault Refusal :=
  if !s.link.up || !s.domOn 14 then .next s
  else .next ({ s with xcache := s.xcache.filter fun e =>
      !(e.func == f.val && decide (e.base < addr + size) && decide (addr < e.base + e.size)) }.send
        (.invCompletion f.val))

end Sys2Proof.Machine
end

