-- ==== Sys2Proof/Machine/Rings.lean ====
section
/-! DEFINITION. The rings (R386 to R400): descriptors, DMA, completion of buffers, records from the host, draining and
reset; and what a resume of a fault does (R428). -/

namespace Sys2Proof.Machine

/-! ### Counting culled records (R396, R399) -/

/-- Records that had entered the buffer are dropped: counted, without a new SEQ. -/
def State.dropHeld (s : State) (r : Nat) (l : List Held) : State :=
  (s.count F.RING_CULL_REC_COUNT r l.length).count F.RING_CULL_BYTES_COUNT r (l.foldl (fun n x => n + x.len) 0)

/-- The records of a host that stand in the bytes read: how many, and their LENGTHs together; of the last one its header has
at least arrived (R395, R396). -/
def rawRecs : Nat → List Byte → Nat × Nat
  | 0, _ => (0, 0)
  | k + 1, l =>
    if l.length < 8 then (0, 0)
    else
      let len := ofLe ((l.drop 4).take 4)
      if len < 32 then (1, 32)
      else
        let (n, m) := rawRecs k (l.drop len)
        (n + 1, len + m)

/-- Everything that a ring holds is dropped and counted as culled, with the event of R412; `tracked` has a GAP follow for each
source, as R400 says of culls in a ring that neither drains nor is DISABLED. -/
def State.dropWork (s : State) (r : Nat) (tracked : Bool) : State :=
  let h := s.ring r
  let x := rawRecs (h.raw.length + 1) h.raw
  let lost := h.buf != [] || x.1 != 0
  let h' := if tracked then h.buf.foldl (fun k y => k.track y.body) h else h
  let t := (((s.dropHeld r h.buf).count F.RING_CULL_REC_COUNT r x.1).count F.RING_CULL_BYTES_COUNT r x.2).setRing r
    { h' with buf := [], sent := 0, raw := [], culling := h.culling || lost }
  let t := t.put F.RING_STAT_GAP_PEND r h'.culls.length
  if lost && !h.culling then t.raise .ring r Ev.cull else t

/-! ### Halting (R389, R393, R395) -/

/-- A ring enters HALTED. For one that drains the limit of R396 still runs. -/
def State.haltRing (s : State) (r reason : Nat) : State :=
  (s.puts r [(F.RING_STAT_HALT_REASON, reason), (F.RING_HALT_INDEX, s.get F.RING_HEAD_HEAD r), (F.RING_STAT_STATE, 4)]).raise
    .ring r Ev.halt

/-- The descriptor at HEAD has LEN 0: the ring halts with DESC_ERR (R393). -/
def State.headCheck (s : State) (r : Nat) : State :=
  match (s.ring r).descs with
  | d :: _ => if d.len = 0 then (s.setRing r { s.ring r with descs := [] }).haltRing r 1 else s
  | [] => s

/-! ### Bytes moved (R409, R411) -/

/-- Adds to a count of 64 bits in two registers. -/
def State.add64 (s : State) (lo hi : Fld) (n k : Nat) : State :=
  let v := s.get lo n + s.get hi n * 2 ^ 32 + k
  (s.put lo n v).put hi n (v / 2 ^ 32)

/-- Counts bytes that a ring has moved. -/
def State.moved (s : State) (r k : Nat) : State :=
  (s.add64 F.RING_BYTES_LO_BYTES F.RING_BYTES_HI_BYTES r k).add64 F.HOST_BYTES_LO_BYTES F.HOST_BYTES_HI_BYTES
    (s.ringFunc r) k

/-! ### Completing a descriptor (R388, R391, R392) -/

/-- Counts a completed descriptor whose INT bit is 1 and sends the message that is due (R388). -/
def State.coalesce (s : State) (r : Nat) : State :=
  let n := (s.ring r).coal + 1
  if !s.on F.RING_IRQ_EN r then s
  else if n < s.get F.RING_IRQ_COAL_CNT r then s.setRing r { s.ring r with coal := n }
  else (s.setRing r { s.ring r with coal := 0 }).message (s.ringFunc r) (s.get F.RING_IRQ_VEC r)

/-- What a ring holds once the first descriptor is done. -/
def RingHid.next (h : RingHid) (d : Desc) (fromHost : Bool) : RingHid :=
  if fromHost then
    { h with descs := h.descs.drop 1, ahead := h.ahead - 1, taken := h.taken - d.len, contIn := decide (d.len < h.taken)
             first := none, closing := none }
  else
    { h with descs := h.descs.drop 1, used := 0, contIn := decide (0 < h.sent), first := none, flush := false
             closing := none }

/-- The writeback of the completed descriptor at HEAD, whose bytes 16 to 31 stand at `phys`; HEAD advances, the message of
R388 follows, and the ring takes the next descriptor, starves, or ends. -/
def State.writeback (s : State) (r stat : Nat) : State :=
  let h := s.ring r
  match h.descs with
  | [] => s.setRing r { h with closing := none }
  | d :: _ =>
    let fromHost := s.get F.RING_CFG_DIR r == 1
    let used := if fromHost then min h.taken d.len else h.used
    let v2 := s.get F.RING_CFG_DESC_VER r == 2
    let t := s.send (.descWriteback r d.index used stat
      (if v2 then h.first.getD 0xFFFFFFFF else 0) (if v2 then s.now else 0))
    let t := t.puts r [(F.RING_HEAD_HEAD, (s.get F.RING_HEAD_HEAD r + 1) % s.get F.RING_SIZE_ENTRIES r),
      (F.RING_DONE_COUNT, s.get F.RING_DONE_COUNT r + 1)]
    let t := t.setRing r (h.next d fromHost)
    let t := if d.int then t.coalesce r else t
    match h.ending with
    | some reset => t.ringFinish r reset
    | none =>
      let t := t.headCheck r
      if fromHost || 0 < (t.ring r).fill then t.starve r else t

/-- Writes the completed descriptor back if its translation is known. -/
def State.tryWriteback (s : State) (r : Nat) : State :=
  match (s.ring r).closing with
  | none => s
  | some stat =>
    if (s.xlate (s.ringFunc r) ((s.descAddr r (s.get F.RING_HEAD_HEAD r) + 16) % 2 ^ 64) true).isSome
      && s.ringMoves r then (s.hit r).writeback r stat
    else s

/-- The STAT of a completed buffer (R392). -/
def statOf (contIn contOut flushed trunc : Bool) : Nat :=
  1 + 2 * b2n contIn + 4 * b2n contOut + 8 * b2n flushed + 16 * b2n trunc

/-- The current buffer of a TO_HOST ring completes. -/
def State.closeBuf (s : State) (r : Nat) (flushed trunc : Bool) : State :=
  let h := s.ring r
  (s.setRing r { h with closing := some (statOf h.contIn (0 < h.sent && !trunc) flushed trunc) }).tryWriteback r

/-! ### TO_HOST: the byte stream (R394) -/

/-- Takes up to `n` bytes from the records, of the first of which `sent` bytes are gone: the bytes, the records that remain,
the bytes gone of the first, and the offset of the first record header, `pos` being the offset of the next byte. -/
def takeStream (n pos : Nat) (first : Option Nat) : List Held → Nat → List Byte × List Held × Nat × Option Nat
  | [], _ => ([], [], 0, first)
  | x :: rest, sent =>
    let first := if sent = 0 ∧ 0 < n then first.orElse fun _ => some pos else first
    let b := x.bytes.drop sent
    if n < b.length then (b.take n, x :: rest, sent + n, first)
    else
      let (l, m, k, f) := takeStream (n - b.length) (pos + b.length) first rest 0
      (b ++ l, m, k, f)

/-- The bytes to the next boundary of `k` bytes. -/
def toBoundary (addr k : Nat) : Nat := k - addr % k

/-- A burst of a TO_HOST ring to the address `phys` (R397). With `cut` it ends at the next 64-byte boundary. -/
def State.burstOut (s : State) (r : Nat) (d : Desc) (phys : Nat) (cut : Bool) : State :=
  let h := s.ring r
  let mps := 128 * 2 ^ min (s.cfg (s.ringFunc r)).mps 2
  let n := [512, mps, toBoundary phys 4096, d.len - h.used, h.fill].foldl min 512
  let n := if cut then min n (toBoundary phys 64) else n
  let n := match h.flush, h.buf with
    | true, x :: _ => min n (x.len - h.sent)
    | _, _ => n
  let (bytes, rest, sent, first) := takeStream n h.used h.first h.buf h.sent
  let t := (s.hit r).send (.dmaWrite r phys bytes)
  let t := (t.setRing r { t.ring r with buf := rest, sent := sent, used := h.used + n, first := first }).moved r n
  let t := t.showFill r
  let t :=
    if h.used + n = d.len then t.closeBuf r false false
    else if h.flush && sent == 0 then t.closeBuf r true false
    else t
  t.overflowGap r

/-- A flush of the current buffer, at the end of the record then being written (R394). It has no effect where no descriptor is
in use or the buffer holds no byte yet. -/
def State.flushBuf (s : State) (r : Nat) : State :=
  let h := s.ring r
  if s.get F.RING_CFG_DIR r ≠ 0 ∨ h.descs = [] ∨ h.used = 0 ∨ h.closing.isSome ∨ !(1 ≤ s.ringState r && s.ringState r ≤ 6)
  then s
  else if h.sent = 0 then s.closeBuf r true false
  else s.setRing r { h with flush := true }

/-! ### FROM_HOST: records from the host (R395, R453, R456) -/

/-- A 24-bit sample in the packing of R453, from its first byte on. -/
def unpack (pack : Nat) (l : List Byte) : Nat :=
  if pack = 1 then ofLe ((l.drop 1).take 3) else ofLe (l.take 3)

/-- The sample periods of a PCM record: rate, left, right. -/
def unpackPeriods (pack rate : Nat) : Nat → List Byte → List (Nat × Nat × Nat)
  | 0, _ => []
  | n + 1, l =>
    let b := if pack = 0 then 3 else 4
    (rate, unpack pack l, unpack pack (l.drop b)) :: unpackPeriods pack rate n (l.drop (2 * b))

/-- The sample periods that a whole PCM record carries (R401, R404). -/
def recPeriods (l : List Byte) : List (Nat × Nat × Nat) :=
  let p := l.drop 32
  unpackPeriods (ofLe ((p.drop 4).take 1)) (ofLe ((p.drop 8).take 4)) (ofLe (p.take 4))
    (p.drop (16 + 8 * ofLe ((p.drop 6).take 2)))

/-- What becomes of the record at the front of the bytes read from the host. -/
inductive Front
  | wait                                     -- not whole yet, or its pair has no room
  | bad                                      -- REC_ERR
  | cull (len : Nat)
  | play (len p k : Nat)
deriving DecidableEq, Repr

/-- Judges the record at the front (R395, R456): a PCM record of a port, whole and with a good CRC; one of another epoch than
the port's, or for a pair that does not play this ring, is culled; one for a pair without room waits. -/
def State.front (s : State) (r : Nat) : Front :=
  let l := (s.ring r).raw
  let len := ofLe ((l.drop 4).take 4)
  let src := ofLe ((l.drop 8).take 2)
  let p := src / 16
  let k := src % 16
  if l.length < 8 then .wait
  else if ofLe (l.take 2) ≠ 1 ∨ len < 32 ∨ len % 8 ≠ 0 then .bad
  else if l.length < len then .wait
  else if bit (ofLe ((l.drop 3).take 1)) 0 && crc32c ((l.take len).drop 32) != ofLe ((l.drop 28).take 4) then .bad
  else if ofLe ((l.drop 10).take 2) ≠ SrcKind.port.code then .bad
  else if 8 ≤ p then .cull len
  else
    let o := (s.ap p).out k
    if ofLe ((l.drop 24).take 1) ≠ s.epoch (.ap p) ∨ o.kind ≠ 4 ∨ o.index ≠ r then .cull len
    else if o.fifo = [] ∨ o.fifo.length + ofLe ((l.drop 32).take 4) ≤ 4096 then .play len p k
    else .wait

/-- `len` bytes of the stream are consumed; a record starts with them. -/
def State.consume (s : State) (r len : Nat) : State :=
  let h := s.ring r
  s.setRing r { h with raw := h.raw.drop len, taken := h.taken + len, first := h.first.orElse fun _ => some h.taken }

/-- After SKIP_RECORD the part record is discarded, and the buffer that was cut short ends where its records end (R428). -/
def State.skipTail (s : State) (r : Nat) : State :=
  let h := s.ring r
  let before := ((h.descs.take (h.ahead - 1)).map (·.len)).sum
  let len := h.taken - before
  s.setRing r { h with
    raw := [], taken := before + len
    descs := h.descs.mapIdx fun i d => if i + 1 = h.ahead then { d with len := len } else d }

/-- The first buffer of a FROM_HOST ring has been consumed and completes. -/
def State.closeFrom (s : State) (r : Nat) (d : Desc) : State :=
  let h := s.ring r
  let last := h.cut && h.ahead == 1
  (s.setRing r { h with
    closing := some (statOf h.contIn (d.len < h.taken) false last), cut := h.cut && !last }).tryWriteback r

/-- Hands the records read to the ports, and completes the buffers consumed, as far as that goes. -/
def State.feedPorts (s : State) (r : Nat) : Nat → State
  | 0 => s
  | k + 1 =>
    let h := s.ring r
    if s.get F.RING_CFG_DIR r ≠ 1 ∨ s.ringState r = 0 ∨ s.ringState r = 4 ∨ h.still ∨ h.closing.isSome then s
    else match h.descs with
    | [] => s
    | d :: _ =>
      if 0 < h.ahead && d.len ≤ h.taken then (s.closeFrom r d).feedPorts r k
      else match s.front r with
        | .wait => if h.cut && h.raw.length < ofLe ((h.raw.drop 4).take 4) || h.cut && h.raw.length < 8
            then (s.skipTail r).feedPorts r k else s
        | .bad => s.haltRing r 2
        | .cull len =>
          let t := ((s.consume r len).count F.RING_CULL_REC_COUNT r 1).count F.RING_CULL_BYTES_COUNT r len
          let t := t.setRing r { t.ring r with culling := true }
          (if h.culling then t else t.raise .ring r Ev.cull).feedPorts r k
        | .play len p q =>
          let a := s.ap p
          let o := a.out q
          let t := s.setAp p (a.setOut q { o with fifo := o.fifo ++ recPeriods (h.raw.take len) })
          let t := t.consume r len
          (t.setRing r { t.ring r with culling := false }).feedPorts r k

/-- Hands on what a FROM_HOST ring has read. -/
def State.feedRing (s : State) (r : Nat) : State :=
  (s.feedPorts r ((s.ring r).raw.length + (s.ring r).descs.length + 2)).showFill r

/-- A burst of a FROM_HOST ring from the address `phys`, which the host answers with `data` (R397). -/
def State.burstIn (s : State) (r : Nat) (d : Desc) (phys : Nat) (cut : Bool) (data : List Byte) : State :=
  let h := s.ring r
  let mrrs := 128 * 2 ^ min (s.cfg (s.ringFunc r)).mrrs 5
  let n := [mrrs, toBoundary phys 4096, d.len - h.used, s.ringCap r - h.raw.length, data.length].foldl min 512
  let n := if cut then min n (toBoundary phys 64) else n
  let t := (s.hit r).send (.dmaRead r phys n)
  let whole := h.used + n == d.len
  let t := (t.setRing r { t.ring r with
    raw := h.raw ++ data.take n
    used := if whole then 0 else h.used + n
    ahead := if whole then h.ahead + 1 else h.ahead }).moved r n
  t.feedRing r

/-! ### DMA (R397) -/

/-- Whether a ring has a burst or a writeback ready. -/
def State.burstReady (s : State) (r : Nat) : Bool :=
  s.ringMoves r && match s.ringNeed r with
    | some (acc, addr) => acc != 2 && (s.xlate (s.ringFunc r) addr (accWrites acc)).isSome
    | none => false

/-- The ring that the DMA engine serves next. -/
def State.dmaRing (s : State) : Option Nat := s.pickRing s.dmaTurn s.burstReady

/-- A DMA burst of the ring that is served next (R397), in which a buffer may complete. -/
def execDmaBurst (r : Fin 64) (cut : Bool) (data : List Byte) (s : State) : Host.Outcome State Fault Refusal :=
  if s.dmaRing ≠ some r.val then .next s
  else
    let s := { s with dmaTurn := Tbl.set s.dmaTurn 63 (s.get F.RING_CFG_CLASS r.val) r.val }
    match s.ringNeed r.val with
    | none => .next s
    | some (acc, addr) =>
      match s.xlate (s.ringFunc r.val) addr (accWrites acc) with
      | none => .next s
      | some phys =>
        if acc = 3 then .next ((s.tryWriteback r.val).feedRing r.val)
        else if acc = 0 then
          match (s.ring r.val).descs with
          | d :: _ => .next (s.burstOut r.val d phys cut)
          | [] => .next s
        else match (s.ring r.val).reading with
          | some d => .next (s.burstIn r.val d phys cut data)
          | none => .next s

/-- A descriptor read completes (R391, R392); the next one in order, whose fetch needs a translation. -/
def execDescFetch (r : Fin 64) (addr len ctl cookie : Nat) (s : State) : Host.Outcome State Fault Refusal :=
  let n := r.val
  if !s.ringMoves n || !s.descMore n then .next s
  else match s.xlate (s.ringFunc n) (s.descAddr n (s.descNext n)) false with
    | none => .next s
    | some phys =>
      let t := (s.hit n).send (.dmaRead n phys 32)
      let d : Desc := { index := s.descNext n, addr := addr, len := len, int := bit ctl 0, cookie := cookie }
      let t := t.setRing n { t.ring n with descs := (t.ring n).descs ++ [d] }
      .next (t.headCheck n)

/-- A read of a ring completes with UR, CA, poisoned data or a timeout: the ring halts with HOST_ERR (R389). -/
def execReadCompletionError (r : Fin 64) (cause : Fin 4) (s : State) : Host.Outcome State Fault Refusal :=
  let n := r.val
  if !s.ringMoves n then .next s
  else .next ((s.aerLog (s.ringFunc n) n (cause.val + 1)).haltRing n 3)

/-- FLUSH_US have passed since the first byte of the buffer was written (R394). -/
def execFlushTimer (r : Fin 64) (s : State) : Host.Outcome State Fault Refusal :=
  if s.get F.RING_FLUSH_FLUSH_US r.val = 0 then .next s else .next (s.flushBuf r.val)

/-- COAL_US have passed since the first uncounted completion (R388). -/
def execCoalTimer (r : Fin 64) (s : State) : Host.Outcome State Fault Refusal :=
  let h := s.ring r.val
  if h.coal = 0 || !s.on F.RING_IRQ_EN r.val || s.get F.RING_IRQ_COAL_US r.val == 0 then .next s
  else .next ((s.setRing r.val { h with coal := 0 }).message (s.ringFunc r.val) (s.get F.RING_IRQ_VEC r.val))

/-! ### Records offered (R399, R400) -/

/-- The epoch of the source of a record (R55); sources that carry none read as their pages do. -/
def State.srcEpoch (s : State) (k : SrcKind) (n : Nat) : Nat :=
  match k with
  | .slot => s.epoch (.slot n) | .dabCtx => s.epoch (.dab n) | .drmCtx => s.epoch (.drm n) | .tap => s.epoch (.tap n)
  | .window => s.epoch (.fe n) | .port => s.epoch (.ap (n / 16)) | .ring => s.epoch (.ring n)
  | .function => s.epoch (.func n)
  | .follow => Config.pageEpoch 0x59 | .feed => Config.pageEpoch 0x5A | .rule => Config.pageEpoch 0x5B

/-- The sample periods that a follower's output carries as zeros flagged NOT_RX (R262). -/
def Rec.notRx (x : Rec) : Nat :=
  match x.kind, x.payload with
  | .follow, .pcm t => ((t.runs.filter fun u => bit u.flags 1).map (·.count)).sum
  | _, _ => 0

/-- A record that a producer makes is offered to a ring (R399). Zeros of a LOST follower count in `FOL_CULL` (R262). -/
def execRecordOffer (r : Fin 64) (rec : Rec) (s : State) : Host.Outcome State Fault Refusal :=
  let t := if 0 < rec.notRx then s.countE F.FOL_CULL_COUNT 0 rec.source rec.notRx else s
  if t.domOn 14 then .next (t.offer r.val { rec with epoch := t.srcEpoch rec.kind rec.source }) else .next t

/-- An overflow episode ends: 1 s without a pending tracked entry (R400). -/
def execCullOverflowEnd (r : Fin 64) (s : State) : Host.Outcome State Fault Refusal :=
  let h := s.ring r.val
  match h.overflow with
  | none => .next s
  | some o =>
    if h.culls ≠ [] then .next s
    else .next ((s.setRing r.val { h with overflow := none, overflowDone := h.overflowDone ++ [(o, s.now)] }).overflowGap
      r.val)

/-! ### Enable, disable, drain, reset (R390, R396, R429) -/

/-- A write of 1 to a ring's ENABLE (R390). -/
def ringEnable (r : Nat) (s : State) : Except Reason State :=
  let base := s.ringBase r
  if s.enabled .ring r then .ok s
  else if s.ringState r ≠ 0 then .error .busy
  else if base = 0 ∨ base % 32 ≠ 0 ∨ (s.get F.RING_CFG_DIR r = 1 ∧ s.get F.RING_CFG_CLASS r = 3) then .error .range
  else match s.allocPots (s.ringFunc r) (.ring r) (s.get F.RING_CFG_POTS r) with
    | none => .error .range
    | some t =>
      let t := { t with rings := Tbl.erase t.rings r }
      let t := t.puts r [(H.ENABLE .ring, 1), (F.RING_HEAD_HEAD, 0), (F.RING_TAIL_TAIL, 0), (F.RING_SEQ_SEQ, 0),
        (F.RING_STAT_HALT_REASON, 0), (F.RING_STAT_GAP_PEND, 0), (F.RING_FILL_BYTES, 0)]
      let c := t.cfg (t.ringFunc r)
      .ok (t.put F.RING_STAT_STATE r (if c.bme && !c.d3 then 1 else 3))

/-- A write of 0 to a ring's ENABLE: DRAINING. A FAULTED ring stays FAULTED and a HALTED one still (R396, R429). -/
def State.ringDisable (s : State) (r : Nat) : State :=
  if !s.enabled .ring r then s
  else
    let st := s.ringState r
    let t := s.put (H.ENABLE .ring) r 0
    let t := t.setRing r { t.ring r with draining := true, still := (t.ring r).still || st == 4 }
    if st = 5 then t else t.put F.RING_STAT_STATE r 6

/-- A ring ends its work, at the end of DRAINING or at a reset (R396, R429): what remains is discarded and counted; a FAULTED
ring drops its work without writeback; else the current buffer completes, with TRUNC if a record was cut, and the ring ends
when its writeback has been made or has failed to translate. -/
def State.ringEnd (s : State) (r : Nat) (reset : Bool) : State :=
  let h := s.ring r
  let fromHost := s.get F.RING_CFG_DIR r == 1
  let t := s.dropWork r false
  if h.fault.isSome then (t.settleFault r 3).ringFinish r reset
  else if h.still || s.ringState r == 4 || !s.mayRequest (s.ringFunc r) then t.ringFinish r reset
  else
    let t := t.setRing r { t.ring r with ending := some reset }
    let t := t.put F.RING_STAT_STATE r 6
    if h.closing.isSome then t.tryWriteback r
    else match h.descs with
    | [] => t.ringFinish r reset
    | _ :: _ =>
      if fromHost then
        if h.taken = 0 then t.ringFinish r reset
        else (t.setRing r { t.ring r with
          closing := some (statOf h.contIn false false (h.raw != [])) }).tryWriteback r
      else if h.used = 0 then t.ringFinish r reset
      else t.closeBuf r false (0 < h.sent)

/-- DRAINING ends (R396). -/
def execDrainEnd (r : Fin 64) (s : State) : Host.Outcome State Fault Refusal :=
  if (s.ring r.val).draining && ((s.ring r.val).ending.isNone || s.ringState r.val == 4) then .next (s.ringEnd r.val false) else .next s

/-- A reset of a ring instance (R396, R429). -/
def State.ringReset (s : State) (r : Nat) : State :=
  if s.ringState r = 0 then s.ringFinish r true else s.ringEnd r true

/-- A reset of a ring whose function sends nothing more (R434). -/
def State.ringKill (s : State) (r : Nat) : State := ((s.dropWork r false).settleFault r 3).ringFinish r true

/-- The reset of a ring ends at the latest when its 1 ms is over. -/
def State.ringResetEnd (s : State) (r : Nat) : State :=
  if (s.ring r).ending = some true then s.ringFinish r true else s

/-! ### Ring registers (R390, R391, R393, R411) -/

/-- A write of `RING_TAIL` (R391): a STARVED ring goes on. -/
def ringTailWrite (r : Nat) (w : Word) (s : State) : Except Reason State :=
  let v := bits w.toNat 15 0
  if s.get F.RING_SIZE_ENTRIES r ≤ v then .error .range
  else
    let t := s.put F.RING_TAIL_TAIL r v
    .ok (if t.ringState r = 2 ∧ !t.noDesc r then t.put F.RING_STAT_STATE r 1 else t)

def execRingTailWrite (a : Accessor) (r : Fin 64) (w : Word) (s : State) : Host.Outcome State Fault Refusal :=
  .next (s.regWrite a .ring r.val 0x50 (ringTailWrite r.val w))

/-- RESTART (R393): a HALTED ring fetches the descriptor at HEAD again. A FROM_HOST ring reads it from its first byte. -/
def State.ringRestart (s : State) (r : Nat) : State :=
  let h := s.ring r
  if s.ringState r ≠ 4 then s
  else
    let h := if s.get F.RING_CFG_DIR r = 1
      then { h with descs := [], used := 0, ahead := 0, taken := 0, raw := [], first := none, contIn := false, cut := false }
      else { h with descs := [] }
    (((s.setRing r h).put F.RING_STAT_HALT_REASON r 0).showFill r).ringGoes r

/-- A write of `RING_CMD`. -/
def ringCmdWrite (r : Nat) (w : Word) (s : State) : Except Reason State :=
  withEpoch (s.epoch (.ring r)) w (fun s =>
    let t := if bit w.toNat 1 then s.ringRestart r else s
    .ok (if bit w.toNat 0 then t.flushBuf r else t)) s

def execRingRestart (a : Accessor) (r : Fin 64) (w : Word) (s : State) : Host.Outcome State Fault Refusal :=
  .next (s.regWrite a .ring r.val 0x84 (ringCmdWrite r.val w))

def execRingFlush (a : Accessor) (r : Fin 64) (w : Word) (s : State) : Host.Outcome State Fault Refusal :=
  .next (s.regWrite a .ring r.val 0x84 (ringCmdWrite r.val w))

/-- A write of a ring register (R390, R411). -/
def ringWrite (r off major : Nat) (w : Word) (s : State) : Except Reason State :=
  if off = 0x84 then ringCmdWrite r w s
  else if off = 0x50 then ringTailWrite r w s
  else if 0x40 ≤ off ∧ off ≤ 0x4C ∧ s.ringState r ≠ 0 then .error .range
  else if off = 0x44 ∧ !((List.range 14).any fun k => 2 ^ (k + 3) == bits w.toNat 16 0) then .error .range
  else if off = 0x5C ∧ bits w.toNat 31 16 = 0 ∧ 1 < bits w.toNat 15 8 then .error .range
  else plainWrite .ring r off major w s

/-! ### Resume (R428) -/

/-- SKIP_RECORD of a TO_HOST ring: the record that holds the faulting byte is dropped, counted and tracked, and the buffer
completes with TRUNC. -/
def State.skipOut (s : State) (r : Nat) : State :=
  let h := s.ring r
  match h.buf with
  | [] => s
  | x :: rest =>
    let h' := h.track x.body
    let t := s.setRing r { h' with buf := rest, sent := 0, culling := true, closing := some (statOf h.contIn false false true) }
    let t := (t.dropHeld r [x]).put F.RING_STAT_GAP_PEND r h'.culls.length
    if h.culling then t else t.raise .ring r Ev.cull

/-- SKIP_RECORD of a FROM_HOST ring: reading of the buffer ends at the faulting byte. -/
def State.skipIn (s : State) (r : Nat) : State :=
  let h := s.ring r
  s.setRing r { h with
    cut := true, used := 0, ahead := h.ahead + 1
    descs := h.descs.mapIdx fun i d => if i = h.ahead then { d with len := h.used } else d }

/-- ABORT_RING: the work is dropped and counted, no descriptor is written back, and the ring is HALTED. -/
def State.ringAbort (s : State) (r : Nat) : State :=
  let t := (s.dropWork r !(s.ring r).draining).settleFault r 2
  let t := t.setRing r { t.ring r with
    descs := [], used := 0, first := none, contIn := false, ahead := 0, taken := 0, cut := false, flush := false
    closing := none }
  (t.showFill r).haltRing r 4

/-- A write of `FAULT_RESUME` by a function (R428): the epoch compared is the named ring's. -/
def faultResume (f : Nat) (w : Word) (s : State) : Except Reason State :=
  let r := bits w.toNat 5 0
  let action := bits w.toNat 9 8
  withEpoch (s.epoch (.ring r)) w (fun s =>
    match (s.ring r).fault with
    | none => .error .range
    | some x =>
      if s.ringFunc r ≠ f ∨ s.ringState r ≠ 5 ∨ action = 3 ∨ (action = 1 ∧ 2 ≤ x.access) then .error .range
      else if action = 2 then .ok (s.ringAbort r)
      else
        let t := s.settleFault r 2
        let t := if action = 0 then t else if x.access = 0 then t.skipOut r else t.skipIn r
        let t := (t.ringGoes r)
        .ok (if action = 1 then (t.tryWriteback r).feedRing r else t)) s

def execRetry (a : Accessor) (w : Word) (s : State) : Host.Outcome State Fault Refusal :=
  .next (s.regWrite a .fault (accView a) 0x6C (faultResume (accView a) w))

def execSkipRecord (a : Accessor) (w : Word) (s : State) : Host.Outcome State Fault Refusal :=
  .next (s.regWrite a .fault (accView a) 0x6C (faultResume (accView a) w))

def execAbortRing (a : Accessor) (w : Word) (s : State) : Host.Outcome State Fault Refusal :=
  .next (s.regWrite a .fault (accView a) 0x6C (faultResume (accView a) w))

/-! ### The FAULT page (R441) -/

/-- A write of `FAULT_LOG.HEAD` frees the oldest entries. -/
def faultLogWrite (f : Nat) (w : Word) (s : State) : Except Reason State :=
  let head := s.get F.FAULT_LOG_HEAD f
  let k := (bits w.toNat 7 0 + 256 - head) % 256
  if s.get F.FAULT_LOG_COUNT f < k then .error .range
  else
    let gone := (List.range k).map fun i => (head + i) % 256
    let t := { s with faults := s.faults.filter fun p => !gone.any fun i => p.1 == faultKey f i }
    let t := (s.ringsOf f).foldl (fun u r =>
      let h := u.ring r
      u.setRing r { h with fault := h.fault.map fun x =>
        { x with entry := x.entry.filter fun i => !gone.contains i } }) t
    .ok (t.puts f [(F.FAULT_LOG_HEAD, head + k), (F.FAULT_LOG_COUNT, s.get F.FAULT_LOG_COUNT f - k)])

def execFaultLogFree (a : Accessor) (w : Word) (s : State) : Host.Outcome State Fault Refusal :=
  .next (s.regWrite a .fault (accView a) 0x40 (faultLogWrite (accView a) w))

/-- The fault log of a function is emptied. -/
def State.faultsDrop (s : State) (f : Nat) : State :=
  { s with faults := s.faults.filter fun p => p.1 / 256 != f }

/-- A reset of the FAULT page (R429). -/
def State.faultReset (s : State) (f : Nat) : State :=
  let t := (s.ringsOf f).foldl (fun u r => if u.ringState r = 5 then u.ringAbort r else u) s
  let u := (t.faultsDrop f).resetRegs .fault f
  if f = 0 then u.put F.FAULT_SEL_INDEX 4 0 else u

/-- A reset of the XLAT page: the function's rings are reset first, then its cache entries go (R438). -/
def State.xlatReset (s : State) (f : Nat) : State :=
  (((s.ringsOf f).foldl (fun u r => u.ringReset r) s).xdropAll f).resetRegs .xlat f

/-- The words of an entry of the fault log (R440). -/
def FaultEntry.words (e : FaultEntry) : List Nat :=
  [e.ring + e.access * 2 ^ 8 + e.cause * 2 ^ 16 + e.state * 2 ^ 24, e.desc, e.off, e.resp,
   e.addr % 2 ^ 32, e.addr / 2 ^ 32, e.time % 2 ^ 32, e.time / 2 ^ 32]

end Sys2Proof.Machine
end

