-- ==== Sys2Proof/Machine/Audio.lean ====
section
/-! DEFINITION. Digital audio ports (R445 to R468): formats and clocks, rate measurement, output pairs and underrun, input
pairs and their records, membership of groups, clock faults, enable and reset. -/

namespace Sys2Proof.Machine

/-! ### Formats and clocks (R446, R448) -/

/-- The bits of a slot, by the WIDTH code. -/
def slotBits (w : Nat) : Nat := if w = 0 then 16 else if w = 1 then 24 else 32

/-- Whether FORMAT and SLOTS agree (R446). -/
def formatOk (format slots : Nat) : Bool :=
  if format ≤ 1 then slots == 2 else decide (format ≤ 4) && decide (2 ≤ slots) && decide (slots ≤ 32) && slots % 2 == 0

/-- The channel pairs of a port. -/
def State.pairs (s : State) (p : Nat) : Nat := s.get F.AP_CFG_SLOTS p / 2

/-- BCLK periods of a frame. -/
def State.frameBclk (s : State) (p : Nat) : Nat := s.get F.AP_CFG_SLOTS p * slotBits (s.get F.AP_CFG_WIDTH p)

/-- The rate of a RATE code in Hz. -/
def rateHz (c : Nat) : Nat :=
  if c = 0 then 48000 else if c = 1 then 44100 else if c = 2 then 32000 else if c = 3 then 88200 else 96000

/-- A RATE code is served by PLL B. -/
def rateIsB (c : Nat) : Bool := c == 1 || c == 3

/-- Whether the audio PLL of a controller port divides down to its BCLK (R448). -/
def State.clockOk (s : State) (p : Nat) : Bool :=
  if s.on F.AP_CFG_ROLE p || s.on F.AP_CFG_CLK_SRC p then true
  else
    let c := s.get F.AP_CFG_RATE p
    let pll := if rateIsB c then 22579200 else 24576000
    pll % (rateHz c * s.frameBclk p) == 0

/-- Whether the audio PLL that a controller port names is enabled. -/
def State.audPllOn (s : State) (p : Nat) : Bool :=
  s.on F.AP_CFG_ROLE p || s.on F.AP_CFG_CLK_SRC p ||
  s.on (if rateIsB (s.get F.AP_CFG_RATE p) then F.AUD_PLL_CFG_B_EN else F.AUD_PLL_CFG_A_EN) 0

/-- Whether a port can lose its clock: it runs on an external one (R461). -/
def State.extClock (s : State) (p : Nat) : Bool := s.on F.AP_CFG_ROLE p || s.on F.AP_CFG_CLK_SRC p

/-- The class of a rate in 1/16 Hz (R451); rates outside 8 to 200 kHz are OTHER (R450). -/
def rateClass (rate : Nat) : Nat :=
  let nominal := [8000, 11025, 12000, 16000, 22050, 24000, 32000, 44100, 48000, 64000, 88200, 96000, 176400, 192000]
  match nominal.findIdx? fun n => decide (99 * 16 * n ≤ 100 * rate) && decide (100 * rate ≤ 101 * 16 * n) with
  | some i => i + 1
  | none => 0

/-- Whether a class is an output class. -/
def outClass (c : Nat) : Bool := c == 7 || c == 8 || c == 9 || c == 11 || c == 12

/-- Whether a rate in 1/16 Hz lies within 8 to 200 kHz. -/
def rateMeasured (rate : Nat) : Bool := decide (128000 ≤ rate) && decide (rate ≤ 3200000)

/-! ### Sources of output pairs (R454, R455) -/

/-- Whether a pair is a member of a host group or of its source's group. -/
def State.outMember (s : State) (p k : Nat) : Bool := s.getE F.OUT_AG_MEMBER p k == 1
def State.inMember (s : State) (p k : Nat) : Bool :=
  s.getE F.IN_AG_MEMBER p k == 1 || s.getE F.IN_AG_PART_MEMBER p k == 1

/-- Whether a port's owner may name this source, and the source meets its condition (R454). -/
def State.srcAllowed (s : State) (p kind index : Nat) : Bool :=
  let f := s.owner .ap p
  if kind = 0 then true
  else if kind = 1 then
    decide (index < 512) && s.owner .slot index == f &&
      (match (s.slot index).applied with | some b => b.kind == 1 || b.kind == 2 | none => false)
  else if kind = 2 then
    s.owner .tap index == f && (match (s.tap index).applied with | some c => c.pcm | none => false)
  else if kind = 3 then decide (index < 32) && s.folRuns index && (s.fol index).owner == f
  else if kind = 4 then decide (index < 64) && s.owner .ring index == f && s.get F.RING_CFG_DIR index == 1
  else if kind = 5 then
    decide (index < 128) && s.owner .ap (index / 16) == f && decide (index % 16 < s.pairs (index / 16))
  else false

/-- Whether a timed source delivers samples now (R457). -/
def State.srcLive (s : State) (kind index : Nat) : Bool :=
  if kind = 1 then s.on F.SLOT_STAT_RUNNING index && s.pllLocked && s.domOn 11 &&
    (match (s.slot index).applied with
      | some b => (b.kind == 1 || b.kind == 2) && (s.fe b.window).stopped.isNone
      | none => false)
  else if kind = 2 then s.domOn 12 && s.pllLocked && s.tapRuns index && (s.tap index).pcmOn
  else if kind = 3 then s.domOn 12 && s.pllLocked && s.folRuns index
  else if kind = 5 then s.get F.AP_STAT_STATE (index / 16) == 2
  else if kind = 6 then s.on F.GLOBAL_STAT_FG_ACTIVE 0
  else false

/-- The source latency of an output pair in 1/16 tick (R455): that of the slot's audio, of the tap's decoder (R230), else 0. -/
def State.srcLat (s : State) (kind index : Nat) : Nat :=
  if kind = 1 then (match (s.slot index).applied with | some b => audLat b.kind | none => 0)
  else if kind = 2 then
    let ms := [0, 48, 60, 80, 100]
    ms.getD (s.get F.TAP_RUN_PAYLOAD index) 0 * 245760 * 16
  else 0

/-- The group of an output pair, if it is a member of one. -/
def State.outGroup (s : State) (p k : Nat) : Option Nat :=
  if s.outMember p k then some (s.getE F.OUT_AG_GROUP p k) else none

/-- `OUT_LAT` of a pair (R455, R460). -/
def State.outLat (s : State) (p k : Nat) : Nat :=
  let kind := s.getE F.OUT_SRC_KIND p k
  if kind = 0 ∨ kind = 4 then 0
  else match s.outGroup p k with
    | some g => (s.grp g).pd
    | none => s.srcLat kind (s.getE F.OUT_SRC_INDEX p k) + s.get F.AP_LAT_LAT p

/-! ### Input pairs (R447, R458, R459) -/

/-- The bytes of a 24-bit sample in a packing (R453). -/
def packSample (pack v : Nat) : List Byte :=
  let v := v % 2 ^ 24
  if pack = 0 then leBytes 3 v
  else if pack = 1 then leBytes 4 (v * 256)
  else leBytes 4 (if v < 2 ^ 23 then v else v + 0xFF000000)

/-- A received sample of a slot with WIDTH code `w` as 24 bits (R447). -/
def inSample (w v : Nat) : Nat :=
  if w = 0 then v % 2 ^ 16 * 256 else if w = 1 then v % 2 ^ 24 else v / 256 % 2 ^ 24

/-- A sample that leaves in a slot with WIDTH code `w` (R447): rounded to 16 bits and saturated in a 16-bit slot. -/
def outSample (w v : Nat) : Nat :=
  if w = 0 then satS 16 ((sgn 24 (v % 2 ^ 24) + 128) / 256) else if w = 1 then v % 2 ^ 24 else v % 2 ^ 24 * 256

/-- The flag runs of consecutive sample periods (R404). -/
def flagRuns : Nat → List (Nat × Nat × Nat) → List Run
  | _, [] => []
  | i, (f, _, _) :: r =>
    if f = 0 then flagRuns (i + 1) r
    else match flagRuns (i + 1) r with
      | x :: l => if x.flags = f ∧ x.first = i + 1 then { x with first := i, count := x.count + 1 } :: l
          else { first := i, count := 1, flags := f } :: x :: l
      | [] => [{ first := i, count := 1, flags := f }]

/-- The stream rate of an input pair's records in 1/16 Hz (R458). -/
def State.inRate (s : State) (p k : Nat) : Nat :=
  if s.getE F.IN_CFG_RATE48 p k = 1 then 768000 else s.get F.AP_RATE_REF_RATE p

/-- The record that a block makes. -/
def State.inRecord (s : State) (p k : Nat) (h : InHid) : Rec :=
  let pack := s.getE F.IN_CFG_PACK p k
  { kind := .port, source := 16 * p + k, time := h.start, epoch := s.epoch (.ap p)
    payload := .pcm
      { count := h.block.length, format := pack, channels := 2, rate := s.inRate p k, runs := flagRuns 0 h.block
        data := (h.block.map fun x => packSample pack x.2.1 ++ packSample pack x.2.2).flatten } }

/-- The block being built becomes a record. -/
def State.inClose (s : State) (p k : Nat) : State :=
  let a := s.ap p
  let h := a.inp k
  if h.block = [] then s
  else s.setAp p (a.setInp k { h with block := [], done := h.done ++ [s.inRecord p k h] })

/-- A sample period, of nominal time `at'`, enters the block of an input pair; a full block, or one that would hold more than
64 runs, becomes a record (R404, R458). -/
def State.inPush (s : State) (p k at' : Nat) (x : Nat × Nat × Nat) : State :=
  let h0 := (s.ap p).inp k
  let s := if 64 < (flagRuns 0 (h0.block ++ [x])).length then s.inClose p k else s
  let a := s.ap p
  let h := a.inp k
  let t := s.setAp p (a.setInp k { h with start := if h.block = [] then at' else h.start, block := h.block ++ [x] })
  if h.block.length + 1 < s.getE F.IN_CFG_BLOCK p k then t else t.inClose p k

/-- The bytes that an input pair holds in the port's input buffer. -/
def InHid.bytes (h : InHid) (pack : Nat) : Nat :=
  h.block.length * packBytes pack +
  (h.done.map fun x => match x.payload with | .pcm t => t.data.length | _ => 0).sum

/-- Whether the input buffer of a port has room for one more sample period of pair `k` (R459). -/
def State.inRoom (s : State) (p k : Nat) : Bool :=
  let held := ((List.range 16).map fun j => ((s.ap p).inp j).bytes (s.getE F.IN_CFG_PACK p j)).sum
  decide (held + packBytes (s.getE F.IN_CFG_PACK p k) ≤ s.get F.AP_BUF_IN_POTS p * 65536)

/-- Whether an input pair delivers records: it exists, EN is 1, and it is not detached (R458, R467). -/
def State.inOn (s : State) (p k : Nat) : Bool :=
  decide (k < s.pairs p) && s.getE F.IN_CFG_EN p k == 1 && !((s.ap p).inp k).detached

/-- A break of an input pair beyond 1 s is closed by a GAP with REASON PORT (R459, R462). -/
def State.inGap (s : State) (p k start n : Nat) : State :=
  let t := s.inClose p k
  let a := t.ap p
  let h := a.inp k
  let g : Rec := { kind := .port, source := 16 * p + k, time := start, epoch := s.epoch (.ap p),
                   payload := .gap start s.now 0 n 6 1 }
  t.setAp p (a.setInp k { h with done := h.done ++ [g] })

/-- A run of zero periods with a flag enters the block of an input pair. -/
def State.inZeros (s : State) (p k at' flag : Nat) : Nat → State
  | 0 => s
  | n + 1 => (s.inPush p k at' (flag, 0, 0)).inZeros p k at' flag n

/-- A received sample period: it enters the buffer, behind zeros flagged ZERO_FILL or a GAP for periods discarded before; with
a full buffer it is discarded and counted (R459). -/
def State.inTake (s : State) (p k : Nat) (x : Nat × Nat × Nat) : State :=
  let a := s.ap p
  let h := a.inp k
  if !s.inRoom p k then
    let t := (s.setAp p (a.setInp k { h with lost := h.lost + 1, lostAt := if h.lost = 0 then s.now else h.lostAt })).count
      F.AP_CULL_OVER_COUNT p 1
    if h.lost = 0 then t.raise .ap p Ev.overrun else t
  else
    let t := s.setAp p (a.setInp k { h with lost := 0 })
    let t := if h.lost = 0 then t
      else if s.inRate p k / 16 < h.lost then t.inGap p k h.lostAt h.lost
      else t.inZeros p k h.lostAt 128 h.lost
    t.inPush p k s.now x

/-- An input pair offers its oldest record to its ring once the ring's buffer has room for it (R459). -/
def State.inOffer (s : State) (p k : Nat) : State :=
  let a := s.ap p
  let h := a.inp k
  let r := s.getE F.IN_CFG_RING p k
  match h.done with
  | [] => s
  | x :: rest =>
    if s.domOn 14 && s.ringTakes r && s.owner .ring r == s.owner .ap p &&
        decide ((s.ring r).fill + x.length (s.get F.RING_CFG_REC_VER r) ≤ s.ringCap r) then
      (s.setAp p (a.setInp k { h with done := rest })).offer r x
    else s

def execPortInputOffer (p : Fin 8) (k : Fin 16) (s : State) : Host.Outcome State Fault Refusal :=
  .next (s.inOffer p.val k.val)

/-! ### Output pairs (R452, R454, R457) -/

/-- The source that `OUT_SRC` names comes into use at the frame boundary (R454). -/
def State.outApply (s : State) (p k : Nat) : State :=
  let a := s.ap p
  let o := a.out k
  let kind := s.getE F.OUT_SRC_KIND p k
  let index := s.getE F.OUT_SRC_INDEX p k
  if o.kind = kind ∧ o.index = index then s
  else s.setAp p (a.setOut k { kind := kind, index := index })

/-- A pair needs a sample and its source has none: a zero is played and counted (R457, R470). -/
def State.underrun (s : State) (p k : Nat) : State :=
  let a := s.ap p
  let others := (List.range 16).any fun j => j != k && (a.out j).under
  let t := (s.setAp p (a.setOut k { a.out k with under := true })).count F.AP_CULL_UNDER_COUNT p 1
  if (a.out k).under || others then t else t.raise .ap p Ev.underrun

/-- The stream periods of a ring that one frame takes: whole periods of the rate at the front, as the converter's phase passes
them (R452); what is left, the phase, and whether a period was missing. -/
def takePeriods (frameRate : Nat) : Nat → List (Nat × Nat × Nat) → Nat → List (Nat × Nat × Nat) × Nat × Bool
  | 0, l, acc => (l, acc, false)
  | k + 1, l, acc =>
    if acc < frameRate then (l, acc, false)
    else match l with
      | [] => ([], 0, true)
      | _ :: r => takePeriods frameRate k r (acc - frameRate)

/-- A frame of a pair that plays a ring. -/
def State.outRing (s : State) (p k : Nat) : State :=
  let a := s.ap p
  let o := a.out k
  let ref := s.get F.AP_RATE_REF_RATE p
  match o.fifo with
  | [] => s.underrun p k
  | (rate, _, _) :: _ =>
    let (l, acc, short) := takePeriods ref (o.fifo.length + 1) o.fifo (o.acc + rate)
    let t := s.setAp p (a.setOut k { o with fifo := l, acc := acc, under := short })
    let t := if short then (t.setAp p ((t.ap p).setOut k { (t.ap p).out k with under := o.under })).underrun p k else t
    t.feedRing o.index

/-- A frame of one output pair (R457, R462): zeros where the reference rate is in no output class, else a sample of its
source. -/
def State.outFrame (s : State) (p k : Nat) : State :=
  let s := s.outApply p k
  let o := (s.ap p).out k
  if o.kind = 0 then s
  else if !outClass (s.get F.AP_STAT_REF_CLASS p) then s.count F.AP_CULL_CLK_COUNT p 1
  else if o.kind = 4 then s.outRing p k
  else if s.srcLive o.kind o.index then
    s.setAp p ((s.ap p).setOut k { o with under := false })
  else s.underrun p k

/-- Late samples of timed sources are culled (R457). -/
def State.lateCull (s : State) (p : Nat) (l : List (Fin 16 × Nat)) : State :=
  l.foldl (fun t x =>
    let o := (t.ap p).out x.1.val
    if x.2 = 0 ∨ o.kind = 0 ∨ o.kind = 4 then t
    else (t.count F.AP_CULL_LATE_COUNT p x.2).raise .ap p Ev.lateCull) s

/-- Shows which pairs underrun and which discard (R469). -/
def State.showPairs (s : State) (p : Nat) : State :=
  let a := s.ap p
  let mask (g : Nat → Bool) : Nat := (List.range 16).foldl (fun w k => w + b2n (g k) * 2 ^ k) 0
  s.puts p [(F.AP_PAIR_STAT_UNDER, mask fun k => (a.out k).under),
    (F.AP_PAIR_STAT_OVER, mask fun k => (a.inp k).lost != 0)]

/-! ### Groups (R460) -/

/-- Whether a group has a port member. -/
def Grp.hasPort (h : Grp) : Bool := h.members.any fun m => !m.isSlot

/-- Why a port member of port `p` cannot join group `g` (R146, R460). `follow` is the entry whose group an output pair may join
although the part holds it. -/
def State.portJoinRefused (s : State) (p g ref lat : Nat) (follow : Option Nat) : Bool :=
  let h := s.grp g
  let pd := if h.hasPort then h.pd else ref
  decide (61 ≤ g) ||
  (match h.holder with | none => false | some (.follow e) => follow != some e | some _ => true) ||
  decide (32 ≤ h.members.length) || h.members.any (fun m => s.memberOwner m != s.owner .ap p) ||
  (h.hasPort && ref != 0 && ref != h.pd) || decide (pd < lat)

/-- A port member joins: the first fixes PD. -/
def State.portJoin (s : State) (g ref : Nat) (m : Member) : State :=
  let h := s.grp g
  s.setGrp g { h with pd := if h.hasPort then h.pd else ref, members := h.members ++ [m] }

/-- An output pair leaves its group. -/
def State.outLeave (s : State) (p k : Nat) : State :=
  if s.outMember p k then (s.groupLeave (s.getE F.OUT_AG_GROUP p k) (.out p k)).putE F.OUT_AG_MEMBER p k 0 else s

/-- An input pair leaves its host group. -/
def State.inLeave (s : State) (p k : Nat) : State :=
  if s.getE F.IN_AG_MEMBER p k = 1 then
    (s.groupLeave (s.getE F.IN_AG_GROUP p k) (.inp p k)).putE F.IN_AG_MEMBER p k 0
  else s

/-- A write of `OUT_AG_k`. -/
def outAgWrite (p k : Nat) (w : Word) (s : State) : Except Reason State :=
  let g := bits w.toNat 5 0
  let kind := s.getE F.OUT_SRC_KIND p k
  let index := s.getE F.OUT_SRC_INDEX p k
  let ref := s.get F.AP_AG_REF_PD p
  if bits w.toNat 8 8 = 0 then .ok ((s.outLeave p k).putE F.OUT_AG_GROUP p k g)
  else if s.pairs p ≤ k ∨ s.outMember p k ∨ kind = 0 ∨ kind = 4 then .error .range
  else if s.portJoinRefused p g ref (s.srcLat kind index + s.get F.AP_LAT_LAT p)
      (if kind = 3 then some index else none) then .error .range
  else .ok (((s.portJoin g ref (.out p k)).putE F.OUT_AG_GROUP p k g).putE F.OUT_AG_MEMBER p k 1)

/-- A write of `IN_AG_k`. -/
def inAgWrite (p k : Nat) (w : Word) (s : State) : Except Reason State :=
  let g := bits w.toNat 5 0
  let ref := s.get F.AP_AG_REF_PD p
  if bits w.toNat 8 8 = 0 then .ok ((s.inLeave p k).putE F.IN_AG_GROUP p k g)
  else if s.pairs p ≤ k ∨ s.inMember p k then .error .range
  else if s.portJoinRefused p g ref 0 none then .error .range
  else .ok (((s.portJoin g ref (.inp p k)).putE F.IN_AG_GROUP p k g).putE F.IN_AG_MEMBER p k 1)

/-! ### Registers of the AP page (R465, R469) -/

/-- A write of `AP_CFG` (R446, R460, R465); it sets LOADED (R337). -/
def apCfgWrite (p major : Nat) (w : Word) (s : State) : Except Reason State :=
  let slots := bits w.toNat 13 8
  let gone := (List.range 16).any fun k =>
    decide (slots / 2 ≤ k) && decide (k < s.pairs p) && (s.outMember p k || s.inMember p k)
  if s.enabled .ap p || gone then .error .range
  else if !formatOk (bits w.toNat 2 0) slots || (major == 1 && bits w.toNat 2 0 == 4) then .error .range
  else onOk (plainWrite .ap p 0x40 major w s) fun t => .ok (t.padWritten p)

/-- A write of `OUT_SRC_k` (R454, R460). -/
def outSrcWrite (p k : Nat) (w : Word) (s : State) : Except Reason State :=
  let kind := bits w.toNat 2 0
  let index := bits w.toNat 13 4
  if s.pairs p ≤ k ∨ s.outMember p k ∨ !s.srcAllowed p kind index then .error .range
  else .ok ((s.putE F.OUT_SRC_KIND p k kind).putE F.OUT_SRC_INDEX p k index)

/-- A write of `IN_CFG_k` (R458): the block in progress ends, and a detached pair is attached (R467). -/
def inCfgWrite (p k major : Nat) (w : Word) (s : State) : Except Reason State :=
  let r := bits w.toNat 9 4
  if bit w.toNat 0 && (s.owner .ring r != s.owner .ap p || s.get F.RING_CFG_DIR r != 0) then .error .range
  else
    let t := s.inClose p k
    onOk (plainWrite .ap p (0x200 + 16 * k) major w t) fun t =>
      .ok (t.setAp p ((t.ap p).setInp k { (t.ap p).inp k with detached := false }))

/-- RATE_ACK (R451, R462). -/
def apCmdWrite (p : Nat) (w : Word) (s : State) : Except Reason State :=
  withEpoch (s.epoch (.ap p)) w (fun s =>
    if !bit w.toNat 0 then .ok s
    else if !s.on F.AP_STAT_RATE_VALID p then .error .range
    else
      let rate := s.get F.AP_RATE_RATE p
      let t := s.puts p [(F.AP_RATE_REF_RATE, rate), (F.AP_STAT_REF_CLASS, rateClass rate)]
      .ok (t.setAp p { t.ap p with refSet := true, told := false, bad := 0, good := 0
                                   ack := t.get F.AP_STAT_STATE p == 4 })) s

/-- A write of a register of an AP page. While first gather plays, AP_0 is the part's (R367). -/
def apWrite (p off major : Nat) (w : Word) (s : State) : Except Reason State :=
  let k := off % 0x100 / 16
  if p = 0 && s.on F.GLOBAL_STAT_FG_ACTIVE 0 then .error .busy
  else if off = 0x40 then apCfgWrite p major w s
  else if off = 0x58 ∧ s.enabled .ap p then .error .range
  else if off = 0x54 then apCmdWrite p w s
  else if 0x100 ≤ off ∧ off < 0x200 ∧ off % 16 = 0 then outSrcWrite p k w s
  else if 0x100 ≤ off ∧ off < 0x200 ∧ off % 16 = 4 then outAgWrite p k w s
  else if 0x200 ≤ off ∧ off < 0x300 ∧ off % 16 = 0 then inCfgWrite p k major w s
  else if 0x200 ≤ off ∧ off < 0x300 ∧ off % 16 = 4 then inAgWrite p k w s
  else plainWrite .ap p off major w s

def execRateAck (a : Accessor) (p : Fin 8) (w : Word) (s : State) : Host.Outcome State Fault Refusal :=
  .next (s.regWrite a .ap p.val 0x54 (apWrite p.val 0x54 (s.major a (0x60 + p.val)) w))

def execOutSrcWrite (a : Accessor) (p : Fin 8) (k : Fin 16) (w : Word) (s : State) : Host.Outcome State Fault Refusal :=
  let off := 0x100 + 16 * k.val
  .next (s.regWrite a .ap p.val off (apWrite p.val off (s.major a (0x60 + p.val)) w))

/-- The register of a pair's group: `OUT_AG_k` or `IN_AG_k`. -/
def agOff (k : Nat) (input : Bool) : Nat := (if input then 0x204 else 0x104) + 16 * k

def execPortAgJoin (a : Accessor) (p : Fin 8) (k : Fin 16) (input : Bool) (w : Word) (s : State) :
    Host.Outcome State Fault Refusal :=
  .next (s.regWrite a .ap p.val (agOff k.val input) (apWrite p.val (agOff k.val input) (s.major a (0x60 + p.val)) w))

def execPortAgLeave (a : Accessor) (p : Fin 8) (k : Fin 16) (input : Bool) (w : Word) (s : State) :
    Host.Outcome State Fault Refusal :=
  .next (s.regWrite a .ap p.val (agOff k.val input) (apWrite p.val (agOff k.val input) (s.major a (0x60 + p.val)) w))

def execInCfgWrite (a : Accessor) (p : Fin 8) (k : Fin 16) (w : Word) (s : State) : Host.Outcome State Fault Refusal :=
  let off := 0x200 + 16 * k.val
  .next (s.regWrite a .ap p.val off (apWrite p.val off (s.major a (0x60 + p.val)) w))

/-! ### Enable, disable, reset (R465) -/

/-- A write of 1 to a port's ENABLE. -/
def apEnable (p : Nat) (s : State) : Except Reason State :=
  if s.enabled .ap p then .ok s
  else if p = 0 && s.on F.GLOBAL_STAT_FG_ACTIVE 0 then .error .busy
  else if s.get F.AP_STAT_STATE p ≠ 0 then .error .busy
  else if !formatOk (s.get F.AP_CFG_FORMAT p) (s.get F.AP_CFG_SLOTS p) || !s.clockOk p || !s.audPllOn p then .error .range
  else match s.allocPots (s.owner .ap p) (.port p) (s.get F.AP_BUF_IN_POTS p) with
    | none => .error .range
    | some t =>
      let t := t.puts p [(H.ENABLE .ap, 1), (F.AP_STAT_STATE, 1), (F.AP_STAT_RATE_VALID, 0), (F.AP_STAT_CLASS, 0),
        (F.AP_STAT_REF_CLASS, 0), (F.AP_RATE_RATE, 0), (F.AP_RATE_REF_RATE, 0)]
      let a := t.ap p
      .ok (t.setAp p { ins := a.ins, outs := a.outs })

/-- The completed records of every input pair go to their rings as far as there is room. -/
def State.inFlush (s : State) (p : Nat) : State :=
  (List.range 16).foldl (fun t k =>
    (List.range (((t.ap p).inp k).done.length)).foldl (fun u _ => u.inOffer p k) t) s

/-- A port stops: its pins are undriven, its pots are freed, configuration and memberships stay. -/
def State.apStop (s : State) (p : Nat) : State :=
  let t := (s.inFlush p).freePotsOf (.port p)
  let a := t.ap p
  let t := t.setAp p
    { outs := a.outs.map fun x => (x.1, { x.2 with fifo := [], acc := 0, under := false })
      ins := (a.ins.filter fun x => x.2.detached).map fun x => (x.1, { detached := true }) }
  (t.puts p [(F.AP_STAT_STATE, 0), (F.AP_STAT_RATE_VALID, 0)]).showPairs p

/-- A write of 0 to a port's ENABLE: the port stops at the next frame boundary, at once where no frames come. -/
def State.apDisable (s : State) (p : Nat) : State :=
  if !s.enabled .ap p then s
  else
    let t := s.put (H.ENABLE .ap) p 0
    let st := t.get F.AP_STAT_STATE p
    if st = 2 ∨ st = 4 then t.setAp p { t.ap p with stopping := true } else t.apStop p

/-- A reset of an AP page: the port stops at once, its pairs leave their groups, its registers return. -/
def State.apReset (s : State) (p : Nat) : State :=
  let t := s.apStop p
  let t := (List.range 16).foldl (fun u k =>
    let u := (u.outLeave p k).inLeave p k
    if u.getE F.IN_AG_PART_MEMBER p k = 1 then u.groupLeave (u.getE F.IN_AG_PART_GROUP p k) (.inp p k) else u) t
  { t with aps := Tbl.erase t.aps p }.resetRegs .ap p

/-- A port of a function whose FLR runs is detached: its input records are discarded, uncounted (R467). -/
def State.apDetach (s : State) (p : Nat) : State :=
  let a := s.ap p
  s.setAp p ((List.range 16).foldl (fun b k => b.setInp k { detached := true }) a)

/-! ### Clock breaks (R461, R462) -/

/-- One zero period of a clock break on an input pair; beyond 1 s of periods the pair writes none. -/
def State.breakIn (s : State) (p k flag : Nat) : State :=
  let a := s.ap p
  let h := a.inp k
  if h.zeros < s.get F.AP_RATE_REF_RATE p / 16 then
    ((s.setAp p (a.setInp k { h with zeros := h.zeros + 1 })).count F.AP_CULL_CLK_COUNT p 1).inPush p k s.now (flag, 0, 0)
  else s.setAp p (a.setInp k { h with overrun := h.overrun + 1, breakAt := if h.overrun = 0 then s.now else h.breakAt })

/-- One period that the reference rate implies while the clock is lost or the rate is halted: input pairs write a zero, timed
output pairs let their source pass. -/
def State.breakPeriod (s : State) (p flag : Nat) : State :=
  let t := (List.range 16).foldl (fun u k => if u.inOn p k then u.breakIn p k flag else u) s
  (List.range 16).foldl (fun u k =>
    let o := (u.ap p).out k
    if o.kind ≠ 0 ∧ o.kind ≠ 4 ∧ u.srcLive o.kind o.index then
      (u.count F.AP_CULL_LATE_COUNT p 1).raise .ap p Ev.lateCull
    else u) t

/-- A clock break ends: what lasted beyond 1 s becomes one GAP. -/
def State.breakEnd (s : State) (p : Nat) : State :=
  (List.range 16).foldl (fun u k =>
    let h := (u.ap p).inp k
    let u := if 0 < h.overrun && u.inOn p k then u.inGap p k h.breakAt h.overrun else u
    u.setAp p ((u.ap p).setInp k { (u.ap p).inp k with zeros := 0, overrun := 0 })) s

/-- The flag of the zeros that a port writes in its state. -/
def breakFlag (state : Nat) : Nat := if state = 3 then 256 else 512

/-- No frame start for four periods (R461): the zeros of those four periods are written at once. -/
def execClkLost (p : Fin 8) (s : State) : Host.Outcome State Fault Refusal :=
  let n := p.val
  if s.get F.AP_STAT_STATE n ≠ 2 || !s.extClock n || !s.domOn 15 then .next s
  else
    let t := (s.put F.AP_STAT_STATE n 3).raise .ap n Ev.clkLost
    .next ((List.range 4).foldl (fun u _ => u.breakPeriod n 256) t)

def execReferenceRatePeriod (p : Fin 8) (s : State) : Host.Outcome State Fault Refusal :=
  let st := s.get F.AP_STAT_STATE p.val
  if (st = 3 ∨ st = 4) ∧ s.domOn 15 then .next (s.breakPeriod p.val (breakFlag st)) else .next s

/-- Sixteen frame periods after the clock came back, at `rate` in 1/16 Hz (R462). -/
def execClkBack (p : Fin 8) (rate : Nat) (s : State) : Host.Outcome State Fault Refusal :=
  let n := p.val
  let ref := s.get F.AP_RATE_REF_RATE n
  if s.get F.AP_STAT_STATE n ≠ 3 || !s.domOn 15 then .next s
  else if (max rate ref - min rate ref) * 1000 ≤ 2 * ref then
    .next ((((s.breakEnd n).put F.AP_STAT_STATE n 2).raise .ap n Ev.clkBack))
  else .next ((s.put F.AP_STAT_STATE n 4).raise .ap n Ev.haltRate)

/-! ### Rate windows (R450, R451) -/

/-- A valid window after the reference has been set: RATE_CHANGE after two windows out of the limits, HALT_RATE after two out
of the class. `last` is the class of the window before. -/
def State.rateJudge (s : State) (p rate last : Nat) : State :=
  let a := s.ap p
  let ref := s.get F.AP_RATE_REF_RATE p
  let refClass := s.get F.AP_STAT_REF_CLASS p
  let out := rateClass rate != refClass ||
    decide (s.get F.AP_RATE_CFG_TH p * ref < (max rate ref - min rate ref) * 1000000)
  if out then
    let t := s.setAp p { a with bad := a.bad + 1, good := 0, told := a.told || decide (1 ≤ a.bad) }
    let t := if decide (1 ≤ a.bad) && !a.told then t.raise .ap p Ev.rateChange else t
    if rateClass rate ≠ refClass ∧ last ≠ refClass ∧ t.get F.AP_STAT_STATE p = 2 then
      (t.put F.AP_STAT_STATE p 4).raise .ap p Ev.haltRate
    else t
  else s.setAp p { a with bad := 0, good := a.good + 1, told := a.told && decide (a.good < 1) }

/-- A rate measurement window ends, with the rate in 1/16 Hz (R450). A window that a relock overlapped is not valid. -/
def execRateWindow (p : Fin 8) (valid : Bool) (rate : Nat) (s : State) : Host.Outcome State Fault Refusal :=
  let n := p.val
  let st := s.get F.AP_STAT_STATE n
  if st = 0 || !valid || !s.pllLocked || !s.domOn 15 then .next s
  else
    let ok := rateMeasured rate
    let c := if ok then rateClass rate else 0
    let last := s.get F.AP_STAT_CLASS n
    let t := s.puts n [(F.AP_RATE_RATE, min rate (2 ^ 22 - 1)), (F.AP_STAT_RATE_VALID, b2n ok), (F.AP_STAT_CLASS, c)]
    if st = 1 then .next t
    else if (s.ap n).refSet then .next (t.rateJudge n rate last)
    else .next ((t.puts n [(F.AP_RATE_REF_RATE, min rate (2 ^ 22 - 1)), (F.AP_STAT_REF_CLASS, c)]).setAp n
      { s.ap n with refSet := true })

/-! ### Frames (R446, R463) -/

/-- The sample periods that an input pair takes from a frame: the one received, or with RATE48 those that its converter
gives. -/
def State.inSamples (s : State) (p k : Nat) (ins : List (List (Nat × Nat))) : List (Nat × Nat × Nat) :=
  let l := ins.getD k []
  if s.getE F.IN_CFG_RATE48 p k = 1 then l.map fun x => (0, x.1 % 2 ^ 24, x.2 % 2 ^ 24)
  else
    let w := s.get F.AP_CFG_WIDTH p
    let x := l.headD (0, 0)
    [(0, inSample w x.1, inSample w x.2)]

/-- A frame of a RUNNING port. A target frame with a wrong BCLK count slips: it is zeros in both directions (R463). -/
def State.apRun (s : State) (p bclk : Nat) (ins : List (List (Nat × Nat))) (late : List (Fin 16 × Nat)) : State :=
  let slip := s.on F.AP_CFG_ROLE p && bclk != s.frameBclk p
  let t := if slip then (s.count F.AP_SLIPS_COUNT p 1).raise .ap p Ev.frameSlip else s
  let n := t.pairs p
  let t := (List.range n).foldl (fun u k => u.outFrame p k) t
  let t := t.lateCull p late
  let t := (List.range n).foldl (fun u k =>
    if !u.inOn p k then u
    else if slip then u.inTake p k (1024, 0, 0)
    else (u.inSamples p k ins).foldl (fun v x => v.inTake p k x) u) t
  t.showPairs p

/-- A port frame starts. `bclk` is the number of BCLK periods of the frame that ended, `rate` the rate over the latest 16
periods in 1/16 Hz, `ins` the samples of each input pair, `late` the late samples of each output pair. -/
def execApFrame (p : Fin 8) (bclk rate : Nat) (ins : List (List (Nat × Nat))) (late : List (Fin 16 × Nat)) (s : State) :
    Host.Outcome State Fault Refusal :=
  let n := p.val
  let a := s.ap n
  let st := s.get F.AP_STAT_STATE n
  if st = 0 || !s.domOn 15 then .next s
  else if a.stopping then .next (s.apStop n)
  else if st = 1 then
    let t := s.setAp n { a with frames := a.frames + 1 }
    if !s.on F.AP_CFG_ROLE n then .next ((t.put F.AP_STAT_STATE n 2).apRun n bclk ins late)
    else if 16 ≤ a.frames && rateMeasured rate then .next (t.put F.AP_STAT_STATE n 2)
    else .next t
  else if st = 2 then .next (s.apRun n bclk ins late)
  else if st = 4 ∧ a.ack then
    .next ((((s.setAp n { a with ack := false }).breakEnd n).put F.AP_STAT_STATE n 2).apRun n bclk ins late)
  else .next s

end Sys2Proof.Machine
end

