-- ==== Sys2Proof/Machine/Feed.lean ====
section
/-! DEFINITION. Feed comparison (R285 to R290), and the writes of the METRO page (R276, R291). -/

namespace Sys2Proof.Machine

def State.fc (s : State) (e : Nat) : FcHid := Tbl.get s.fcs {} e
def State.setFc (s : State) (e : Nat) (h : FcHid) : State := { s with fcs := Tbl.set s.fcs {} e h }

/-- A field of comparison `e`. -/
def State.fcGet (s : State) (f : Fld) (e : Nat) : Nat := s.getE f 0 e

/-- Whether a comparison exists. -/
def State.fcRuns (s : State) (e : Nat) : Bool := s.fcGet F.FC_STAT_STATE e != 0

def State.fcOwner (s : State) (e : Nat) : Nat := s.fcGet F.FC_STAT_OWNER e

/-- A FEED_COMPARE record (R290, R405). -/
def State.fcRec (s : State) (e event : Nat) : Rec :=
  let state := s.fcGet F.FC_STAT_SILENCE e + 2 * s.fcGet F.FC_STAT_MISMATCH e +
    4 * b2n (s.fcGet F.FC_STAT_STATE e == 3) + 8 * s.fcGet F.FC_STAT_FINE e
  { kind := .feed, source := e, time := s.now, epoch := Config.pageEpoch 0x5A, final := event == 3
    payload := .feedCompare event state (s.fcGet F.FC_LAG_LAG e) (s.fcGet F.FC_MEAS_RHO e) (s.fcGet F.FC_MEAS_LDIFF e)
      (s.fc e).window }

def State.fcEmit (s : State) (e event : Nat) : State :=
  s.deliver (s.fcOwner e) (s.fcGet F.FC_CFG_RING e) (s.fcRec e event)

/-- Raises an event of a comparison to its owner and PF_0. -/
def State.fcRaise (s : State) (e ev : Nat) : State := s.raiseViews .metro ev (viewsOf (s.fcOwner e))

/-! ### Start and end (R285, R286) -/

/-- Whether a source runs: an FM or AM slot, or a tap with PCM_EN 1. -/
def State.fcSrcOk (s : State) (tap : Bool) (n : Nat) : Bool :=
  if tap then s.tapRuns n && (match (s.tap n).applied with | some c => c.pcm | none => false)
  else s.on F.SLOT_STAT_RUNNING n &&
    (match (s.slot n).applied with | some b => b.kind == 1 || b.kind == 2 | none => false)

/-- The owner and the epoch of a source. -/
def State.fcSrcOwner (s : State) (tap : Bool) (n : Nat) : Nat := s.owner (if tap then .tap else .slot) n
def State.fcSrcEpoch (s : State) (tap : Bool) (n : Nat) : Nat := s.epoch (if tap then .tap n else .slot n)

/-- GO by function `f`. -/
def fcGo (e f : Nat) (s : State) : Except Reason State :=
  let tap := s.fcGet F.FC_CFG_SRC_KIND e == 1
  let n := s.fcGet F.FC_CFG_SRC_INDEX e
  let p := s.fcGet F.FC_CFG_PORT e
  let k := s.fcGet F.FC_CFG_PAIR e
  let pots := ceilDiv (s.fcGet F.FC_LIM_MAX_LAG e * 288000) 65536
  if (!tap && 512 ≤ n) || !s.fcSrcOk tap n || s.fcSrcOwner tap n != f || s.owner .ap p != f ||
      s.owner .ring (s.fcGet F.FC_CFG_RING e) != f || decide (s.pairs p ≤ k) || !s.enabled .ap p || s.inMember p k then
    .error .range
  else match s.freeGroup, s.allocPots f (.feed e) pots with
  | some g, some t =>
    let t := t.setGrp g { t.grp g with holder := some (.feed e), members := (t.grp g).members ++ [.inp p k] }
    let t := (t.putE F.IN_AG_PART_GROUP p k g).putE F.IN_AG_PART_MEMBER p k 1
    let t := [(F.FC_STAT_STATE, 1), (F.FC_STAT_SILENCE, 0), (F.FC_STAT_MISMATCH, 0), (F.FC_STAT_FINE, 0), (F.FC_STAT_AG, g),
      (F.FC_STAT_POTS, pots), (F.FC_STAT_OWNER, f), (F.FC_LAG_LAG, 0), (F.FC_MEAS_RHO, 0), (F.FC_MEAS_LDIFF, 0)].foldl
      (fun u x => u.putE x.1 0 e x.2) t
    .ok (t.setFc e { port := p, pair := k, tap := tap, src := n, srcEpoch := s.fcSrcEpoch tap n,
                     portEpoch := s.epoch (.ap p), attempt := 1, window := s.now })
  | _, _ => .error .range

/-- The comparison ends: a last record, its pots and group are freed, OFF. -/
def State.fcEnd (s : State) (e : Nat) : State :=
  if !s.fcRuns e then s
  else
    let h := s.fc e
    let g := s.fcGet F.FC_STAT_AG e
    let t := (s.fcEmit e 3).freePotsOf (.feed e)
    let t := (t.groupLeave g (.inp h.port h.pair))
    let t := t.setGrp g { t.grp g with holder := none }
    let t := (t.putE F.IN_AG_PART_GROUP h.port h.pair 0).putE F.IN_AG_PART_MEMBER h.port h.pair 0
    let t := [F.FC_STAT_STATE, F.FC_STAT_SILENCE, F.FC_STAT_MISMATCH, F.FC_STAT_FINE, F.FC_STAT_AG, F.FC_STAT_POTS,
      F.FC_STAT_OWNER].foldl (fun u f => u.putE f 0 e 0) t
    { t with fcs := Tbl.erase t.fcs e }

/-- Every comparison, or those of one function, end. -/
def State.fcEndAll (s : State) (f : Option Nat) : State :=
  (List.range 32).foldl (fun t e =>
    if match f with | none => true | some k => t.fcOwner e == k then t.fcEnd e else t) s

/-- Whether the source and the port of a comparison are as they were at GO: enabled and of the same epoch. -/
def State.fcStands (s : State) (e : Nat) : Bool :=
  let h := s.fc e
  s.enabled (if h.tap then .tap else .slot) h.src && s.fcSrcEpoch h.tap h.src == h.srcEpoch &&
    s.enabled .ap h.port && s.epoch (.ap h.port) == h.portEpoch

/-- Comparisons whose source or port was reset, disabled or changed epoch end. -/
def State.fcSweep (s : State) : State :=
  if !s.domOn 12 then s
  else (List.range 32).foldl (fun t e => if t.fcRuns e && !t.fcStands e then t.fcEnd e else t) s

/-- REALIGN restarts the coarse search. -/
def State.fcRealign (s : State) (e : Nat) : State :=
  if s.fcRuns e ∧ s.fcGet F.FC_STAT_STATE e ≠ 3 then
    ((s.setFc e { s.fc e with attempt := 1, coarseFails := 0, fineFails := 0 }).putE F.FC_STAT_STATE 0 e 1).putE
      F.FC_STAT_FINE 0 e 0
  else s

/-- A write of `FC_CMD_e` by function `f`. -/
def fcCmdWrite (e f : Nat) (w : Word) (s : State) : Except Reason State :=
  let t := if bit w.toNat 1 then s.fcEnd e else s
  if t.fcRuns e then .ok (if bit w.toNat 2 then t.fcRealign e else t)
  else if bit w.toNat 0 then fcGo e f t else .ok t

/-! ### The METRO page (R291) -/

/-- A write of a register of the METRO page. -/
def metroWrite (a : Accessor) (off major : Nat) (w : Word) (s : State) : Except Reason State :=
  let e := (off - 0x400) / 32
  if off = 0x6C then refCmdWrite a w s
  else if ((0x54 ≤ off ∧ off ≤ 0x68) ∨ off = 0x78) ∧ !isManager a then .error .owner
  else if off = 0xC0 then plainWrite .metro (accIdx a) off major w s
  else if 0x400 ≤ off ∧ off < 0x800 then
    let cmd := off % 32 = 0x0C
    if s.fcRuns e && s.fcOwner e != accView a && !(cmd && isManager a && bits w.toNat 2 0 == 2) then .error .owner
    else if cmd then fcCmdWrite e (accView a) w s
    else plainWrite .metro 0 off major w s
  else plainWrite .metro 0 off major w s

/-- A reset of the page: comparisons end, a self-check is aborted, the PPS latch clears; results stay. -/
def State.metroReset (s : State) : State :=
  let t := (s.fcEndAll none).refAbort
  let r := t.get F.MET_REF_STAT_RESULT 0
  let d := t.get F.MET_REF_DEV_DEV 0
  let u := allViews.foldl (fun u v => u.resetRegs .metro v) { t with pps := {} }
  u.puts 0 [(F.MET_REF_STAT_RESULT, r), (F.MET_REF_DEV_DEV, d)]

/-- A write of a METRO register by an accessor. -/
def State.metroAccess (s : State) (a : Accessor) (off : Nat) (w : Word) : State :=
  s.regWrite a .metro 0 off (metroWrite a off (s.major a 0x5A) w)

def execRefCheckGo (a : Accessor) (w : Word) (s : State) : Host.Outcome State Fault Refusal := .next (s.metroAccess a 0x6C w)

def execFcGo (a : Accessor) (e : Fin 32) (w : Word) (s : State) : Host.Outcome State Fault Refusal :=
  .next (s.metroAccess a (0x40C + 32 * e.val) w)

def execFcStop (a : Accessor) (e : Fin 32) (w : Word) (s : State) : Host.Outcome State Fault Refusal :=
  .next (s.metroAccess a (0x40C + 32 * e.val) w)

def execFcRealign (a : Accessor) (e : Fin 32) (w : Word) (s : State) : Host.Outcome State Fault Refusal :=
  .next (s.metroAccess a (0x40C + 32 * e.val) w)

/-! ### Alignment (R287) -/

/-- Sets or clears an alarm of a comparison: a record and an event at each change (R288, R290). -/
def State.fcAlarm (s : State) (e : Nat) (f : Fld) (ev : Nat) (on : Bool) : State :=
  if (s.fcGet f e == 1) == on then s
  else ((s.putE f 0 e (b2n on)).fcEmit e (if on then 1 else 2)).fcRaise e (if on then ev else Ev.fcClear)

/-- A coarse attempt ends; peaks in 0.0001, lag in ms. The third failure in succession is a mismatch. -/
def State.fcCoarse (s : State) (e : Nat) (peak second lag : Int) : State :=
  let h := s.fc e
  if 6000 ≤ peak ∧ 1000 ≤ peak - second ∧ 0 ≤ lag ∧ lag ≤ (s.fcGet F.FC_LIM_MAX_LAG e : Int) * 1000 then
    s.setFc e { h with attempt := 2, coarse := lag, coarseFails := 0, fineFails := 0 }
  else
    let t := s.setFc e { h with coarseFails := h.coarseFails + 1 }
    if h.coarseFails + 1 = 3 then t.fcAlarm e F.FC_STAT_MISMATCH Ev.fcMismatch true else t

/-- A fine attempt ends; lag in 1/16 sample. A pass tracks; after four failures in a row the fine alignment no longer holds, and
a comparison that has not tracked yet searches again. -/
def State.fcFine (s : State) (e : Nat) (peak lag : Int) : State :=
  let h := s.fc e
  let tracking := s.fcGet F.FC_STAT_STATE e == 2
  if 8000 ≤ peak ∧ 0 ≤ lag then
    let old := sgn 32 (s.fcGet F.FC_LAG_LAG e)
    let t := (s.setFc e { h with attempt := 2, fineFails := 0 }).putE F.FC_LAG_LAG 0 e (ofInt 32 lag)
    let t := (t.putE F.FC_STAT_STATE 0 e 2).putE F.FC_STAT_FINE 0 e 1
    if tracking ∧ (lag - old).natAbs ≤ 16 then t else t.fcRaise e Ev.fcAligned
  else if h.fineFails < 3 then s.setFc e { h with fineFails := h.fineFails + 1 }
  else (s.setFc e { h with fineFails := 0, attempt := if tracking then 2 else 1 }).putE F.FC_STAT_FINE 0 e 0

/-- An alignment attempt ends. While the feed is lost none is made. -/
def execFcAlignAttempt (e : Fin 32) (peak second lag : Int) (s : State) : Host.Outcome State Fault Refusal :=
  let n := e.val
  if !s.fcRuns n || s.fcGet F.FC_STAT_STATE n == 3 || !s.pllLocked then .next s
  else if (s.fc n).attempt = 1 then .next (s.fcCoarse n peak second lag)
  else .next (s.fcFine n peak lag)

/-! ### Each second (R287 to R290) -/

/-- The counts of the alarms restart. -/
def FcHid.restart (h : FcHid) : FcHid := { h with silRun := 0, silGood := 0, misRun := 0, misGood := 0 }

/-- A count that goes on while `b` holds. -/
def runOf (n : Nat) (b : Bool) : Nat := if b then n + 1 else 0

/-- A second that counts: loudness of source and feed in 0.01 dBFS, rho in 0.001. -/
def State.fcJudge (s : State) (e : Nat) (src feed rho : Int) : State :=
  let h := s.fc e
  let sil : Int := -100 * (s.fcGet F.FC_LIM_SIL_TH e : Int)
  let mis : Int := 10 * (s.fcGet F.FC_LIM_MIS_TH e : Int)
  let h := { h with
    silRun := runOf h.silRun (decide (src < sil) && decide (sil + 2000 ≤ feed))
    silGood := runOf h.silGood (decide (sil ≤ src))
    misRun := runOf h.misRun (decide (sil < src) && decide (sil < feed) && decide (rho < mis))
    misGood := runOf h.misGood (decide (mis + 50 ≤ rho)) }
  let t := ((s.setFc e h).putE F.FC_MEAS_RHO 0 e (satS 16 rho)).putE F.FC_MEAS_LDIFF 0 e (satS 16 (src - feed))
  let t := if s.fcGet F.FC_TIME_SIL_S e ≤ h.silRun then t.fcAlarm e F.FC_STAT_SILENCE Ev.fcSilence true
    else if 3 ≤ h.silGood then t.fcAlarm e F.FC_STAT_SILENCE Ev.fcSilence false else t
  if s.fcGet F.FC_TIME_MIS_S e ≤ h.misRun then t.fcAlarm e F.FC_STAT_MISMATCH Ev.fcMismatch true
  else if 3 ≤ h.misGood then t.fcAlarm e F.FC_STAT_MISMATCH Ev.fcMismatch false else t

/-- A second of a comparison, of which the feed was valid for `valid` ms. -/
def execFcSecond (e : Fin 32) (valid : Nat) (src feed rho : Int) (s : State) : Host.Outcome State Fault Refusal :=
  let n := e.val
  let st := s.fcGet F.FC_STAT_STATE n
  if !s.fcRuns n || !s.pllLocked then .next s
  else
    let h := s.fc n
    let s := s.setFc n { h with window := if h.tap then s.now else s.windowEnd h.src }
    if valid = 0 then
      let t := s.setFc n (s.fc n).restart
      .next (if st = 3 then t else (t.putE F.FC_STAT_STATE 0 n 3).fcRaise n Ev.fcFeedLost)
    else if st = 3 then
      if 1000 ≤ valid then .next ((s.putE F.FC_STAT_STATE 0 n 1).fcRealign n) else .next s
    else if valid < 500 then .next (s.setFc n (s.fc n).restart)
    else if st = 2 then .next (s.fcJudge n src feed rho)
    else .next s

/-- REPORT_S have passed (R290). -/
def execFcReport (e : Fin 32) (s : State) : Host.Outcome State Fault Refusal :=
  if s.fcRuns e.val && s.fcGet F.FC_LIM_REPORT_S e.val != 0 && s.pllLocked then .next (s.fcEmit e.val 0) else .next s

end Sys2Proof.Machine
end

