-- ==== Sys2Proof/Machine/Func.lean ====
section
/-! DEFINITION. The link, configuration space and W2 (R14, R383 to R387), the HOST page (R409), function-level reset (R434 to
R437), and the FUNCTION page (R431 to R433, R443). -/

namespace Sys2Proof.Machine

/-- What ends when the things it depends on have been disabled, reset or given an epoch: followed programmes' candidates,
comparisons, a handover (R254, R285, R377). -/
def State.sweeps (s : State) : State := s.folSweep.fcSweep.hoSweep

/-! ### Function-level reset (R434 to R437) -/

/-- Whether an FLR of a function runs. -/
def State.flrRuns (s : State) (f : Nat) : Bool := bit (s.get F.FUNC_STAT_FLR_BUSY 0) f

/-- The `RESET_SCOPE` bits of a function: SLOTS, CONTEXTS, TAPS, PORTS. -/
def State.resetScope (s : State) (f : Nat) : Nat :=
  let x := match f with
    | 0 => (F.RESET_SCOPE0_MAIN, F.RESET_SCOPE0_PORTS)
    | 1 => (F.RESET_SCOPE1_MAIN, F.RESET_SCOPE1_PORTS)
    | 2 => (F.RESET_SCOPE2_MAIN, F.RESET_SCOPE2_PORTS)
    | _ => (F.RESET_SCOPE3_MAIN, F.RESET_SCOPE3_PORTS)
  s.get x.1 0 + 8 * s.get x.2 0

/-- Does `g` for each of the first `k` instances of a block that function `f` owns. -/
def State.eachOwned (s : State) (b : Blk) (k f : Nat) (g : State → Nat → State) : State :=
  (List.range k).foldl (fun t n => if t.owner b n == f then g t n else t) s

/-- The end of an instance reset that `RESET_SCOPE` selects (R45, R436). -/
def State.scopeDone (s : State) (b : Blk) (n : Nat) : State := if s.powered b n then s.raise b n Ev.resetDone else s

/-- Step 3 of R434: slots, taps and ports are detached, and the resources that `RESET_SCOPE` selects are reset as by their
instance resets. AP_0 is not reset while first gather plays (R465). -/
def State.flrResources (s : State) (f : Nat) : State :=
  let scope := s.resetScope f
  let t := s.eachOwned .slot 512 f fun u n =>
    if (u.slot n).applied.isSome then u.setSlot n { u.slot n with detached := true } else u
  let t := t.eachOwned .tap 1024 f fun u n =>
    if (u.tap n).applied.isSome then u.setTap n { u.tap n with detached := true } else u
  let t := t.eachOwned .ap 8 f fun u n => u.apDetach n
  let t := if bit scope 0 then t.eachOwned .slot 512 f fun u n =>
      if u.on F.SLOT_STAT_SHADOW n then u else (u.slotReset n).scopeDone .slot n
    else t
  let t := if bit scope 1 then
      (t.eachOwned .dab 48 f fun u n =>
        (u.ctxReset (.dab ⟨n % 48, Nat.mod_lt _ (by decide)⟩)).scopeDone .dab n).eachOwned .drm 24 f
        fun u n => (u.ctxReset (.drm ⟨n % 24, Nat.mod_lt _ (by decide)⟩)).scopeDone .drm n
    else t
  let t := if bit scope 2 then t.eachOwned .tap 1024 f fun u n => (u.tapReset n).scopeDone .tap n else t
  if bit scope 3 then t.eachOwned .ap 8 f fun u n =>
    if n = 0 && u.on F.GLOBAL_STAT_FG_ACTIVE 0 then u else (u.apReset n).scopeDone .ap n
  else t

/-- The alarm rules that a function owns turn OFF. -/
def State.rulesOff (s : State) (f : Nat) : State :=
  s.rulesDo (fun t r => t.getE F.RULE_CFG_KIND 0 r != 0 && t.ruleOwner r == f)
    fun t r => (t.ruleRestart r).putE F.RULE_CFG_KIND 0 r 0

/-- What an FLR of PF_0 does beside (R81, R252, R374). -/
def State.flrZero (s : State) : State :=
  let t := (List.range 8).foldl (fun u n => u.cancelProbe n) s
  (t.put F.SD_ALERT_ASSERTED 0 0).bootAbort

/-- Step 4 of R434: configuration space and page instances return to their reset values, every setting of R44 to 0. -/
def State.flrSettings (s : State) (f : Nat) : State :=
  let t := { s with cfgs := Tbl.erase s.cfgs f, speak := Tbl.dropRange s.speak (256 * f) (256 * f + 256) }
  (((t.resetRegs .host f).resetRegs .xlat f).resetRegs .fault f).put F.SPEAK_MAJOR f 0

/-- An FLR of a function begins (R434): everything but the epochs. One received while one runs is absorbed. -/
def State.flr (s : State) (f : Nat) : State :=
  if s.flrRuns f then s
  else
    let t := s.put F.FUNC_STAT_FLR_BUSY 0 (s.get F.FUNC_STAT_FLR_BUSY 0 ||| 2 ^ f)
    let t := (t.ringsOf f).foldl (fun u r => u.ringKill r) t
    let t := (t.xdropAll f).faultsDrop f
    let t := (((t.flrResources f).folEndAll (some f)).fcEndAll (some f)).rulesOff f
    let t := if f = 0 then t.flrZero else t
    (t.flrSettings f).sweeps

def execFlr (f : Fin 4) (s : State) : Host.Outcome State Fault Refusal :=
  if s.link.up && s.domOn 14 then .next (s.flr f.val) else .next s

/-- The resources of a function that carry an epoch. -/
def State.ownedRes (s : State) (f : Nat) : List Res :=
  ((List.range 512).filter fun n => s.owner .slot n == f).map .slot ++
  ((List.range 1024).filter fun n => s.owner .tap n == f).map .tap ++
  ((List.range 64).filter fun n => s.owner .ring n == f).map .ring ++
  ((List.range 8).filter fun n => s.owner .ap n == f).map .ap ++
  ((List.range 48).filter fun n => s.owner .dab n == f).map .dab ++
  ((List.range 24).filter fun n => s.owner .drm n == f).map .drm

/-- The register field of `FLR_COUNT` of a function. -/
def flrCountFld (f : Nat) : Fld :=
  match f with
  | 0 => F.FLR_COUNT0_COUNT | 1 => F.FLR_COUNT1_COUNT | 2 => F.FLR_COUNT2_COUNT | _ => F.FLR_COUNT3_COUNT

/-- An FLR completes (R434): the epochs of the function and of every resource it owns increment once. -/
def execFlrDone (f : Fin 4) (s : State) : Host.Outcome State Fault Refusal :=
  let n := f.val
  if !s.flrRuns n then .next s
  else
    let t := (s.bumpEpoch (.func n)).bumpList (s.ownedRes n)
    let t := t.put F.FUNC_STAT_FLR_BUSY 0 (clearBits (t.get F.FUNC_STAT_FLR_BUSY 0) (2 ^ n))
    .next (((t.count (flrCountFld n) 0 1).raise .function 0 Ev.flrDone).sweeps)

/-! ### The link (R361, R385) -/

/-- Every function is reset as by an FLR, and the link is down. -/
def State.linkReset (s : State) : State :=
  let t := { s with link := { s.link with up := false, speed := 0, lanes := 0 } }
  if t.domOn 14 then (List.range 4).foldl (fun u f => (u.flr f).flrSettings f) t else t

/-- Raises an event on the HOST page of every function. -/
def State.raiseHosts (s : State) (e : Nat) : State := (List.range 4).foldl (fun t f => t.raiseOn .host f e) s

def execPerstAssert (s : State) : Host.Outcome State Fault Refusal :=
  let t := s.linkReset
  .next { t with link := { t.link with perst := true } }

/-- Link training starts: PE_CLKREQ_N is released (R337, R361). -/
def State.trainStart (s : State) : State :=
  if s.domOn 14 && s.domOn 1 && !s.link.perst && s.held 7 then s.release 7 else s

def execPerstDeassert (s : State) : Host.Outcome State Fault Refusal :=
  .next { s with link := { s.link with perst := false } }.trainStart

def execHotReset (s : State) : Host.Outcome State Fault Refusal :=
  if s.link.up then .next s.linkReset else .next s

def execLinkDown (s : State) : Host.Outcome State Fault Refusal :=
  if s.link.up then .next (s.linkReset.raiseHosts Ev.linkDown) else .next s

/-- Link training completes, at a speed code and a width (R383, R409), once PERST_N is deasserted and PD_14 is on. -/
def execLinkUp (speed lanes : Nat) (s : State) : Host.Outcome State Fault Refusal :=
  if s.link.up || s.link.perst || !s.domOn 14 || !s.domOn 1 then .next s
  else .next ({ s.trainStart with link := { s.link with up := true, speed := speed, lanes := lanes } }.raiseHosts Ev.linkUp)

/-! ### Configuration space (R386, R387, R414, R424) -/

/-- The rings of a function stop, or go on, with Bus Master Enable and the power state (R386). -/
def State.ringsFollow (s : State) (f : Nat) : State :=
  let c := s.cfg f
  let stop := !c.bme || c.d3
  (s.ringsOf f).foldl (fun t r =>
    let st := t.ringState r
    if stop && (st == 1 || st == 2) then t.put F.RING_STAT_STATE r 3
    else if !stop && st == 3 then t.ringGoes r
    else t) s

/-- A write to configuration space. -/
def State.cfgWrite (s : State) (f : Nat) (c : CfgWrite) : State :=
  let x := s.cfg f
  match c with
  | .bme on => ((s.setCfg f { x with bme := on }).ringsFollow f).flushPending f
  | .d3 on => ((s.setCfg f { x with d3 := on }).ringsFollow f).flushPending f
  | .mse on => s.setCfg f { x with mse := on }
  | .msix en mask => (s.setCfg f { x with msixEn := en, msixMask := mask }).flushPending f
  | .ats on =>
    let t := s.setCfg f { x with ats := on }
    if !on && t.get F.XLAT_CFG_MODE f == 1 then t.xdropAll f else t
  | .pri on =>
    let t := s.setCfg f { x with pri := on }
    if on && !x.pri then t.put F.XLAT_STAT_PRI_STOPPED f 0 else t
  | .sizes mps mrrs => s.setCfg f { x with mps := mps, mrrs := mrrs }

def execConfigWrite (f : Fin 4) (c : CfgWrite) (s : State) : Host.Outcome State Fault Refusal :=
  if s.link.up && s.domOn 14 then .next (s.cfgWrite f.val c) else .next s

/-! ### W2 (R14, R374, R384) -/

/-- A write of a byte through W2: discarded in a bank that is not ON, and in CB_0 while an image is loaded. -/
def State.w2Byte (s : State) (a : Nat) (b : Byte) : State :=
  if !s.bankOn (bankOf a) || (bankOf a == 0 && s.cb0Locked) || decide (Memory.size ≤ a) then s else s.cbWrite a b

def State.w2Write (s : State) (a : Nat) : List Byte → State
  | [] => s
  | b :: r => (s.w2Byte a b).w2Write (a + 1) r

/-- The bytes that a read of W2 returns: 0 in a bank that is not ON; an undefined byte is free. -/
def State.w2Bytes (s : State) (a : Nat) : Nat → State × List Byte
  | 0 => (s, [])
  | n + 1 =>
    let (t, b) : State × Byte :=
      if !s.bankOn (bankOf a) then (s, 0)
      else match s.cbRead a with
        | some b => (s, b)
        | none => (s.freeUsed, BitVec.ofNat 8 s.freeNow)
    let (u, l) := t.w2Bytes (a + 1) n
    (u, b :: l)

/-- A memory request to W2, which PF_0 alone has: `count` bytes are read, or `data` is written. -/
def execW2Access (write : Bool) (addr count : Nat) (data : List Byte) (s : State) : Host.Outcome State Fault Refusal :=
  if !s.link.up then .next s
  else if !s.reaches (.pf 0) then .next (s.unreached (.pf 0))
  else if write then .next (s.w2Write addr data)
  else
    let (t, l) := s.w2Bytes addr count
    .next ({ t with resp := l.map fun b : Byte => b.toNat }.send (.w2Read addr l))

/-! ### The HOST page (R387, R409) -/

/-- A write of a register of the HOST page of function `f`. -/
def hostWrite (f off major : Nat) (w : Word) (s : State) : Except Reason State :=
  if off = 0x44 ∧ s.ringFunc (bits w.toNat 5 0) ≠ f then .error .range
  else onOk (plainWrite .host f off major w s) fun t => .ok (if 0x800 ≤ off then t.flushPending f else t)

/-- A reset of the HOST page: RW fields, events and entries return, and every vector is masked. -/
def State.hostReset (s : State) (f : Nat) : State :=
  s.resetKeep .host f [F.HOST_AER_CAUSE, F.HOST_AER_RING, F.HOST_AER_COUNT, F.HOST_BYTES_LO_BYTES, F.HOST_BYTES_HI_BYTES,
    F.PBA_PEND]

/-! ### The FUNCTION page (R432, R433, R443) -/

/-- The block that a row of ownership registers assigns, the index of its entry 0 at this offset, and how many entries it
has; contexts are numbered as one (R443). -/
inductive OwnRow | ring | port | ctx | slot | tap
deriving DecidableEq, Repr

/-- The ownership register at an offset: its row and its element. -/
def ownAt (off : Nat) : Option (OwnRow × Nat) :=
  if off % 4 ≠ 0 then none
  else if 0x80 ≤ off ∧ off ≤ 0x8C then some (.ring, (off - 0x80) / 4)
  else if off = 0x90 then some (.port, 0)
  else if 0x94 ≤ off ∧ off ≤ 0xA4 then some (.ctx, (off - 0x94) / 4)
  else if 0x100 ≤ off ∧ off ≤ 0x17C then some (.slot, (off - 0x100) / 4)
  else if 0x200 ≤ off ∧ off ≤ 0x2FC then some (.tap, (off - 0x200) / 4)
  else none

def OwnRow.fld : OwnRow → Fld
  | .ring => F.OWN_RING_OWNER | .port => F.OWN_PORT_OWNER | .ctx => F.OWN_CTX_OWNER | .slot => F.OWN_SLOT_OWNER
  | .tap => F.OWN_TAP_OWNER

/-- How many entries a row has. -/
def OwnRow.count : OwnRow → Nat
  | .ring => 64 | .port => 8 | .ctx => 72 | .slot => 512 | .tap => 1024

/-- The block and the instance that entry `i` of a row assigns. -/
def OwnRow.inst (o : OwnRow) (i : Nat) : Blk × Nat :=
  match o with
  | .ring => (.ring, i) | .port => (.ap, i) | .slot => (.slot, i) | .tap => (.tap, i)
  | .ctx => if i < 48 then (.dab, i) else (.drm, i - 48)

def OwnRow.res (o : OwnRow) (i : Nat) : Res :=
  match o with
  | .ring => .ring i | .port => .ap i | .slot => .slot i | .tap => .tap i
  | .ctx => if i < 48 then .dab i else .drm (i - 48)

/-- The context of an instance of a DAB or DRM block. -/
def ctxOf (b : Blk) (n : Nat) : Ctx :=
  if b = .dab then .dab ⟨n % 48, Nat.mod_lt _ (by decide)⟩ else .drm ⟨n % 24, Nat.mod_lt _ (by decide)⟩

/-- Whether a resource cannot change its owner (R432). -/
def State.ownHeld (s : State) (b : Blk) (n : Nat) : Bool :=
  s.pooled b n ||
  match b with
  | .slot => s.enabled .slot n || s.on F.SLOT_STAT_SHADOW n || (s.slotGroup n).isSome ||
      (match (s.slot n).applied with | some x => x.context.isSome | none => false)
  | .ring => s.ringState n != 0
  | .ap => s.enabled .ap n || s.get F.AP_STAT_STATE n != 0
  | .tap => s.enabled .tap n
  | _ => s.enabled b n || (s.boundSlot (ctxOf b n)).isSome

/-- A write of an ownership register (R432). -/
def ownWrite (row : OwnRow) (e : Nat) (w : Word) (s : State) : Except Reason State :=
  let entries := (List.range 16).filter fun i => 16 * e + i < row.count
  let old (i : Nat) : Nat := s.ownEntry row.fld (16 * e + i)
  let new (i : Nat) : Nat := w.toNat / 2 ^ (2 * i) % 4
  let changed := entries.filter fun i => new i != old i
  if changed.any fun i => s.flrRuns (old i) || s.flrRuns (new i) then .error .busy
  else if changed.any fun i => s.ownHeld (row.inst (16 * e + i)).1 (row.inst (16 * e + i)).2 then .error .range
  else if changed.isEmpty then .ok s
  else
    let v := entries.foldl (fun v i => v + new i * 2 ^ (2 * i)) 0
    let t := (s.putE row.fld 0 e v).bumpList (changed.map fun i => row.res (16 * e + i))
    .ok (t.raise .function 0 Ev.ownerChg)

/-- A write of `FUNC_POTS_n` (R433); it reads only for PF_0. -/
def potsWrite (n : Nat) (w : Word) (s : State) : Except Reason State :=
  let q := bits w.toNat 10 0
  let others := (([1, 2, 3].filter fun k => k != n).map s.quota).sum
  if n = 0 then .ok s
  else if q < s.potsHeld n ∨ 1024 < others + q ∨ 1024 - (others + q) < s.potsHeld 0 then .error .range
  else .ok (s.putE F.FUNC_POTS_QUOTA 0 n q)

/-- A write of `FUNC_CEIL_n` (R433). -/
def ceilWrite (n off major : Nat) (w : Word) (s : State) : Except Reason State :=
  if major ≠ 1 ∧ (bits w.toNat 15 0 < s.cuUsed (some n) ∨ bits w.toNat 22 16 < s.decUsed (some n)) then .error .range
  else plainWrite .function 0 off major w s

/-- A write of a register of the FUNCTION page. -/
def funcWrite (off major : Nat) (w : Word) (s : State) : Except Reason State :=
  match ownAt off with
  | some (row, e) => ownWrite row e w s
  | none =>
    if 0x50 ≤ off ∧ off ≤ 0x5C then potsWrite ((off - 0x50) / 4) w s
    else if 0x60 ≤ off ∧ off ≤ 0x6C then ceilWrite ((off - 0x60) / 4) off major w s
    else plainWrite .function 0 off major w s

def execOwnershipWrite (a : Accessor) (off : Nat) (w : Word) (s : State) : Host.Outcome State Fault Refusal :=
  .next (s.regWrite a .function 0 off (funcWrite off (s.major a 0x81) w)).sweeps

/-- A reset of the FUNCTION page: `RESET_SCOPE` and the events return. -/
def State.funcPageReset (s : State) : State :=
  s.resetFlds 0 [F.RESET_SCOPE0_MAIN, F.RESET_SCOPE0_PORTS, F.RESET_SCOPE1_MAIN, F.RESET_SCOPE1_PORTS, F.RESET_SCOPE2_MAIN,
    F.RESET_SCOPE2_PORTS, F.RESET_SCOPE3_MAIN, F.RESET_SCOPE3_PORTS, H.EVT .function, H.EVT_EN .function,
    H.EVT_AGAIN .function]

end Sys2Proof.Machine
end

