-- ==== Sys2Proof/Machine/Health.lean ====
section
/-! DEFINITION. Sensors, lifetime histogram and ageing monitors (R512 to R517). -/

namespace Sys2Proof.Machine

/-! ### The histogram (R514) -/

/-- The domain of a junction sensor. -/
def sensorDom (n : Nat) : Nat :=
  if n = 0 then 0 else if n ≤ 8 then 2 + n else if n = 9 then 11 else if n = 10 then 12 else 14

/-- Whether a sensor reads valid; TS_0 alone counts while PD_1 is off. -/
def State.sensorValid (s : State) (n : Nat) : Bool := s.domOn (sensorDom n) && (n == 0 || s.domOn 1)

/-- The bin of a temperature in 0.5 °C. -/
def histBin (t : Int) : Nat := if t < -40 then 0 else if 240 ≤ t then 15 else 1 + ((t + 40) / 20).toNat

/-- The hottest of the readings, with its sensor; of equal ones the lowest sensor. -/
def hottest : List (Nat × Int) → Option (Int × Nat)
  | [] => none
  | (n, t) :: r =>
    match hottest r with
    | some b => if t < b.1 then some b else some (t, n)
    | none => some (t, n)

/-- One second in a bin; sixty make a minute. -/
def State.histAdd (s : State) (k : Nat) : State :=
  let n := Tbl.get s.health.secs 0 k + 1
  let keep (t : State) (v : Nat) : State := { t with health := { t.health with secs := Tbl.set t.health.secs 0 k v } }
  if n < 60 then keep s n else keep (s.countE F.HIST_MINUTES 0 k 1) 0

/-- The second of the histogram. `temps`: the readings of TS_0 to TS_11 in 0.5 °C. -/
def execHistSecond (temps : List Int) (s : State) : Host.Outcome State Fault Refusal :=
  if !s.domOn 0 then .next s
  else
    let seen := (List.range 12).filterMap fun n =>
      match temps[n]? with
      | some t => if s.sensorValid n then some (n, t) else none
      | none => none
    let t := if s.domOn 1 then seen.foldl (fun u p => u.putE F.HLT_TS_TEMP 0 p.1 (satS 16 p.2)) s else s
    match hottest seen with
    | none => .next t
    | some b =>
      let u := t.histAdd (histBin b.1)
      let hotter := match u.health.tmax with | some x => decide (x.1 < b.1) | none => true
      .next (if hotter then { u with health := { u.health with tmax := some b } } else u)

/-! ### Equivalent hours (R513, R514) -/

/-- The integer square root below 2^`k`, built from `r` bit by bit. -/
def isqrtFrom (n : Nat) : Nat → Nat → Nat
  | 0, r => r
  | k + 1, r => isqrtFrom n k (if (r + 2 ^ k) * (r + 2 ^ k) ≤ n then r + 2 ^ k else r)

/-- The minutes of bin k, archived ones included. -/
def State.binMinutes (s : State) (k : Nat) : Nat := s.getE F.HIST_BASE_MINUTES 0 k + s.getE F.HIST_MINUTES 0 k

/-- The equivalent hours. With the bins' centres 10 °C apart the weights are powers of 2, and that of bin 0 is 2^(1/2) times
one, so the sum rounds down exactly. -/
def State.lifeHours (s : State) : Nat :=
  let whole := (List.range 15).foldl (fun a i => a + s.binMinutes (i + 1) * 2 ^ (i + 1)) 0
  let root := isqrtFrom (2 * (s.binMinutes 0 * s.binMinutes 0)) 34 0
  (whole + root) / (60 * 2 ^ (if Config.gradeX then 13 else 12))

/-- The hourly update; LIFE_WARN once at 80 % of the rated life. -/
def execLifeUpdate (s : State) : Host.Outcome State Fault Refusal :=
  if !s.domOn 1 then .next s
  else
    let v := min s.lifeHours (2 ^ 32 - 1)
    let t := s.put F.HLT_LIFE_EQ_HOURS 0 v
    if 175200 ≤ v && !t.health.lifeTold then
      .next ({ t with health := { t.health with lifeTold := true } }.raise .health 0 Ev.lifeWarn)
    else .next t

/-! ### Ageing (R515) -/

/-- A measurement starts; one that runs goes on. -/
def State.ageStart (s : State) : State := s.put F.HLT_AGE_CMD_RUNNING 0 1

/-- A write of `HLT_AGE_CMD`. -/
def ageCmdWrite (w : Word) (s : State) : Except Reason State :=
  if !bit w.toNat 0 then .ok s
  else if s.on F.HLT_AGE_CMD_RUNNING 0 then .error .range
  else .ok s.ageStart

def execAgeMeasureGo (a : Accessor) (w : Word) (s : State) : Host.Outcome State Fault Refusal :=
  .next (s.regWrite a .health 0 0x84 (ageCmdWrite w))

/-- 24 h of PD_1 have passed. -/
def execAgeMeasureTimer (s : State) : Host.Outcome State Fault Refusal :=
  if s.domOn 1 then .next s.ageStart else .next s

/-- The domain of a monitor. -/
def ageDom (n : Nat) : Nat := if n = 0 then 1 else if n = 1 then 11 else if n = 2 then 12 else 14

/-- A measurement ends. `slow`: the slowdown of AGE_0 to AGE_3 in 0.01 %; a monitor without power keeps its last result. -/
def execAgeMeasureDone (slow : List Nat) (s : State) : Host.Outcome State Fault Refusal :=
  if !s.on F.HLT_AGE_CMD_RUNNING 0 then .next s
  else
    let seen := (List.range 4).filterMap fun n =>
      match slow[n]? with
      | some v => if s.domOn (ageDom n) then some (n, v) else none
      | none => none
    let t := seen.foldl (fun u p => (u.putE F.HLT_AGE_SLOW 0 p.1 (min p.2 65535)).putE F.HLT_AGE_VALID 0 p.1 1)
      (s.put F.HLT_AGE_CMD_RUNNING 0 0)
    if (seen.any fun p => decide (400 ≤ p.2)) && !t.health.ageTold then
      .next ({ t with health := { t.health with ageTold := true } }.raise .health 0 Ev.ageWarn)
    else .next t

/-! ### The HEALTH page (R516) -/

/-- A write of a block register of the HEALTH page; a base takes its first write. -/
def healthWrite (off major : Nat) (w : Word) (s : State) : Except Reason State :=
  if off = 0x84 then ageCmdWrite w s
  else if 0x140 ≤ off ∧ off < 0x180 ∧ major ≠ 1 then
    let k := (off - 0x140) / 4
    if s.health.based.contains k then .ok s
    else .ok { s.putE F.HIST_BASE_MINUTES 0 k w.toNat with health := { s.health with based := k :: s.health.based } }
  else plainWrite .health 0 off major w s

/-- A reset of the HEALTH page: the events; not the histogram, its bases, `HLT_LIFE` or the monitors. -/
def State.healthReset (s : State) : State :=
  s.resetKeep .health 0 [F.HLT_TS_TEMP, F.HLT_TS_VALID, F.HLT_AGE_SLOW, F.HLT_AGE_VALID, F.HLT_AGE_CMD_RUNNING,
    F.HLT_LIFE_EQ_HOURS, F.HIST_MINUTES, F.HIST_BASE_MINUTES]

end Sys2Proof.Machine
end

