-- ==== Sys2Proof/Machine/Pages.lean ====
section
/-! DEFINITION. The W0 window: where a register lies (R28, R33 to R35), what a write of it does (R29, R50, R51), the common
header and the compact header of a tap (R35, R40), dialects (R42, R44), resets (R45), and the reset, enable and disable of
each kind of instance. -/

namespace Sys2Proof.Machine

/-! ### Places -/

/-- Instance `i` of page `p`. -/
def pageInst (p i : Nat) : Option (Blk × Nat) :=
  match pageMap p with
  | none => none
  | some m => if i < m.cnt then some (m.blk, m.first + i) else none

/-- The block, the instance and the offset within it of an address of W0. -/
def locate (addr : Nat) : Option (Blk × Nat × Nat) :=
  match pageMap (addr / 4096) with
  | none => none
  | some m =>
    let o := addr % 4096
    if o / m.size < m.cnt then some (m.blk, m.first + o / m.size, o % m.size) else none

/-- Whether an offset lies in the header of an instance. -/
def inHeader (b : Blk) (off : Nat) : Bool := if b = .tap then decide (off < 0x10) else decide (off < 0x40)

/-! ### Block registers -/

/-- A write of a register of an FE page (R93). -/
def feWrite (a : Accessor) (n off major : Nat) (w : Word) (s : State) : Except Reason State :=
  if off = 0x40 then feCtrlWrite n w s
  else if off = 0x54 then feTuneWrite n w s
  else if off = 0x6C then feProbeWrite a n w s
  else if off = 0x88 then feBurstWrite n major w s
  else if off = 0x90 then feRoleWrite n w s
  else onOk (plainWrite .fe n off major w s) fun t =>
    if off = 0x74 then feGainWritten n t
    else if off = 0x78 then checked (t.get F.FE_AGC_HI n < t.get F.FE_AGC_LO n) t
    else if off = 0x80 then
      checked (t.get F.FE_BURST_SRC_INDEX n < if t.get F.FE_BURST_SRC_KIND n = 0 then 48 else 24) t
    else if off = 0xA0 then feCalWritten n t
    else .ok t

/-- A write of a register of the CAL page. -/
def calWrite (off major : Nat) (w : Word) (s : State) : Except Reason State :=
  if off = 0x48 then calRotWrite w s else plainWrite .cal 0 off major w s

/-- A write of a register of the AERIAL page (R127); those of PG_5 count towards LOADED (R337). -/
def aerialWrite (a : Accessor) (off major : Nat) (w : Word) (s : State) : Except Reason State :=
  if 0x90 ≤ off ∧ off < 0x9C then
    onOk (aerTunWrite ((off - 0x90) / 4) w s) fun t => .ok (t.padWritten (9 + (off - 0x90) / 4))
  else if off = 0xB8 then aerSweepWrite a w s
  else onOk (plainWrite .aerial 0 off major w s) fun t =>
    if off = 0x40 then aerVhfWritten s t
    else if off = 0x44 then onOk (aerBiasWritten t) fun u => .ok (u.padWritten 12)
    else if 0x4C ≤ off ∧ off < 0x60 then
      checked (t.getE F.AER_BIAS_LIM_OPEN 0 ((off - 0x4C) / 4) < t.getE F.AER_BIAS_LIM_SHORT 0 ((off - 0x4C) / 4)) t
    else if off = 0x88 then aerLearn w t
    else .ok t

/-- After a write of a detector's configuration register (R148, R152): its source must be there, and the detector is reset at
the next input sample. -/
def detCfgWritten (n off : Nat) (t : State) : Except Reason State :=
  let h := t.slot n
  if off = 0x7C then onOk (checked (t.srcOk n (t.get F.DET_PK_CFG_SRC n)) t) fun u => .ok (u.setSlot n { h with pkReset := true })
  else if off = 0x84 then onOk (checked (t.srcOk n (t.get F.DET_RMS_CFG_SRC n)) t) fun u =>
    .ok (u.setSlot n { h with rmsReset := true })
  else if off = 0x88 then onOk (checked (t.srcOk n (t.get F.DET_ENV_CFG_SRC n)) t) fun u =>
    .ok (u.setSlot n { h with envReset := true })
  else .ok t

/-- A write of a register of a slot instance (R164, R169, R241); those of a shadow are discarded (R162). -/
def slotWrite (n off major : Nat) (w : Word) (s : State) : Except Reason State :=
  if s.on F.SLOT_STAT_SHADOW n then .error .busy
  else if off = 0x54 then slotCommitWrite n w s
  else if off = 0x60 then slotDlyWrite n major w s
  else if off = 0x6C then slotAgWrite n w s
  else if off = 0x90 then detCmdWrite n w s
  else if 0xC0 ≤ off then laneWrite n off major w s
  else onOk (plainWrite .slot n off major w s) (detCfgWritten n off)

/-- A write of a register of a BANK page (R167); the profile loader is on the page of FE_0 alone. -/
def bankWrite (n off major : Nat) (w : Word) (s : State) : Except Reason State :=
  if off = 0x58 then onOk (plainWrite .bank n off major w s) (bankRawWritten n)
  else if off = 0x64 then bankSnapWrite n major w s
  else if 0x80 ≤ off ∧ off ≤ 0x90 then
    if n ≠ 0 then .ok s
    else if off = 0x88 then profDataWrite w s
    else if off = 0x8C then profCommitWrite w s
    else plainWrite .bank n off major w s
  else plainWrite .bank n off major w s

/-- The function whose tap holds decoder `k`. -/
def State.decFunc (s : State) (k : Nat) : Option Nat :=
  (s.taps.find? fun p => s.on F.TAP_RUN_DEC_HELD p.1 && s.get F.TAP_RUN_DEC p.1 == k).map fun p => s.owner .tap p.1

/-- Whether decoder `k` is another function's in the view of an accessor (R240). -/
def State.decForeign (s : State) (a : Accessor) (k : Nat) : Bool :=
  !isManager a && match s.decFunc k with | some f => f != accView a | none => false

/-- A write of a register of the AUDDEC page (R240). -/
def auddecWrite (a : Accessor) (off major : Nat) (w : Word) (s : State) : Except Reason State :=
  if off = 0x4C ∧ !isManager a then .error .owner
  else if 0x100 ≤ off ∧ off < 0x280 ∧ s.decForeign a ((off - 0x100) / 4) then .ok s
  else plainWrite .auddec 0 off major w s

/-- A write of a register of the CLOCK page (R316); in major 1 REF_SEL has no value 2 (R317). -/
def clockWrite (off major : Nat) (w : Word) (s : State) : Except Reason State :=
  if off = 0x48 then pllCmdWrite w s
  else if off = 0x5C then x32CfgWrite major w s
  else if off = 0x60 then audPllWrite w s
  else if off = 0x44 ∧ major = 1 ∧ bits w.toNat 1 0 = 2 then .error .range
  else plainWrite .clock 0 off major w s

/-- A write of a register of the DLL page (R318); those of PG_6 count towards LOADED. -/
def dllWrite (off major : Nat) (w : Word) (s : State) : Except Reason State :=
  if off = 0x64 then onOk (syncCfgWrite major w s) fun t => .ok (t.padWritten 13)
  else if off = 0x70 then onOk (plainWrite .dll 0 off major w s) fun t => .ok (t.padWritten 14)
  else plainWrite .dll 0 off major w s

/-- A write of a register of the MGMT page (R494): attention follows the enables and pending bits. Bits 9 to 11 are absent in
major 1 (R495). -/
def mgmtPageWrite (off major : Nat) (w : Word) (s : State) : Except Reason State :=
  let low := BitVec.ofNat 32 (w.toNat % 2 ^ 9)
  let v := if major = 1 ∧ off = 0x48 then low + BitVec.ofNat 32 (bits (s.get F.MGMT_ATTN_EN_EN 0) 11 9 * 2 ^ 9)
    else if major = 1 ∧ off = 0x4C then low else w
  onOk (plainWrite .mgmt 0 off major v s) fun t =>
    let p := t.get F.MGMT_ATTN_PEND_PEND 0
    .ok { t with attn := { t.attn with setAt := t.attn.setAt.filter fun x => bit p x.1 } }.attnKick

/-- A write of a register of the FAULT page of function `f` (R441). -/
def faultWrite (a : Accessor) (f off major : Nat) (w : Word) (s : State) : Except Reason State :=
  if off = 0x40 then faultLogWrite f w s
  else if off = 0x48 then plainWrite .fault (accIdx a) off major w s
  else if off = 0x6C then faultResume f w s
  else plainWrite .fault f off major w s

/-! ### Dialects (R42, R44) -/

/-- Sets the dialect of a page for an accessor. -/
def State.setSpeak (s : State) (a : Accessor) (p v : Nat) : State :=
  { s with speak := Tbl.set s.speak 0 (accIdx a * 256 + p) v }

/-- Whether a page, tap pages apart, is present in the view of an accessor and carries `PAGE_SPEAK`. -/
def State.speaks (s : State) (a : Accessor) (p : Nat) : Bool :=
  match pageMap p with
  | some m => m.blk != .tap && s.present a m.blk (viewInst a m.blk m.first)
  | none => false

/-- A write of `GLOBAL.SPEAK`: every present page takes the MAJOR, or refuses it. -/
def speakAll (a : Accessor) (w : Word) (s : State) : State :=
  let v := bits w.toNat 7 0
  let ok := v = 1 || v = 2
  let pages := (List.range 256).filter (s.speaks a)
  let t := pages.foldl (fun u p => u.setSpeak a p (if ok then v else 0)) s
  let t := (t.put F.SPEAK_MAJOR (accIdx a) (if ok then v else 0)).put F.SPEAK_MISS_COUNT (accIdx a) (if ok then 0 else pages.length)
  if ok || pages.isEmpty then t else t.discard a .global (accIdx a) 0x48 .range

/-- A write of `PAGE_SPEAK`: writable in every row of R41. -/
def State.speakWrite (s : State) (a : Accessor) (b : Blk) (n : Nat) (w : Word) : State :=
  let v := bits w.toNat 7 0
  if !s.reaches a then s.unreached a
  else if !s.present a b n then s
  else if s.flrBusy a then s.discard a b n 0x0C .busy
  else if partitioned b && s.owner b n != accView a then s.discard a b n 0x0C .owner
  else if v = 1 ∨ v = 2 then s.setSpeak a (pageOf b n) v
  else (s.setSpeak a (pageOf b n) 0).discard a b n 0x0C .range

/-- A write of a register of the GLOBAL page (R58, R380). -/
def globalWrite (a : Accessor) (off : Nat) (w : Word) (s : State) : Except Reason State :=
  if off = 0x48 then .ok (speakAll a w s)
  else if off = 0x110 then mbxLenWrite a w s
  else if off = 0x114 then mbxCmdWrite a w s
  else if 0x100 ≤ off then (if isManager a then .ok s else .error .owner)
  else plainWrite .global (accIdx a) off 2 w s

/-! ### One block register -/

/-- What a write of a block register does, once it has reached it. -/
def blkWrite (a : Accessor) (b : Blk) (n off major : Nat) (w : Word) (s : State) : Except Reason State :=
  match b with
  | .global => globalWrite a off w s
  | .aon => aonWrite a off major w s
  | .clock => clockWrite off major w s
  | .dll => dllWrite off major w s
  | .health => healthWrite off major w s
  | .otp => otpPageWrite off major w s
  | .mgmt => mgmtPageWrite off major w s
  | .fe => feWrite a n off major w s
  | .bank => bankWrite n off major w s
  | .cal => calWrite off major w s
  | .aerial => aerialWrite a off major w s
  | .slot => slotWrite n off major w s
  | .dab => ctxWrite (ctxOf .dab n) off major w s
  | .drm => ctxWrite (ctxOf .drm n) off major w s
  | .tap => if off = 0x14 then tapCmdWrite n w s else plainWrite .tap n off major w s
  | .auddec => auddecWrite a off major w s
  | .follow => folWrite a off major w s
  | .metro => metroWrite a off major w s
  | .sidedata => sideWrite a off major w s
  | .lehr => lehrWrite off major w s
  | .ap => apWrite n off major w s
  | .host => hostWrite n off major w s
  | .xlat => xlatWrite n off major w s
  | .fault => faultWrite a n off major w s
  | .ring => ringWrite n off major w s
  | .crucible => if off = 0x40 then cbStateWrite w s else .ok s
  | .function => funcWrite off major w s
  | .fm => .ok s
  | .am => .ok s
  | .an => .ok s
  | .dig => .ok s

/-- The command registers whose EXP_EPOCH is compared with the epoch of their instance before anything else (R56). Those of
rings, ports and the FAULT page compare it themselves. -/
def isCommand (b : Blk) (off : Nat) : Bool :=
  (b == .fe && (off == 0x54 || off == 0x6C || off == 0x88)) || (b == .slot && (off == 0x54 || off == 0x60)) ||
  (b == .tap && off == 0x14)

/-- A write of a block register of instance `n`. -/
def State.blockWrite (s : State) (a : Accessor) (b : Blk) (n off : Nat) (w : Word) : State :=
  let h := blkWrite a b n off (s.major a (pageOf b n)) w
  (if isCommand b off then s.cmdWrite a b n off w h else s.regWrite a b n off h).sweeps

/-! ### Resets (R45) -/

/-- A reset of the GLOBAL page in an accessor's view: its own settings, not its dialects (R44) nor what reports the part. -/
def State.globalReset (s : State) (v : Nat) : State :=
  s.resetFlds v [F.SPEAK_MISS_COUNT, F.ACC_LOG_REASON, F.ACC_LOG_PAGE, F.ACC_ADDR_OFFSET, F.ACC_COUNT_COUNT,
    F.SCRATCH_VALUE, H.EVT .global, H.EVT_EN .global, H.EVT_AGAIN .global]

/-- A reset of the MGMT page: RW fields, counters and events return, every pending bit clears. -/
def State.mgmtReset (s : State) : State :=
  let t := s.resetKeep .mgmt 0 [F.MGMT_STAT_LAST_CMD, F.MGMT_STAT_LAST_RESULT, F.MGMT_STAT_BUSY, F.MGMT_STAT_HELD,
    F.MGMT_STAT_DIALECT]
  { t with attn := {} }.attnKick

/-- A reset that is discarded with reason BUSY: of a shadow (R163), of a page of a pair in use (R95), of AP_0 in first gather
(R465). -/
def State.resetRefused (s : State) (b : Blk) (n : Nat) : Bool :=
  match b with
  | .slot => s.on F.SLOT_STAT_SHADOW n
  | .fe => s.feResetBusy n
  | .ap => n == 0 && s.on F.GLOBAL_STAT_FG_ACTIVE 0
  | _ => false

/-- What the reset of an instance does at once. -/
def State.resetNow (s : State) (b : Blk) (n : Nat) : State :=
  match b with
  | .global => s.globalReset n
  | .aon => s.aonReset
  | .clock => s.clockReset
  | .dll => s.dllReset
  | .health => s.healthReset
  | .otp => s.otpReset
  | .mgmt => s.mgmtReset
  | .fe => s.feReset n
  | .bank => s.bankReset n
  | .cal => s.calReset
  | .aerial => s.aerialReset
  | .slot => s.slotReset n
  | .dab => s.ctxReset (ctxOf .dab n)
  | .drm => s.ctxReset (ctxOf .drm n)
  | .tap => s.tapReset n
  | .auddec => allViews.foldl (fun u v => u.resetRegs .auddec v) s
  | .follow => s.folReset
  | .metro => s.metroReset
  | .sidedata => s.sideReset
  | .lehr => s.lehrReset
  | .ap => s.apReset n
  | .host => s.hostReset n
  | .xlat => (s.ringsOf n).foldl (fun u r => u.puts r [(H.ENABLE .ring, 0), (H.LOCK .ring, 0), (H.RESET .ring, 1)]) (s.xlatReset n)
  | .fault => s.faultReset n
  | .ring => s.ringReset n
  | .crucible => s.resetRegs .crucible 0
  | .function => s.funcPageReset
  | .fm => s
  | .am => s
  | .an => s
  | .dig => s

/-- A reset starts: RESET reads 1 until it ends. -/
def State.resetStart (s : State) (b : Blk) (n : Nat) : State :=
  (s.resetNow b n).puts n [(H.ENABLE b, 0), (H.LOCK b, 0), (H.RESET b, 1)]

/-- The reset of an instance ends: its epoch increments and RESET_DONE is raised, in every view of a page that has views. -/
def State.resetEnd1 (s : State) (b : Blk) (n : Nat) : State :=
  if !s.on (H.RESET b) n then s
  else
    let t := if b = .ring then s.ringResetEnd n else s
    let t := t.put (H.RESET b) n 0
    let t := match ownRes b n with | some r => t.bumpEpoch r | none => t
    if perView b then t.raiseViews b Ev.resetDone allViews else t.raise b n Ev.resetDone

/-- The same; with the XLAT page the rings that it reset are done too. -/
def State.resetEnd (s : State) (b : Blk) (n : Nat) : State :=
  let t := if b = .xlat && s.on (H.RESET .xlat) n then (s.ringsOf n).foldl (fun u r => u.resetEnd1 .ring r) s else s
  (t.resetEnd1 b n).sweeps

/-! ### `PAGE_CTRL` (R37, R40, R321) -/

/-- Whether the page of an instance carries POWER. -/
def hasPower (b : Blk) (n : Nat) : Bool :=
  b == .fe || b == .auddec || b == .crucible || ((b == .bank || b == .host || b == .ap) && n == 0)

/-- A write of POWER. -/
def powerField (b : Blk) (n pw : Nat) (s : State) : Except Reason State :=
  if pw = 0 ∨ !hasPower b n then .ok s
  else if pw = 3 then .error .range
  else s.domRequest (s.domainOf b n) (pw == 1) (.page (pageOf b n))

/-- A write of ENABLE. -/
def enableField (b : Blk) (n : Nat) (on : Bool) (s : State) : Except Reason State :=
  match b with
  | .slot => if on then slotEnable n s else slotDisable n s
  | .dab => if on == s.enabled b n then .ok s else if on then ctxEnable (ctxOf .dab n) s else .ok (s.ctxDisable (ctxOf .dab n))
  | .drm => if on == s.enabled b n then .ok s else if on then ctxEnable (ctxOf .drm n) s else .ok (s.ctxDisable (ctxOf .drm n))
  | .tap => if on == s.enabled b n then .ok s else if on then tapEnable n s else .ok (s.tapDisable n)
  | .ring => if on then ringEnable n s else .ok (s.ringDisable n)
  | .ap => if on then apEnable n s else .ok (s.apDisable n)
  | _ => .ok (s.put (H.ENABLE b) n (b2n on))

/-- A write of `PAGE_CTRL`, or of offset 0x04 of a tap. While the domain is off only POWER acts; a reset clears what the same
write would set. -/
def ctrlField (a : Accessor) (b : Blk) (n : Nat) (w : Word) (s : State) : Except Reason State :=
  let v := w.toNat
  let pw := if b = .tap then 0 else bits v 3 2
  let own := !partitioned b || s.owner b n == accView a
  if pw ≠ 0 && !isManager a then .error .owner
  else onOk (powerField b n (if own then pw else 0) s) fun t =>
    if !s.powered b n then (if (if own then pw else 0) = 0 ∧ v &&& 0x13 ≠ 0 then .error .power else .ok t)
    else if s.on (H.RESET b) n then .error .busy
    else if bit v 1 then (if s.resetRefused b n then .error .busy else .ok (t.resetStart b n))
    else onOk (enableField b n (bit v 0) t) fun u => .ok (if bit v 4 then u.put (H.LOCK b) n 1 else u)

/-- The offset of the control register. -/
def hdrCtrl (b : Blk) : Nat := if b = .tap then 0x04 else 0x10

/-- A write of the control register of an instance. -/
def State.ctrlWrite (s : State) (a : Accessor) (b : Blk) (n : Nat) (w : Word) : State :=
  (s.hdrWrite a b n (hdrCtrl b) (bit w.toNat 1) true (ctrlField a b n w)).sweeps

/-! ### Event registers (R46 to R48) -/

/-- Raises the events of a word. -/
def State.raiseWord (s : State) (b : Blk) (n w : Nat) : State :=
  (List.range 32).foldl (fun t e => if bit w e then t.raise b n e else t) s

/-- Bits of EVT or AGAIN are cleared by writing 1; those of `same`, which hardware sets in the same cycle, stay set, and their
events count as raised. Clearing SAT of a slot clears `SLOT_STAT.SAT`. -/
def State.evtClear (s : State) (b : Blk) (n : Nat) (again : Bool) (v same : Nat) : State :=
  let f := if again then H.EVT_AGAIN b else H.EVT b
  let t := s.put f n (clearBits (s.get f n) (clearBits v same))
  let t := if b = .slot && !again && bit (clearBits v same) Ev.sat then t.put F.SLOT_STAT_SAT n 0 else t
  t.raiseWord b n (v &&& same)

/-- A write of the enables; a request that rises sends its message. -/
def State.evtEnable (s : State) (b : Blk) (n v : Nat) : State :=
  s.withRise b n (s.owner b n) fun u => u.put (H.EVT_EN b) n v

/-- A write of offset 0x0C of a tap: EVT, EVT_EN and EVT_AGAIN in one register (R35). -/
def State.tapEvt (s : State) (n v same : Nat) : State :=
  ((s.evtClear .tap n false (bits v 7 0) same).evtClear .tap n true (bits v 23 16) 0).evtEnable .tap n (bits v 15 8)

/-- The effect of a write of an event register of a header. -/
def evtField (a : Accessor) (b : Blk) (n off v same : Nat) (s : State) : Except Reason State :=
  let e := evtInst a b n
  if b = .tap then .ok (s.tapEvt n v same)
  else if off = 0x1C then .ok (s.evtEnable b e v)
  else .ok (s.evtClear b e (off == 0x20) v same)

/-- A write of an event register of a header. -/
def State.evtWrite (s : State) (a : Accessor) (b : Blk) (n off : Nat) (w : Word) (same : Nat) : State :=
  s.hdrWrite a b n off false false (evtField a b n off w.toNat same)

/-! ### Words of W0 (R28, R29) -/

/-- A write to a read-only or reserved register of a header: it changes nothing, and only an FLR of the accessor's function
and an instance of another function turn it away (R38, R39, R40, R434). -/
def State.roWrite (s : State) (a : Accessor) (b : Blk) (n off : Nat) : State :=
  if !s.reaches a then s.unreached a
  else if !s.present a b n then s
  else if s.flrBusy a then s.discard a b n off .busy
  else if partitioned b && s.owner b n != accView a then s.discard a b n off .owner
  else s

/-- A write of a register of a header. -/
def State.headWrite (s : State) (a : Accessor) (b : Blk) (n off : Nat) (w : Word) : State :=
  if off = hdrCtrl b then s.ctrlWrite a b n w
  else if b = .tap ∧ off = 0x0C then s.evtWrite a b n off w 0
  else if b ≠ .tap ∧ off = 0x0C then s.speakWrite a b n w
  else if b ≠ .tap ∧ 0x18 ≤ off ∧ off ≤ 0x20 then s.evtWrite a b n off w 0
  else s.roWrite a b n off

/-- A write of the 32-bit register at an address of W0. -/
def State.wordWrite (s : State) (a : Accessor) (addr : Nat) (w : Word) : State :=
  match locate addr with
  | none => if s.reaches a then s else s.unreached a
  | some (b, i, off) =>
    let n := viewInst a b i
    if inHeader b off then s.headWrite a b n off w else s.blockWrite a b n off w

/-- A write that is not 32 or 64 bits wide and naturally aligned. -/
def State.badWidth (s : State) (a : Accessor) (addr : Nat) : State :=
  match locate addr with
  | none => if s.reaches a then s.logAccess a (addr / 4096 % 256) (addr % 4096) .width else s.unreached a
  | some (b, i, off) =>
    let n := viewInst a b i
    if !s.reaches a then s.unreached a
    else if s.present a b n then s.discard a b n off .width
    else s.logAccess a (addr / 4096 % 256) (addr % 4096) .width

/-! ### The meanings -/

/-- A write of `bytes` bytes at an address; 64 bits are two writes, the lower address first. -/
def execRegisterWrite (a : Accessor) (addr bytes value : Nat) (s : State) : Host.Outcome State Fault Refusal :=
  if bytes = 4 ∧ addr % 4 = 0 then .next (s.wordWrite a addr (BitVec.ofNat 32 value))
  else if bytes = 8 ∧ addr % 8 = 0 then
    .next ((s.wordWrite a addr (BitVec.ofNat 32 value)).wordWrite a (addr + 4) (BitVec.ofNat 32 (value / 2 ^ 32)))
  else .next (s.badWidth a addr)

/-- Does `g` on an instance of a page as the accessor sees it; where there is none, nothing is written. -/
def State.onPage (s : State) (a : Accessor) (p i : Nat) (g : Blk → Nat → State) : State :=
  match pageInst p i with
  | some (b, n) => g b (viewInst a b n)
  | none => if s.reaches a then s else s.unreached a

def execPageSpeak (a : Accessor) (page : Fin 256) (inst : Fin 128) (w : Word) (s : State) : Host.Outcome State Fault Refusal :=
  .next (s.onPage a page.val inst.val fun b n => if b = .tap then s else s.speakWrite a b n w)

def execSpeak (a : Accessor) (w : Word) (s : State) : Host.Outcome State Fault Refusal :=
  .next (s.blockWrite a .global (accIdx a) 0x48 w)

def execPageReset (a : Accessor) (page : Fin 256) (inst : Fin 128) (w : Word) (s : State) : Host.Outcome State Fault Refusal :=
  .next (s.onPage a page.val inst.val fun b n => s.ctrlWrite a b n w)

/-- A reset ends. `func` names the view on the pages of which each function has its own; the management bus's view of GLOBAL
ends with PF_0's. -/
def execResetDone (page : Fin 256) (inst : Fin 128) (func : Fin 4) (s : State) : Host.Outcome State Fault Refusal :=
  match pageInst page.val inst.val with
  | some (b, n) =>
    let t := s.resetEnd b (viewInst (.pf func) b n)
    .next (if b = .global ∧ func = 0 then t.resetEnd .global 4 else t)
  | none => .next s

def execLock (a : Accessor) (page : Fin 256) (inst : Fin 128) (w : Word) (s : State) : Host.Outcome State Fault Refusal :=
  .next (s.onPage a page.val inst.val fun b n => s.ctrlWrite a b n w)

def execEvtClear (a : Accessor) (page : Fin 256) (inst : Fin 128) (again : Bool) (w same : Word) (s : State) :
    Host.Outcome State Fault Refusal :=
  .next (s.onPage a page.val inst.val fun b n =>
    s.evtWrite a b n (if b = .tap then 0x0C else if again then 0x20 else 0x18) w same.toNat)

def execPowerRequest (a : Accessor) (page : Fin 256) (inst : Fin 128) (w : Word) (s : State) : Host.Outcome State Fault Refusal :=
  .next (s.onPage a page.val inst.val fun b n => s.ctrlWrite a b n w)

def execFePageReset (a : Accessor) (f : Fin 8) (w : Word) (s : State) : Host.Outcome State Fault Refusal :=
  .next (s.ctrlWrite a .fe f.val w)

def execTunerWrite (a : Accessor) (p : Fin 3) (w : Word) (s : State) : Host.Outcome State Fault Refusal :=
  .next (s.blockWrite a .aerial 0 (0x90 + 4 * p.val) w)

def execSlotEnable (a : Accessor) (n : Fin 512) (w : Word) (s : State) : Host.Outcome State Fault Refusal :=
  .next (s.ctrlWrite a .slot n.val w)
def execSlotDisable (a : Accessor) (n : Fin 512) (w : Word) (s : State) : Host.Outcome State Fault Refusal :=
  .next (s.ctrlWrite a .slot n.val w)
def execSlotReset (a : Accessor) (n : Fin 512) (w : Word) (s : State) : Host.Outcome State Fault Refusal :=
  .next (s.ctrlWrite a .slot n.val w)

def execContextEnable (a : Accessor) (c : Ctx) (w : Word) (s : State) : Host.Outcome State Fault Refusal :=
  .next (s.ctrlWrite a c.blk c.num w)
def execContextDisable (a : Accessor) (c : Ctx) (w : Word) (s : State) : Host.Outcome State Fault Refusal :=
  .next (s.ctrlWrite a c.blk c.num w)
def execContextReset (a : Accessor) (c : Ctx) (w : Word) (s : State) : Host.Outcome State Fault Refusal :=
  .next (s.ctrlWrite a c.blk c.num w)

def execTapEnable (a : Accessor) (t : Fin 1024) (w : Word) (s : State) : Host.Outcome State Fault Refusal :=
  .next (s.ctrlWrite a .tap t.val w)
def execTapDisable (a : Accessor) (t : Fin 1024) (w : Word) (s : State) : Host.Outcome State Fault Refusal :=
  .next (s.ctrlWrite a .tap t.val w)
def execTapReset (a : Accessor) (t : Fin 1024) (w : Word) (s : State) : Host.Outcome State Fault Refusal :=
  .next (s.ctrlWrite a .tap t.val w)

def execRingEnable (a : Accessor) (r : Fin 64) (w : Word) (s : State) : Host.Outcome State Fault Refusal :=
  .next (s.ctrlWrite a .ring r.val w)
def execRingDisable (a : Accessor) (r : Fin 64) (w : Word) (s : State) : Host.Outcome State Fault Refusal :=
  .next (s.ctrlWrite a .ring r.val w)
def execRingReset (a : Accessor) (r : Fin 64) (w : Word) (s : State) : Host.Outcome State Fault Refusal :=
  .next (s.ctrlWrite a .ring r.val w)

def execApEnable (a : Accessor) (p : Fin 8) (w : Word) (s : State) : Host.Outcome State Fault Refusal :=
  .next (s.ctrlWrite a .ap p.val w)
def execApDisable (a : Accessor) (p : Fin 8) (w : Word) (s : State) : Host.Outcome State Fault Refusal :=
  .next (s.ctrlWrite a .ap p.val w)
def execApReset (a : Accessor) (p : Fin 8) (w : Word) (s : State) : Host.Outcome State Fault Refusal :=
  .next (s.ctrlWrite a .ap p.val w)

end Sys2Proof.Machine
end

