-- ==== Sys2Proof/Machine/Views.lean ====
section
/-! DEFINITION. Reading W0: what each register shows an accessor (R28 to R31, R36, R38, R40, R41, R43), and the two latches
that a read sets (R30, R441). -/

namespace Sys2Proof.Machine

/-! ### Headers (R35, R40) -/

/-- The block type of R33. -/
def Blk.typeNo : Blk → Nat
  | .global => 0x0001 | .aon => 0x0002 | .clock => 0x0003 | .dll => 0x0004 | .health => 0x0005 | .otp => 0x0006
  | .mgmt => 0x0007 | .fe => 0x0010 | .bank => 0x0011 | .cal => 0x0012 | .aerial => 0x0013 | .slot => 0x0020
  | .dab => 0x0030 | .drm => 0x0031 | .tap => 0x0032 | .auddec => 0x0033 | .follow => 0x0034 | .metro => 0x0035
  | .sidedata => 0x0036 | .lehr => 0x0037 | .ap => 0x0040 | .host => 0x0050 | .xlat => 0x0051 | .fault => 0x0052
  | .ring => 0x0053 | .crucible => 0x0060 | .function => 0x0061
  | .fm => 0 | .am => 0 | .an => 0 | .dig => 0

/-- The instance field of PAGE_ID (R34): the index within the page, the instance number on FE and AP pages, the function on
the pages of which each function has its own. -/
def instField (a : Accessor) (b : Blk) (n i : Nat) : Nat :=
  match b with
  | .fe => n | .bank => n | .ap => n
  | .host => accView a | .xlat => accView a | .fault => accView a
  | .slot => i | .dab => i | .drm => i | .tap => i | .ring => i
  | _ => 0

/-- Whether the page holds instance blocks, and whether it has command registers. -/
def isMulti (b : Blk) : Bool := b == .slot || b == .dab || b == .drm || b == .ring
def hasCmd (b : Blk) : Bool := b == .fe || b == .slot || b == .ring || b == .fault || b == .ap

/-- The BLOCK_CAPS of an FE page: LMH, TUNER, SCOUT_CAPABLE (R93). -/
def blockCaps (b : Blk) (n : Nat) : Nat :=
  if b = .fe then b2n (5 ≤ n) + 2 * b2n (5 ≤ n) + 4 * b2n (n = 0 || n = 5) else 0

/-- The word of PAGE_CAPS. -/
def capsWord (b : Blk) (n : Nat) : Nat :=
  b2n (hasPower b n) * 2 ^ 31 + b2n (isMulti b) * 2 ^ 30 + b2n (hasCmd b) * 2 ^ 29 + blockCaps b n

/-- The current target of a domain, coded as POWER. -/
def State.powerTarget (s : State) (d : Nat) : Nat :=
  if (match (s.dom d).run with | some r => r.1 | none => s.domOn d) then 1 else 2

/-- The word of PAGE_CTRL, or of offset 0x04 of a tap. -/
def State.ctrlWord (s : State) (b : Blk) (n : Nat) : Nat :=
  s.get (H.ENABLE b) n + 2 * s.get (H.RESET b) n +
    (if hasPower b n then 4 * s.powerTarget (s.domainOf b n) else 0) + 16 * s.get (H.LOCK b) n

/-- PAGE_STAT.STATE. -/
def State.stateCode (s : State) (b : Blk) (n : Nat) : Nat :=
  match b with
  | .fe => s.get F.FE_STAT_STATE n + 8 * s.get F.FE_STAT_MOVING n
  | .slot => if s.on F.SLOT_STAT_SHADOW n then 2 else b2n (s.enabled .slot n)
  | .dab => s.get F.DAB_STAT_STATE n
  | .drm => s.get F.DRM_STAT_STATE n
  | .tap => s.get F.TAP_RUN_STATE n
  | .ring => s.get F.RING_STAT_STATE n
  | .ap => s.get F.AP_STAT_STATE n
  | _ => 0

/-- The epoch that a header reports (R55); of a page whose resource carries none the specification states no value. -/
def State.shownEpoch (s : State) (b : Blk) (n : Nat) : Nat :=
  match resOf b n with
  | some r => s.epoch r
  | none => Config.pageEpoch (pageOf b n) % 256

/-- The word of PAGE_STAT. -/
def State.statWord (s : State) (b : Blk) (n : Nat) : Nat :=
  let d := s.dom (s.domainOf b n)
  s.shownEpoch b n + s.stateCode b n * 2 ^ 8 + b2n (s.on (H.RESET b) n || d.run.isSome) * 2 ^ 16 +
    (match d.pend with | some p => 2 ^ 17 + (if p.1 then 1 else 2) * 2 ^ 18 | none => 0) + b2n (s.powered b n) * 2 ^ 20

/-- The word of PAGE_VER: newest dialect 2.0, oldest 1. -/
def verWord : Nat := 0x02000100

/-- The owner that PAGE_OWNER reports: pages with a view for each accessor are PF_0's. -/
def State.shownOwner (s : State) (b : Blk) (n : Nat) : Nat :=
  if perView b || b == .global then 0 else s.owner b n

/-- A register of a 64-byte header; `n` the instance, `i` its index within the page. -/
def State.headRead (s : State) (a : Accessor) (b : Blk) (n i off : Nat) : Nat :=
  let p := pageOf b n
  let e := evtInst a b n
  if off = 0x00 then b.typeNo * 2 ^ 16 + instField a b n i * 2 ^ 8 + 1
  else if off = 0x04 then verWord
  else if off = 0x08 then capsWord b n
  else if off = 0x0C then s.major a p
  else if off = 0x10 then s.ctrlWord b n
  else if off = 0x14 then s.statWord b n
  else if off = 0x18 then s.seenEvts (accIdx a) b n (s.get (H.EVT b) e)
  else if off = 0x1C then s.get (H.EVT_EN b) e
  else if off = 0x20 then s.seenEvts (accIdx a) b n (s.get (H.EVT_AGAIN b) e)
  else if off = 0x24 then s.shownOwner b n
  else 0

/-- A register of the compact header of a tap. -/
def State.tapHead (s : State) (n i off : Nat) : Nat :=
  if off = 0x00 then 0x00320001 + i * 2 ^ 8
  else if off = 0x04 then s.ctrlWord .tap n
  else if off = 0x08 then s.statWord .tap n
  else s.get (H.EVT .tap) n + s.get (H.EVT_EN .tap) n * 2 ^ 8 + s.get (H.EVT_AGAIN .tap) n * 2 ^ 16

/-! ### Block registers that the state holds -/

/-- The fields of a register as the dialect presents them (R43); what is written only reads 0. -/
def State.plainRead (s : State) (b : Blk) (n off major : Nat) : Nat :=
  (fieldsAt b off major).foldl (fun w p => if p.1.acc == .wo then w else w + s.getE p.1 n p.2 * 2 ^ p.1.lo) 0

/-- Bits of a word. -/
def maskOf (p : Nat → Bool) (k : Nat) : Nat := (List.range k).foldl (fun w i => w + b2n (p i) * 2 ^ i) 0

/-- The number of seconds from an instant of device time to now, saturating at 20 bits; all ones before there is one. -/
def State.ageOf (s : State) (t : Option Nat) : Nat :=
  match t with
  | some x => min ((s.now - x) / ticksPerSecond) 0xFFFFF
  | none => 0xFFFFF

/-- Whether an accessor sees a page's events (R49). -/
def State.pagePending (s : State) (a : Accessor) (p : Nat) : Bool :=
  match pageMap p with
  | none => false
  | some m =>
    let pend (n : Nat) : Bool := s.seenEvts (accIdx a) m.blk n (s.get (H.EVT m.blk) n &&& s.get (H.EVT_EN m.blk) n) != 0
    if perView m.blk || m.blk == .global then pend (accIdx a)
    else if m.blk == .host || m.blk == .xlat || m.blk == .fault then pend (accView a)
    else (List.range m.cnt).any fun i => s.owner m.blk (m.first + i) == accView a && pend (m.first + i)

/-- GLOBAL (R58, R380). -/
def State.globalRead (s : State) (a : Accessor) (off : Nat) : Nat :=
  if 0x100 ≤ off ∧ !isManager a then 0
  else if off = 0x40 ∨ 0x100 ≤ off then
    s.plainRead .global 0 off 2 + (if off = 0x104 then s.bootPolicy + s.svnFloor * 2 ^ 8 else 0)
  else if off = 0x44 then s.plainRead .global 0 off 2 + b2n Config.gradeX * 16
  else if off = 0x5C then accIdx a
  else if off = 0x60 then s.now % 2 ^ 32
  else if off = 0x64 then s.now / 2 ^ 32
  else if 0x80 ≤ off ∧ off < 0xA0 then maskOf (fun k => s.pagePending a ((off - 0x80) / 4 * 32 + k)) 32
  else s.plainRead .global (accIdx a) off 2

/-- CRUCIBLE (R520). -/
def State.crucibleRead (s : State) (off : Nat) : Nat :=
  let used (k : Nat) : Nat := (s.pots.filter fun p => p.1 / 128 == k && p.2.isSome).length
  if off = 0x40 then (List.range 8).foldl (fun w k => w + s.bankShown k * 4 ^ k) 0
  else if off = 0x44 then maskOf (fun k => (s.bank k).moving.isSome) 8
  else if off = 0x48 then
    (s.pots.filter fun p => p.2.isSome).length +
      ((List.range 8).foldl (fun m k => if s.bankOn k then m + (128 - used k) else m) 0) * 2 ^ 16
  else if 0x4C ≤ off ∧ off < 0x6C then 128 - used ((off - 0x4C) / 4)
  else 0

/-- AON (R349). What the pads that the part does not drive read is outside the model. -/
def State.aonRead (s : State) (off major : Nat) : Nat :=
  if off = 0x40 then s.plainRead .aon 0 off major + s.devState
  else if off = 0x60 then s.aonTime.toNat % 2 ^ 32
  else if off = 0x64 then s.aonTime.toNat / 2 ^ 32
  else if off = 0x78 then maskOf s.domOn 16 + maskOf (fun d => (s.dom d).run.isSome) 16 * 2 ^ 16
  else if off = 0x7C then
    if major = 1 then 0
    else maskOf (fun d => (s.dom d).pend.isSome) 16 +
      maskOf (fun d => match (s.dom d).pend with | some p => p.1 | none => false) 16 * 2 ^ 16
  else if off = 0x90 then
    maskOf (fun k => if bit (s.get F.AON_GPIO_OE 0) k then bit (s.get F.AON_GPIO_OUT 0) k else bit s.freeNow k) 16
  else s.plainRead .aon 0 off major

/-- CLOCK (R316). -/
def State.clockRead (s : State) (off major : Nat) : Nat :=
  if off = 0x58 ∧ major = 2 ∧ s.get F.CLK_STAT_PLL_STATE 0 = 3 then
    min ((s.now - s.clk.holdAt) / ticksPerSecond) (2 ^ 20 - 1)
  else s.plainRead .clock 0 off major

/-- DLL (R318). The tap at which a line that runs stands, and the factory alignment, are not stated. -/
def State.dllRead (s : State) (off major : Nat) : Nat :=
  if 0x40 ≤ off ∧ off ≤ 0x60 then
    s.plainRead .dll 0 off major + (if s.getE F.LINE_STAT_STATE 0 ((off - 0x40) / 4) = 0 then 0 else s.freeNow % 2 ^ 10) +
      (if off = 0x60 then 0 else s.freeNow / 2 ^ 16 % 2 ^ 16 * 2 ^ 16)
  else if off = 0x68 then (if major = 1 then 0 else s.get F.SYNC_STAT_JUMP 0 + s.slewLeft * 2 ^ 16)
  else if off = 0x74 ∨ off = 0x78 then
    (List.range 4).foldl (fun w k =>
      let p := k + (if off = 0x78 then 4 else 0)
      let runs := s.enabled .ap p && !s.on F.AP_CFG_ROLE p && s.on F.AP_CFG_CLK_SRC p && s.on F.AP_CFG_ALIGN p
      w + (if runs then s.freeNow / 2 ^ (8 * k) % 32 else 0) * 2 ^ (8 * k)) 0
  else s.plainRead .dll 0 off major

/-- HEALTH (R516). -/
def State.healthRead (s : State) (off major : Nat) : Nat :=
  if 0x40 ≤ off ∧ off < 0x70 then s.plainRead .health 0 off major + b2n (s.sensorValid ((off - 0x40) / 4)) * 2 ^ 16
  else if off = 0x70 then
    match s.health.tmax with
    | some t => if major = 1 then 0 else satS 16 t.1 + t.2 * 2 ^ 16
    | none => 0
  else s.plainRead .health 0 off major

/-- OTP (R381). -/
def State.otpRead (s : State) (off major : Nat) : Nat :=
  let w := s.get F.OTP_ADDR_WORD 0
  if off = 0x44 then s.otpWord w
  else if off = 0x48 then
    b2n (Config.otpCorrected w) + 2 * b2n (Config.otpUncorrectable w) + s.otpSpares % 256 * 2 ^ 8 +
      (Config.otpSpareRows - s.otpSpares) % 256 * 2 ^ 16
  else if off = 0x4C then s.plainRead .otp 0 off major + s.start.strap
  else if off = 0x58 ∧ s.on F.GLOBAL_STAT_FG_ACTIVE 0 then s.freeNow % 2 ^ 32
  else s.plainRead .otp 0 off major

/-- MGMT (R494); the sources that major 1 lacks read 0. -/
def State.mgmtPageRead (s : State) (off major : Nat) : Nat :=
  if off = 0x44 then s.plainRead .mgmt 0 off major + 0x58 + s.start.ma + b2n s.mgmt.held.isSome * 2 ^ 21
  else if (off = 0x48 ∨ off = 0x4C) ∧ major = 1 then s.plainRead .mgmt 0 off major % 2 ^ 9
  else s.plainRead .mgmt 0 off major

/-- CAL (R111). -/
def State.calRead (s : State) (off major : Nat) : Nat :=
  if 0x84 ≤ off ∧ off < 0xA4 then
    let n := (off - 0x84) / 4
    s.plainRead .cal 0 off major + s.ageOf (s.fe n).calAt + (if major = 1 then 0 else s.effective n * 2 ^ 20)
  else if 0xA4 ≤ off ∧ off < 0xC4 then s.ageOf (s.hw ((off - 0xA4) / 4)).doneAt
  else s.plainRead .cal 0 off major

/-- FE (R93). -/
def State.feRead (s : State) (n off major : Nat) : Nat :=
  s.plainRead .fe n off major + (if off = 0x44 then s.get F.CLK_STAT_XO_OK 0 * 2 ^ 9 else 0)

/-- BANK (R167). -/
def State.bankRead (s : State) (n off major : Nat) : Nat :=
  if off = 0x44 then
    let ks := (List.range (sbCount n)).filter (s.sbApplied n)
    match ks.head?, ks.getLast? with
    | some x, some y => x + y * 2 ^ 8 + b2n (s.tuned n) * 2 ^ 16
    | _, _ => b2n (s.tuned n) * 2 ^ 16
  else if off = 0x48 then (s.enabledSlots n).length
  else if 0x80 ≤ off ∧ off ≤ 0x90 ∧ n ≠ 0 then 0
  else if off = 0x90 then s.plainRead .bank n off major + maskOf (fun j => s.profileUsed (16 + j)) 16 * 2 ^ 16
  else s.plainRead .bank n off major

/-- The feed delay of the diversity selector, in output samples: the preamble of the mode and 64 samples (R118). -/
def State.feedDelay (s : State) (n : Nat) : Nat :=
  match (s.slot n).applied with
  | none => 0
  | some b =>
    if !b.div then 0
    else if b.kind = 5 then 544
    else match s.get F.DAB_STAT_MODE_DET b.ctx with
      | 1 => 5272 | 2 => 1366 | 3 => 728 | 4 => 2668
      | _ => 0

/-- The lane registers of a slot, at 0xC0 to 0xFC, by the applied binding (R199, R241). -/
def State.laneRead (s : State) (n off major : Nat) : Nat :=
  match laneBlk (s.slotKind n) off with
  | none => 0
  | some b =>
    if b = .an ∧ off = 0xD4 then
      s.plainRead .an n off major + 16 * b2n (bit (s.get (H.EVT .slot) n) Ev.audClip)
    else if b = .an ∧ off = 0xF0 then (if s.slotKind n = 1 then 7864320 else 9830400)
    else if b = .dig ∧ off = 0xC8 then (if major = 1 then 0 else s.feedDelay n)
    else s.plainRead b n off major

/-- Slots (R164). -/
def State.slotRead (s : State) (n off major : Nat) : Nat :=
  if 0xC0 ≤ off then s.laneRead n off major
  else if off = 0x64 then
    s.plainRead .slot n off major + s.actDelay n / 1024 + s.actDelay n % 1024 * 2 ^ 16
  else s.plainRead .slot n off major

/-- DAB contexts (R235). -/
def State.dabRead (s : State) (c off major : Nat) : Nat :=
  let taps := s.taps.filter fun p => s.enabled .tap p.1 && match p.2.applied with
    | some t => !t.drm && t.ctx == c
    | none => false
  if off = 0x68 then
    let subs := (List.range 64).filter fun i => s.getE F.DAB_SUBCH_VALID c i == 1
    subs.foldl (fun k i => k + s.getE F.DAB_SUBCH_SIZE c i) 0 % 2 ^ 10 + subs.length * 2 ^ 16
  else if off = 0x6C then taps.length + taps.foldl (fun k p => k + s.get F.TAP_RUN_COST p.1) 0 % 2 ^ 16 * 2 ^ 16
  else s.plainRead .dab c off major

/-- DRM contexts (R237). -/
def State.drmRead (s : State) (d off major : Nat) : Nat :=
  if off = 0x6C then (s.potsOf (.drm d)).length else s.plainRead .drm d off major

/-- AUDDEC (R240). -/
def State.auddecRead (s : State) (a : Accessor) (off major : Nat) : Nat :=
  if off = 0x40 then s.cuUsed none + (cuLimit - s.cuUsed none) * 2 ^ 16
  else if off = 0x44 then s.vitUsed
  else if off = 0x48 then
    s.decUsed none + (s.taps.filter fun p => s.enabled .tap p.1).length * 2 ^ 8 +
      (s.taps.filter fun p => s.get F.TAP_RUN_STATE p.1 == 3).length * 2 ^ 19
  else if 0x70 ≤ off ∧ off < 0x7C then
    maskOf (fun j => match s.decFunc ((off - 0x70) / 4 * 32 + j) with
      | some f => accView a == 0 || f == accView a
      | none => false) 32
  else if 0x100 ≤ off ∧ off < 0x280 ∧ s.decForeign a ((off - 0x100) / 4) then 0
  else s.plainRead .auddec 0 off major

/-- SIDEDATA (R265): what belongs to another function's contexts and rules reads 0. -/
def State.sideRead (s : State) (a : Accessor) (off major : Nat) : Nat :=
  let w := s.plainRead .sidedata 0 off major
  let r := (off - 0x200) / 16
  let mine (f : Nat) : Bool := isManager a || f == accView a
  if off = 0x48 ∨ off = 0x4C then w &&& s.ruleMask a
  else if 0x80 ≤ off ∧ off < 0x140 then (if mine (s.owner .dab ((off - 0x80) / 4)) then w else 0)
  else if 0x140 ≤ off ∧ off < 0x1A0 then (if mine (s.owner .drm ((off - 0x140) / 4)) then w else 0)
  else if 0x200 ≤ off ∧ off < 0x400 then
    if !mine (s.ruleOwner r) then 0
    else if off % 16 = 0x0C then w + s.ruleOwner r * 2 ^ 8
    else if off % 16 = 0 ∧ major = 1 ∧ s.getE F.RULE_CFG_KIND 0 r = 2 then w - 2
    else w
  else w

/-- Whether a follower entry is another function's in an accessor's view (R264, R267). -/
def State.folForeign (s : State) (a : Accessor) (e : Nat) : Bool :=
  !isManager a && s.folRuns e && (s.fol e).owner != accView a

/-- A word of a row of the candidate window (R267). -/
def State.candRead (s : State) (e k word : Nat) : Nat :=
  match s.cand e k with
  | none => 0
  | some c =>
    if word = 0 then
      c.band + 4 + c.origin * 8 + b2n (c.res ≤ 1 && c.held.isNone) * 64 + b2n c.held.isSome * 128 +
        b2n (s.candEligible e k c) * 256
    else if word = 1 then c.khz
    else if word = 2 then c.res + c.idx * 4 + s.candQ e k % 256 * 2 ^ 16 + c.align * 2 ^ 24
    else ofInt 32 c.lag

/-- A computed register of a follower entry (R267). -/
def State.folEntryRead (s : State) (e reg major : Nat) : Nat :=
  let h := s.fol e
  let best := s.folBest e (some h.cur)
  if !s.folRuns e then 0
  else if reg = 0x1C then
    h.state + h.cur * 2 ^ 4 + h.list.length * 2 ^ 8 + h.group * 2 ^ 13 + (h.potsCur + h.potsIn) * 2 ^ 19 + h.owner * 2 ^ 30
  else if reg = 0x20 then s.folPWord e
  else if reg = 0x24 then
    s.candQ e h.cur + (match best with | some k => s.candQ e k * 2 ^ 8 + k * 2 ^ 16 | none => 0)
  else if reg = 0x28 ∧ major = 2 then satS 16 (s.folG e)
  else 0

/-- FOLLOW (R267). -/
def State.folRead (s : State) (a : Accessor) (off major : Nat) : Nat :=
  let e := (off - 0x100) / 64
  let sel := s.get F.FOL_CAND_SEL_ENTRY (accIdx a)
  if off = 0x50 then
    (s.poolHeld .slot).length + (s.poolHeld .dab).length * 2 ^ 8 + (s.poolHeld .drm).length * 2 ^ 12 +
      (s.poolHeld .tap).length * 2 ^ 16
  else if off = 0x54 then s.plainRead .follow (accIdx a) off major
  else if off = 0x58 then
    match (List.range 32).find? fun e => (s.fol e).scout with
    | some e => if s.folForeign a e then 0 else e + 32
    | none => 0
  else if 0x100 ≤ off ∧ off < 0x900 then
    if s.folForeign a e then 0
    else s.plainRead .follow 0 off major + s.folEntryRead e (off % 64) major
  else if 0x900 ≤ off ∧ off < 0xA00 then
    if s.folForeign a sel then 0 else s.candRead sel ((off - 0x900) / 16) (off % 16 / 4)
  else s.plainRead .follow 0 off major

/-- The measurement results of the slot that an accessor has selected (R291). -/
def State.metResult (s : State) (a : Accessor) (off major : Nat) : Nat :=
  let n := s.get F.MET_SEL_SLOT (accIdx a)
  let h := Tbl.get s.mets {} n
  let fm := s.slotKind n == 1
  let am := s.slotKind n == 2
  let word (ok : Bool) (r : Option MetRes) (g : MetRes → Nat) : Nat :=
    match r with | some x => if ok then g x else 0 | none => 0
  if (!isManager a && s.owner .slot n != accView a) || s.on F.SLOT_STAT_SHADOW n || s.slotKind n == 0 then 0
  else if off = 0xC4 then word true h.fs fun r => if major = 1 then r.a % 65536 * 65537 else r.a
  else if off = 0xC8 then word true h.fs fun r => if major = 1 then r.b % 65536 else r.b
  else if off = 0xCC then
    word true h.fs (·.flags % 128) + word fm h.dev (·.flags % 4 * 2 ^ 8) + word fm h.mpx (·.flags % 4 * 2 ^ 10) +
      word fm h.inj (·.flags % 4 * 2 ^ 12) + word am h.am (·.flags % 4 * 2 ^ 14)
  else if off = 0xD0 then word fm h.dev (·.a)
  else if off = 0xD4 then word (fm && major == 2) h.dev (·.b)
  else if off = 0xD8 then word fm h.mpx (·.a)
  else if off = 0xDC then word fm h.inj (·.a)
  else if off = 0xE0 then word am h.am (·.a)
  else if off = 0xE4 then word am h.am fun r => if major = 1 then r.b % 65536 else r.b
  else if major = 1 then 0
  else if off = 0xE8 then word true h.fs (·.time % 2 ^ 32)
  else if off = 0xEC then word true h.fs (·.time / 2 ^ 32)
  else if off = 0xF0 then word fm h.mpx (·.time % 2 ^ 32)
  else if off = 0xF4 then word fm h.mpx (·.time / 2 ^ 32)
  else 0

/-- METRO (R291). -/
def State.metroRead (s : State) (a : Accessor) (off major : Nat) : Nat :=
  let e := (off - 0x400) / 32
  if off = 0x70 then
    s.plainRead .metro 0 off major + s.ref.age + b2n s.ref.unverified * 2 ^ 19 + b2n (365 < s.ref.age) * 2 ^ 20
  else if off = 0x74 then s.plainRead .metro 0 off major + satS 16 (roundDivI s.ref.trim 10) * 2 ^ 16
  else if off = 0xC0 then s.plainRead .metro (accIdx a) off major
  else if 0xC4 ≤ off ∧ off < 0xF8 then s.metResult a off major
  else if 0x400 ≤ off ∧ off < 0x800 ∧ !isManager a ∧ s.fcRuns e ∧ s.fcOwner e ≠ accView a then 0
  else s.plainRead .metro 0 off major

/-- Audio ports (R469). -/
def State.apRead (s : State) (p off major : Nat) : Nat :=
  if 0x100 ≤ off ∧ off < 0x200 ∧ off % 16 = 8 then (if major = 1 then 0 else s.outLat p ((off - 0x100) / 16))
  else s.plainRead .ap p off major

/-- HOST (R409). -/
def State.hostRead (s : State) (f off major : Nat) : Nat :=
  let c := s.cfg f
  if off = 0x40 then
    (if s.link.up then s.link.speed + s.link.lanes * 2 ^ 3 + 2 ^ 7 else 0) + c.mps * 2 ^ 8 + c.mrrs * 2 ^ 11 +
      b2n c.bme * 2 ^ 14 + b2n c.mse * 2 ^ 15 + (if c.d3 then 3 else 0) * 2 ^ 16
  else s.plainRead .host f off major

/-- XLAT (R438). -/
def State.xlatRead (s : State) (f off major : Nat) : Nat :=
  if off = 0x58 then
    b2n (s.cfg f).ats + 2 * b2n (s.cfg f).pri + 4 * s.get F.XLAT_STAT_PRI_STOPPED f +
      8 * b2n (match s.walkRing with | some r => s.ringFunc r == f | none => false) +
      (s.xcache.filter fun e => e.func == f).length * 2 ^ 16
  else s.plainRead .xlat f off major

/-- The words of the entry that an accessor has selected in its fault log; freed entries read 0. -/
def State.faultWords (s : State) (a : Accessor) : List Nat :=
  match Tbl.get s.faults none (faultKey (accView a) (s.get F.FAULT_SEL_INDEX (accIdx a))) with
  | some e => e.words
  | none => []

/-- FAULT (R441). -/
def State.faultRead (s : State) (a : Accessor) (f off major : Nat) : Nat :=
  if off = 0x48 then s.plainRead .fault (accIdx a) off major
  else if off = 0x4C then ((s.faultWords a)[0]?).getD 0
  else if 0x50 ≤ off ∧ off ≤ 0x68 then
    let k := (off - 0x4C) / 4
    if (s.latch a).entry.isEmpty then ((s.faultWords a)[k]?).getD 0 else ((s.latch a).entry[k - 1]?).getD 0
  else if off = 0x70 ∨ off = 0x74 then
    if major = 1 then 0
    else maskOf (fun k => s.ringFunc ((off - 0x70) * 8 + k) == f && s.ringState ((off - 0x70) * 8 + k) == 5) 32
  else s.plainRead .fault f off major

/-- FUNCTION (R443). -/
def State.functionRead (s : State) (off major : Nat) : Nat :=
  let n := off % 16 / 4
  if off = 0x48 then (List.range 4).foldl (fun w f => w + s.epoch (.func f) * 2 ^ (8 * f)) 0
  else if 0x50 ≤ off ∧ off < 0x60 then s.quota n + s.potsHeld n * 2 ^ 16
  else if 0x70 ≤ off ∧ off < 0x80 then
    if major = 1 then 0 else s.cuUsed (some n) + s.decUsed (some n) * 2 ^ 16
  else s.plainRead .function 0 off major

/-- What a block register shows an accessor that sees it. -/
def State.blockRead (s : State) (a : Accessor) (b : Blk) (n off major : Nat) : Nat :=
  match b with
  | .global => s.globalRead a off
  | .aon => s.aonRead off major
  | .clock => s.clockRead off major
  | .dll => s.dllRead off major
  | .health => s.healthRead off major
  | .otp => s.otpRead off major
  | .mgmt => s.mgmtPageRead off major
  | .fe => s.feRead n off major
  | .bank => s.bankRead n off major
  | .cal => s.calRead off major
  | .slot => s.slotRead n off major
  | .dab => s.dabRead n off major
  | .drm => s.drmRead n off major
  | .auddec => s.auddecRead a off major
  | .follow => s.folRead a off major
  | .metro => s.metroRead a off major
  | .sidedata => s.sideRead a off major
  | .ap => s.apRead n off major
  | .host => s.hostRead n off major
  | .xlat => s.xlatRead n off major
  | .fault => s.faultRead a n off major
  | .crucible => s.crucibleRead off
  | .function => s.functionRead off major
  | .aerial => s.plainRead .aerial 0 off major
  | .tap => s.plainRead .tap n off major
  | .lehr => s.plainRead .lehr 0 off major
  | .ring => s.plainRead .ring n off major
  | .fm => 0
  | .am => 0
  | .an => 0
  | .dig => 0

/-! ### What a read returns -/

/-- Whether the block registers of an instance are presented to an accessor (R41). -/
def State.shows (s : State) (a : Accessor) (b : Blk) (n off : Nat) : Bool :=
  if s.serving b then s.major a (pageOf b n) != 0
  else if s.stage < 3 then stageExempt b off
  else s.powered b n && (s.major a (pageOf b n) != 0 || dialectExempt b off)

/-- The 32-bit register at an address of W0 as it stands. What an accessor does not see reads 0 (R28, R36, R38, R434). -/
def State.wordNow (s : State) (a : Accessor) (addr : Nat) : Nat :=
  match locate addr with
  | none => 0
  | some (b, i, off) =>
    let n := viewInst a b i
    let idx := addr % 4096 / (match pageMap (addr / 4096) with | some m => m.size | none => 4096)
    if !s.present a b n || s.flrBusy a || (partitioned b && !isManager a && s.owner b n != accView a) then 0
    else if inHeader b off then (if b = .tap then s.tapHead n idx off else s.headRead a b n idx off)
    else if s.shows a b n off then s.blockRead a b n off (s.major a (pageOf b n))
    else 0

/-- The lower registers of the values that span two (R30). -/
def pairLow (b : Blk) (off : Nat) : Bool :=
  match b with
  | .global => off == 0x60
  | .aon => off == 0x60 || off == 0x68
  | .bank => off == 0x50
  | .metro => off == 0x7C || off == 0xE8 || off == 0xF0
  | .lehr => off == 0x50
  | .host => off == 0x4C
  | .ring => off == 0x48 || off == 0x7C
  | .xlat => off == 0x44 || off == 0x50
  | _ => false

/-- A read of the 32-bit register at an address of W0: what it returns, and the latches it sets or uses. -/
def State.wordRead (s : State) (a : Accessor) (addr : Nat) : State × Nat :=
  if !s.reaches a then (s.unreached a, 0)
  else if s.flrBusy a then (s, 0)
  else match locate addr with
    | none => (s, 0)
    | some (b, _, off) =>
      let l := s.latch a
      let v := s.wordNow a addr
      if pairLow b off then
        (s.setLatch a { l with upper := (l.upper.filter fun p => p.1 != addr + 4) ++ [(addr + 4, s.wordNow a (addr + 4))] }, v)
      else match l.upper.find? fun p => p.1 == addr with
        | some p => (s.setLatch a { l with upper := l.upper.filter fun q => q.1 != addr }, p.2)
        | none =>
          if b = .fault ∧ off = 0x4C then
            (s.setLatch a { l with entry := (List.range 7).map fun k => ((s.faultWords a)[k + 1]?).getD 0 }, v)
          else (s.freeUsed, v)

/-- Reads `k` words in ascending order. -/
def State.wordsRead (s : State) (a : Accessor) (addr : Nat) : Nat → State × List Nat
  | 0 => (s, [])
  | k + 1 =>
    let p := s.wordRead a addr
    let q := p.1.wordsRead a (addr + 4) k
    (q.1, p.2 :: q.2)

/-! ### The meanings -/

/-- A read of a 32-bit register. The lower register of a pair latches the upper, and the next read of the upper returns what
was latched. -/
def execUpperLatchRead (a : Accessor) (addr : Nat) (s : State) : Host.Outcome State Fault Refusal :=
  let p := s.wordRead a (addr / 4 * 4)
  .next { p.1 with resp := [p.2] }

/-- A read of `FAULT_ENTRY_0`. -/
def execFaultEntryRead (a : Accessor) (s : State) : Host.Outcome State Fault Refusal :=
  let p := s.wordRead a 0x7204C
  .next { p.1 with resp := [p.2] }

end Sys2Proof.Machine
end

