-- ==== Sys2Proof/Machine/Mgmt.lean ====
section
/-! DEFINITION. The management bus: addressing (R472 to R474), the write phase (R475 to R479), which commands are served and
held (R480, R482), timeouts (R483, R484), attention (R485 to R488), the Zwikiur commands (R489 to R492), and the steps of
STAGE (R359). -/

namespace Sys2Proof.Machine

/-! ### Packet error checking (R479) -/

/-- One bit step of the CRC-8 x^8 + x^2 + x + 1. -/
def crc8Step (c : Nat) : Nat := if 128 ≤ c then (2 * c % 256) ^^^ 7 else 2 * c

/-- The CRC-8 of bytes: initial value 0, no final inversion. -/
def crc8 (l : List Byte) : Nat := l.foldl (fun c b => (List.range 8).foldl (fun x _ => crc8Step x) (c ^^^ b.toNat)) 0

/-- The address byte of the part, to write or to read (R472). -/
def State.busAddr (s : State) (read : Bool) : Byte := BitVec.ofNat 8 (2 * (0x58 + s.start.ma) + b2n read)

/-! ### The write phase (R478, R489 to R491) -/

/-- The codes of R489. -/
def zwCodes : List Nat := [0x00, 0x01, 0x02, 0x03, 0x04, 0x05, 0x08, 0x10, 0x11, 0x20, 0x21, 0x30, 0x31, 0x40, 0x7E, 0x7F]

/-- The commands that a count byte begins. -/
def zwCounted (cmd : Nat) : Bool := cmd == 0x11 || cmd == 0x20 || cmd == 0x31

/-- The parameter bytes of a command at most, given those that have come. -/
def zwMost (cmd : Nat) (ps : List Byte) : Nat :=
  if zwCounted cmd then 1 + hdrNum ps 0 1
  else if cmd = 0x00 ∨ cmd = 0x40 ∨ cmd = 0x7F then 1
  else if cmd = 0x05 ∨ cmd = 0x21 ∨ cmd = 0x7E then 2
  else if cmd = 0x10 then 3
  else if cmd = 0x30 then 4
  else 0

/-- The parameter bytes of a command at least: DIALECT and FG_CTRL need none. -/
def zwLeast (cmd : Nat) (ps : List Byte) : Nat := if cmd = 0x00 ∨ cmd = 0x40 then 0 else zwMost cmd ps

/-- Whether parameter byte `b` behind `ps` can be accepted (R490, R491). -/
def zwTakes (cmd : Nat) (ps : List Byte) (b : Nat) : Bool :=
  let i := ps.length
  let first := hdrNum ps 0 1
  if cmd = 0x00 then b == 1 || b == 2
  else if cmd = 0x05 then (if i = 0 then b == 1 || b == 2 else b == first ^^^ 0xFF)
  else if cmd = 0x10 then
    if i = 1 then (first + 256 * b) % 4 == 0 && decide (first + 256 * b ≤ 0x3FFC)
    else i != 2 || (decide (1 ≤ b) && decide (b ≤ 63) && decide (hdrNum ps 0 2 + 4 * b ≤ 0x4000))
  else if cmd = 0x11 then
    if i = 0 then decide (6 ≤ b) && decide (b ≤ 34) && b % 4 == 2
    else i != 2 || (hdrNum ps 1 1 + 256 * b) % 4 == 0
  else if cmd = 0x20 then
    if i = 0 then b == 1 || b == 5 || b == 29
    else i != 1 || (first == 29 && decide (b ≤ 15)) || (first == 5 && b == 16) || (first == 1 && decide (b ≤ 16))
  else if cmd = 0x21 then (if i = 0 then decide (b ≤ 15) else decide (1 ≤ b) && decide (b ≤ 15))
  else if cmd = 0x30 then
    let off := hdrNum ps 1 1 + 256 * b
    if i = 2 then off % 4 == 0 && decide (off ≤ 0xFFC)
    else i != 3 || (decide (1 ≤ b) && decide (b ≤ 63) && decide (hdrNum ps 1 2 + 4 * b ≤ 0x1000))
  else if cmd = 0x31 then
    let off := hdrNum ps 2 1 + 256 * b
    if i = 0 then decide (7 ≤ b) && b % 4 == 3
    else i != 3 || (off % 4 == 0 && decide (off + (first - 3) ≤ 0x1000))
  else if cmd = 0x40 then decide (b < 4)
  else if cmd = 0x7E then (if i = 0 then decide (b ≤ 3) else b == first ^^^ 0xFF)
  else b == 0xA5

/-- Takes the bytes behind the command byte one by one: the parameters, and whether a PEC byte follows them; or the result
code of the byte that is not acknowledged. `pre` is the address byte and the command byte. -/
def zwWalk (pre : List Byte) (cmd : Nat) (ps : List Byte) (pec : Bool) : List Byte → Except Nat (List Byte × Bool)
  | [] => .ok (ps, pec)
  | b :: r =>
    if pec then .error 4
    else if ps.length < zwMost cmd ps then
      if zwTakes cmd ps b.toNat then zwWalk pre cmd (ps ++ [b]) false r
      else .error (if zwCounted cmd && ps.isEmpty then 4 else 5)
    else if b.toNat = crc8 (pre ++ ps) then zwWalk pre cmd ps true r
    else .error 2

/-- The commands that only read: a write phase that ends with P has no effect (R475). DIALECT and FG_CTRL without a parameter
are among them. -/
def zwReads (cmd : Nat) (ps : List Byte) : Bool :=
  cmd == 0x01 || cmd == 0x02 || cmd == 0x03 || cmd == 0x04 || cmd == 0x08 || cmd == 0x10 || cmd == 0x21 || cmd == 0x30 ||
    ((cmd == 0x00 || cmd == 0x40) && ps.isEmpty)

/-- The commands without read data. -/
def zwWrites (cmd : Nat) : Bool := cmd == 0x05 || cmd == 0x11 || cmd == 0x31 || cmd == 0x7E || cmd == 0x7F

/-- The page that the bytes of PAGE_READ or PAGE_WRITE name, once they reach it. -/
def zwPage (cmd : Nat) (bytes : List Byte) : Option Nat :=
  if cmd = 0x30 then (bytes[0]?).map fun b => b.toNat
  else if cmd = 0x31 ∧ zwTakes 0x31 [] (hdrNum bytes 0 1) then (bytes[1]?).map fun b => b.toNat
  else none

/-! ### What is served (R335, R355, R360, R477, R482) -/

/-- The commands of stages 0 to 2 (R360). -/
def zwEarly (cmd : Nat) : Bool := zwCodes.contains cmd && cmd != 0x05 && cmd != 0x20 && cmd != 0x21 && cmd != 0x7E

/-- The commands of a serve visit (R335), the pages of PAGE_READ and PAGE_WRITE apart. -/
def zwVisit (cmd : Nat) : Bool := zwCodes.contains cmd && decide (cmd ≤ 0x31)

/-- The commands that a held command does not turn away (R477). -/
def zwBeside (cmd : Nat) : Bool := cmd == 0x01 || cmd == 0x02 || cmd == 0x03 || cmd == 0x7F

/-- SPOKEN. -/
def State.spoken (s : State) : Nat := s.get F.MGMT_STAT_DIALECT 0

/-- A serve visit runs. -/
def State.visits (s : State) : Bool := s.on F.AON_STAT_SERVE 0

/-- Whether the port takes a transaction: PD_0 is up, and the part is neither asleep nor past a commit point. -/
def State.busUp (s : State) : Bool :=
  match s.mode with
  | .off => false
  | .committed _ => false
  | .reset => true
  | _ => s.domOn 1

/-- What the command byte meets: 0 served, 6 NOT_SERVED, 7 BUSY, 9 a full wake first. -/
def State.served (s : State) (cmd : Nat) : Nat :=
  if !zwCodes.contains cmd then 6
  else if s.mode = .reset ∧ (s.start.holding ∨ !(s.domOn 1 && s.domOn 14)) then (if cmd = 0x01 ∨ cmd = 0x02 then 0 else 6)
  else if s.mgmt.held.isSome ∧ !zwBeside cmd then 7
  else if cmd = 0x7E ∧ s.spoken = 1 then 6
  else if s.visits then (if zwVisit cmd then 0 else 9)
  else if s.stage < 3 then (if zwEarly cmd then 0 else 6)
  else 0

/-! ### Reaching the part (R474) -/

/-- The address byte matches. Out of SLEEP or LEHR, SCL is held low until PD_1 runs, so a wake that starts has PD_1 up before
the next byte. -/
def State.busReach (s : State) : State :=
  let t := s.addressMatch
  match t.mode with
  | .waking _ => if !t.domOn 1 && (t.dom 1).run == some (true, .device) then t.powerDone 1 true .device else t
  | _ => t

/-- A command outside the visit's set turns the visit into a full wake with source MGMT (R335). -/
def State.visitWake (s : State) : State :=
  let t := s.put F.WAKE_PEND_PEND 0 (s.get F.WAKE_PEND_PEND 0 ||| 2)
  { t with wakeHid := { srcs := 2, when_ := t.aonTime.toNat, entry := 0 } }.wakeStart (s.mode == Mode.lehr)

/-- LAST_CMD and LAST_RESULT at the end of a transaction; IDENT, STATUS and ATTN_STATUS leave them (R492). -/
def State.busResult (s : State) (cmd : Option Nat) (code : Nat) : State :=
  if !s.domOn 1 ∨ cmd = some 0x01 ∨ cmd = some 0x02 ∨ cmd = some 0x03 then s
  else
    let t := match cmd with | some c => s.put F.MGMT_STAT_LAST_CMD 0 c | none => s
    t.put F.MGMT_STAT_LAST_RESULT 0 code

/-! ### Effects (R491) -/

/-- A register word written over the bus is refused (R491): CFG_ERR or STALE, not one of the other reasons of R52. -/
def State.busRefuses (s : State) (addr : Nat) (w : Word) : Bool :=
  let t := (s.put F.ACC_COUNT_COUNT 4 0).wordWrite .mgmt addr w
  t.get F.ACC_COUNT_COUNT 4 != 0 && decide (8 ≤ t.get F.ACC_LOG_REASON 4)

/-- Writes register words, one by one, each accepted or refused on its own; the result is REFUSED if one is refused. -/
def State.busWrites (s : State) : List (Nat × Word) → State × Nat
  | [] => (s, 0)
  | p :: r =>
    let q := (s.wordWrite .mgmt p.1 p.2).busWrites r
    (q.1, if s.busRefuses p.1 p.2 then 5 else q.2)

/-- Reads register words one by one. -/
def State.busReads (s : State) : List Nat → State × List Byte
  | [] => (s, [])
  | a :: r =>
    let p := s.wordRead .mgmt a
    let q := p.1.busReads r
    (q.1, leBytes 4 p.2 ++ q.2)

/-- The `k` parameter words from byte `i` on. -/
def zwWords (ps : List Byte) (i k : Nat) : List Nat := (List.range k).map fun j => hdrNum ps (i + 4 * j) 4

/-- Whether OTP word `w` may take value `v` (R378, R379). -/
def State.otpTakes (s : State) (w v : Nat) : Bool :=
  otpWritable w && (s.otpWord w &&& v) == s.otpWord w &&
    !(w == 0x830 && v % 16 == 15 && s.otpWord w % 16 != 15) && !(w == 0x831 && decide (4 ≤ v))

/-- Programs words in ascending order from word address `w` on; those whose position is in `bad` fail verification and need a
spare row. What a word holds that stops the command is open: bits asked for may be set or not. -/
def State.otpProgram (s : State) (bad : List Nat) (w i : Nat) : List Nat → State × Nat
  | [] => (s, 0)
  | v :: r =>
    let t := { s with otp := Tbl.set s.otp 0 (w + i) v }
    if !bad.contains i then t.otpProgram bad w (i + 1) r
    else if s.otpSpares < Config.otpSpareRows then
      { t with otpSpares := s.otpSpares + 1 }.otpProgram bad w (i + 1) r
    else ({ s.freeUsed with otp := Tbl.set s.otp 0 (w + i) (s.otpWord (w + i) ||| (v &&& s.freeNow)) }, 10)

/-- SLEEP in a serve visit: the visit ends at once into the state named, from step 2 of R328 (R335). -/
def State.visitSleep (s : State) (lehr : Bool) : State × Nat :=
  if ({ s with mode := .awake }).sleepRefused lehr then (s, 5)
  else
    let t := s.cycleAbandon.puts 0 [(F.AON_STAT_SERVE, 0), (F.LEHR_STAT_RUNNING, 0)]
    ({ (t.domDown 1).dropCtrl with mode := .committed lehr, wakeHid := {}, lehr := {} }, 0)

/-- The register addresses that the seven words of LEHR_CFG go to, in their order. -/
def lehrCfgAddrs (e : Nat) : List Nat :=
  [0x104, 0x108, 0x10C, 0x110, 0x114, 0x118, 0x100].map fun o => 0x5C000 + o + 0x20 * e

/-- What a command does once it executes, and its result. -/
def State.zwDo (s : State) (cmd : Nat) (ps : List Byte) (bad : List Nat) : State × Nat :=
  let first := hdrNum ps 0 1
  if cmd = 0x00 then (if ps.isEmpty then s else s.put F.MGMT_STAT_DIALECT 0 first, 0)
  else if cmd = 0x05 then
    if s.visits then s.visitSleep (first == 2)
    else match sleepEnter first s with
      | .ok t => (t, 0)
      | .error _ => (s, 5)
  else if cmd = 0x11 then
    let n := (first - 2) / 4
    let w := hdrNum ps 1 2 / 4
    let vs := zwWords ps 3 n
    if (List.range n).all fun j => s.otpTakes (w + j) (vs.getD j 0) then s.otpProgram bad w 0 vs else (s, 5)
  else if cmd = 0x20 then
    let e := hdrNum ps 1 1
    if first = 29 then
      s.busWrites ((lehrCfgAddrs e).zip ((zwWords ps 2 7).map (BitVec.ofNat 32)))
    else if first = 5 then s.busWrites [(0x5C040, BitVec.ofNat 32 (hdrNum ps 2 4))]
    else (s, 0)
  else if cmd = 0x31 then
    let n := (first - 3) / 4
    let a := hdrNum ps 1 1 * 4096 + hdrNum ps 2 2
    s.busWrites (((List.range n).map (fun (j : Nat) => a + 4 * j)).zip ((zwWords ps 4 n).map (BitVec.ofNat 32)))
  else if cmd = 0x40 then
    let t := if bit first 1 then s.fgAck else s
    (if bit first 0 then t.fgStop else t, 0)
  else if cmd = 0x7E then (s.flr first, 0)
  else if cmd = 0x7F then (s.deviceReset, 0)
  else (s, 0)

/-! ### Read data (R491) -/

/-- The highest reading of the valid sensors, as a register value; 0x8000 without PD_1. -/
def State.hottest (s : State) : Nat :=
  if !s.domOn 1 then 0x8000
  else match ((List.range 12).filter s.sensorValid).map fun n => sgn 16 (s.getE F.HLT_TS_TEMP 0 n) with
    | [] => 0x8000
    | t :: r => satS 16 (r.foldl max t)

/-- ALERT_N is low (R252). -/
def State.alertLow (s : State) : Bool :=
  s.on F.SD_ALERT_ASSERTED 0 || s.on F.LEHR_ALERT_ASSERTED 0 || s.on F.FG_STAT_ALERT 0

/-- The 8 bytes of STATUS. -/
def State.statusBytes (s : State) : List Byte :=
  let b0 := s.devState + s.stage * 8 + b2n s.visits * 64 + b2n s.alertLow * 128
  let temp := satS 8 (roundDivI (sgn 16 (s.get F.AON_OT_TEMP 0)) 2)
  if !s.domOn 1 then leBytes 4 b0 ++ leBytes 4 temp
  else
    let b2 := s.get F.MGMT_STAT_LAST_RESULT 0 + b2n s.mgmt.held.isSome * 16 + b2n s.attnWanted * 32 +
      b2n (s.on F.GLOBAL_STAT_FG_ACTIVE 0) * 64 + b2n s.pllLocked * 128
    let b3 := s.plainRead .global 0 0x100 2 % 256
    let errs := min (s.get F.MGMT_ABORTS_COUNT 0 + s.get F.MGMT_TIMEOUTS_COUNT 0 + s.get F.MGMT_PEC_ERRS_COUNT 0) 65535
    leBytes 1 b0 ++ leBytes 1 (s.get F.MGMT_STAT_LAST_CMD 0) ++ leBytes 1 b2 ++ leBytes 1 b3 ++ leBytes 1 temp ++
      (if s.spoken = 1 then leBytes 3 0 else leBytes 1 s.spoken ++ leBytes 2 errs)

/-- AON timer bits [31:0] at the setting of the oldest bit still pending, or 0. -/
def State.attnOldest (s : State) : Nat :=
  match s.attn.setAt with
  | [] => 0
  | p :: r => (r.foldl (fun m q => min m q.2) p.2) % 2 ^ 32

/-- The addresses of `k` words from an address on. -/
def wordAddrs (a k : Nat) : List Nat := (List.range k).map fun j => a + 4 * j

/-- The read data of a command: a count byte before them where R489 has one. -/
def State.zwData (s : State) (cmd : Nat) (ps : List Byte) : State × List Byte :=
  let counted := fun (p : State × List Byte) => (p.1, leBytes 1 p.2.length ++ p.2)
  let first := hdrNum ps 0 1
  if cmd = 0x00 then (s, leBytes 3 0x010002 ++ leBytes 1 s.spoken)
  else if cmd = 0x01 then (s, (List.range 14).map Config.identByte ++ leBytes 1 0xA2 ++ leBytes 1 (b2n Config.gradeX))
  else if cmd = 0x02 then (s, s.statusBytes)
  else if cmd = 0x03 then
    counted (s, leBytes 4 (s.get F.MGMT_ATTN_PEND_PEND 0) ++ (if s.spoken = 1 then [] else leBytes 4 s.attnOldest))
  else if cmd = 0x04 then
    (s, leBytes 4 (s.plainRead .aon 0 0x50 2) ++ leBytes 4 (s.plainRead .aon 0 0x54 2) ++ leBytes 4 (s.plainRead .aon 0 0x58 2))
  else if cmd = 0x08 then (s, leBytes 2 (s.get F.AON_OT_TEMP 0) ++ leBytes 2 s.hottest)
  else if cmd = 0x10 then counted (s, s.otpBytes (hdrNum ps 0 2 / 4) (hdrNum ps 2 1))
  else if cmd = 0x20 then
    let e := hdrNum ps 1 1
    counted (s.busReads (if e = 16 then [0x5C040] else wordAddrs (0x5C100 + 0x20 * e) 8))
  else if cmd = 0x21 then
    let p := s.busReads [0x5C04C]
    let ctl := ofLe p.2
    let cnt := bits ctl 8 4
    let n := min (hdrNum ps 1 1) (cnt - first)
    let at_ := fun (j : Nat) => (bits ctl 3 0 + 32 - cnt + first + j) % 16
    let q := p.1.busReads (((List.range n).map fun j => wordAddrs (0x5C300 + 0x10 * at_ j) 4).flatten)
    counted (q.1, p.2 ++ q.2)
  else if cmd = 0x30 then
    counted (s.busReads (wordAddrs (first * 4096 + hdrNum ps 1 2) (hdrNum ps 3 1)))
  else if cmd = 0x40 then (s, leBytes 4 (s.otpRead 0x4C 2))
  else (s, [])

/-- The bytes that the controller clocks in: the data, PEC over the whole transaction, then 0xFF (R475, R479). -/
def State.busReply (s : State) (wr data : List Byte) (count : Nat) : List Nat :=
  let all := data ++ [BitVec.ofNat 8 (crc8 (wr ++ [s.busAddr true] ++ data))]
  (List.range count).map fun i => ((all[i]?).map fun b => b.toNat).getD 255

/-- After an ATTN_STATUS read of `count` bytes: the bits returned as 1 clear in those of the bytes 0 to 3 that were clocked
(R488). -/
def State.attnCleared (s : State) (count : Nat) : State :=
  let p := s.get F.MGMT_ATTN_PEND_PEND 0
  let gone := p % 2 ^ (8 * min 4 (count - 1))
  if gone = 0 then s
  else
    let t := s.put F.MGMT_ATTN_PEND_PEND 0 (clearBits p gone)
    ({ t with attn := { t.attn with setAt := t.attn.setAt.filter fun x => !bit gone x.1 } }.attnKick).raise .mgmt 0 Ev.attnRead

/-! ### A transaction (R475 to R480) -/

/-- The command executes: its effect, the count, the read data, and at the end of the transaction the result. -/
def State.zwRun (s : State) (cmd : Nat) (wr ps : List Byte) (read : Option Nat) (bad : List Nat) : State :=
  let p := s.zwDo cmd ps bad
  let t := if p.1.domOn 1 then p.1.count F.MGMT_CMDS_COUNT 0 1 else p.1
  match read with
  | none => t.busResult (some cmd) p.2
  | some k =>
    let q := t.zwData cmd ps
    let u := { q.1 with resp := q.1.busReply wr q.2 k }
    let u := if cmd = 0x03 then u.attnCleared k else u
    u.busResult (some cmd) p.2

/-- A command that waits for stage 3 (R480). -/
def State.zwHold (s : State) (cmd : Nat) (ps : List Byte) (read : Option Nat) : State :=
  ({ s with mgmt := { held := some (if read.isSome then none else some (cmd, ps)) } }).busResult (some cmd) 9

/-- The bytes behind an accepted command byte, and how the write phase ends: with P, or with a read phase of `read` bytes. -/
def State.zwPhase (s : State) (cmd : Nat) (bytes : List Byte) (read : Option Nat) (bad : List Nat) (hold : Bool) : State :=
  let pre := [s.busAddr false, BitVec.ofNat 8 cmd]
  match zwWalk pre cmd [] false bytes with
  | .error e =>
    let t := if e = 2 ∧ s.domOn 1 then (s.count F.MGMT_PEC_ERRS_COUNT 0 1).raise .mgmt 0 Ev.mgmtPecErr else s
    t.busResult (some cmd) e
  | .ok (ps, pec) =>
    if ps.length < zwLeast cmd ps then s.busResult (some cmd) 4
    else if read.isSome ∧ cmd = 0x40 ∧ s.spoken = 1 then s.busResult (some cmd) 6
    else if read.isNone ∧ zwReads cmd ps then s.busResult (some cmd) 0
    else if (read.isNone ∨ zwWrites cmd) ∧ !pec ∧ (cmd = 0x11 ∨ s.on F.MGMT_CFG_PEC_REQ 0) then s.busResult (some cmd) 3
    else if hold then s.zwHold cmd ps read
    else s.zwRun cmd (pre ++ bytes) ps read bad

/-- A transaction with a command byte, addressed to the part. -/
def State.zwikiur (s : State) (cmd : Nat) (bytes : List Byte) (read : Option Nat) (bad : List Nat) : State :=
  let t := ({ s with resp := [] }).busReach
  if !t.busUp then t
  else
    let v := t.served cmd
    if v = 6 ∨ v = 7 then t.busResult (some cmd) v
    else
      let away := t.visits && match zwPage cmd bytes with | some p => p != 0x01 && p != 0x5C | none => false
      let hold := v == 9 || away
      (if hold then t.visitWake else t).zwPhase cmd bytes read bad hold

/-! ### The meanings -/

/-- An address byte without a command byte, whichever way its R/W bit points: it has no effect beyond R474, and another
address has none. -/
def execMgmtAddress (addr : BitVec 7) (_read : Bool) (s : State) : Host.Outcome State Fault Refusal :=
  if s.mode ≠ .off ∧ addr.toNat = 0x58 + s.start.ma then .next s.addressMatch else .next s

/-- A START or STOP at a wrong bit position. `cmd` is the command byte, if it was complete. -/
def execMgmtAbort (cmd : Option Byte) (s : State) : Host.Outcome State Fault Refusal :=
  let t := ({ s with resp := [] }).busReach
  let c := cmd.map fun b => b.toNat
  let v := match c with | some x => t.served x | none => 0
  if !t.busUp then .next t
  else if v = 6 ∨ v = 7 then .next (t.busResult c v)
  else
    let t := if v = 9 then t.visitWake else t
    if t.domOn 1 then .next (((t.count F.MGMT_ABORTS_COUNT 0 1).raise .mgmt 0 Ev.mgmtAbort).busResult c 1) else .next t

/-- The port resets itself. -/
def State.busTimeout (s : State) (cmd : Option Byte) : State :=
  if s.domOn 1 then
    ((s.count F.MGMT_TIMEOUTS_COUNT 0 1).raise .mgmt 0 Ev.mgmtTimeout).busResult (cmd.map fun b => b.toNat) 8
  else s

def execMgmtTimeout (cmd : Option Byte) (s : State) : Host.Outcome State Fault Refusal := .next (s.busTimeout cmd)

def execSclLowTimeout (cmd : Option Byte) (s : State) : Host.Outcome State Fault Refusal := .next (s.busTimeout cmd)

/-- A quick read returns STATUS. -/
def execQuickRead (count : Nat) (s : State) : Host.Outcome State Fault Refusal :=
  let t := ({ s with resp := [] }).busReach
  if t.busUp then .next { t with resp := t.busReply [] t.statusBytes count } else .next t

def execDialect (bytes : List Byte) (read : Option Nat) (s : State) : Host.Outcome State Fault Refusal :=
  .next (s.zwikiur 0x00 bytes read [])
def execIdent (bytes : List Byte) (read : Option Nat) (s : State) : Host.Outcome State Fault Refusal :=
  .next (s.zwikiur 0x01 bytes read [])
def execStatus (bytes : List Byte) (read : Option Nat) (s : State) : Host.Outcome State Fault Refusal :=
  .next (s.zwikiur 0x02 bytes read [])
def execAttnStatus (bytes : List Byte) (read : Option Nat) (s : State) : Host.Outcome State Fault Refusal :=
  .next (s.zwikiur 0x03 bytes read [])
def execWakeLast (bytes : List Byte) (read : Option Nat) (s : State) : Host.Outcome State Fault Refusal :=
  .next (s.zwikiur 0x04 bytes read [])
def execSleep (bytes : List Byte) (read : Option Nat) (s : State) : Host.Outcome State Fault Refusal :=
  .next (s.zwikiur 0x05 bytes read [])
def execTemp (bytes : List Byte) (read : Option Nat) (s : State) : Host.Outcome State Fault Refusal :=
  .next (s.zwikiur 0x08 bytes read [])
def execOtpRead (bytes : List Byte) (read : Option Nat) (s : State) : Host.Outcome State Fault Refusal :=
  .next (s.zwikiur 0x10 bytes read [])
def execOtpWrite (bytes : List Byte) (read : Option Nat) (bad : List Nat) (s : State) : Host.Outcome State Fault Refusal :=
  .next (s.zwikiur 0x11 bytes read bad)
def execLehrCfg (bytes : List Byte) (read : Option Nat) (s : State) : Host.Outcome State Fault Refusal :=
  .next (s.zwikiur 0x20 bytes read [])
def execLehrLog (bytes : List Byte) (read : Option Nat) (s : State) : Host.Outcome State Fault Refusal :=
  .next (s.zwikiur 0x21 bytes read [])
def execPageRead (bytes : List Byte) (read : Option Nat) (s : State) : Host.Outcome State Fault Refusal :=
  .next (s.zwikiur 0x30 bytes read [])
def execPageWrite (bytes : List Byte) (read : Option Nat) (s : State) : Host.Outcome State Fault Refusal :=
  .next (s.zwikiur 0x31 bytes read [])
def execFgCtrl (bytes : List Byte) (read : Option Nat) (s : State) : Host.Outcome State Fault Refusal :=
  .next (s.zwikiur 0x40 bytes read [])
def execFuncReset (bytes : List Byte) (read : Option Nat) (s : State) : Host.Outcome State Fault Refusal :=
  .next (s.zwikiur 0x7E bytes read [])
def execDeviceReset (bytes : List Byte) (read : Option Nat) (s : State) : Host.Outcome State Fault Refusal :=
  .next (s.zwikiur 0x7F bytes read [])

/-! ### Attention (R486, R487) -/

/-- An attention signal is given, on a bus that has been idle for 50 µs: only while one is due, with PD_1 on, outside serve
visits. -/
def execAttnSignal (s : State) : Host.Outcome State Fault Refusal :=
  if s.attn.active && s.attn.due && s.attnWanted && s.domOn 1 && !s.visits then
    let t := (s.send .attention).count F.MGMT_ATTNS_COUNT 0 1
    .next { t with attn := { t.attn with due := false, given := t.attn.given + 1 } }
  else .next s

/-- The repeat timer of a series that runs expires, once the signal before it has been given. -/
def execAttnRepeat (s : State) : Host.Outcome State Fault Refusal :=
  if s.attn.active ∧ 0 < s.attn.given then .next { s with attn := { s.attn with due := true } } else .next s

/-! ### Stages (R359) -/

/-- The command that waits for stage 3 executes (R480). -/
def State.heldRun (s : State) : State :=
  let t := { s with mgmt := { held := none } }
  match s.mgmt.held with
  | some (some (cmd, ps)) => t.zwRun cmd [] ps none []
  | _ => t

/-- Stage 3 is entered: the loader is in RUNNING, CB_0 is cleared after a load from the host, the first self-check and the first
ageing measurement are due, and a held command executes (R276, R359, R374, R480, R515). -/
def State.stage3 (s : State) : State :=
  let t := s.bootTo 6
  let t := if t.get F.BOOT_STAT_SOURCE 0 = 2 then t.cbClear 0 else t
  t.stageUp.refFirst.ageStart.heldRun

/-- STAGE advances one step, if the condition of the next stage is met (R358). -/
def execStageChg (s : State) : Host.Outcome State Fault Refusal :=
  let x := s.get F.BOOT_STAT_STATE 0
  if s.stage = 0 then
    .next (if s.start.ready1 && s.domOn 1 && s.domOn 14 then s.stageUp else s)
  else if s.stage = 1 then .next (if x = 5 then s.stageUp else s)
  else if s.stage = 2 then .next (if x = 5 ∧ s.mode = .awake then s.stage3 else s)
  else .next s

end Sys2Proof.Machine
end

