-- ==== Sys2Proof/Machine/Dispatch.lean ====
section
/-! DEFINITION. What each command does: one arm for each constructor, a direct call of its meaning. -/

namespace Sys2Proof.Machine

/-- The effect of a command on everything but the queue. -/
def exec (i : Instr) (s : State) : Host.Outcome State Fault Refusal :=
  match i with
  | .registerWrite a addr bytes value => Sys2Proof.Machine.execRegisterWrite a addr bytes value s
  | .upperLatchRead a addr => Sys2Proof.Machine.execUpperLatchRead a addr s
  | .faultEntryRead a => Sys2Proof.Machine.execFaultEntryRead a s
  | .pageSpeak a page inst w => Sys2Proof.Machine.execPageSpeak a page inst w s
  | .speak a w => Sys2Proof.Machine.execSpeak a w s
  | .pageReset a page inst w => Sys2Proof.Machine.execPageReset a page inst w s
  | .resetDone page inst func => Sys2Proof.Machine.execResetDone page inst func s
  | .lock a page inst w => Sys2Proof.Machine.execLock a page inst w s
  | .evtClear a page inst again w same => Sys2Proof.Machine.execEvtClear a page inst again w same s
  | .powerRequest a page inst w => Sys2Proof.Machine.execPowerRequest a page inst w s
  | .pdReq a w => Sys2Proof.Machine.execPdReq a w s
  | .powerDone d => Sys2Proof.Machine.execPowerDone d s
  | .cbStateWrite a w => Sys2Proof.Machine.execCbStateWrite a w s
  | .cbDone k => Sys2Proof.Machine.execCbDone k s
  | .bankFrame f fullScale sat => Sys2Proof.Machine.execBankFrame f fullScale sat s
  | .tuneCommit a f w => Sys2Proof.Machine.execTuneCommit a f w s
  | .retuneStart f => Sys2Proof.Machine.execRetuneStart f s
  | .retuneDone f => Sys2Proof.Machine.execRetuneDone f s
  | .feStateWrite a f w => Sys2Proof.Machine.execFeStateWrite a f w s
  | .feStepDone f => Sys2Proof.Machine.execFeStepDone f s
  | .qcalDone f => Sys2Proof.Machine.execQcalDone f s
  | .lockLost f => Sys2Proof.Machine.execLockLost f s
  | .feRelockDone f => Sys2Proof.Machine.execFeRelockDone f s
  | .probeCommand a f w => Sys2Proof.Machine.execProbeCommand a f w s
  | .probeStart f => Sys2Proof.Machine.execProbeStart f s
  | .probeDone f level phase gammaMag gammaPhase => Sys2Proof.Machine.execProbeDone f level phase gammaMag gammaPhase s
  | .burstGo a f w => Sys2Proof.Machine.execBurstGo a f w s
  | .burstStop a f w => Sys2Proof.Machine.execBurstStop a f w s
  | .burstEnd f => Sys2Proof.Machine.execBurstEnd f s
  | .burstTimeout f => Sys2Proof.Machine.execBurstTimeout f s
  | .gainBlockEnd f peakCdb fullScale => Sys2Proof.Machine.execGainBlockEnd f peakCdb fullScale s
  | .gainStep f => Sys2Proof.Machine.execGainStep f s
  | .diversityPairForm a f w => Sys2Proof.Machine.execDiversityPairForm a f w s
  | .pairDissolve a f w => Sys2Proof.Machine.execPairDissolve a f w s
  | .spareDesignate a f w => Sys2Proof.Machine.execSpareDesignate a f w s
  | .fePageReset a f w => Sys2Proof.Machine.execFePageReset a f w s
  | .feSleepStale f => Sys2Proof.Machine.execFeSleepStale f s
  | .feTempSample f temp => Sys2Proof.Machine.execFeTempSample f temp s
  | .calStepStart f => Sys2Proof.Machine.execCalStepStart f s
  | .calStepEnd f plausible => Sys2Proof.Machine.execCalStepEnd f plausible s
  | .scheduledCal f => Sys2Proof.Machine.execScheduledCal f s
  | .rotationPeriod lmh => Sys2Proof.Machine.execRotationPeriod lmh s
  | .calRotCmd a w => Sys2Proof.Machine.execCalRotCmd a w s
  | .matchAttemptEnd lmh gain phase delay => Sys2Proof.Machine.execMatchAttemptEnd lmh gain phase delay s
  | .rotationSwitch lmh => Sys2Proof.Machine.execRotationSwitch lmh s
  | .fullCalDone lmh => Sys2Proof.Machine.execFullCalDone lmh s
  | .tunerWrite a p w => Sys2Proof.Machine.execTunerWrite a p w s
  | .sweepGo a w => Sys2Proof.Machine.execSweepGo a w s
  | .sweepDone p gammas phase => Sys2Proof.Machine.execSweepDone p gammas phase s
  | .biasSample p current => Sys2Proof.Machine.execBiasSample p current s
  | .noiseFloorUpdate p floor => Sys2Proof.Machine.execNoiseFloorUpdate p floor s
  | .learn a w => Sys2Proof.Machine.execLearn a w s
  | .slotCommit a n w => Sys2Proof.Machine.execSlotCommit a n w s
  | .slotEnable a n w => Sys2Proof.Machine.execSlotEnable a n w s
  | .slotStart n => Sys2Proof.Machine.execSlotStart n s
  | .slotDisable a n w => Sys2Proof.Machine.execSlotDisable a n w s
  | .slotStop n => Sys2Proof.Machine.execSlotStop n s
  | .slotReset a n w => Sys2Proof.Machine.execSlotReset a n w s
  | .delayCommand a n w => Sys2Proof.Machine.execDelayCommand a n w s
  | .delayStep n => Sys2Proof.Machine.execDelayStep n s
  | .dlyZcTimeout n => Sys2Proof.Machine.execDlyZcTimeout n s
  | .dlyReached n => Sys2Proof.Machine.execDlyReached n s
  | .agJoin a n w => Sys2Proof.Machine.execAgJoin a n w s
  | .agLeave a n w => Sys2Proof.Machine.execAgLeave a n w s
  | .pkRst a n w => Sys2Proof.Machine.execPkRst a n w s
  | .rmsRst a n w => Sys2Proof.Machine.execRmsRst a n w s
  | .envRst a n w => Sys2Proof.Machine.execEnvRst a n w s
  | .rmsBlockEnd n sumSq count => Sys2Proof.Machine.execRmsBlockEnd n sumSq count s
  | .detectorReport n pk rms env => Sys2Proof.Machine.execDetectorReport n pk rms env s
  | .profDataWrite a w => Sys2Proof.Machine.execProfDataWrite a w s
  | .profCommit a w => Sys2Proof.Machine.execProfCommit a w s
  | .rawCapture a f w => Sys2Proof.Machine.execRawCapture a f w s
  | .snapGo a f w => Sys2Proof.Machine.execSnapGo a f w s
  | .snapAbort a f w => Sys2Proof.Machine.execSnapAbort a f w s
  | .snapDone f vals => Sys2Proof.Machine.execSnapDone f vals s
  | .snapTimeout f => Sys2Proof.Machine.execSnapTimeout f s
  | .pilotBlock n valid level phaseErr => Sys2Proof.Machine.execPilotBlock n valid level phaseErr s
  | .blendUpdate n => Sys2Proof.Machine.execBlendUpdate n s
  | .fmSnrUpdate n valid nHi mp => Sys2Proof.Machine.execFmSnrUpdate n valid nHi mp s
  | .offsetUpdate n valid mean => Sys2Proof.Machine.execOffsetUpdate n valid mean s
  | .rdsSearchRestart a n w => Sys2Proof.Machine.execRdsSearchRestart a n w s
  | .rdsBlock n word gap excluded sigs => Sys2Proof.Machine.execRdsBlock n word gap excluded sigs s
  | .blerWindowEnd n => Sys2Proof.Machine.execBlerWindowEnd n s
  | .amLockEval n valid meanQ carrier => Sys2Proof.Machine.execAmLockEval n valid meanQ carrier s
  | .amSnrUpdate n valid pq levelCdb => Sys2Proof.Machine.execAmSnrUpdate n valid pq levelCdb s
  | .amssGroup n declared ok bitCount group => Sys2Proof.Machine.execAmssGroup n declared ok bitCount group s
  | .pcmBlockEnd n count runs clipped data => Sys2Proof.Machine.execPcmBlockEnd n count runs clipped data s
  | .metricReport src mers => Sys2Proof.Machine.execMetricReport src mers s
  | .contextEnable a c w => Sys2Proof.Machine.execContextEnable a c w s
  | .contextDisable a c w => Sys2Proof.Machine.execContextDisable a c w s
  | .contextReset a c w => Sys2Proof.Machine.execContextReset a c w s
  | .acquisitionRestart a c w => Sys2Proof.Machine.execAcquisitionRestart a c w s
  | .dabFrame c found zeroed mode ofs sco mer wmer snr => Sys2Proof.Machine.execDabFrame c found zeroed mode ofs sco mer wmer snr s
  | .fibReceived c index ok figs raw => Sys2Proof.Machine.execFibReceived c index ok figs raw s
  | .dabReconfig c => Sys2Proof.Machine.execDabReconfig c s
  | .tapResume t => Sys2Proof.Machine.execTapResume t s
  | .drmFrame d found zeroed mode ofs sco mer wmer snr => Sys2Proof.Machine.execDrmFrame d found zeroed mode ofs sco mer wmer snr s
  | .facReceived d ok fac block => Sys2Proof.Machine.execFacReceived d ok fac block s
  | .sdcReceived d ok afs entities block => Sys2Proof.Machine.execSdcReceived d ok afs entities block s
  | .drmReconfig d => Sys2Proof.Machine.execDrmReconfig d s
  | .superframe t fire rsFail => Sys2Proof.Machine.execSuperframe t fire rsFail s
  | .accessUnit t ok data unit pads => Sys2Proof.Machine.execAccessUnit t ok data unit pads s
  | .audioFrame t good count rate pcm => Sys2Proof.Machine.execAudioFrame t good count rate pcm s
  | .decodeStop t => Sys2Proof.Machine.execDecodeStop t s
  | .tapCommit a t w => Sys2Proof.Machine.execTapCommit a t w s
  | .tapEnable a t w => Sys2Proof.Machine.execTapEnable a t w s
  | .tapDisable a t w => Sys2Proof.Machine.execTapDisable a t w s
  | .tapReset a t w => Sys2Proof.Machine.execTapReset a t w s
  | .tiiReport c more frames entries => Sys2Proof.Machine.execTiiReport c more frames entries s
  | .alarmEndTimeout r => Sys2Proof.Machine.execAlarmEndTimeout r s
  | .ruleWrite a r reg w => Sys2Proof.Machine.execRuleWrite a r reg w s
  | .patternWrite a p reg w => Sys2Proof.Machine.execPatternWrite a p reg w s
  | .alertAck a w => Sys2Proof.Machine.execAlertAck a w s
  | .reservePoolWrite a which w => Sys2Proof.Machine.execReservePoolWrite a which w s
  | .folGo a e w => Sys2Proof.Machine.execFolGo a e w s
  | .folStop a e w => Sys2Proof.Machine.execFolStop a e w s
  | .folRealign a e w => Sys2Proof.Machine.execFolRealign a e w s
  | .folCoarseAlign e k peak second lag => Sys2Proof.Machine.execFolCoarseAlign e k peak second lag s
  | .folFineAlign e k peak lag => Sys2Proof.Machine.execFolFineAlign e k peak lag s
  | .folAlignTimer e k => Sys2Proof.Machine.execFolAlignTimer e k s
  | .candExpire e k => Sys2Proof.Machine.execCandExpire e k s
  | .folScore e aus => Sys2Proof.Machine.execFolScore e aus s
  | .switch e cur inc => Sys2Proof.Machine.execSwitch e cur inc s
  | .folCrossfadeEnd e => Sys2Proof.Machine.execFolCrossfadeEnd e s
  | .fallback e => Sys2Proof.Machine.execFallback e s
  | .fsWindowEnd n valid total dbm k stale clip nbw => Sys2Proof.Machine.execFsWindowEnd n valid total dbm k stale clip nbw s
  | .devWindowEnd n valid total peak hist above => Sys2Proof.Machine.execDevWindowEnd n valid total peak hist above s
  | .mpxWindowEnd n valid total sumSq => Sys2Proof.Machine.execMpxWindowEnd n valid total sumSq s
  | .mpxRunUpdate n valid total sumSq => Sys2Proof.Machine.execMpxRunUpdate n valid total sumSq s
  | .injectionWindowEnd n valid total pilot rdsSq => Sys2Proof.Machine.execInjectionWindowEnd n valid total pilot rdsSq s
  | .amDepthWindowEnd n valid total hi lo sumSq pinch => Sys2Proof.Machine.execAmDepthWindowEnd n valid total hi lo sumSq pinch s
  | .refCheckGo a w => Sys2Proof.Machine.execRefCheckGo a w s
  | .refCheckDone dev => Sys2Proof.Machine.execRefCheckDone dev s
  | .refAgeDay => Sys2Proof.Machine.execRefAgeDay s
  | .ppsEdge falling => Sys2Proof.Machine.execPpsEdge falling s
  | .ppsMissing => Sys2Proof.Machine.execPpsMissing s
  | .fcGo a e w => Sys2Proof.Machine.execFcGo a e w s
  | .fcStop a e w => Sys2Proof.Machine.execFcStop a e w s
  | .fcRealign a e w => Sys2Proof.Machine.execFcRealign a e w s
  | .fcAlignAttempt e peak second lag => Sys2Proof.Machine.execFcAlignAttempt e peak second lag s
  | .fcSecond e valid src feed rho => Sys2Proof.Machine.execFcSecond e valid src feed rho s
  | .fcReport e => Sys2Proof.Machine.execFcReport e s
  | .refPresent sync ppm => Sys2Proof.Machine.execRefPresent sync ppm s
  | .xoOk frcKhz => Sys2Proof.Machine.execXoOk frcKhz s
  | .refLost => Sys2Proof.Machine.execRefLost s
  | .xoLost => Sys2Proof.Machine.execXoLost s
  | .x32Ok => Sys2Proof.Machine.execX32Ok s
  | .x32Lost => Sys2Proof.Machine.execX32Lost s
  | .x32DisWrite a w => Sys2Proof.Machine.execX32DisWrite a w s
  | .rcTrim err => Sys2Proof.Machine.execRcTrim err s
  | .pllCounterWindow count => Sys2Proof.Machine.execPllCounterWindow count s
  | .pllApply a w => Sys2Proof.Machine.execPllApply a w s
  | .pllLock => Sys2Proof.Machine.execPllLock s
  | .windowResume f => Sys2Proof.Machine.execWindowResume f s
  | .audPllEnable a w => Sys2Proof.Machine.execAudPllEnable a w s
  | .audPllLock b => Sys2Proof.Machine.execAudPllLock b s
  | .lineCounterWindow n diff => Sys2Proof.Machine.execLineCounterWindow n diff s
  | .lineLock n => Sys2Proof.Machine.execLineLock n s
  | .syncReturn err => Sys2Proof.Machine.execSyncReturn err s
  | .syncSlewDone => Sys2Proof.Machine.execSyncSlewDone s
  | .sleepRequest a w => Sys2Proof.Machine.execSleepRequest a w s
  | .sleepCommit pin => Sys2Proof.Machine.execSleepCommit pin s
  | .sleepDeclared => Sys2Proof.Machine.execSleepDeclared s
  | .wakeEvent host => Sys2Proof.Machine.execWakeEvent host s
  | .aonTimerMatch => Sys2Proof.Machine.execAonTimerMatch s
  | .aonSample temp vio => Sys2Proof.Machine.execAonSample temp vio s
  | .wake => Sys2Proof.Machine.execWake s
  | .serveVisit => Sys2Proof.Machine.execServeVisit s
  | .serveVisitEnd => Sys2Proof.Machine.execServeVisitEnd s
  | .puntyRelease a w => Sys2Proof.Machine.execPuntyRelease a w s
  | .watchEntryWrite a e reg w => Sys2Proof.Machine.execWatchEntryWrite a e reg w s
  | .lehrCycleStart => Sys2Proof.Machine.execLehrCycleStart s
  | .lehrUnitMatch unit => Sys2Proof.Machine.execLehrUnitMatch unit s
  | .lehrDwellEnd level present sync value => Sys2Proof.Machine.execLehrDwellEnd level present sync value s
  | .lehrAlertAck a w => Sys2Proof.Machine.execLehrAlertAck a w s
  | .logClear a w => Sys2Proof.Machine.execLogClear a w s
  | .aonPowerUp ma => Sys2Proof.Machine.execAonPowerUp ma s
  | .pwrGoodRise straps ma => Sys2Proof.Machine.execPwrGoodRise straps ma s
  | .pwrGoodFall => Sys2Proof.Machine.execPwrGoodFall s
  | .sysRstNLow => Sys2Proof.Machine.execSysRstNLow s
  | .stageChg => Sys2Proof.Machine.execStageChg s
  | .stage1Timeout => Sys2Proof.Machine.execStage1Timeout s
  | .fgEstablished => Sys2Proof.Machine.execFgEstablished s
  | .fgWatchMatch e unit => Sys2Proof.Machine.execFgWatchMatch e unit s
  | .fgWatchEnd e => Sys2Proof.Machine.execFgWatchEnd e s
  | .fgStop a w => Sys2Proof.Machine.execFgStop a w s
  | .fgAck a w => Sys2Proof.Machine.execFgAck a w s
  | .fgHandover a w => Sys2Proof.Machine.execFgHandover a w s
  | .hoAttemptEnd peak lag => Sys2Proof.Machine.execHoAttemptEnd peak lag s
  | .hoDone => Sys2Proof.Machine.execHoDone s
  | .imageAuthDone flash keyOk sigOk hashOk => Sys2Proof.Machine.execImageAuthDone flash keyOk sigOk hashOk s
  | .bootWatchdog => Sys2Proof.Machine.execBootWatchdog s
  | .mbxGo a w => Sys2Proof.Machine.execMbxGo a w s
  | .mbxAbort a w => Sys2Proof.Machine.execMbxAbort a w s
  | .perstAssert => Sys2Proof.Machine.execPerstAssert s
  | .perstDeassert => Sys2Proof.Machine.execPerstDeassert s
  | .hotReset => Sys2Proof.Machine.execHotReset s
  | .linkDown => Sys2Proof.Machine.execLinkDown s
  | .linkUp speed lanes => Sys2Proof.Machine.execLinkUp speed lanes s
  | .configWrite f c => Sys2Proof.Machine.execConfigWrite f c s
  | .w2Access write addr count data => Sys2Proof.Machine.execW2Access write addr count data s
  | .ringEnable a r w => Sys2Proof.Machine.execRingEnable a r w s
  | .ringDisable a r w => Sys2Proof.Machine.execRingDisable a r w s
  | .drainEnd r => Sys2Proof.Machine.execDrainEnd r s
  | .ringReset a r w => Sys2Proof.Machine.execRingReset a r w s
  | .ringTailWrite a r w => Sys2Proof.Machine.execRingTailWrite a r w s
  | .descFetch r addr len ctl cookie => Sys2Proof.Machine.execDescFetch r addr len ctl cookie s
  | .ringRestart a r w => Sys2Proof.Machine.execRingRestart a r w s
  | .ringFlush a r w => Sys2Proof.Machine.execRingFlush a r w s
  | .flushTimer r => Sys2Proof.Machine.execFlushTimer r s
  | .dmaBurst r cut data => Sys2Proof.Machine.execDmaBurst r cut data s
  | .coalTimer r => Sys2Proof.Machine.execCoalTimer r s
  | .readCompletionError r cause => Sys2Proof.Machine.execReadCompletionError r cause s
  | .recordOffer r rec => Sys2Proof.Machine.execRecordOffer r rec s
  | .cullOverflowEnd r => Sys2Proof.Machine.execCullOverflowEnd r s
  | .xlatCfgWrite a w => Sys2Proof.Machine.execXlatCfgWrite a w s
  | .localWalk r reads => Sys2Proof.Machine.execLocalWalk r reads s
  | .atsCompletion r grant => Sys2Proof.Machine.execAtsCompletion r grant s
  | .prgResponse r code grant => Sys2Proof.Machine.execPrgResponse r code grant s
  | .invAll a w => Sys2Proof.Machine.execInvAll a w s
  | .invPage a w => Sys2Proof.Machine.execInvPage a w s
  | .invDone f => Sys2Proof.Machine.execInvDone f s
  | .atsInvalidateRequest f addr size => Sys2Proof.Machine.execAtsInvalidateRequest f addr size s
  | .retry a w => Sys2Proof.Machine.execRetry a w s
  | .skipRecord a w => Sys2Proof.Machine.execSkipRecord a w s
  | .abortRing a w => Sys2Proof.Machine.execAbortRing a w s
  | .faultLogFree a w => Sys2Proof.Machine.execFaultLogFree a w s
  | .ownershipWrite a off w => Sys2Proof.Machine.execOwnershipWrite a off w s
  | .flr f => Sys2Proof.Machine.execFlr f s
  | .flrDone f => Sys2Proof.Machine.execFlrDone f s
  | .apEnable a p w => Sys2Proof.Machine.execApEnable a p w s
  | .apDisable a p w => Sys2Proof.Machine.execApDisable a p w s
  | .apReset a p w => Sys2Proof.Machine.execApReset a p w s
  | .apFrame p bclk rate ins late => Sys2Proof.Machine.execApFrame p bclk rate ins late s
  | .portInputOffer p k => Sys2Proof.Machine.execPortInputOffer p k s
  | .rateWindow p valid rate => Sys2Proof.Machine.execRateWindow p valid rate s
  | .rateAck a p w => Sys2Proof.Machine.execRateAck a p w s
  | .clkLost p => Sys2Proof.Machine.execClkLost p s
  | .clkBack p rate => Sys2Proof.Machine.execClkBack p rate s
  | .outSrcWrite a p k w => Sys2Proof.Machine.execOutSrcWrite a p k w s
  | .portAgJoin a p k input w => Sys2Proof.Machine.execPortAgJoin a p k input w s
  | .portAgLeave a p k input w => Sys2Proof.Machine.execPortAgLeave a p k input w s
  | .inCfgWrite a p k w => Sys2Proof.Machine.execInCfgWrite a p k w s
  | .mgmtAddress addr read => Sys2Proof.Machine.execMgmtAddress addr read s
  | .mgmtAbort cmd => Sys2Proof.Machine.execMgmtAbort cmd s
  | .mgmtTimeout cmd => Sys2Proof.Machine.execMgmtTimeout cmd s
  | .sclLowTimeout cmd => Sys2Proof.Machine.execSclLowTimeout cmd s
  | .quickRead count => Sys2Proof.Machine.execQuickRead count s
  | .dialect bytes read => Sys2Proof.Machine.execDialect bytes read s
  | .ident bytes read => Sys2Proof.Machine.execIdent bytes read s
  | .status bytes read => Sys2Proof.Machine.execStatus bytes read s
  | .attnStatus bytes read => Sys2Proof.Machine.execAttnStatus bytes read s
  | .wakeLast bytes read => Sys2Proof.Machine.execWakeLast bytes read s
  | .sleep bytes read => Sys2Proof.Machine.execSleep bytes read s
  | .temp bytes read => Sys2Proof.Machine.execTemp bytes read s
  | .otpRead bytes read => Sys2Proof.Machine.execOtpRead bytes read s
  | .otpWrite bytes read bad => Sys2Proof.Machine.execOtpWrite bytes read bad s
  | .lehrCfg bytes read => Sys2Proof.Machine.execLehrCfg bytes read s
  | .lehrLog bytes read => Sys2Proof.Machine.execLehrLog bytes read s
  | .pageRead bytes read => Sys2Proof.Machine.execPageRead bytes read s
  | .pageWrite bytes read => Sys2Proof.Machine.execPageWrite bytes read s
  | .fgCtrl bytes read => Sys2Proof.Machine.execFgCtrl bytes read s
  | .funcReset bytes read => Sys2Proof.Machine.execFuncReset bytes read s
  | .deviceReset bytes read => Sys2Proof.Machine.execDeviceReset bytes read s
  | .attnSignal => Sys2Proof.Machine.execAttnSignal s
  | .attnRepeat => Sys2Proof.Machine.execAttnRepeat s
  | .histSecond temps => Sys2Proof.Machine.execHistSecond temps s
  | .lifeUpdate => Sys2Proof.Machine.execLifeUpdate s
  | .ageMeasureGo a w => Sys2Proof.Machine.execAgeMeasureGo a w s
  | .ageMeasureTimer => Sys2Proof.Machine.execAgeMeasureTimer s
  | .ageMeasureDone slow => Sys2Proof.Machine.execAgeMeasureDone slow s
  | .vioAonRemoval => Sys2Proof.Machine.execVioAonRemoval s
  | .inactiveReferenceLost sync => Sys2Proof.Machine.execInactiveReferenceLost sync s
  | .audUnlock b => Sys2Proof.Machine.execAudUnlock b s
  | .referenceRatePeriod p => Sys2Proof.Machine.execReferenceRatePeriod p s

end Sys2Proof.Machine
end

