-- ==== Sys2Proof/Machine/Ticks.lean ====
section
/-! DEFINITION. What passes of its own accord while no command comes: device time and the AON timer (R25, R26). -/

namespace Sys2Proof.Machine

/-- CK_SAMP ticks in a period of CK_AON (R26). -/
def aonTicks : Nat := 7500

/-- One tick. With the system PLL locked it is one cycle of CK_SAMP, and CK_AON has an edge in every 7,500th. With the PLL off
or relocking it is one CK_AON period, as is the way from a lock to the next edge, where counting in CK_SAMP resumes. While PD_0
is off nothing counts. -/
def State.tick (s : State) : State :=
  if s.mode = .off then s
  else if s.pllLocked && !s.clk.resume then
    let edge := decide (aonTicks ≤ s.aonPhase + 1)
    { s with
      time := s.time + 1
      aonPhase := if edge then 0 else s.aonPhase + 1
      aonTime := if edge then s.aonTime + 1 else s.aonTime }
  else
    { s with
      time := s.time + BitVec.ofNat 64 aonTicks
      aonPhase := 0
      aonTime := s.aonTime + 1
      clk := if s.pllLocked then { s.clk with resume := false } else s.clk }

end Sys2Proof.Machine
end

