-- ==== Sys2Proof/Safety.lean ====
section
/-! DEFINITION. The terms that claims use: when a write of a register acts, what a state keeps, and the invariant that every
step keeps. -/

namespace Sys2Proof.Machine

/-- A step is safe if it answers a next state. -/
def Safe (s : State) : Prop := ∃ t, step s = .next t

/-- A write of a block register reaches its register and acts there: nothing of R36 to R41, R45, R255 and R434 turns it away. -/
abbrev State.Acts (s : State) (a : Accessor) (b : Blk) (n off : Nat) : Prop :=
  s.reaches a = true ∧ s.present a b n = true ∧ s.gateReg a b n off = none

/-- A write of a command register acts: the same, and its EXP_EPOCH equals the epoch (R56). -/
abbrev State.ActsNow (s : State) (a : Accessor) (b : Blk) (n off : Nat) (w : Word) : Prop :=
  s.Acts a b n off ∧ bits w.toNat 31 24 = s.epochOf b n

/-- The same for a write of a header register. -/
abbrev State.HeadActs (s : State) (a : Accessor) (b : Blk) (n off : Nat) (reset ctrl : Bool) : Prop :=
  s.reaches a = true ∧ s.present a b n = true ∧ s.gateHdr a b n off reset ctrl = none

/-- The registers of two states agree but for those whose keys are listed. -/
def SameRegs (s t : State) (ks : List Nat) : Prop := ∀ k d, k ∉ ks → Tbl.get t.fields d k = Tbl.get s.fields d k

/-- The crucible is in its canonical form (R12, R14). -/
def State.memoryOk (s : State) : Prop := Memory.wf (fun k => (s.bank k).cleared) s.crucible = true

/-- Only words that OTP_WRITE may name are programmed, and no more spare rows are in use than there are (R378, R379). -/
def State.otpOk (s : State) : Prop := (∀ p ∈ s.otp, otpWritable p.1 = true) ∧ s.otpSpares ≤ Config.otpSpareRows

/-- Every dialect that an accessor has selected is 1 or 2 (R42). -/
def State.dialectsOk (s : State) : Prop := ∀ p ∈ s.speak, p.2 = 1 ∨ p.2 = 2

/-- The invariant: it holds at reset and every step keeps it, whatever the state. -/
def State.Inv (s : State) : Prop := s.memoryOk ∧ s.otpOk ∧ s.dialectsOk

end Sys2Proof.Machine
end

