-- ==== Sys2Proof/Certificates/Slice0/Obligations.lean ====
section
/-! DEFINITION. The statements for the provers. -/

open Sys2Proof Sys2Proof.Machine

/-! ### The part as a whole -/

/-- A step runs the command in front (the queue is the model's own: log entry 2): for every command and state, a step with the command at the
front of the queue is the command's effect on the state with the queue's rest. -/
def Obligations.StepRunsFront : Prop :=
  ∀ (c : Instr) (rest : List Instr) (s : State),
    step { s with pending := c :: rest } = exec c { s with pending := rest }

/-- With no command waiting the clocks tick (R25, R26; that an empty queue is a tick is the model's: log entry 3): nothing but time moves. With the system PLL locked device time goes on by 1 a
step, and the AON timer at every 7,500th; with the PLL off or relocking both go on by a CK_AON period; with PD_0 off neither
moves. -/
def Obligations.EmptyQueueTicks : Prop :=
  ∀ s : State, s.pending = [] →
    ∃ t : State, step s = .next t ∧ { t with time := s.time, aonTime := s.aonTime, aonPhase := s.aonPhase, clk := s.clk } = s ∧
      (s.mode = .off → t = s) ∧
      (s.mode ≠ .off → s.pllLocked = true → s.clk.resume = false → t.time = s.time + 1 ∧
        (s.aonPhase < 7499 → t.aonTime = s.aonTime ∧ t.aonPhase = s.aonPhase + 1) ∧
        (7499 ≤ s.aonPhase → t.aonTime = s.aonTime + 1 ∧ t.aonPhase = 0)) ∧
      (s.mode ≠ .off → s.pllLocked = false ∨ s.clk.resume = true →
        t.time = s.time + 7500 ∧ t.aonTime = s.aonTime + 1 ∧ t.aonPhase = 0)

/-- Every command ends in a next state, whatever the state, and leaves the queue of waiting commands as it is: where the part turns a
command away, that too is an effect. -/
def Obligations.EveryCommandCompletes : Prop :=
  ∀ (c : Instr) (s : State), ∃ t : State, exec c s = .next t ∧ t.pending = s.pending

/-- The invariant is kept (R12, R14, R42, R374, R378, R379): from every state in which the crucible is in its canonical form, only
programmable OTP words are programmed with no more spare rows in use than there are, and every dialect selected is 1 or 2, a step
answers such a state. -/
def Obligations.InvariantKept : Prop := ∀ s t : State, s.Inv → step s = .next t → t.Inv

/-- OTP is programmed once (R379): whatever the state and the command, no step takes a bit of the OTP from 1 to 0. -/
def Obligations.OtpNeverClears : Prop :=
  ∀ s t : State, step s = .next t → ∀ w b, bit (s.otpWord w) b = true → bit (t.otpWord w) b = true

/-- Device time (R25): a 64-bit count, held in PD_0. Whatever the state and the command, a step leaves it, or with no command waiting
adds at most 7,500 ticks, a CK_AON period; only the loss of VIO_AON, after which PD_0 powers up from OFF, takes it to 0. So short of
the end of its range it never decreases. -/
def Obligations.DeviceTimeNeverFalls : Prop :=
  ∀ s t : State, step s = .next t →
    (s.pending.head? = some .vioAonRemoval → t.time = 0) ∧
    (s.pending ≠ [] → s.pending.head? ≠ some .vioAonRemoval → t.time = s.time) ∧
    (s.pending = [] → ∃ k : Nat, k ≤ 7500 ∧ t.time = s.time + BitVec.ofNat 64 k ∧
      (s.time.toNat + 7500 < 2 ^ 64 → s.time.toNat ≤ t.time.toNat))

/-- The invariant holds after power-up. -/
def Obligations.ResetHoldsInvariant : Prop := State.reset.Inv

/-- What power-up leaves (R25, R54, R321, R325): mode RESET, every epoch 1, device time 0, PD_0 alone on, no defined byte in the
crucible, and no command waiting. -/
def Obligations.ResetLeaves : Prop :=
  State.reset.mode = .reset ∧ State.reset.pending = [] ∧ State.reset.time = 0 ∧
    (∀ r : Res, State.reset.epoch r = 1) ∧ (∀ d, State.reset.domOn d = decide (d = 0)) ∧
    (∀ a, State.reset.cbRead a = none) ∧ State.reset.stage = 0 ∧ State.reset.pllLocked = false

/-! ### Registers and headers (R28 to R52) -/

/-- REGISTER_WRITE (R29, R50): a write of 32 bits to `GLOBAL.SCRATCH` that acts sets it whole and nothing else but what follows
from things that have ended; 64 bits are two writes, the lower address first; any other width or alignment is discarded with
reason WIDTH. -/
def Obligations.RegisterWriteWidths : Prop :=
  (∀ (a : Accessor) (w : Word) (s : State), s.Acts a .global (accIdx a) 0x68 →
    exec (.registerWrite a 0x68 4 w.toNat) s = .next (s.put F.SCRATCH_VALUE (accIdx a) w.toNat).sweeps) ∧
  (∀ (a : Accessor) (addr v : Nat) (s t u : State), addr % 8 = 0 →
    exec (.registerWrite a addr 4 (v % 2 ^ 32)) s = .next t →
    exec (.registerWrite a (addr + 4) 4 (v / 2 ^ 32 % 2 ^ 32)) t = .next u →
    exec (.registerWrite a addr 8 v) s = .next u) ∧
  (∀ (a : Accessor) (addr bytes v : Nat) (b : Blk) (i off : Nat) (s : State), ¬ (bytes = 4 ∧ addr % 4 = 0) →
    ¬ (bytes = 8 ∧ addr % 8 = 0) → locate addr = some (b, i, off) → s.reaches a = true →
    s.present a b (viewInst a b i) = true →
    exec (.registerWrite a addr bytes v) s = .next (s.discard a b (viewInst a b i) off .width))

/-- A 64-bit read is coherent (R30): UPPER_LATCH_READ of the lower register of a pair latches the upper, and the accessor's
next read of the upper register returns what was latched, whatever has happened in between.

A read never changes the state of the part but for the latches of the accessor that read (R31): whatever the address, all that
differs afterwards is those latches and what the model keeps of the answer (the value returned, and its counter of free values).

FAULT_ENTRY_READ (R441): it returns word 0 of the entry that FAULT_SEL names, and latches the other seven words for the
accessor. -/
def Obligations.Latches : Prop :=
  ((∀ (a : Accessor) (addr : Nat) (s : State), s.reaches a = true →
    ∃ t : State, exec (.upperLatchRead a addr) s = .next t ∧
      { t with resp := s.resp, latches := s.latches, freeCount := s.freeCount } = s ∧
      ∀ a' : Accessor, accIdx a' ≠ accIdx a → t.latch a' = s.latch a') ∧
  ∀ (a : Accessor) (addr : Nat) (b : Blk) (i off : Nat) (s : State), addr % 4 = 0 → locate addr = some (b, i, off) →
    pairLow b off = true → s.reaches a = true → s.flrBusy a = false →
    ∃ t : State, exec (.upperLatchRead a addr) s = .next t ∧ t.resp = [s.wordNow a addr] ∧
      { t with resp := s.resp, latches := s.latches } = s ∧
      ∀ u : State, u.latch a = t.latch a → u.reaches a = true → u.flrBusy a = false →
        ∃ v : State, exec (.upperLatchRead a (addr + 4)) u = .next v ∧ v.resp = [s.wordNow a (addr + 4)] ∧
          { v with resp := u.resp, latches := u.latches } = u) ∧
  (∀ (a : Accessor) (s : State) (e : FaultEntry), s.reaches a = true → s.flrBusy a = false →
    s.present a .fault (accView a) = true → s.shows a .fault (accView a) 0x4C = true →
    Tbl.get s.faults none (faultKey (accView a) (s.get F.FAULT_SEL_INDEX (accIdx a))) = some e →
    (s.latch a).upper.find? (fun p => p.1 == 0x7204C) = none →
    ∃ t : State, exec (.faultEntryRead a) s = .next t ∧ t.resp = e.words.take 1 ∧
      (t.latch a).entry = (List.range 7).map (fun k => (e.words[k + 1]?).getD 0) ∧
      { t with resp := s.resp, latches := s.latches } = s)

/-- PAGE_SPEAK (R42): MAJOR 1 or 2 becomes the dialect of the page for the writing accessor and for no other; any other value
reads 0 afterwards and is refused.

SPEAK (R44): a MAJOR of 1 or 2 becomes the dialect of every page present in the accessor's view that has PAGE_SPEAK, with
MISS_COUNT 0, and no other accessor's dialect changes. -/
def Obligations.Dialects : Prop :=
  (∀ (a : Accessor) (page : Fin 256) (inst : Fin 128) (w : Word) (b : Blk) (n : Nat) (s : State),
    pageInst page.val inst.val = some (b, n) → b ≠ .tap → s.reaches a = true →
    s.present a b (viewInst a b n) = true → s.flrBusy a = false →
    (partitioned b && s.owner b (viewInst a b n) != accView a) = false →
    (bits w.toNat 7 0 = 1 ∨ bits w.toNat 7 0 = 2 →
      ∃ t : State, exec (.pageSpeak a page inst w) s = .next t ∧ { t with speak := s.speak } = s ∧
        Tbl.get t.speak 0 (accIdx a * 256 + pageOf b (viewInst a b n)) = bits w.toNat 7 0 ∧
        ∀ k, k ≠ accIdx a * 256 + pageOf b (viewInst a b n) → Tbl.get t.speak 0 k = Tbl.get s.speak 0 k) ∧
    (¬ (bits w.toNat 7 0 = 1 ∨ bits w.toNat 7 0 = 2) →
      ∃ t : State, exec (.pageSpeak a page inst w) s = .next t ∧
        t = (s.setSpeak a (pageOf b (viewInst a b n)) 0).discard a b (viewInst a b n) 0x0C .range)) ∧
  (∀ (a : Accessor) (w : Word) (s : State), s.Acts a .global (accIdx a) 0x48 →
    bits w.toNat 7 0 = 1 ∨ bits w.toNat 7 0 = 2 →
    ∃ u : State, exec (.speak a w) s = .next u.sweeps ∧
      u.get F.SPEAK_MAJOR (accIdx a) = bits w.toNat 7 0 ∧ u.get F.SPEAK_MISS_COUNT (accIdx a) = 0 ∧
      (∀ p, p < 256 → s.speaks a p = true → Tbl.get u.speak 0 (accIdx a * 256 + p) = bits w.toNat 7 0) ∧
      (∀ k, ¬ (accIdx a * 256 ≤ k ∧ k < accIdx a * 256 + 256) → Tbl.get u.speak 0 k = Tbl.get s.speak 0 k))

/-- PAGE_RESET, FE_PAGE_RESET, SLOT_RESET, CONTEXT_RESET, TAP_RESET, RING_RESET and AP_RESET (R45): a write of 1 to RESET that
acts starts the reset of the instance: RESET reads 1, ENABLE and LOCK read 0.

RESET_DONE (R45, R54): the end of an instance's reset sets RESET to 0, increments the epoch of the instance once, and raises
RESET_DONE; with no reset running nothing changes but what has ended. -/
def Obligations.Resets : Prop :=
  ((∀ (a : Accessor) (b : Blk) (n : Nat) (w : Word) (s : State), bits w.toNat 3 2 = 0 → bit w.toNat 1 = true →
    s.HeadActs a b n (hdrCtrl b) true true → s.powered b n = true → s.on (H.RESET b) n = false →
    s.resetRefused b n = false →
    (∀ (page : Fin 256) (inst : Fin 128) (m : Nat), pageInst page.val inst.val = some (b, m) → viewInst a b m = n →
      exec (.pageReset a page inst w) s = .next (s.resetStart b n).sweeps) ∧
    (∀ f : Fin 8, b = .fe → f.val = n → exec (.fePageReset a f w) s = .next (s.resetStart b n).sweeps) ∧
    (∀ k : Fin 512, b = .slot → k.val = n → exec (.slotReset a k w) s = .next (s.resetStart b n).sweeps) ∧
    (∀ c : Ctx, b = c.blk → c.num = n → exec (.contextReset a c w) s = .next (s.resetStart b n).sweeps) ∧
    (∀ k : Fin 1024, b = .tap → k.val = n → exec (.tapReset a k w) s = .next (s.resetStart b n).sweeps) ∧
    (∀ k : Fin 64, b = .ring → k.val = n → exec (.ringReset a k w) s = .next (s.resetStart b n).sweeps) ∧
    (∀ k : Fin 8, b = .ap → k.val = n → exec (.apReset a k w) s = .next (s.resetStart b n).sweeps)) ∧
  (∀ (b : Blk) (n : Nat) (s : State), (s.resetStart b n).on (H.RESET b) n = true ∧
    (s.resetStart b n).enabled b n = false ∧ (s.resetStart b n).on (H.LOCK b) n = false)) ∧
  (∀ (page : Fin 256) (inst : Fin 128) (func : Fin 4) (b : Blk) (n : Nat) (r : Res) (s : State),
    pageInst page.val inst.val = some (b, n) → ownRes b n = some r → b ≠ .ring → s.on (H.RESET b) n = true →
    exec (.resetDone page inst func) s =
      .next (((s.put (H.RESET b) n 0).bumpEpoch r).raise b n Ev.resetDone).sweeps ∧
    (s.put (H.RESET b) n 0).on (H.RESET b) n = false ∧
    ((s.put (H.RESET b) n 0).bumpEpoch r).epoch r = (if s.epoch r = 255 then 1 else s.epoch r + 1) ∧
    ∀ q : Res, q.code ≠ r.code → ((s.put (H.RESET b) n 0).bumpEpoch r).epoch q = s.epoch q)

/-- LOCK and POWER_REQUEST (R40, R322): a write of LOCK to an instance of a block without an enable check sets it; a write of
POWER 1 to an FE page by a manager starts the power-on of the front-end's domain when its prerequisites are on and no transition
runs, whether or not the domain's own registers can be written.

EVT_CLEAR (R46, R48): a write of 1 clears event bits, or AGAIN bits; clearing an event bit leaves its AGAIN bit. An event bit
that hardware sets in the same cycle stays set, and so does its AGAIN bit, which is also set whenever hardware sets an event
bit that is set; an AGAIN bit that hardware sets in the same cycle stays set. -/
def Obligations.HeaderFields : Prop :=
  ((∀ (a : Accessor) (page : Fin 256) (inst : Fin 128) (w : Word) (n m : Nat) (s : State),
    pageInst page.val inst.val = some (.cal, m) → viewInst a .cal m = n → bits w.toNat 4 1 = 8 →
    s.HeadActs a .cal n 0x10 false true → s.powered .cal n = true → s.on (H.RESET .cal) n = false →
    exec (.lock a page inst w) s =
      .next ((s.put (H.ENABLE .cal) n (b2n (bit w.toNat 0))).put (H.LOCK .cal) n 1).sweeps) ∧
  (∀ (a : Accessor) (page : Fin 256) (inst : Fin 128) (w : Word) (f : Nat) (s : State),
    pageInst page.val inst.val = some (.fe, f) → w.toNat = 4 → isManager a = true →
    s.HeadActs a .fe f 0x10 false true → s.powered .fe f = false → s.devMoves = false →
    (s.dom (s.domainOf .fe f)).run = none → (s.dom (s.domainOf .fe f)).on = false →
    s.prereqOk (s.domainOf .fe f) = true →
    exec (.powerRequest a page inst w) s =
      .next (s.setDom (s.domainOf .fe f)
        { s.dom (s.domainOf .fe f) with run := some (true, .page (pageOf .fe f)) }).sweeps)) ∧
  (∀ (a : Accessor) (page : Fin 256) (inst : Fin 128) (w same : Word) (b : Blk) (m n : Nat) (s : State),
    pageInst page.val inst.val = some (b, m) → viewInst a b m = n → b ≠ .tap →
    let k := evtInst a b n
    (b ≠ .slot → s.HeadActs a b n 0x18 false false →
      exec (.evtClear a page inst false w 0) s = .next (s.put (H.EVT b) k (clearBits (s.get (H.EVT b) k) w.toNat))) ∧
    (s.HeadActs a b n 0x20 false false →
      exec (.evtClear a page inst true w 0) s =
        .next (s.put (H.EVT_AGAIN b) k (clearBits (s.get (H.EVT_AGAIN b) k) w.toNat))) ∧
    (∀ e, e < 32 → bit w.toNat e = true → bit same.toNat e = true →
      (s.HeadActs a b n 0x18 false false → bit (s.get (H.EVT b) k) e = true →
        ∃ t : State, exec (.evtClear a page inst false w same) s = .next t ∧ bit (t.get (H.EVT b) k) e = true ∧
          bit (t.get (H.EVT_AGAIN b) k) e = true) ∧
      (s.HeadActs a b n 0x20 false false → bit (s.get (H.EVT_AGAIN b) k) e = true →
        ∃ t : State, exec (.evtClear a page inst true w same) s = .next t ∧ bit (t.get (H.EVT_AGAIN b) k) e = true)) ∧
    (∀ (e : Nat) (u : State), e < 32 → bit (u.get (H.EVT b) n) e = true →
      bit ((u.setEvt b n e).get (H.EVT_AGAIN b) n) e = true ∧ (u.setEvt b n e).get (H.EVT b) n = u.get (H.EVT b) n))

/-- A write that is turned away changes nothing but the access log, the event it raises on the block and what follows from
raising it (R47, R52): the log of its accessor names the reason, the page and the offset, and counts it. -/
def Obligations.TurnedAwayWrites : Prop :=
  (∀ (a : Accessor) (b : Blk) (n off : Nat) (h : State → Except Reason State) (r : Reason) (s : State),
    s.reaches a = true → s.present a b n = true → s.gateReg a b n off = some r →
    s.regWrite a b n off h = s.discard a b n off r) ∧
  (∀ (a : Accessor) (b : Blk) (n off : Nat) (h : State → Except Reason State) (r : Reason) (s : State),
    s.Acts a b n off → h s = .error r → s.regWrite a b n off h = s.discard a b n off r) ∧
  (∀ (a : Accessor) (b : Blk) (n off : Nat) (r : Reason) (s : State),
    { s.discard a b n off r with fields := s.fields, out := s.out, attn := s.attn } = s) ∧
  (∀ (a : Accessor) (p off : Nat) (r : Reason) (s : State),
    (s.logAccess a p off r).get F.ACC_LOG_REASON (accIdx a) = r.code ∧
    (s.logAccess a p off r).get F.ACC_LOG_PAGE (accIdx a) = p % 256 ∧
    (s.logAccess a p off r).get F.ACC_COUNT_COUNT (accIdx a) = min (s.get F.ACC_COUNT_COUNT (accIdx a) + 1) (2 ^ 32 - 1))

/-! ### Front-ends (R59 to R96) -/

/-- TUNE_COMMIT, RETUNE_START and RETUNE_DONE (R62 to R68). A commit of a staged window that passes the checks reports the new
window and its LO at once, and in SYNTH and RECEIVE a retune is due, which starts at the next boundary: RETUNING is 1 and
LOCKED 0 until it ends, with RETUNE_DONE in RECEIVE. A commit in PROBE, or with a probe waiting, is refused with reason BUSY.

FE_STATE_WRITE and FE_STEP_DONE (R71, R72, R81, R85). A new target stops a burst, cuts a probe, ends a handover and
starts the next step on the path, which passes through every state between; the step's end declares its state, with
STATE_REACHED at the target.

QCAL_DONE, LOCK_LOST, FE_RELOCK_DONE, FE_SLEEP_STALE and FE_TEMP_SAMPLE (R74, R97 to R101, R110). The quick calibration makes the
window set fresh; a loss of lock without a retune raises LOCK_LOST until lock is declared again; more than 10 s in SLEEP, or a
temperature more than 4 °C away from that of the set, make the set STALE. -/
def Obligations.TuningAndStates : Prop :=
  ((∀ (a : Accessor) (f : Fin 8) (w : Word) (s : State), s.ActsNow a .fe f.val 0x54 w → bit w.toNat 0 = true →
    s.isPaired f.val = false → s.isSpare f.val = false → s.get F.FE_STAT_STATE f.val ≠ 4 → (s.fe f.val).probe = none →
    (s.fe f.val).queued = none → s.on F.FE_STAT_HANDOVER f.val = false → s.on F.FE_STAT_SCOUT_USE f.val = false →
    let start := s.get F.FE_WIN_START_START f.val
    let span := s.get F.FE_WIN_SPAN_SPAN f.val
    let pol := s.get F.FE_IF_POLARITY f.val
    windowOk f.val start span pol = true →
    (∀ p ∈ s.enabledSlots f.val, sbInWindow f.val p.2.subband start span pol = true) →
    let t := s.applyWindow f.val start span pol
    exec (.tuneCommit a f w) s = .next t ∧ t.get F.FE_LO_HZ_LO f.val = (loOf f.val start span pol).toNat ∧
      t.get F.FE_APPLIED_START_START f.val = start ∧
      (2 ≤ s.get F.FE_STAT_STATE f.val → (t.fe f.val).retuneDue = true)) ∧
  (∀ (a : Accessor) (f : Fin 8) (w : Word) (s : State), s.ActsNow a .fe f.val 0x54 w → bit w.toNat 0 = true →
    s.isPaired f.val = false → s.isSpare f.val = false →
    s.get F.FE_STAT_STATE f.val = 4 ∨ (s.fe f.val).probe ≠ none ∨ (s.fe f.val).queued ≠ none →
    exec (.tuneCommit a f w) s = .next (s.discard a .fe f.val 0x54 .busy)) ∧
  (∀ (f : Fin 8) (s : State), s.isPaired f.val = false → (s.fe f.val).retuneDue = true →
    exec (.retuneStart f) s =
      .next ((((s.setFe f.val { s.fe f.val with retuneDue := false, word := s.get F.FE_LO_HZ_LO f.val }).put
        F.FE_STAT_RETUNING f.val 1).put F.FE_STAT_LOCKED f.val 0).latchFrame f.val)) ∧
  (∀ (f : Fin 8) (s : State), s.isPaired f.val = false → (s.fe f.val).retuneDue = false →
    s.on F.FE_STAT_RETUNING f.val = true →
    let t := ((s.put F.FE_STAT_RETUNING f.val 0).put F.FE_STAT_LOCKED f.val 1).latchFrame f.val
    exec (.retuneDone f) s =
      .next (if s.get F.FE_STAT_STATE f.val = 3 ∧ (s.fe f.val).step = none then t.raise .fe f.val Ev.retuneDone else t)) ∧
  (∀ (n : Nat) (s : State), { s.latchFrame n with fes := s.fes } = s)) ∧
  ((∀ (a : Accessor) (f : Fin 8) (w : Word) (s : State), s.Acts a .fe f.val 0x40 → bits w.toNat 2 0 < 4 →
    bits w.toNat 5 4 = s.get F.FE_CTRL_INPUT f.val → bits w.toNat 5 4 < 2 → f.val < 5 → s.isSpare f.val = false →
    s.isPaired f.val = false → s.on F.FE_STAT_SCOUT_USE f.val = false →
    bits w.toNat 2 0 ≠ s.get F.FE_CTRL_STATE f.val →
    exec (.feStateWrite a f w) s =
      .next ((s.put F.FE_CTRL_INPUT f.val (bits w.toNat 5 4)).hostTarget1 f.val (bits w.toNat 2 0))) ∧
  (∀ (n : Nat) (s : State), (s.fe n).step = none → (s.fe n).probe = none → (s.fe n).calStep = none →
    s.get F.FE_STAT_STATE n ≠ s.get F.FE_CTRL_STATE n →
    s.startMove n = s.beginStep n (nextState (s.get F.FE_STAT_STATE n) (s.get F.FE_CTRL_STATE n)) ∧
    ((s.startMove n).fe n).step = some (nextState (s.get F.FE_STAT_STATE n) (s.get F.FE_CTRL_STATE n)) ∧
    (s.startMove n).on F.FE_STAT_MOVING n = true) ∧
  (nextState 0 3 = 1 ∧ nextState 1 3 = 2 ∧ nextState 2 3 = 3 ∧ nextState 3 0 = 0 ∧ nextState 3 2 = 2 ∧ nextState 4 3 = 2) ∧
  (∀ (f : Fin 8) (x : Nat) (s : State), (s.fe f.val).step = some x → (s.fe f.val).qcal = false → s.isPaired f.val = false →
    (x = 3 → s.lineLocked (s.hwOf f.val) = true) →
    exec (.feStepDone f) s = .next (s.stepDone f.val x)) ∧
  (∀ (n : Nat) (s : State), s.get F.FE_STAT_STATE n = 2 → s.get F.FE_CTRL_STATE n = 3 → (s.fe n).probe = none →
    s.stepDone n 3 = (((s.setFe n { s.fe n with step := none, qcal := false }).put F.FE_STAT_MOVING n 0).put
      F.FE_STAT_STATE n 3).raise .fe n Ev.stateReached)) ∧
  ((∀ (f : Fin 8) (s : State), (s.fe f.val).qcal = true →
    exec (.qcalDone f) s =
      .next (((s.setFe f.val { s.fe f.val with qcal := false }).windowFresh f.val).raise .cal 0 Ev.qcalDone)) ∧
  (∀ (n : Nat) (s : State), n < 8 →
    (s.windowFresh n).on F.FE_STAT_STALE n = false ∧ ((s.windowFresh n).fe n).calAt = some s.now ∧
    (s.markStale n).on F.FE_STAT_STALE n = true ∧ ((s.markStale n).fe n).winDone = []) ∧
  (∀ (f : Fin 8) (s : State), 2 ≤ s.get F.FE_STAT_STATE f.val → s.on F.FE_STAT_LOCKED f.val = true →
    s.on F.FE_STAT_RETUNING f.val = false → (s.fe f.val).probe = none →
    exec (.lockLost f) s =
      .next ((((s.put F.FE_STAT_LOCKED f.val 0).setFe f.val { s.fe f.val with relock := true }).raise .fe f.val
        Ev.lockLost).abandonFor f.val 2)) ∧
  (∀ (f : Fin 8) (s : State), (s.fe f.val).relock = true → s.get F.CLK_STAT_REF_ACT 0 ≠ 0 → s.pllLocked = true →
    exec (.feRelockDone f) s =
      .next ((s.setFe f.val { s.fe f.val with relock := false }).put F.FE_STAT_LOCKED f.val 1)) ∧
  (∀ (f : Fin 8) (s : State), s.get F.FE_STAT_STATE f.val = 0 → exec (.feSleepStale f) s = .next (s.markStale f.val)) ∧
  (∀ (f : Fin 8) (temp : Int) (s : State), s.powered .fe f.val = true → s.on F.FE_STAT_STALE f.val = false →
    let t := s.setHw (s.hwOf f.val) { s.hw (s.hwOf f.val) with temp := temp }
    let d := temp - sgn 10 (s.getE F.CAL_WIN_TEMP 0 f.val)
    (8 < d ∨ d < -8 → exec (.feTempSample f temp) s = .next (t.markStale f.val)) ∧
    (-8 ≤ d ∧ d ≤ 8 → exec (.feTempSample f temp) s = .next t)))

/-- PROBE_COMMAND, PROBE_START and PROBE_DONE (R76 to R80). An accepted probe starts at once where the front-end rests in SYNTH or
RECEIVE with lock, else it waits in a queue of one; its result has VALID 1, and with it PROBE_DONE the probe leaves PROBE
through SYNTH. A spare and a target below SYNTH refuse it.

BURST_GO, BURST_STOP, BURST_END and BURST_TIMEOUT (R82 to R85). GO starts a burst, with DONE_COUNT 0, and sets the target to
RECEIVE; STOP cancels it and sets the target to AFTER; the count and the timeout end it with BURST_END and the same
target. GO and STOP together are refused. -/
def Obligations.ProbesAndBursts : Prop :=
  ((∀ (a : Accessor) (f : Fin 8) (w : Word) (s : State), s.ActsNow a .fe f.val 0x6C w → bit w.toNat 0 = true →
    s.isSpare f.val = false → s.on F.FE_STAT_SCOUT_USE f.val = false →
    s.get F.FE_PROBE_CFG_TONE_KHZ f.val ≤ s.get F.FE_APPLIED_SPAN_SPAN f.val →
    let p : Probe := { tone := s.get F.FE_PROBE_CFG_TONE_KHZ f.val, atten := s.get F.FE_PROBE_CFG_ATTEN f.val,
                       dwell := s.get F.FE_PROBE_DWELL_DWELL f.val }
    (2 ≤ s.get F.FE_CTRL_STATE f.val → s.probeReady f.val = true → (s.fe f.val).queued = none →
      exec (.probeCommand a f w) s = .next (s.startProbe f.val p)) ∧
    (2 ≤ s.get F.FE_CTRL_STATE f.val → s.probeReady f.val = false → s.on F.FE_PROBE_CFG_PROBE_NOWAIT f.val = false →
      (s.fe f.val).queued = none →
      exec (.probeCommand a f w) s =
        .next ((s.setFe f.val { s.fe f.val with queued := some p }).put F.FE_STAT_PROBE_QUEUED f.val 1)) ∧
    (s.get F.FE_CTRL_STATE f.val < 2 →
      exec (.probeCommand a f w) s = .next (s.discard a .fe f.val 0x6C .range))) ∧
  (∀ (f : Fin 8) (p : Probe) (s : State), (s.fe f.val).queued = some p → s.probeReady f.val = true →
    exec (.probeStart f) s =
      .next (((s.setFe f.val { s.fe f.val with queued := none }).put F.FE_STAT_PROBE_QUEUED f.val 0).startProbe f.val p)) ∧
  (∀ (f : Fin 8) (level phase : Int) (mag : Fin 1025) (gp : Int) (p : Probe) (s : State), (s.fe f.val).probe = some p →
    p.sweep = none → s.get F.FE_STAT_STATE f.val = 4 → f.val < 5 →
    exec (.probeDone f level phase mag gp) s =
      .next (((s.puts f.val [(F.FE_PROBE_RES_LEVEL, satS 15 level), (F.FE_PROBE_RES_VALID, 1),
        (F.FE_PROBE_RES_PHASE, satS 16 phase)]).raise .fe f.val Ev.probeDone).leaveProbe f.val)) ∧
  (∀ (n : Nat) (s : State), n < 8 → s.get F.FE_CTRL_STATE n = 2 →
    s.leaveProbe n = ((s.setFe n { s.fe n with probe := none }).put F.FE_STAT_STATE n 2).raise .fe n Ev.stateReached)) ∧
  ((∀ (a : Accessor) (f : Fin 8) (w : Word) (s : State), s.ActsNow a .fe f.val 0x88 w → s.isSpare f.val = false →
    s.on F.FE_STAT_SCOUT_USE f.val = false →
    (bits w.toNat 0 0 = 1 → bits w.toNat 1 1 = 0 → s.on F.FE_BURST_UNIT f.val = false →
      let b : Burst := { after := s.get F.FE_BURST_AFTER f.val, frames := false, drm := s.on F.FE_BURST_SRC_KIND f.val,
                         idx := s.get F.FE_BURST_SRC_INDEX f.val, len := s.get F.FE_BURST_LEN_LEN f.val }
      exec (.burstGo a f w) s =
        .next ((((s.setFe f.val { s.fe f.val with burst := some b }).put F.FE_STAT_BURST_ACTIVE f.val 1).put
          F.FE_BURST_DONE_COUNT f.val 0).partTarget f.val 3)) ∧
    (∀ b, bits w.toNat 0 0 = 0 → bits w.toNat 1 1 = 1 → (s.fe f.val).burst = some b →
      exec (.burstStop a f w) s = .next ((s.cancelBurst f.val).partTarget f.val b.after)) ∧
    (bits w.toNat 0 0 = 1 → bits w.toNat 1 1 = 1 →
      exec (.burstGo a f w) s = .next (s.discard a .fe f.val 0x88 .range))) ∧
  (∀ (f : Fin 8) (b : Burst) (s : State), (s.fe f.val).burst = some b → b.counting = true →
    let t := (s.setFe f.val { s.fe f.val with burst := none }).put F.FE_STAT_BURST_ACTIVE f.val 0
    (b.len ≤ s.get F.FE_BURST_DONE_COUNT f.val →
      exec (.burstEnd f) s = .next ((t.raise .fe f.val Ev.burstEnd).partTarget f.val b.after)) ∧
    (b.frames = true → exec (.burstTimeout f) s =
      .next (((t.raise .fe f.val Ev.burstTimeout).raise .fe f.val Ev.burstEnd).partTarget f.val b.after))))

/-- GAIN_BLOCK_END and GAIN_STEP (R86 to R88). In AUTO a peak above the upper threshold decides one index less, a peak below the
lower one for UP_HOLD blocks one more, anything between starts the count again; in HOLD and MANUAL nothing is decided. The
decided index takes effect at the boundary, counted in STEPS, with GAIN_STEP.

DIVERSITY_PAIR_FORM, PAIR_DISSOLVE and SPARE_DESIGNATE (R89 to R91). A pair takes the lower page's window and a free alignment group,
the two pages name each other; dissolving it frees the group; a spare goes to STANDBY. A pair with a slot of diversity
selection, a second spare of a kind and ROLE 3 are refused. -/
def Obligations.GainAndPairs : Prop :=
  ((∀ (f : Fin 8) (peak : Int) (s : State), s.get F.FE_STAT_STATE f.val = 3 → s.get F.FE_GAIN_MODE f.val = 0 →
    let h := s.fe f.val
    let i := s.get F.FE_GAIN_STAT_INDEX f.val
    (-50 * (s.get F.FE_AGC_HI f.val : Int) < peak →
      exec (.gainBlockEnd f peak false) s = .next (s.setFe f.val { h with gainNext := some (i - 1), upCount := 0 })) ∧
    (peak ≤ -50 * (s.get F.FE_AGC_HI f.val : Int) → peak < -50 * (s.get F.FE_AGC_LO f.val : Int) →
      h.upCount + 1 = s.get F.FE_AGC_UP_HOLD f.val →
      exec (.gainBlockEnd f peak false) s =
        .next (s.setFe f.val { h with gainNext := some (min (i + 1) (maxGain f.val)), upCount := 0 })) ∧
    (peak ≤ -50 * (s.get F.FE_AGC_HI f.val : Int) → -50 * (s.get F.FE_AGC_LO f.val : Int) ≤ peak →
      exec (.gainBlockEnd f peak false) s = .next (s.setFe f.val { h with upCount := 0 }))) ∧
  (∀ (f : Fin 8) (peak : Int) (s : State), s.get F.FE_STAT_STATE f.val = 3 → s.get F.FE_GAIN_MODE f.val ≠ 0 →
    exec (.gainBlockEnd f peak false) s = .next s ∧
    exec (.gainBlockEnd f peak true) s = .next (s.raise .fe f.val Ev.adcClip)) ∧
  (∀ (f : Fin 8) (i : Nat) (s : State), (s.fe f.val).gainNext = some i → i ≠ s.get F.FE_GAIN_STAT_INDEX f.val →
    0 < i → i < maxGain f.val → (s.hand (kindOf f.val)).run = none →
    let t := (((s.setFe f.val { s.fe f.val with gainNext := none }).put F.FE_GAIN_STAT_INDEX f.val i).count
      F.FE_GAIN_STAT_STEPS f.val 1).raise .fe f.val Ev.gainStep
    exec (.gainStep f) s = .next { t with gainLog := t.gainLog ++ [(s.now, f.val, i)] })) ∧
  ((∀ (a : Accessor) (f : Fin 8) (w : Word) (s : State), s.Acts a .fe f.val 0x90 →
    s.on F.FE_STAT_SCOUT_USE f.val = false →
    (∀ g, bits w.toNat 1 0 = 1 → s.get F.FE_ROLE_ROLE f.val = 0 → s.pairRefused f.val (bits w.toNat 6 4) = false →
      s.freeGroup = some g →
      exec (.diversityPairForm a f w) s = .next (s.formPair f.val (bits w.toNat 6 4) g)) ∧
    (bits w.toNat 1 0 = 0 → s.get F.FE_ROLE_ROLE f.val = 1 → s.diversityOn f.val = false →
      exec (.pairDissolve a f w) s = .next (s.dissolvePair f.val)) ∧
    (bits w.toNat 1 0 = 0 → s.get F.FE_ROLE_ROLE f.val = 1 → s.diversityOn f.val = true →
      exec (.pairDissolve a f w) s = .next (s.discard a .fe f.val 0x90 .range)) ∧
    (bits w.toNat 1 0 = 2 → s.get F.FE_ROLE_ROLE f.val = 0 → s.spareRefused f.val = false →
      exec (.spareDesignate a f w) s =
        .next (((s.put F.FE_ROLE_ROLE f.val 2).put F.FE_ROLE_PARTNER f.val (bits w.toNat 6 4)).partTarget f.val 1)) ∧
    (bits w.toNat 1 0 = 2 → s.get F.FE_ROLE_ROLE f.val = 0 → (s.sparePage (kindOf f.val)).isSome = true →
      exec (.spareDesignate a f w) s = .next (s.discard a .fe f.val 0x90 .range))) ∧
  (∀ (n p g : Nat) (s : State), n < p → p < 5 → g < 64 →
    let t := s.formPair n p g
    t.isPaired n = true ∧ t.isPaired p = true ∧ t.partner n = p ∧ t.partner p = n ∧ t.get F.FE_ROLE_AG n = g ∧
      (t.grp g).holder = some (.pair n)) ∧
  (∀ (n p g : Nat) (s : State), n < 8 → p < 8 → n ≠ p → s.partner n = p → s.get F.FE_ROLE_AG n = g →
    let t := s.dissolvePair n
    t.isPaired n = false ∧ t.isPaired p = false ∧ (t.grp g).holder = none))

/-! ### Calibration, rotation and aerials (R97 to R127) -/

/-- CAL_STEP_START, SCHEDULED_CAL and CAL_STEP_END (R97, R102, R104 to R107). Under GAP a step starts while the front-end rests in
SYNTH; under SCHEDULED it interrupts RECEIVE with zeros from the next frame. A step that ends is followed by the next of the
40; an implausible result keeps the previous coefficients, and its second in a row counts and raises CAL_STEP_ERR.

ROTATION_PERIOD, CAL_ROT_CMD, MATCH_ATTEMPT_END, ROTATION_SWITCH and FULL_CAL_DONE (R108 to R110). A due or commanded rotation starts a
handover to the spare of the kind; a command for a window that is not eligible is refused; an attempt within 0.02 dB, 0.2° and
1/64 sample passes, the fourth that does not abandons the handover; at the boundary after a pass the front-ends behind the two pages change
places; the freed one runs its full calibration. -/
def Obligations.CalibrationAndRotation : Prop :=
  ((∀ (f : Fin 8) (s : State), s.effective f.val = 1 → s.get F.FE_STAT_STATE f.val = 2 → s.get F.FE_CTRL_STATE f.val = 2 →
    (s.fe f.val).step = none → (s.fe f.val).queued = none → (s.fe f.val).probe = none → (s.fe f.val).calStep = none →
    s.on F.FE_STAT_RETUNING f.val = false → s.on F.FE_STAT_LOCKED f.val = true →
    exec (.calStepStart f) s = .next (s.setFe f.val { s.fe f.val with calStep := some (s.fe f.val).cursor })) ∧
  (∀ (f : Fin 8) (s : State), s.effective f.val = 2 → s.get F.FE_STAT_STATE f.val = 3 → (s.fe f.val).step = none →
    (s.fe f.val).queued = none → (s.fe f.val).probe = none → (s.fe f.val).calStep = none →
    s.on F.FE_STAT_RETUNING f.val = false → (s.fe f.val).relock = false →
    exec (.scheduledCal f) s =
      .next ((s.setFe f.val { s.fe f.val with calStep := some (s.fe f.val).cursor, calGap := true }).latchFrame f.val)) ∧
  (∀ (f : Fin 8) (i : Nat) (s : State), (s.fe f.val).calStep = some i →
    let t := s.setFe f.val { s.fe f.val with calStep := none, calGap := false, cursor := (i + 1) % 40 }
    exec (.calStepEnd f true) s = .next ((t.stepKept f.val i).startMove f.val) ∧
    exec (.calStepEnd f false) s = .next ((t.stepRejected f.val i).startMove f.val)) ∧
  (∀ (n i : Nat) (s : State), n < 8 → i < 40 → (s.hw (s.hwOf n)).failed = [] →
    (s.stepRejected n i).get F.CAL_COUNT_STEP_ERR 0 = s.get F.CAL_COUNT_STEP_ERR 0 ∧
    (s.stepRejected n i).hw (s.hwOf n) = { s.hw (s.hwOf n) with failed := [i] } ∧
    ((s.stepRejected n i).fe n) = s.fe n)) ∧
  ((∀ (lmh : Bool) (n sp : Nat) (s : State), s.sparePage (b2n lmh) = some sp → (s.hand (b2n lmh)).run = none →
    (s.hand (b2n lmh)).fullCal = false → s.nextWindow (b2n lmh) = some n →
    exec (.rotationPeriod lmh) s = .next (s.startHandover (b2n lmh) n sp)) ∧
  (∀ (a : Accessor) (w : Word) (s : State), s.Acts a .cal 0 0x48 → bit w.toNat 3 = true →
    let n := bits w.toNat 2 0
    (∀ sp, s.eligible n = true → s.sparePage (kindOf n) = some sp → (s.hand (kindOf n)).run = none →
      (s.hand (kindOf n)).fullCal = false →
      exec (.calRotCmd a w) s = .next (s.startHandover (kindOf n) n sp)) ∧
    (s.eligible n = false → exec (.calRotCmd a w) s = .next (s.discard a .cal 0 0x48 .range))) ∧
  (∀ (lmh : Bool) (gain phase delay : Int) (w sp : Nat) (s : State), (s.hand (b2n lmh)).run = some (w, sp) →
    (s.hand (b2n lmh)).passed = false →
    ∃ t : State, { t with fields := s.fields } = s ∧
      (-20 ≤ gain ∧ gain ≤ 20 ∧ -20 ≤ phase ∧ phase ≤ 20 ∧ -16 ≤ delay ∧ delay ≤ 16 →
        exec (.matchAttemptEnd lmh gain phase delay) s =
          .next (t.setHand (b2n lmh) { s.hand (b2n lmh) with passed := true })) ∧
      (¬ (-20 ≤ gain ∧ gain ≤ 20 ∧ -20 ≤ phase ∧ phase ≤ 20 ∧ -16 ≤ delay ∧ delay ≤ 16) →
        exec (.matchAttemptEnd lmh gain phase delay) s =
          .next (if 4 ≤ s.get (rotAttempts (b2n lmh)) 0 + 1 then t.abandonHandover (b2n lmh) 1 else t)) ∧
      t.get (rotAttempts (b2n lmh)) 0 = (s.get (rotAttempts (b2n lmh)) 0 + 1) % 2 ^ (rotAttempts (b2n lmh)).width) ∧
  (∀ (lmh : Bool) (w sp : Nat) (s : State), (s.hand (b2n lmh)).run = some (w, sp) → (s.hand (b2n lmh)).passed = true →
    w < 8 → sp < 8 → w ≠ sp → s.hwOf sp < 8 → s.hwOf w < 8 →
    ∃ t : State, exec (.rotationSwitch lmh) s = .next t ∧ t.hwOf w = s.hwOf sp ∧ t.hwOf sp = s.hwOf w ∧
      (t.hand (b2n lmh)).run = none ∧ (t.hand (b2n lmh)).fullCal = true ∧ (t.hand (b2n lmh)).last = w ∧
      t.on F.FE_STAT_HANDOVER w = false ∧ t.get F.FE_STAT_STATE sp = 2 ∧ ((t.fe w).calAt = some s.now)) ∧
  (∀ (lmh : Bool) (sp : Nat) (s : State), (s.hand (b2n lmh)).fullCal = true → (s.hand (b2n lmh)).due = none →
    s.sparePage (b2n lmh) = some sp →
    exec (.fullCalDone lmh) s =
      .next (((((s.setHand (b2n lmh) { s.hand (b2n lmh) with fullCal := false }).setHw (s.hwOf sp)
        { s.hw (s.hwOf sp) with done := [], doneAt := some s.now }).put F.FE_STAT_STATE sp 1).put F.FE_STAT_LOCKED sp 0).raise
        .cal 0 Ev.fullCalDone)))

/-- TUNER_WRITE, SWEEP_GO and SWEEP_DONE (R119 to R124). The matching network takes a written setting at once if no window selects the
port, else at the window's next boundary; a sweep keeps the setting before it, and at its end writes the best setting found
into the result and, if it is to be applied, into the tuner.

BIAS_SAMPLE, NOISE_FLOOR_UPDATE and LEARN (R125 to R127). The eighth low sample raises BIAS_OPEN, the second high one BIAS_SHORT and
cuts the bias if it is to; a fall of the floor below its reference by more than DROP raises NOISE_DROP once; LEARN copies
every tracked floor to its reference. -/
def Obligations.AerialInputs : Prop :=
  ((∀ (a : Accessor) (p : Fin 3) (w : Word) (s : State), s.Acts a .aerial 0 (0x90 + 4 * p.val) →
    ((s.tuner p.val).sweeping = none → s.portWindow p.val = none → exec (.tunerWrite a p w) s =
      .next (((s.putTun p.val w.toNat).setTuner p.val
        { s.tuner p.val with act := (s.putTun p.val w.toNat).tunWord p.val, waiting := false }).padWritten
        (9 + p.val)).sweeps) ∧
    (∀ n, (s.tuner p.val).sweeping = none → s.portWindow p.val = some n → exec (.tunerWrite a p w) s =
      .next (((s.putTun p.val w.toNat).setTuner p.val { s.tuner p.val with waiting := true }).padWritten
        (9 + p.val)).sweeps) ∧
    ((s.tuner p.val).sweeping ≠ none →
      exec (.tunerWrite a p w) s = .next (s.discard a .aerial 0 (0x90 + 4 * p.val) .busy).sweeps) ∧
    (s.putTun p.val w.toNat).getE F.AER_TUN_SERIES 0 p.val = bits w.toNat 6 0 ∧
    (s.putTun p.val w.toNat).getE F.AER_TUN_SHUNT 0 p.val = bits w.toNat 14 8 ∧
    (s.putTun p.val w.toNat).getE F.AER_TUN_LTAP 0 p.val = bits w.toNat 18 16) ∧
  (∀ (a : Accessor) (w : Word) (n : Nat) (s : State), s.Acts a .aerial 0 0xB8 → bit w.toNat 2 = true →
    let p := bits w.toNat 1 0
    p < 3 → s.portWindow p = some n → s.getE F.AER_SWEEP_CFG_L_MASK 0 p ≠ 0 → s.on F.FE_STAT_SCOUT_USE n = false →
    s.tuned n = true → s.get F.FE_APPLIED_START_START n ≤ s.getE F.AER_SWEEP_CFG_FREQ 0 p →
    s.getE F.AER_SWEEP_CFG_FREQ 0 p ≤ s.get F.FE_APPLIED_START_START n + s.get F.FE_APPLIED_SPAN_SPAN n →
    2 ≤ s.get F.FE_CTRL_STATE n → s.on F.FE_PROBE_CFG_PROBE_NOWAIT n = false → (s.tuner p).sweeping = none →
    let q : Probe := { tone := s.getE F.AER_SWEEP_CFG_FREQ 0 p - s.get F.FE_APPLIED_START_START n, dwell := 0,
                       sweep := some p }
    exec (.sweepGo a w) s = .next ((s.sweepAccepted p n).acceptProbe n q)) ∧
  (∀ (p : Fin 3) (gammas : List (Nat × Nat)) (phase : Int) (n : Nat) (q : Probe) (s : State),
    (s.tuner p.val).sweeping = some n → (s.fe n).probe = some q → q.sweep = some p.val → s.get F.FE_STAT_STATE n = 4 →
    let best := sweepSearch gammas (s.getE F.AER_SWEEP_CFG_L_MASK 0 p.val)
    let mag := min (gammaOf gammas best) 1024
    let w := if s.getE F.AER_SWEEP_CFG_AUTO_APPLY 0 p.val = 1 then best else (s.tuner p.val).saved
    let t := s.puts 0 [(F.AER_SWEEP_RES_SERIES, bits best 6 0), (F.AER_SWEEP_RES_SHUNT, bits best 14 8),
      (F.AER_SWEEP_RES_LTAP, bits best 18 16), (F.AER_SWEEP_RES_VALID, 1), (F.AER_SWEEP_RES_MAG, mag),
      (F.AER_SWEEP_RES_RUNNING, 0)]
    exec (.sweepDone p gammas phase) s =
      .next ((((((t.setTuner p.val { s.tuner p.val with sweeping := none, act := w, waiting := false }).putTun p.val
        w).gammaResult n mag phase).raise .aerial 0 Ev.sweepDone).leaveProbe n)))) ∧
  ((∀ (p : Fin 5) (current : Fin 65536) (s : State), bit (s.get F.AER_BIAS_EN 0) p.val = true →
    s.getE F.AER_BIAS_MEAS_CUT 0 p.val = 0 → s.domOn 1 = true →
    s.getE F.AER_BIAS_LIM_OPEN 0 p.val ≤ current.val → current.val ≤ s.getE F.AER_BIAS_LIM_SHORT 0 p.val →
    exec (.biasSample p current) s =
      .next ((((s.setAerial p.val { s.aerial p.val with low := 0, high := 0 }).putE F.AER_BIAS_MEAS_CURRENT 0 p.val
        current.val).putE F.AER_BIAS_MEAS_OPEN 0 p.val 0).putE F.AER_BIAS_MEAS_SHORT 0 p.val 0)) ∧
  (∀ (p : Fin 5) (current : Fin 65536) (s : State), bit (s.get F.AER_BIAS_EN 0) p.val = true →
    s.getE F.AER_BIAS_MEAS_CUT 0 p.val = 0 → s.domOn 1 = true → s.getE F.AER_BIAS_LIM_OPEN 0 p.val ≤ current.val →
    s.getE F.AER_BIAS_LIM_SHORT 0 p.val < current.val → (s.aerial p.val).high = 1 →
    let t := (((s.setAerial p.val { s.aerial p.val with low := 0, high := 2 }).putE F.AER_BIAS_MEAS_CURRENT 0 p.val
      current.val).putE F.AER_BIAS_MEAS_OPEN 0 p.val 0).putE F.AER_BIAS_MEAS_SHORT 0 p.val 1
    exec (.biasSample p current) s = .next (if bit (s.get F.AER_BIAS_AUTO_OFF 0) p.val = true
      then (t.raise .aerial 0 Ev.biasShort).putE F.AER_BIAS_MEAS_CUT 0 p.val 1 else t.raise .aerial 0 Ev.biasShort)) ∧
  (∀ (p : Fin 5) (floor : Int) (s : State), s.domOn 1 = true → -32767 ≤ floor → floor ≤ 32767 →
    let t := s.putE F.AER_NF_FLOOR 0 p.val (ofInt 16 floor)
    let fall := sgn 16 (s.getE F.AER_NF_REF 0 p.val) - floor
    (s.portServed p.val = false → exec (.noiseFloorUpdate p floor) s = .next (s.putE F.AER_NF_FLOOR 0 p.val 0x8000)) ∧
    (s.portServed p.val = true → s.getE F.AER_NF_REF 0 p.val = 0x8000 → exec (.noiseFloorUpdate p floor) s = .next t) ∧
    (s.portServed p.val = true → s.getE F.AER_NF_REF 0 p.val ≠ 0x8000 → (s.aerial p.val).dropped = false →
      5 * (s.get F.AER_NF_CFG_DROP 0 : Int) < fall →
      exec (.noiseFloorUpdate p floor) s =
        .next ((t.setAerial p.val { s.aerial p.val with dropped := true }).raise .aerial 0 Ev.noiseDrop))) ∧
  (∀ (a : Accessor) (w : Word) (s t : State), s.Acts a .aerial 0 0x88 →
    plainWrite .aerial 0 0x88 (s.major a 0x19) w s = .ok t →
    exec (.learn a w) s = .next (if bit w.toNat 8 = true then (List.range 5).foldl (fun u p =>
      if u.getE F.AER_NF_FLOOR 0 p = 0x8000 then u else u.putE F.AER_NF_REF 0 p (u.getE F.AER_NF_FLOOR 0 p)) t else t)))

/-! ### Slots and banks (R75, R129 to R169) -/

/-- SLOT_COMMIT (R131, R145, R159, R160, R169). On a disabled slot a bound configuration without diversity that passes the checks is applied:
the intrinsic latency is reported, a line too short grows, a new binding resets the lane; UNBOUND frees the line's pots; a
configuration that fails a check is refused and changes nothing but what reports the refusal.

SLOT_ENABLE, SLOT_DISABLE, SLOT_START and SLOT_STOP (R144, R161). ENABLE of a bound slot makes its start due, and the next boundary
starts it with its delay in force in full; clearing ENABLE makes the stop of a running slot due, and the boundary discards
its line and resets its detectors; an unbound slot is not enabled. -/
def Obligations.SlotCommitsAndRuns : Prop :=
  ((∀ (a : Accessor) (n : Fin 512) (w : Word) (s : State), s.ActsNow a .slot n.val 0x54 w → bit w.toNat 0 = true →
    s.on F.SLOT_STAT_SHADOW n.val = false → s.enabled .slot n.val = false → (s.staged n.val).kind ≠ 0 →
    (s.staged n.val).div = false →
    (s.commitOk n.val (s.staged n.val) = true → ∀ t, (s.releaseShadow n.val).applyBind n.val (s.staged n.val) = some t →
      exec (.slotCommit a n w) s = .next t) ∧
    (s.commitOk n.val (s.staged n.val) = false →
      exec (.slotCommit a n w) s = .next (s.discard a .slot n.val 0x54 .range))) ∧
  (∀ (n : Nat) (b : Bind) (s : State), s.slotGroup n = none → (s.slot n).target + 0 ≤ maxDelay →
    linePots (s.slot n).target ≤ (s.potsOf (.slotLine n)).length →
    ∃ t : State, s.applyBind n b = some t ∧ (t.slot n).applied = some b ∧ t.eqOf n = 0 ∧ t.pots = s.pots) ∧
  (∀ (a : Accessor) (n : Fin 512) (w : Word) (s : State), s.ActsNow a .slot n.val 0x54 w → bit w.toNat 0 = true →
    s.on F.SLOT_STAT_SHADOW n.val = false → s.enabled .slot n.val = false → (s.staged n.val).kind = 0 →
    s.slotGroup n.val = none → s.shadowOf n.val = none →
    let t := s.freePotsOf (.slotLine n.val)
    exec (.slotCommit a n w) s =
      .next (((t.setSlot n.val { t.slot n.val with applied := some (s.staged n.val), detached := false }).puts n.val
        [(F.SLOT_LAT_LAT, 0), (F.SLOT_STAT_POTS, 0)]).resetLane n.val)) ∧
  (∀ (b : Bind) (s : State), b.kind = 1 → b.window < 5 →
    (s.fits b = true ↔ (sgn 32 b.word).natAbs * 3840000 * (s.profileEdge b.profile 256000).2 +
      (s.profileEdge b.profile 256000).1 * 2 ^ 32 ≤ 1800000 * 2 ^ 32 * (s.profileEdge b.profile 256000).2))) ∧
  ((∀ (a : Accessor) (n : Fin 512) (w : Word) (s : State), s.HeadActs a .slot n.val 0x10 false true →
    bits w.toNat 4 1 = 0 → s.powered .slot n.val = true → s.on (H.RESET .slot) n.val = false →
    s.on F.SLOT_STAT_SHADOW n.val = false → s.shadowOf n.val = none →
    (∀ b, bit w.toNat 0 = true → s.enabled .slot n.val = false → (s.slot n.val).applied = some b → b.kind ≠ 0 →
      exec (.slotEnable a n w) s =
        .next ((s.put (H.ENABLE .slot) n.val 1).setSlot n.val { s.slot n.val with startDue := true }).sweeps) ∧
    (bit w.toNat 0 = true → s.enabled .slot n.val = false → (s.slot n.val).applied = none →
      exec (.slotEnable a n w) s = .next (s.discard a .slot n.val 0x10 .range).sweeps) ∧
    (bit w.toNat 0 = false → s.enabled .slot n.val = true →
      ∃ u : State, exec (.slotDisable a n w) s = .next u.sweeps ∧ u.enabled .slot n.val = false ∧
        (u.slot n.val).startDue = false ∧ (u.slot n.val).stopDue = s.on F.SLOT_STAT_RUNNING n.val ∧
        { u with fields := s.fields, slots := s.slots } = s)) ∧
  (∀ (n : Fin 512) (s : State), (s.slot n.val).startDue = true → exec (.slotStart n) s = .next (s.slotStart n.val)) ∧
  (∀ (n : Fin 512) (s : State), (s.slot n.val).stopDue = true → exec (.slotStop n) s = .next (s.slotStop n.val)) ∧
  (∀ (n : Nat) (b : Bind) (s : State), (s.slot n).applied = some b → b.context = none → n < 512 →
    ((s.slotStart n).slot n).startDue = false ∧ ((s.slotStart n).slot n).slewFrom = (s.slot n).target ∧
    ((s.slotStop n).slot n).line = [] ∧ ((s.slotStop n).slot n).stopDue = false))

/-- DELAY_COMMAND, DELAY_STEP, DLY_ZC_TIMEOUT and DLY_REACHED (R139 to R143). A command whose line needs no more pots starts the mode it
names: a slew, a step at a sign change, or a step at once; its end, or 65,536 samples without a sign change, put the
actual delay at the target with DLY_REACHED; a step to a shorter delay counts the samples skipped. A total beyond the
longest delay is refused.

AG_JOIN and AG_LEAVE (R145, R146). A disabled bound slot joins a group that admits it: the first slot fixes the reference, the
equalising delay is the reference less its latency; on leaving it becomes 0. Groups from 61 up, held groups and a latency
above the reference refuse it. -/
def Obligations.DelaysAndGroups : Prop :=
  ((∀ (a : Accessor) (n : Fin 512) (w : Word) (s : State), s.ActsNow a .slot n.val 0x60 w → bit w.toNat 0 = true →
    s.on F.SLOT_STAT_SHADOW n.val = false → s.shadowOf n.val = none →
    let v := s.get F.SLOT_DLY_INT n.val * 1024 + s.get F.SLOT_DLY_FRAC n.val
    let mode := if s.major a (0x20 + n.val / 16) = 1 then 0 else s.get F.SLOT_DLY_MODE n.val
    (maxDelay < v + s.eqOf n.val →
      exec (.delayCommand a n w) s = .next (s.discard a .slot n.val 0x60 .range)) ∧
    (v + s.eqOf n.val ≤ maxDelay → mode ≠ 1 → linePots (v + s.eqOf n.val) ≤ (s.potsOf (.slotLine n.val)).length →
      exec (.delayCommand a n w) s = .next ((s.put F.SLOT_STAT_POTS n.val
        (max (s.potsOf (.slotLine n.val)).length (linePots (v + s.eqOf n.val)))).startDelay n.val v mode))) ∧
  (∀ (n : Fin 512) (s : State), s.on F.SLOT_DLY_ACT_ZC_PENDING n.val = true ∨ (s.slot n.val).stepNow = true →
    exec (.delayStep n) s = .next (s.takeStep n.val)) ∧
  (∀ (n : Fin 512) (s : State), s.on F.SLOT_DLY_ACT_ZC_PENDING n.val = true →
    exec (.dlyZcTimeout n) s = .next ((s.raise .slot n.val Ev.dlyZcTimeout).takeStep n.val)) ∧
  (∀ (n : Fin 512) (s : State), s.on F.SLOT_DLY_ACT_MOVING n.val = true →
    exec (.dlyReached n) s =
      .next (((s.delayRest n.val (s.slot n.val).target).trimLine n.val).raise .slot n.val Ev.dlyReached)) ∧
  (∀ (n : Nat) (s : State), (s.slot n).slewFrom ≤ (s.slot n).target → s.takeStep n = s.delayReached n) ∧
  (∀ (n : Nat) (s : State), (s.slot n).target < (s.slot n).slewFrom →
    s.takeStep n = (s.count F.SLOT_CULL_DLY_COUNT n (((s.slot n).slewFrom - (s.slot n).target) / 1024)).delayReached n) ∧
  (∀ (n : Nat) (s : State), ((s.delayReached n).slot n).slewFrom = (s.slot n).target ∧
    ((s.delayReached n).slot n).stepNow = false)) ∧
  ((∀ (a : Accessor) (n : Fin 512) (w : Word) (b : Bind) (s : State), s.Acts a .slot n.val 0x6C → bit w.toNat 8 = true →
    s.on F.SLOT_STAT_SHADOW n.val = false → (s.slot n.val).applied = some b → b.kind ≠ 0 → s.enabled .slot n.val = false →
    s.slotGroup n.val = none →
    let g := bits w.toNat 5 0
    let ref := s.get F.SLOT_AG_REF_REF n.val
    let lat := s.get F.SLOT_LAT_LAT n.val
    let r := if (s.grp g).hasSlot then (s.grp g).ref else ref
    (s.joinRefused g ref lat (s.owner .slot n.val) = true →
      exec (.agJoin a n w) s = .next (s.discard a .slot n.val 0x6C .range)) ∧
    (∀ t, s.joinRefused g ref lat (s.owner .slot n.val) = false →
      (s.slot n.val).target + eqDelay r lat b.ticks ≤ maxDelay →
      s.growLine n.val (linePots ((s.slot n.val).target + eqDelay r lat b.ticks)) = some t →
      exec (.agJoin a n w) s = .next ((((t.groupJoin g ref (.slot n.val)).putEq n.val (eqDelay r lat b.ticks)).put
        F.SLOT_AG_GROUP n.val g).put F.SLOT_AG_MEMBER n.val 1))) ∧
  (∀ (g ref lat f : Nat) (s : State), 61 ≤ g ∨ (s.grp g).holder ≠ none ∨ 32 ≤ (s.grp g).members.length →
    s.joinRefused g ref lat f = true) ∧
  (∀ (g ref n : Nat) (s : State), ((s.groupJoin g ref (.slot n)).grp g).members = (s.grp g).members ++ [.slot n] ∧
    ((s.groupJoin g ref (.slot n)).grp g).ref = if (s.grp g).hasSlot then (s.grp g).ref else ref) ∧
  (∀ (a : Accessor) (n : Fin 512) (w : Word) (s : State), s.Acts a .slot n.val 0x6C → bit w.toNat 8 = false →
    s.on F.SLOT_STAT_SHADOW n.val = false →
    exec (.agLeave a n w) s = .next ((s.slotLeave n.val).put F.SLOT_AG_GROUP n.val (bits w.toNat 5 0))) ∧
  (∀ (n g : Nat) (s : State), s.slotGroup n = some g → n < 512 →
    .slot n ∉ ((s.slotLeave n).grp g).members ∧ (s.slotLeave n).eqOf n = 0))

/-- PK_RST, RMS_RST, ENV_RST, RMS_BLOCK_END and DETECTOR_REPORT (R148 to R153). A detector's reset waits for the next input sample; a block's
RMS is the root of the mean square of its valid samples, and a block without one is marked; a running slot takes the
samples in, and reports while INTERVAL is not 0.

PROF_DATA_WRITE, PROF_COMMIT and RAW_CAPTURE (R137, R138, R155). A coefficient is an 18-bit number at the index, which goes on to the
next; a commit with the index past the last coefficient loads the profile, unless a slot in use has it; raw capture
needs a ring of PF_0 and has room for four VHF and three LMH windows.

SNAP_GO, SNAP_ABORT, SNAP_DONE and SNAP_TIMEOUT (R156 to R158). GO takes the pots that the bins need and starts; the end, an abort and
the timeout free them, each with its event; the end delivers one spectrum record to PF_0. -/
def Obligations.DetectorsAndRaw : Prop :=
  ((∀ (a : Accessor) (n : Fin 512) (w : Word) (s : State), s.Acts a .slot n.val 0x90 →
    s.on F.SLOT_STAT_SHADOW n.val = false →
    ∀ c ∈ [Instr.pkRst a n w, .rmsRst a n w, .envRst a n w],
      exec c s = .next (s.setSlot n.val { s.slot n.val with
        pkReset := (s.slot n.val).pkReset || bit w.toNat 0
        rmsReset := (s.slot n.val).rmsReset || bit w.toNat 1
        envReset := (s.slot n.val).envReset || bit w.toNat 2 })) ∧
  (∀ (n : Fin 512) (sumSq count : Nat) (s : State), s.on F.SLOT_STAT_RUNNING n.val = true →
    s.on F.DET_RMS_CFG_EXP n.val = false →
    (count = 0 → exec (.rmsBlockEnd n sumSq count) s = .next (s.put F.SLOT_STAT_RMS_INVALID n.val 1)) ∧
    (0 < count → exec (.rmsBlockEnd n sumSq count) s =
      .next (((s.put F.DET_RMS_VAL_VALUE n.val (sat32 (sqrtRatio sumSq count))).put F.SLOT_STAT_RMS_INVALID n.val 0).setSlot
        n.val { s.slot n.val with rmsReset := false }))) ∧
  (∀ (n : Fin 512) (pk rms env : List (Option Nat)) (s : State), s.on F.SLOT_STAT_RUNNING n.val = true →
    (s.get F.DET_REPORT_INTERVAL n.val = 0 →
      exec (.detectorReport n pk rms env) s = .next (s.feedDetectors n.val pk rms env)) ∧
    (s.get F.DET_REPORT_INTERVAL n.val ≠ 0 →
      exec (.detectorReport n pk rms env) s =
        .next ((s.feedDetectors n.val pk rms env).slotEmit n.val ((s.feedDetectors n.val pk rms env).detectorRec n.val)))) ∧
  (∀ hold rate p h v : Nat, (p ≤ v → pkStep hold 0 rate (p, h) v = (v, hold)) ∧
    (v < p → 0 < h → pkStep hold 0 rate (p, h) v = (p, h - 1)))) ∧
  ((∀ (a : Accessor) (w : Word) (s : State), s.Acts a .bank 0 0x88 →
    let i := s.get F.PROF_ADDR_INDEX 0
    (i < (s.get F.PROF_SEL_TAPS 0 + 1) / 2 → exec (.profDataWrite a w) s =
      .next ({ s with loader := Tbl.set s.loader 0 i (sgn 18 (bits w.toNat 17 0)) }.put F.PROF_ADDR_INDEX 0 (i + 1))) ∧
    ((s.get F.PROF_SEL_TAPS 0 + 1) / 2 ≤ i →
      exec (.profDataWrite a w) s = .next (s.discard a .bank 0 0x88 .range))) ∧
  (∀ (a : Accessor) (w : Word) (s : State), s.Acts a .bank 0 0x8C → bit w.toNat 0 = true →
    let p := s.get F.PROF_SEL_PROFILE 0
    let m := (s.get F.PROF_SEL_TAPS 0 + 1) / 2
    (s.get F.PROF_ADDR_INDEX 0 = m → s.profileUsed p = false →
      ∃ t : State, exec (.profCommit a w) s = .next t ∧
        t.profile p = some ⟨s.get F.PROF_SEL_TAPS 0, s.get F.PROF_SEL_EDGE 0, (List.range m).map fun i => Tbl.get s.loader 0 i⟩ ∧
        (∀ q, q ≠ p → t.profile q = s.profile q) ∧
        { t with profiles := s.profiles, fields := s.fields, out := s.out, attn := s.attn } = s) ∧
    (s.get F.PROF_ADDR_INDEX 0 ≠ m ∨ s.profileUsed p = true →
      exec (.profCommit a w) s = .next (s.discard a .bank 0 0x8C .range))) ∧
  (∀ (a : Accessor) (f : Fin 8) (w : Word) (s t : State), s.Acts a .bank f.val 0x58 →
    plainWrite .bank f.val 0x58 (s.major a (0x10 + f.val)) w s = .ok t →
    (t.on F.BANK_RAW_EN f.val = false → exec (.rawCapture a f w) s = .next t) ∧
    (t.on F.BANK_RAW_EN f.val = true → t.owner .ring (t.get F.BANK_RAW_RING f.val) ≠ 0 →
      exec (.rawCapture a f w) s = .next (s.discard a .bank f.val 0x58 .range)) ∧
    (t.on F.BANK_RAW_EN f.val = true → t.owner .ring (t.get F.BANK_RAW_RING f.val) = 0 → f.val < 5 →
      ([0, 1, 2, 3, 4].filter fun m => t.on F.BANK_RAW_EN m).length ≤ 4 → exec (.rawCapture a f w) s = .next t))) ∧
  ((∀ (a : Accessor) (f : Fin 8) (w : Word) (s : State), s.Acts a .bank f.val 0x64 → bits w.toNat 0 0 = 1 →
    bits w.toNat 1 1 = 0 → s.snap f.val = none →
    let x : Snap := { fine := s.on F.BANK_SNAP_CFG_MODE f.val && s.major a (0x10 + f.val) != 1,
                      order := s.get F.BANK_SNAP_CFG_ORDER f.val, first := s.get F.BANK_SNAP_CFG_FIRST f.val,
                      last := s.get F.BANK_SNAP_CFG_LAST f.val, avg := s.get F.BANK_SNAP_AVG_AVG f.val,
                      ring := s.get F.BANK_SNAP_AVG_RING f.val }
    let pots := if x.fine then (4 * x.bins + 65535) / 65536 else 0
    x.first ≤ x.last → s.sbApplied f.val x.first = true → s.sbApplied f.val x.last = true → x.bins ≤ 262144 →
    s.owner .ring x.ring = 0 →
    (∀ t, s.allocPots 0 (.snap f.val) pots = some t → exec (.snapGo a f w) s =
      .next ((t.setSnap f.val (some x)).puts f.val
        [(F.BANK_SNAP_STAT_RUNNING, 1), (F.BANK_SNAP_STAT_POTS, pots), (F.BANK_SNAP_STAT_FRAMES, 0)])) ∧
    (s.allocPots 0 (.snap f.val) pots = none →
      exec (.snapGo a f w) s = .next (s.discard a .bank f.val 0x64 .range))) ∧
  (∀ (a : Accessor) (f : Fin 8) (w : Word) (s : State), s.Acts a .bank f.val 0x64 → bits w.toNat 0 0 = 0 →
    bits w.toNat 1 1 = 1 → (s.snap f.val).isSome = true →
    exec (.snapAbort a f w) s = .next ((s.snapEnd f.val).raise .bank f.val Ev.snapAbort)) ∧
  (∀ (f : Fin 8) (vals : List Int) (x : Snap) (s : State), s.snap f.val = some x →
    let r : Rec := { kind := .window, source := f.val, time := s.now, epoch := s.epoch (.fe f.val),
                     payload := .spectrum (b2n x.fine) x.order x.first x.last x.avg
                       ((vals ++ List.replicate x.bins 0).take x.bins) }
    exec (.snapDone f vals) s =
      .next ((((s.snapEnd f.val).put F.BANK_SNAP_STAT_FRAMES f.val x.avg).deliver 0 x.ring r).raise .bank f.val
        Ev.snapDone) ∧
    exec (.snapTimeout f) s = .next ((s.snapEnd f.val).raise .bank f.val Ev.snapTimeout)) ∧
  (∀ (f : Nat) (s : State), (s.snapEnd f).snap f = none ∧ (s.snapEnd f).potsOf (.snap f) = []))

/-- BANK_FRAME (R20, R67, R75, R87, R109, R119, R130, R161). At a boundary with the PLL locked the frame that ends is counted by its flag and enters the
slots; then, in this order, a retune that is due starts, a matched handover of the window switches, a decided gain and a
waiting tuner setting take effect, slots stop and start, and the flag of the next frame is decided. With the bank domain off
or the PLL unlocked nothing happens. -/
def Obligations.BankFrames : Prop :=
  (∀ (f : Fin 8) (full : Nat) (sat : List (Fin 512)) (s : State), s.domOn 11 = true → s.pllLocked = true →
    (s.fe f.val).stopped = none →
    let t := ((s.frameEnds f.val).satSlots f.val sat).gainFast f.val full
    let t := (t.puts f.val [(F.BANK_FRAME_LO_TIME, s.now % 2 ^ 32), (F.BANK_FRAME_HI_TIME, s.now / 2 ^ 32)]).retuneStart1 f.val
    (∀ sp, (t.hand (kindOf f.val)).run = some (f.val, sp) → exec (.bankFrame f full sat) s =
      .next ((((((t.rotationSwitchIfDue (kindOf f.val)).gainStepIfDue f.val).tunerBoundary f.val).slotsBoundary
        f.val).latchFrame f.val).burstBoundary f.val)) ∧
    ((t.hand (kindOf f.val)).run = none → exec (.bankFrame f full sat) s =
      .next (((((t.gainStepIfDue f.val).tunerBoundary f.val).slotsBoundary f.val).latchFrame f.val).burstBoundary f.val))) ∧
  (∀ (f : Fin 8) (full : Nat) (sat : List (Fin 512)) (s : State), s.domOn 11 = false ∨ s.pllLocked = false →
    exec (.bankFrame f full sat) s = .next s) ∧
  (∀ (n : Nat) (s : State), s.get F.FE_STAT_STATE n ≠ 3 → ((s.latchFrame n).fe n).frameFlag = some 1) ∧
  (∀ (n : Nat) (s : State), s.get F.FE_STAT_STATE n = 3 → (s.fe n).step = none → (s.fe n).probe = none →
    (s.on F.FE_STAT_RETUNING n = true → ((s.latchFrame n).fe n).frameFlag = some 0) ∧
    (s.on F.FE_STAT_RETUNING n = false → (s.fe n).relock = false → s.lineLocked (s.hwOf n) = true →
      ((s.latchFrame n).fe n).frameFlag = if (s.fe n).calGap then some 2 else none))

/-! ### Analogue lanes (R170 to R201) -/

/-- PILOT_BLOCK (R174, R176): the third good block in a row declares the pilot, with the blend starting from 0; the fifth low one in a
row, or one of more than 30 degrees of phase error, ends it; a block without valid samples changes nothing.

FM_SNR_UPDATE, OFFSET_UPDATE, AM_SNR_UPDATE and BLEND_UPDATE (R176 to R179, R186, R190). The SNR is clamped to −10 to +90 dB, and that of
AM is absent without lock; the offset saturates; the blend factor moves towards its target by no more than its rates, and
stereo is shown while it is above 0.

AM_LOCK_EVAL, AMSS_GROUP and PCM_BLOCK_END (R186, R188, R191 to R195). Lock comes when ten times the mean of Q is below the carrier and
goes when it is above three times it; a good AMSS group is counted, delivered and examined, the eighth bad one in a row
ends synchronisation; a PCM block counts its zeroed periods and is delivered, with the time of its first sample, while
PCM is on. -/
def Obligations.AnalogueLanes : Prop :=
  ((∀ (n : Fin 512) (level err : Nat) (s : State), s.laneRuns n.val 1 = true →
    let t := s.put F.AN_LEVEL_LEVEL n.val (min level 65535)
    exec (.pilotBlock n true level err) s = .next (t.pilotDecide n.val level err) ∧
    exec (.pilotBlock n false level err) s = .next s) ∧
  (∀ (n level err : Nat) (s : State), s.on F.AN_STAT_LOCK n = false → s.get F.FM_CFG_PILOT_ON n * 100 ≤ level →
    err < 1000 → (s.lane n).pilotUp = 2 →
    s.pilotDecide n level err =
      ((s.setLane n { s.lane n with pilotUp := 0, pilotDn := 0, blend := 0 }).puts n
        [(F.AN_STAT_LOCK, 1), (F.AN_STAT_BLEND, 0), (F.AN_STAT_STEREO, 0)]).raise .slot n Ev.pilotOn) ∧
  (∀ (n level err : Nat) (s : State), s.on F.AN_STAT_LOCK n = true →
    (level < s.get F.FM_CFG_PILOT_OFF n * 100 ∧ (s.lane n).pilotDn = 4) ∨ 3000 < err →
    s.pilotDecide n level err =
      ((s.setLane n { s.lane n with pilotUp := 0, pilotDn := 0 }).put F.AN_STAT_LOCK n 0).raise .slot n Ev.pilotOff) ∧
  (∀ (n level err : Nat) (s : State), s.on F.AN_STAT_LOCK n = true → s.get F.FM_CFG_PILOT_OFF n * 100 ≤ level →
    err ≤ 3000 → s.pilotDecide n level err = s.setLane n { s.lane n with pilotUp := 0, pilotDn := 0 })) ∧
  ((∀ (n : Fin 512) (nHi mp : Nat) (s : State), s.laneRuns n.val 1 = true →
    exec (.fmSnrUpdate n true nHi mp) s = .next ((s.put F.AN_SNR_SNR n.val
      (ofInt 16 (snrOf (2812500000 * 622592) (nHi * 3375)))).put F.AN_SNR_MP n.val (min mp 1000))) ∧
  (∀ p q : Nat, -1000 ≤ snrOf p q ∧ snrOf p q ≤ 9000) ∧
  (∀ (n : Fin 512) (mean : Int) (s : State), s.laneRuns n.val 1 = true ∨ s.laneRuns n.val 2 = true →
    exec (.offsetUpdate n true mean) s = .next (s.put F.AN_OFS_OFS n.val (satS 32 mean))) ∧
  (∀ (n : Fin 512) (pq : Nat) (level : Int) (s : State), s.laneRuns n.val 2 = true →
    exec (.amSnrUpdate n true pq level) s = .next ((s.put F.AN_SNR_SNR n.val
      (if s.on F.AN_STAT_LOCK n.val = true then ofInt 16 (snrOf 500000000000 pq) else 0x8000)).put F.AN_LEVEL_LEVEL n.val
      (satS 16 level))) ∧
  (∀ (n : Fin 512) (s : State), s.laneRuns n.val 1 = true →
    let target := if s.on F.FM_CFG_STEREO n.val = true ∧ s.on F.AN_STAT_LOCK n.val = true then
      blendTarget (sgn 16 (s.get F.AN_SNR_SNR n.val)) (s.get F.FM_BLEND_SNR_MONO n.val) (s.get F.FM_BLEND_SNR_STEREO n.val)
      else 0
    let b := blendMove (s.lane n.val).blend target (mkRat 1 (s.get F.FM_BLEND_BLEND_DN n.val))
      (mkRat 1 (10 * s.get F.FM_BLEND_BLEND_UP n.val))
    exec (.blendUpdate n) s = .next ((s.setLane n.val { s.lane n.val with blend := b }).puts n.val
      [(F.AN_STAT_BLEND, (b * 1024 + mkRat 1 2).floor.toNat), (F.AN_STAT_STEREO, b2n (decide (0 < b)))])) ∧
  (∀ b target dn up : Rat, 0 ≤ dn → 0 ≤ up →
    (target < b → target ≤ blendMove b target dn up ∧ blendMove b target dn up ≤ b) ∧
    (b ≤ target → b ≤ blendMove b target dn up ∧ blendMove b target dn up ≤ target))) ∧
  ((∀ (n : Fin 512) (meanQ carrier : Nat) (s : State), s.laneRuns n.val 2 = true →
    (s.on F.AN_STAT_LOCK n.val = true → 3 * carrier < 10 * meanQ → exec (.amLockEval n true meanQ carrier) s =
      .next (((s.puts n.val [(F.AN_STAT_LOCK, 0), (F.AN_SNR_SNR, 0x8000)]).raise .slot n.val Ev.pilotOff).showDet n.val)) ∧
    (s.on F.AN_STAT_LOCK n.val = false → 10 * meanQ < carrier → exec (.amLockEval n true meanQ carrier) s =
      .next (((s.put F.AN_STAT_LOCK n.val 1).raise .slot n.val Ev.pilotOn).showDet n.val)) ∧
    (s.on F.AN_STAT_LOCK n.val = false → carrier ≤ 10 * meanQ → exec (.amLockEval n true meanQ carrier) s = .next s)) ∧
  (∀ (n : Fin 512) (bitCount : Nat) (group : List Byte) (s : State), s.laneRuns n.val 2 = true →
    s.on F.AM_AMSS_EN n.val = true → s.on F.AN_STAT_DSYNC n.val = true →
    let t := (s.count F.DATA_OK_COUNT n.val 1).slotEmit n.val
      { s.slotRec n.val s.now (.amss 0 bitCount group) with failed := false }
    exec (.amssGroup n false true bitCount group) s =
      .next ((t.alarmAmss n.val group).setLane n.val { (t.alarmAmss n.val group).lane n.val with amssBad := 0 })) ∧
  (∀ (n : Fin 512) (bitCount : Nat) (group : List Byte) (s : State), s.laneRuns n.val 2 = true →
    s.on F.AM_AMSS_EN n.val = true → s.on F.AN_STAT_DSYNC n.val = true → s.on F.AM_AMSS_ALL n.val = false →
    let t := s.count F.DATA_BAD_COUNT n.val 1
    ((s.lane n.val).amssBad < 7 → exec (.amssGroup n false false bitCount group) s =
      .next (t.setLane n.val { s.lane n.val with amssBad := (s.lane n.val).amssBad + 1 })) ∧
    ((s.lane n.val).amssBad = 7 → exec (.amssGroup n false false bitCount group) s =
      .next ((((t.setLane n.val { s.lane n.val with amssBad := 0 }).put F.AN_STAT_DSYNC n.val 0).raise .slot n.val
        Ev.rdsLost).alarmSourceLost 0 n.val))) ∧
  (∀ (n : Fin 512) (count : Nat) (runs : List Run) (data : List Byte) (s : State),
    s.laneRuns n.val 1 = true ∨ s.laneRuns n.val 2 = true →
    let t := s.count F.AUD_CULL_COUNT n.val (zeroedPeriods runs)
    (s.on F.AUD_OUT_PCM_EN n.val = false → exec (.pcmBlockEnd n count runs false data) s = .next t) ∧
    (s.on F.AUD_OUT_PCM_EN n.val = true → exec (.pcmBlockEnd n count runs false data) s =
      .next (t.slotEmit n.val (s.slotRec n.val (s.time - BitVec.ofNat 64 (count * 5120)).toNat
        (.pcm { count := count, format := s.get F.AUD_OUT_PCM_PACK n.val, channels := 2, rate := 48000 * 16,
                runs := runs, data := data }))))))

/-- RDS_BLOCK, RDS_SEARCH_RESTART and BLER_WINDOW_END (R182 to R185). A running FM lane with RDS on takes the block: while it searches, a
second block that matches its offset in order declares synchronisation; while it is synchronised the block is decoded at
its place, counted good or bad, and 45 bad ones of 50 start the search afresh. Setting EN starts the search, and the window
reports what was not corrected in a thousand.

A block with its check word decodes to its information word, with status 0, at the offset that it was sent with (R182). The code is that
of IEC 62106, which the specification names and does not repeat: the polynomial and the offset words are the model's
(log entry 44). -/
def Obligations.RdsDecoding : Prop :=
  ((∀ (n : Fin 512) (word : BitVec 26) (gap : Nat) (excluded : Bool) (sigs : List Sig) (s : State),
    s.laneRuns n.val 1 = true → s.on F.FM_RDS_EN n.val = true →
    let t := s.rdsTake n.val word.toNat gap excluded
    exec (.rdsBlock n word gap excluded sigs) s =
      .next (if t.on F.AN_STAT_DSYNC n.val = true ∧ excluded = false then t.folSigs (t.slotIds n.val) none sigs else t)) ∧
  (∀ (n w gap p : Nat) (excluded : Bool) (s : State), (s.lane n).rdsNext = some p →
    let d := rdsAt w p (s.get F.FM_RDS_CORR n)
    s.rdsTake n w gap excluded = s.rdsBlock n d.1 d.2.1 (if excluded then 3 else d.2.2)) ∧
  (∀ (n w gap : Nat) (s : State), (s.lane n).rdsNext = none → rdsMatch w (s.get F.FM_RDS_STD n) = none →
    s.rdsTake n w gap false = s.setLane n { s.lane n with
      rdsSeen := ((s.lane n).rdsSeen.map fun p => (p.1, p.2 + gap)).filter fun p => decide (p.2 ≤ 104) }) ∧
  (∀ (a : Accessor) (n : Fin 512) (w : Word) (s t : State), s.Acts a .slot n.val 0xC8 →
    s.on F.SLOT_STAT_SHADOW n.val = false → s.slotKind n.val = 1 →
    plainWrite .fm n.val 0xC8 (s.major a (0x20 + n.val / 16)) w s = .ok t → s.on F.FM_RDS_EN n.val = false →
    t.on F.FM_RDS_EN n.val = true →
    exec (.rdsSearchRestart a n w) s = .next ((t.rdsRestart n.val).blerStop n.val)) ∧
  (∀ (n : Fin 512) (s : State), s.laneRuns n.val 1 = true → s.on F.FM_RDS_EN n.val = true →
    (s.lane n.val).blerOn = true →
    let k := s.get F.FM_RDS_BLER_WIN n.val
    exec (.blerWindowEnd n) s = .next ((s.setLane n.val { s.lane n.val with blerGood := 0 }).puts n.val
      [(F.RDS_BLER_BLER, 1000 * (k - (s.lane n.val).blerGood) / k), (F.RDS_BLER_VALID, 1)]))) ∧
  (∀ v : Nat, v < 65536 → ∀ c ∈ [0, 1, 2, 3, 4], ∀ corr : Nat,
    rdsDecode ((v * 1024 + rdsSyndrome (v * 1024)) ^^^ rdsOffset c) c corr = (v, 0))

/-! ### Contexts and taps (R15 to R18, R202 to R238) -/

/-- CONTEXT_ENABLE, CONTEXT_DISABLE and ACQUISITION_RESTART (R202, R205, R222). A context is enabled when its Viterbi charge fits, a DRM context
taking three pots; disabled it is OFF, and a DRM context frees its pots; a new MODE starts acquisition again.

DAB_FRAME and DRM_FRAME (R83, R115 to R118, R202, R207, R215, R217). A frame found in SEARCH declares FRAME, in DAB the second in a row;
a frame missed in any further state enters COAST, which the fourth in a row leaves for SEARCH with SYNC_LOST and the next
good one for the state before; an OFF context is not changed. -/
def Obligations.ContextsAndFrames : Prop :=
  ((∀ (a : Accessor) (c : Ctx) (w : Word) (s : State), s.HeadActs a c.blk c.num 0x10 false true → bits w.toNat 4 1 = 0 →
    s.powered c.blk c.num = true → s.on (H.RESET c.blk) c.num = false →
    (∀ i, c = .dab i → bit w.toNat 0 = true → s.enabled .dab i.val = false →
      s.vitUsed + ficRate (s.get F.DAB_CFG_MODE i.val) ≤ vitLimit →
      exec (.contextEnable a c w) s = .next ((s.put (H.ENABLE .dab) i.val 1).ctxRefresh c).sweeps) ∧
    (∀ i t, c = .drm i → bit w.toNat 0 = true → s.enabled .drm i.val = false → s.vitUsed + 32 ≤ vitLimit →
      s.allocPots (s.owner .drm i.val) (.drm i.val) 3 = some t →
      exec (.contextEnable a c w) s = .next ((t.put (H.ENABLE .drm) i.val 1).ctxRefresh c).sweeps) ∧
    (∀ i, c = .dab i → bit w.toNat 0 = true → s.enabled .dab i.val = false →
      vitLimit < s.vitUsed + ficRate (s.get F.DAB_CFG_MODE i.val) →
      exec (.contextEnable a c w) s = .next (s.discard a .dab i.val 0x10 .range).sweeps) ∧
    (bit w.toNat 0 = false → s.enabled c.blk c.num = true →
      exec (.contextDisable a c w) s = .next (s.ctxDisable c).sweeps)) ∧
  (∀ (c : Ctx) (s : State), s.ctxState c = 0 → s.ctxOff c = s) ∧
  (∀ (d : Fin 24) (s : State), (s.ctxDisable (.drm d)).potsOf (.drm d.val) = []) ∧
  (∀ (a : Accessor) (c : Fin 48) (w : Word) (s t : State), s.Acts a .dab c.val 0x40 →
    plainWrite .dab c.val 0x40 (s.major a (0x40 + c.val / 4)) w s = .ok t →
    s.get F.DAB_CFG_MODE c.val ≠ t.get F.DAB_CFG_MODE c.val → s.ctxState (.dab c) ≠ 0 → s.enabled .dab c.val = true →
    t.vitUsed ≤ vitLimit →
    exec (.acquisitionRestart a (.dab c) w) s = .next (t.ctxSearch (.dab c)))) ∧
  ((∀ (c : Fin 48) (found zeroed : Bool) (mode : Fin 5) (ofs sco mer wmer : Int) (s : State),
    exec (.dabFrame c found zeroed mode ofs sco mer wmer none) s =
      .next ((if 2 ≤ s.ctxState (.dab c) then s.burstFrame false c.val else s).ctxFrame (.dab c) (!found || zeroed) true
        mode.val ofs sco mer wmer)) ∧
  (∀ (d : Fin 24) (found zeroed : Bool) (mode : Fin 6) (ofs sco mer wmer : Int) (s : State),
    exec (.drmFrame d found zeroed mode ofs sco mer wmer none) s =
      .next ((if 2 ≤ s.ctxState (.drm d) then s.burstFrame true d.val else s).ctxFrame (.drm d) (!found || zeroed) false
        mode.val ofs sco mer wmer)) ∧
  (∀ (c : Ctx) (miss twice : Bool) (mode : Nat) (ofs sco mer wmer : Int) (s : State),
    (s.ctxState c = 0 → s.ctxFrame c miss twice mode ofs sco mer wmer = s) ∧
    (s.ctxState c = 1 → (s.ctxHid c).found = false →
      s.ctxFrame c false true mode ofs sco mer wmer = s.setCtx c { s.ctxHid c with found := true }) ∧
    (s.ctxState c = 1 → (s.ctxHid c).found = true →
      s.ctxFrame c false true mode ofs sco mer wmer = (s.ctxFound c mode).ctxMeasure c ofs sco mer wmer) ∧
    (s.ctxState c = 1 →
      s.ctxFrame c false false mode ofs sco mer wmer = (s.ctxFound c mode).ctxMeasure c ofs sco mer wmer) ∧
    (2 ≤ s.ctxState c → s.ctxState c < 5 →
      s.ctxFrame c true twice mode ofs sco mer wmer =
        ((s.count c.missedFld c.num 1).setCtx c { s.ctxHid c with prev := s.ctxState c, missed := 1 }).putCtxState c 5) ∧
    (s.ctxState c = 5 → 3 ≤ (s.ctxHid c).missed →
      s.ctxFrame c true twice mode ofs sco mer wmer =
        ((s.count c.missedFld c.num 1).raise c.blk c.num Ev.syncLost).ctxSearch c) ∧
    (s.ctxState c = 5 → s.ctxFrame c false twice mode ofs sco mer wmer =
      ((s.setCtx c { s.ctxHid c with missed := 0 }).putCtxState c (s.ctxHid c).prev).ctxMeasure c ofs sco mer wmer)) ∧
  (∀ (c : Ctx) (mode : Nat) (s : State), s.get c.cfgMode c.num = 0 → mode < 6 →
    (s.ctxFound c mode).ctxState c = 2 ∧ ((s.ctxFound c mode).ctxHid c).modeSeen = mode))

/-- FIB_RECEIVED, DAB_RECONFIG and TII_REPORT (R203, R209, R210, R231, R243). From FRAME on a good FIB is counted, its FIGs are read and
delivered; a bad one is counted, and delivered with FIB_ALL; at the signalled count the next configuration applies with
MCI_CHANGE, and the taps' charges settle; TII is reported while it is on.

FAC_RECEIVED, SDC_RECEIVED and DRM_RECONFIG (R216 to R219, R244). A FAC that passed declares SIGNAL from FRAME and is counted; one that
failed is counted bad; an SDC block is read from SIGNAL on; the next streams apply at their boundary with MCI_CHANGE. -/
def Obligations.BroadcastSignalling : Prop :=
  ((∀ (c : Fin 48) (index : Nat) (figs : List Fig) (raw : List Byte) (s : State), 2 ≤ s.ctxState (.dab c) →
    exec (.fibReceived c index true figs raw) s = .next (s.fibGood c index figs) ∧
    (s.on F.DAB_CFG_FIB_ALL c.val = false →
      exec (.fibReceived c index false figs raw) s = .next (s.count F.DAB_FIB_BAD_COUNT c.val 1)) ∧
    (s.on F.DAB_CFG_FIB_ALL c.val = true →
      let t := s.count F.DAB_FIB_BAD_COUNT c.val 1
      exec (.fibReceived c index false figs raw) s = .next (t.ctxEmit (.dab c)
        { t.ctxRec (.dab c) (.fig (s.get F.DAB_CIF_CIF_CNT c.val) index 1 raw) with failed := true }))) ∧
  (∀ (c : Fin 48) (s : State), s.on F.DAB_CIF_RECONF_PENDING c.val = true →
    let t := (s.applyNext c).put F.DAB_CIF_RECONF_PENDING c.val 0
    exec (.dabReconfig c) s =
      .next (((t.put F.DAB_STAT_MCI_VALID c.val (b2n (t.mciKnown c))).raise .dab c.val Ev.mciChange).settleTaps (.dab c))) ∧
  (∀ (c : Fin 48) (eid cif change occur : Nat) (al : Bool) (s : State), eid < 65536 → change ≠ 0 →
    s.on F.DAB_CIF_RECONF_PENDING c.val = false →
    (s.figEnsemble c eid cif change occur al).on F.DAB_CIF_RECONF_PENDING c.val = true ∧
    (s.figEnsemble c eid cif change occur al).get F.DAB_CIF_RECONF_AT c.val = occur % 5000 ∧
    (s.figEnsemble c eid cif change occur al).get F.DAB_STAT_EID c.val = eid) ∧
  (∀ (c : Fin 48) (more : Bool) (frames : Nat) (entries : List (Nat × Nat × Nat)) (s : State),
    s.on F.DAB_CFG_TII_EN c.val = true → 2 ≤ s.ctxState (.dab c) →
    exec (.tiiReport c more frames entries) s =
      .next (s.ctxEmit (.dab c) (s.ctxRec (.dab c) (.tii more frames (entries.take 16)))))) ∧
  ((∀ (d : Fin 24) (fac : Fac) (block : List Byte) (s : State), 2 ≤ s.ctxState (.drm d) →
    s.getE F.SD_DRM_CTX_FAC_EN 0 d.val = 0 →
    let t := (((s.count F.DRM_FAC_OK_COUNT d.val 1).facTake d fac).alarmFac d.val block).folSubs (.drm d)
    exec (.facReceived d true fac block) s =
      .next (t.setCtx (.drm d) { t.ctxHid (.drm d) with frames := (t.ctxHid (.drm d)).frames + 1 }) ∧
    exec (.facReceived d false fac block) s =
      .next ((s.count F.DRM_FAC_BAD_COUNT d.val 1).setCtx (.drm d)
        { s.ctxHid (.drm d) with frames := (s.ctxHid (.drm d)).frames + 1 })) ∧
  (∀ (d : Fin 24) (afs : Nat) (es : List Entity) (block : List Byte) (s : State), 3 ≤ s.ctxBase (.drm d) →
    let t := ((((es.foldl (fun u e => u.sdcTake d e) (s.count F.DRM_SDC_OK_COUNT d.val 1)).sdcDeliver d true afs
      block).alarmSdc d.val es).folSubs (.drm d))
    let u := t.folSigs (t.ctxIds (.drm d)) none (entitySigs es)
    exec (.sdcReceived d true afs es block) s =
      .next (u.setCtx (.drm d) { u.ctxHid (.drm d) with superframes := (u.ctxHid (.drm d)).superframes + 1 }) ∧
    (s.on F.DRM_CFG_SDC_ALL d.val = false → exec (.sdcReceived d false afs es block) s =
      .next ((s.count F.DRM_SDC_BAD_COUNT d.val 1).setCtx (.drm d)
        { s.ctxHid (.drm d) with superframes := (s.ctxHid (.drm d)).superframes + 1 }))) ∧
  (∀ (d : Fin 24) (xs : List StreamOrg) (s : State), (s.ctxHid (.drm d)).nextStreams = some xs →
    s.get F.DRM_STAT_RECONF_IDX d.val ≠ 0 →
    exec (.drmReconfig d) s = .next (((s.putStreams d xs).raise .drm d.val Ev.mciChange).settleTaps (.drm d))))

/-- TAP_COMMIT, TAP_ENABLE, TAP_DISABLE and TAP_RESUME (R17, R18, R220 to R223). A commit of a tap that is not enabled applies what is
staged; ENABLE waits without a charge while the subchannel is not known, and else takes the capacity, the pots and, for
PCM, the lowest free decoder, or is refused; disabling releases all; a suspended tap whose cost fits again runs.

SUPERFRAME, ACCESS_UNIT, AUDIO_FRAME and DECODE_STOP (R214, R225 to R229). A superframe's fire code holds or loses the tap's
synchronisation; an access unit that failed is counted, and delivered with AU_EN whatever its CRC; PCM flows from the
first good audio frame on, conceals failed ones, and stops after a second of zeros. -/
def Obligations.Taps : Prop :=
  ((∀ (a : Accessor) (t : Fin 1024) (w : Word) (s : State), s.ActsNow a .tap t.val 0x14 w → bit w.toNat 0 = true →
    let c := s.tapStaged t.val
    s.owner .ring c.ring = s.owner .tap t.val → c.pack ≠ 3 →
    (s.enabled .tap t.val = false → (c.drm = true → c.ctx ≤ 23 ∧ c.sub ≤ 3) → (c.drm = false → c.ctx ≤ 47 ∧ c.sub ≤ 63) →
      exec (.tapCommit a t w) s =
        .next (s.setTap t.val { s.tap t.val with applied := some c, detached := false })) ∧
    (c.drm = true → 23 < c.ctx → exec (.tapCommit a t w) s = .next (s.discard a .tap t.val 0x14 .range))) ∧
  (∀ (a : Accessor) (t : Fin 1024) (w : Word) (c : TapCfg) (s : State), s.HeadActs a .tap t.val 0x04 false true →
    bits w.toNat 4 1 = 0 → s.powered .tap t.val = true → s.on (H.RESET .tap) t.val = false →
    (bit w.toNat 0 = true → s.enabled .tap t.val = false → (s.tap t.val).applied = some c → c.pcm = false →
      (∀ p ∈ s.taps, p.1 = t.val ∨ s.enabled .tap p.1 = false) → s.tapNeed c = none →
      exec (.tapEnable a t w) s = .next (((s.put (H.ENABLE .tap) t.val 1).setTap t.val
        { applied := some c, detached := (s.tap t.val).detached }).put F.TAP_RUN_STATE t.val 1).sweeps) ∧
    (∀ n v, bit w.toNat 0 = true → s.enabled .tap t.val = false → (s.tap t.val).applied = some c → c.pcm = false →
      (∀ p ∈ s.taps, p.1 = t.val ∨ s.enabled .tap p.1 = false) → s.tapNeed c = some n →
      let u := (s.put (H.ENABLE .tap) t.val 1).setTap t.val { applied := some c, detached := (s.tap t.val).detached }
      (u.capFits t.val n.1 n.2.1 = true → u.tapPots t.val n.2.2 = some v →
        exec (.tapEnable a t w) s = .next (v.tapRun t.val c n.1 n.2.1).sweeps) ∧
      (u.capFits t.val n.1 n.2.1 = false →
        exec (.tapEnable a t w) s = .next (s.discard a .tap t.val 0x04 .range).sweeps)) ∧
    (bit w.toNat 0 = false → s.enabled .tap t.val = true →
      exec (.tapDisable a t w) s = .next (s.tapDisable t.val).sweeps)) ∧
  (∀ (t : Nat) (s : State), t < 1024 → (s.tapDisable t).enabled .tap t = false ∧
    (s.tapDisable t).get F.TAP_RUN_COST t = 0 ∧ (s.tapDisable t).on F.TAP_RUN_DEC_HELD t = false ∧
    (s.tapDisable t).potsOf (.tap t) = []) ∧
  (∀ (t : Fin 1024) (c : TapCfg) (n : Nat × Nat × Nat) (v : State) (s : State), (s.tap t.val).applied = some c →
    s.ctxTaps c.context = [(t.val, c)] → s.get F.TAP_RUN_STATE t.val = 3 → s.tapNeed c = some n →
    s.capFits t.val n.1 n.2.1 = true → s.tapPots t.val n.2.2 = some v →
    exec (.tapResume t) s = .next ((v.tapRun t.val c n.1 n.2.1).raise .tap t.val Ev.capResumed))) ∧
  ((∀ (t : Fin 1024) (rsFail : Nat) (s : State), s.tapRuns t.val = true → s.get F.TAP_RUN_PAYLOAD t.val = 2 →
    exec (.superframe t true rsFail) s =
      .next ((s.setTap t.val { s.tap t.val with sync := true, syncBad := 0 }).count F.TAP_ERR_RS_FAIL t.val rsFail) ∧
    ((s.tap t.val).sync = true → 2 ≤ (s.tap t.val).syncBad → exec (.superframe t false rsFail) s =
      .next (s.setTap t.val { s.tap t.val with sync := false, syncBad := 0 })) ∧
    ((s.tap t.val).sync = true → (s.tap t.val).syncBad < 2 → exec (.superframe t false rsFail) s =
      .next ((s.setTap t.val { s.tap t.val with syncBad := (s.tap t.val).syncBad + 1 }).count F.TAP_ERR_RS_FAIL t.val
        rsFail))) ∧
  (∀ (t : Fin 1024) (data : Bool) (unit : List Byte) (pads : List Pad) (c : TapCfg) (s : State),
    (s.tap t.val).applied = some c → s.tapRuns t.val = true →
    (c.au = false → c.pad = false → exec (.accessUnit t true data unit pads) s =
      .next (s.setTap t.val { s.tap t.val with auIndex := (s.tap t.val).auIndex + 1 })) ∧
    (c.au = false → exec (.accessUnit t false data unit pads) s =
      .next ((s.count F.TAP_ERR_AU_BAD t.val 1).setTap t.val
        { s.tap t.val with auIndex := (s.tap t.val).auIndex + 1 })) ∧
    (c.au = true → c.pad = false →
      let u := s.setTap t.val { s.tap t.val with auIndex := (s.tap t.val).auIndex + 1 }
      exec (.accessUnit t true data unit pads) s = .next (u.tapEmit t.val
        { u.tapRec t.val s.now (.codedAu (s.get F.TAP_RUN_PAYLOAD t.val) (2 * b2n data) (s.tap t.val).auIndex unit) with
          failed := false } [4, 7] 0 s.now))) ∧
  (∀ (t : Fin 1024) (count rate : Nat) (pcm : List Byte) (c : TapCfg) (s : State), (s.tap t.val).applied = some c →
    s.on F.TAP_RUN_DEC_HELD t.val = true → s.tapRuns t.val = true → 1 ≤ s.get F.TAP_RUN_PAYLOAD t.val →
    s.get F.TAP_RUN_PAYLOAD t.val ≤ 4 →
    let u := s.setTap t.val { s.tap t.val with pcmOn := true, zeros := false, bad := 0 }
    exec (.audioFrame t true count rate pcm) s = .next (u.tapEmit t.val (u.tapRec t.val s.now
      (.pcm { count := count, format := c.pack, channels := 2, rate := rate, runs := [], data := pcm })) [3, 4, 5] rate
      (s.now + count * 16 * ticksPerSecond / rate))) ∧
  (∀ (t : Fin 1024) (s : State), (s.tap t.val).pcmOn = true → (s.tap t.val).zeros = true →
    exec (.decodeStop t) s =
      .next ((s.setTap t.val { s.tap t.val with pcmOn := false, zeros := false, bad := 0 }).tapGap t.val 5)))

/-! ### Side data and following (R243 to R268) -/

/-- RULE_WRITE, PATTERN_WRITE, ALERT_ACK and ALARM_END_TIMEOUT (R247 to R252). An accepted write of a rule starts it afresh, with an active
alarm lost; a confirmed match activates its alarm, shown in ACTIVE and SEEN, and the end clears ACTIVE; a pattern is
PF_0's; ACK clears the latch of LATCH mode and no alarm. -/
def Obligations.AlarmRules : Prop :=
  (∀ (a : Accessor) (r : Fin 32) (reg : Fin 4) (w : Word) (s t u : State),
    s.Acts a .sidedata 0 (0x200 + 0x10 * r.val + 4 * reg.val) → accView a = 0 → reg.val = 2 →
    s.ruleOwner r.val = 0 →
    plainWrite .sidedata 0 (0x200 + 0x10 * r.val + 8) (s.major a 0x5B) w s = .ok t →
    plainWrite .sidedata 0 (0x200 + 0x10 * r.val + 8) (s.major a 0x5B) w (s.ruleRestart r.val) = .ok u →
    exec (.ruleWrite a r reg w) s = .next u) ∧
  (∀ (a : Accessor) (r : Fin 32) (reg : Fin 4) (w : Word) (s : State),
    s.Acts a .sidedata 0 (0x200 + 0x10 * r.val + 4 * reg.val) → s.ruleOwner r.val ≠ accView a → reg.val = 0 →
    exec (.ruleWrite a r reg w) s = .next (s.discard a .sidedata 0 (0x200 + 0x10 * r.val) .owner)) ∧
  (∀ (r c ty : Nat) (unit : List Byte) (s : State), r < 32 → s.ruleOn F.RULE_STAT_ACTIVE r = false →
    s.getE F.RULE_CFG_CONFIRM 0 r ≤ min (s.getE F.RULE_STAT_COUNT 0 r + 1) 15 →
    c = min (s.getE F.RULE_STAT_COUNT 0 r + 1) 15 →
    s.ruleUnit r .hit ty unit =
      State.alarmBegin { s.putE F.RULE_STAT_COUNT 0 r c with ruleType := Tbl.set s.ruleType 0 r ty } r unit) ∧
  (∀ (r : Fin 32) (s : State), exec (.alarmEndTimeout r) s = .next (s.alarmEnd r.val 2) ∧
    (s.ruleOn F.RULE_STAT_ACTIVE r.val = false → s.alarmEnd r.val 2 = s)) ∧
  (∀ (a : Accessor) (p reg : Fin 16) (w : Word) (s : State),
    s.Acts a .sidedata 0 (0x400 + 0x40 * p.val + 4 * reg.val) →
    (isManager a = false → exec (.patternWrite a p reg w) s =
      .next (s.discard a .sidedata 0 (0x400 + 0x40 * p.val + 4 * reg.val) .owner)) ∧
    (∀ t, isManager a = true →
      plainWrite .sidedata 0 (0x400 + 0x40 * p.val + 4 * reg.val) (s.major a 0x5B) w s = .ok t →
      exec (.patternWrite a p reg w) s = .next (t.rulesDo (fun u r => u.getE F.RULE_CFG_KIND 0 r == 3 &&
        u.getE F.RULE_CFG_PATTERN 0 r == p.val) fun u r => u.putE F.RULE_STAT_COUNT 0 r 0))) ∧
  (∀ (a : Accessor) (w : Word) (s : State), s.Acts a .sidedata 0 0x44 → isManager a = true → bit w.toNat 2 = true →
    bits w.toNat 1 1 = 0 →
    exec (.alertAck a w) s = .next ((s.put F.SD_ALERT_MODE 0 0).put F.SD_ALERT_ASSERTED 0 0))

/-- RESERVE_POOL_WRITE, FOL_GO, FOL_STOP and FOL_REALIGN (R255, R259, R264). The pool's ranges are PF_0's, free and inside the resources, else the
write is refused; GO starts an entry at P = PRESET with its line and a free group, with its start source as candidate 0;
STOP ends it, and REALIGN starts its alignments again.

FOL_COARSE_ALIGN, FOL_FINE_ALIGN, FOL_ALIGN_TIMER and CAND_EXPIRE (R254, R257 to R259). A coarse attempt passes with its peak at the
threshold and a tenth above the second, and its lag stands until the fine attempt gives it in sixteenths of a sample; a
fourth fine failure in a row leaves the coarse result; a candidate that no signalling names leaves, but for the start source.

FOL_SCORE, SWITCH, FOL_CROSSFADE_END and FALLBACK (R260 to R263). Scores fall at every 100 ms; outside a crossfade with no switch decided they are
judged; a switch makes the decided candidate current with the limited loudness difference, and the end of its crossfade
frees the old line; a LOST entry takes the scout for a candidate that nothing else reaches. -/
def Obligations.Following : Prop :=
  ((∀ (a : Accessor) (which : Fin 3) (w : Word) (s t : State), s.Acts a .follow 0 (0x44 + 4 * which.val) →
    (isManager a = false →
      exec (.reservePoolWrite a which w) s = .next (s.discard a .follow 0 (0x44 + 4 * which.val) .owner)) ∧
    (isManager a = true → which.val = 0 → s.poolRangeOk .slot 512 (bits w.toNat 8 0) (bits w.toNat 21 16) = true →
      plainWrite .follow 0 0x44 (s.major a 0x59) w s = .ok t → exec (.reservePoolWrite a which w) s = .next t) ∧
    (isManager a = true → which.val = 0 → s.poolRangeOk .slot 512 (bits w.toNat 8 0) (bits w.toNat 21 16) = false →
      exec (.reservePoolWrite a which w) s = .next (s.discard a .follow 0 0x44 .range))) ∧
  (∀ (a : Accessor) (e : Fin 32) (w : Word) (g : Nat) (c : Cand) (u : State) (s : State),
    s.Acts a .follow 0 (0x118 + 64 * e.val) → w.toNat = 1 → s.folRuns e.val = false →
    s.folStart e.val (accView a) = some c → s.freeGroup = some g → s.presetBad e.val = false →
    s.owner .ring (s.folGet F.FOL_CFG_RING e.val) = accView a →
    let p := s.folPreset e.val
    let t := (s.setGrp g { s.grp g with holder := some (.follow e.val) }).setFol e.val
      { state := 1, owner := accView a, cands := [(0, some c)], group := g, p := p, since := s.now, target := p,
        lastSwitch := s.now }
    (s.allocPots (accView a) (.follow e.val) (folPots p)).isSome = true → t.folTake e.val (folPots p) 0 = some u →
    exec (.folGo a e w) s = .next (u.folEmit e.val 8 0)) ∧
  (∀ (a : Accessor) (e : Fin 32) (w : Word) (s : State), s.Acts a .follow 0 (0x118 + 64 * e.val) →
    s.folRuns e.val = true → (s.fol e.val).owner = accView a →
    (w.toNat = 2 → exec (.folStop a e w) s = .next (s.folEnd e.val)) ∧
    (∀ u, w.toNat = 4 → folRealign e.val s = .ok u → exec (.folRealign a e w) s = .next u)) ∧
  (∀ (e : Nat) (u s : State), folRealign e s = .ok u → (u.fol e).state = 1 ∧ (u.fol e).cur = 0 ∧
    (u.fol e).target = (u.fol e).p ∧ (u.fol e).g = 0)) ∧
  ((∀ (e : Fin 32) (k : Fin 16) (peak second lag : Int) (c : Cand) (s : State), s.cand e.val k.val = some c →
    c.attempt = 1 → s.folRuns e.val = true →
    (100 * (s.folGet F.FOL_ALIGN_COARSE_TH e.val : Int) ≤ peak → 1000 ≤ peak - second →
      exec (.folCoarseAlign e k peak second lag) s =
        .next ((s.putCand e.val k.val { c with coarse := lag, lag := lag * 768, align := 0, attempt := 2, fails := 0 }).alignReport
          e.val k.val true)) ∧
    (peak < 100 * (s.folGet F.FOL_ALIGN_COARSE_TH e.val : Int) ∨ peak - second < 1000 →
      exec (.folCoarseAlign e k peak second lag) s =
        .next ((s.putCand e.val k.val { c with align := 3, attempt := 0 }).alignReport e.val k.val false))) ∧
  (∀ (e : Fin 32) (k : Fin 16) (peak lag : Int) (c : Cand) (s : State), s.cand e.val k.val = some c → c.attempt = 2 →
    s.folRuns e.val = true →
    (100 * (s.folGet F.FOL_ALIGN_FINE_TH e.val : Int) ≤ peak → c.align ≠ 2 → exec (.folFineAlign e k peak lag) s =
      .next (((s.putCand e.val k.val { c with lag := lag, align := 2, attempt := 0, fails := 0, noPots := false }).alignReport
        e.val k.val true).alignUse e.val k.val)) ∧
    (peak < 100 * (s.folGet F.FOL_ALIGN_FINE_TH e.val : Int) → c.fails < 3 → exec (.folFineAlign e k peak lag) s =
      .next ((s.putCand e.val k.val { c with fails := c.fails + 1 }).alignReport e.val k.val false)) ∧
    (peak < 100 * (s.folGet F.FOL_ALIGN_FINE_TH e.val : Int) → 3 ≤ c.fails →
      let t := (s.putCand e.val k.val { c with lag := c.coarse * 768, align := 1, attempt := 0, fails := 0,
                                               noPots := false }).alignReport e.val k.val false
      exec (.folFineAlign e k peak lag) s =
        .next (if t.folOn F.FOL_CFG_ALLOW_COARSE e.val = true then t.alignUse e.val k.val else t))) ∧
  (∀ (e : Fin 32) (k : Fin 16) (c : Cand) (s : State), s.cand e.val k.val = some c → k.val ≠ 0 → c.res ≠ 3 →
    c.attempt = 0 →
    exec (.folAlignTimer e k) s =
      .next (s.putCand e.val k.val { c with attempt := if c.align = 3 then 1 else 2, fails := 0 })) ∧
  (∀ (e : Fin 32) (k : Fin 16) (s : State),
    (k.val ≠ 0 → exec (.candExpire e k) s = .next ((s.candDrop e.val k.val).candRetry)) ∧
    (k.val = 0 → exec (.candExpire e k) s = .next s)) ∧
  (∀ (e k : Nat) (c : Cand) (s : State), s.cand e k = some c → c.held = none → (s.fol e).lineIn ≠ some k →
    (s.candDrop e k).cand e k = none ∧ ∀ j, j ≠ k → (s.candDrop e k).cand e j = s.cand e j)) ∧
  ((∀ (e : Fin 32) (aus : List (Nat × Nat)) (s : State), s.folRuns e.val = true →
    let t := s.folScores e.val aus
    ((t.fol e.val).state ≠ 3 → (t.fol e.val).next = none →
      exec (.folScore e aus) s = .next (t.folJudge e.val)) ∧
    ((t.fol e.val).state = 3 ∨ (t.fol e.val).next ≠ none → exec (.folScore e aus) s = .next t)) ∧
  (∀ (e : Fin 32) (cur inc : Int) (k : Nat) (s : State), (s.fol e.val).next = some k → (s.fol e.val).scout = false →
    let lim : Int := 50 * s.folGet F.FOL_DWELL_LOUD_MAX e.val
    let h := s.fol e.val
    let t := s.setFol e.val { h with state := 3, next := none, g := clampI (-lim) lim (cur - inc), gSince := s.now,
                                     lastSwitch := s.now, zeroSince := none, holdSince := none }
    let u := ((t.countE F.FOL_SWITCHES_COUNT 0 e.val 1).folEmit e.val 1 k).folRaise e.val Ev.switch
    exec (.switch e cur inc) s = .next (u.setFol e.val { u.fol e.val with cur := k })) ∧
  (∀ (e : Fin 32) (u : State) (s : State), (s.fol e.val).state = 3 →
    let h := s.fol e.val
    (s.setFol e.val { h with state := 2, lineIn := none, gSince := s.now }).folTake e.val
      (if h.lineIn = some h.cur then h.potsIn else h.potsCur) 0 = some u →
    exec (.folCrossfadeEnd e) s = .next u) ∧
  (∀ (e : Fin 32) (k : Nat) (c : Cand) (s : State), (s.fol e.val).state = 4 → s.on F.FOL_GCFG_FALLBACK_SCOUT 0 = true →
    (s.fol e.val).next = none → (s.fol e.val).list = [(k, c)] → c.res = 3 → c.band ≤ 1 →
    let n := if c.band = 0 then 0 else 5
    scoutRange n c.khz = true → s.scoutFree n = true →
    let t := (s.scoutTune n c.khz).putCand e.val k { c with res := 2 }
    let u := t.setFol e.val { t.fol e.val with state := 5, cur := k, scout := true }
    exec (.fallback e) s = .next ((u.folEmit e.val 5 k).folRaise e.val Ev.fallback)))

/-! ### Metrology and feed comparison (R269 to R293) -/

/-- The measurement windows (R269 to R274, R278 to R281). FS_WINDOW_END, DEV_WINDOW_END, MPX_WINDOW_END, MPX_RUN_UPDATE,
INJECTION_WINDOW_END and AM_DEPTH_WINDOW_END give a running slot of the right kind a new result where at least half of the samples
were valid, marked partial unless 99 % were, and else take VALID off the old one; limits that are passed raise their events.

REF_CHECK_GO, REF_CHECK_DONE and REF_AGE_DAY (R275 to R277). GO by a manager starts the self-check; a deviation of at most 0.5 dB passes
it, takes the deviation off the trim and makes the age 0; any other fails it; the age grows by one a day, and REF_DUE comes
at the period.

PPS_EDGE, PPS_MISSING and METRIC_REPORT (R170, R271, R283, R284, R406). An accepted edge latches device time with the period since
the last one; an edge before nine tenths of a second is rejected and counted; 1.1 s without an edge raise PPS_MISSING
once; a running FM or AM slot reports its metrics, and the gain steps with them once, while its interval is not 0. -/
def Obligations.Metrology : Prop :=
  ((∀ valid total : Nat, 0 < total → (windowFlags valid total = none ↔ 2 * valid < total) ∧
    (windowFlags valid total = some 3 ↔ total ≤ 2 * valid ∧ 100 * valid < 99 * total) ∧
    (windowFlags valid total = some 1 ↔ total ≤ 2 * valid ∧ 99 * total ≤ 100 * valid)) ∧
  (∀ (n : Fin 512) (b : Bind) (valid total : Nat) (dbm k nbw : Int) (stale clip : Bool) (s : State),
    (s.slot n.val).applied = some b → s.measured n.val = true →
    ∃ r, exec (.fsWindowEnd n valid total dbm k stale clip nbw) s =
      .next { s with mets := Tbl.set s.mets {} n.val { Tbl.get s.mets {} n.val with fs := r } } ∧
      (windowFlags valid total = none → r = ((Tbl.get s.mets {} n.val).fs).map MetRes.expire) ∧
      (∀ f, windowFlags valid total = some f → ∃ x, r = some x ∧ x.time = s.windowEnd n.val ∧ x.a = satS 16 (dbm + 10700) +
        65536 * satS 16 (dbm + 10700 + sgn 16 (s.getE F.MET_AF_AF 0 (s.windowPort b.window))))) ∧
  (∀ (n : Fin 512) (valid total peak above : Nat) (hist : List Nat) (s : State), s.measured n.val = true →
    s.slotKind n.val = 1 →
    let r := windowResult (Tbl.get s.mets {} n.val).dev valid total (satU 16 (roundDiv peak 10) + 65536 *
        satU 16 (excEdge hist valid (s.get F.MET_DEV_CFG_EXCEED 0))) (satU 24 (roundDiv (1000000 * above) valid)) 0
        (s.windowEnd n.val)
    let t := { s with mets := Tbl.set s.mets {} n.val { Tbl.get s.mets {} n.val with dev := r } }
    exec (.devWindowEnd n valid total peak hist above) s = .next (if (windowFlags valid total).isSome = true ∧ 0 < above then
      t.raiseViews .metro Ev.devOver (viewsOf (s.owner .slot n.val)) else t)) ∧
  (∀ (n : Fin 512) (valid total sumSq : Nat) (s : State), s.measured n.val = true → s.slotKind n.val = 1 →
    let h := Tbl.get s.mets {} n.val
    let p := mpxPower sumSq valid
    let r := windowResult h.mpx valid total (ofInt 16 p + 65536 * (h.mpx.map fun r => r.a / 65536).getD 0) 0 0
      (s.windowEnd n.val)
    let t := { s with mets := Tbl.set s.mets {} n.val { h with mpx := r } }
    exec (.mpxWindowEnd n valid total sumSq) s = .next (if (windowFlags valid total).isSome = true ∧
      sgn 16 (s.get F.MET_MPX_CFG_LIMIT 0) < p then t.raiseViews .metro Ev.mpxOver (viewsOf (s.owner .slot n.val)) else t)) ∧
  (∀ (n : Fin 512) (valid total sumSq : Nat) (r : MetRes) (s : State), s.measured n.val = true → s.slotKind n.val = 1 →
    (windowFlags valid total).isSome = true → (Tbl.get s.mets {} n.val).mpx = some r →
    let q := { r with a := r.a % 65536 + 65536 * ofInt 16 (mpxPower sumSq valid) }
    exec (.mpxRunUpdate n valid total sumSq) s =
      .next { s with mets := Tbl.set s.mets {} n.val { Tbl.get s.mets {} n.val with mpx := some q } }) ∧
  (∀ (n : Fin 512) (valid total pilot rdsSq : Nat) (s : State), s.measured n.val = true → s.slotKind n.val = 1 →
    let h := Tbl.get s.mets {} n.val
    let r := windowResult h.inj valid total
      (satU 16 (roundDiv pilot 10) + 65536 * satU 16 (sqrtRatio (2 * rdsSq) (100 * valid))) 0 0 (s.windowEnd n.val)
    exec (.injectionWindowEnd n valid total pilot rdsSq) s =
      .next { s with mets := Tbl.set s.mets {} n.val { h with inj := r } }) ∧
  (∀ (n : Fin 512) (valid total sumSq pinch : Nat) (hi lo : Int) (s : State), s.measured n.val = true →
    s.slotKind n.val = 2 →
    let h := Tbl.get s.mets {} n.val
    let r := windowResult h.am valid total (depth hi + 4096 * depth (-lo))
      (depth (sqrtRatio (2 * sumSq) valid) + 65536 * satU 16 pinch) 0 (s.windowEnd n.val)
    exec (.amDepthWindowEnd n valid total hi lo sumSq pinch) s =
      .next { s with mets := Tbl.set s.mets {} n.val { h with am := r } })) ∧
  ((∀ (a : Accessor) (w : Word) (s : State), s.Acts a .metro 0 0x6C → bit w.toNat 0 = true →
    s.on F.MET_REF_STAT_RUNNING 0 = false →
    (isManager a = true → exec (.refCheckGo a w) s =
      .next { s.put F.MET_REF_STAT_RUNNING 0 1 with ref := { s.ref with due := false } }) ∧
    (isManager a = false → exec (.refCheckGo a w) s = .next (s.discard a .metro 0 0x6C .owner))) ∧
  (∀ (dev : Int) (s : State), s.on F.MET_REF_STAT_RUNNING 0 = true →
    let t := s.puts 0 [(F.MET_REF_STAT_RUNNING, 0), (F.MET_REF_DEV_DEV, satS 16 (roundDivI dev 10))]
    let good := { s.ref with age := 0, unverified := false, trim := s.ref.trim - dev }
    let bad := { s.ref with unverified := true }
    (dev.natAbs ≤ 500 → exec (.refCheckDone dev) s =
      .next ({ t.put F.MET_REF_STAT_RESULT 0 1 with ref := good }.raiseViews .metro Ev.refPass [0, 4])) ∧
    (500 < dev.natAbs → exec (.refCheckDone dev) s =
      .next ({ t.put F.MET_REF_STAT_RESULT 0 2 with ref := bad }.raiseViews .metro Ev.refFail [0, 4]))) ∧
  (∀ s : State, s.mode ≠ .off → s.ref.age < 65535 →
    let t := { s with ref := { s.ref with age := s.ref.age + 1 } }
    (s.ref.age + 1 ≠ s.get F.MET_REF_CFG_PERIOD 0 → exec .refAgeDay s = .next t) ∧
    (s.ref.age + 1 = s.get F.MET_REF_CFG_PERIOD 0 → (t.raiseViews .metro Ev.refDue [0, 4]).on F.MET_REF_CFG_AUTO 0 = false →
      exec .refAgeDay s = .next (t.raiseViews .metro Ev.refDue [0, 4])))) ∧
  ((∀ (falling : Bool) (s : State), s.powered .metro 0 = true → s.on F.MET_PPS_CFG_EN 0 = true → s.pllLocked = true →
    s.on F.MET_PPS_CFG_EDGE 0 = falling →
    (s.pps.last = none → exec (.ppsEdge falling) s = .next { s.puts 0 [(F.MET_PPS_LO_TIME, s.now),
      (F.MET_PPS_HI_TIME, s.now / 2 ^ 32), (F.MET_PPS_PERIOD_TICKS, 0),
      (F.MET_PPS_COUNT_COUNT, s.get F.MET_PPS_COUNT_COUNT 0 + 1)] with pps := { last := some s.now } }) ∧
    (∀ t, s.pps.last = some t → 10 * (s.now - t) < 9 * ticksPerSecond →
      exec (.ppsEdge falling) s = .next (s.count F.MET_PPS_COUNT_REJECT 0 1))) ∧
  (∀ s : State, s.pps.last.isSome = true → s.pps.missed = false → s.on F.MET_PPS_CFG_EN 0 = true →
    exec .ppsMissing s = .next ({ s with pps := { s.pps with missed := true } }.raiseViews .metro Ev.ppsMissing allViews)) ∧
  (∀ (n : Fin 512) (mers : List Nat) (s : State), s.measured n.val = true → s.slotKind n.val = 1 →
    s.get F.MET_CFG_INTERVAL n.val ≠ 0 →
    exec (.metricReport (.slot n) mers) s = .next ((s.slotEmit n.val (s.slotMetric n.val)).gainTold n.val)) ∧
  (∀ (c : Fin 48) (n : Nat) (b : Bind) (mers : List Nat) (s : State), s.boundSlot (.dab c) = some (n, b) →
    s.get F.DAB_MET_INTERVAL c.val ≠ 0 → s.ctxState (.dab c) ≠ 0 →
    exec (.metricReport (.ctx (.dab c)) mers) s =
      .next ((s.ctxEmit (.dab c) (s.ctxMetric (.dab c) n b mers)).gainTold n)))

/-- FC_GO, FC_STOP, FC_REALIGN, FC_ALIGN_ATTEMPT, FC_SECOND and FC_REPORT (R285 to R290). GO by the owner of source, port and ring starts a
comparison; STOP ends it with its last record; a coarse pass goes on to the fine search, a fine pass tracks; a second
without feed is FEED_LOST, a second while tracking is judged; the report comes each REPORT_S. -/
def Obligations.FeedComparison : Prop :=
  (∀ (a : Accessor) (e : Fin 32) (w : Word) (s t : State), s.Acts a .metro 0 (0x40C + 32 * e.val) →
    (w.toNat = 1 → s.fcRuns e.val = false → fcGo e.val (accView a) s = .ok t → exec (.fcGo a e w) s = .next t) ∧
    (w.toNat = 1 → s.fcRuns e.val = false → s.enabled .ap (s.fcGet F.FC_CFG_PORT e.val) = false →
      exec (.fcGo a e w) s = .next (s.discard a .metro 0 (0x40C + 32 * e.val) .range)) ∧
    (w.toNat = 2 → s.fcRuns e.val = true → s.fcOwner e.val = accView a → (s.fcEnd e.val).fcRuns e.val = false →
      exec (.fcStop a e w) s = .next (s.fcEnd e.val)) ∧
    (w.toNat = 4 → s.fcRuns e.val = true → s.fcOwner e.val = accView a →
      exec (.fcRealign a e w) s = .next (s.fcRealign e.val))) ∧
  (∀ (e : Nat) (s : State), s.fcRuns e = true → s.fcGet F.FC_STAT_STATE e ≠ 3 →
    s.fcRealign e = ((s.setFc e { s.fc e with attempt := 1, coarseFails := 0, fineFails := 0 }).putE F.FC_STAT_STATE 0 e
      1).putE F.FC_STAT_FINE 0 e 0) ∧
  (∀ (e : Fin 32) (peak second lag : Int) (s : State), s.fcRuns e.val = true → s.fcGet F.FC_STAT_STATE e.val ≠ 3 →
    s.pllLocked = true →
    ((s.fc e.val).attempt = 1 →
      exec (.fcAlignAttempt e peak second lag) s = .next (s.fcCoarse e.val peak second lag)) ∧
    ((s.fc e.val).attempt ≠ 1 → exec (.fcAlignAttempt e peak second lag) s = .next (s.fcFine e.val peak lag)) ∧
    (6000 ≤ peak → 1000 ≤ peak - second → 0 ≤ lag → lag ≤ (s.fcGet F.FC_LIM_MAX_LAG e.val : Int) * 1000 →
      s.fcCoarse e.val peak second lag =
        s.setFc e.val { s.fc e.val with attempt := 2, coarse := lag, coarseFails := 0, fineFails := 0 }) ∧
    (8000 ≤ peak → 0 ≤ lag → (s.fcFine e.val peak lag).fcGet F.FC_STAT_FINE e.val = 1 ∧
      (s.fcFine e.val peak lag).fcGet F.FC_STAT_STATE e.val = 2)) ∧
  (∀ (e : Fin 32) (valid : Nat) (src feed rho : Int) (s : State), s.fcRuns e.val = true → s.pllLocked = true →
    (s.fc e.val).tap = true →
    let t := s.setFc e.val { s.fc e.val with window := s.now }
    (valid = 0 → s.fcGet F.FC_STAT_STATE e.val ≠ 3 → exec (.fcSecond e valid src feed rho) s =
      .next (((t.setFc e.val (t.fc e.val).restart).putE F.FC_STAT_STATE 0 e.val 3).fcRaise e.val Ev.fcFeedLost)) ∧
    (0 < valid → valid < 500 → s.fcGet F.FC_STAT_STATE e.val ≠ 3 → exec (.fcSecond e valid src feed rho) s =
      .next (t.setFc e.val (t.fc e.val).restart)) ∧
    (500 ≤ valid → s.fcGet F.FC_STAT_STATE e.val = 2 →
      exec (.fcSecond e valid src feed rho) s = .next (t.fcJudge e.val src feed rho))) ∧
  (∀ (e : Fin 32) (s : State), s.fcRuns e.val = true → s.fcGet F.FC_LIM_REPORT_S e.val ≠ 0 → s.pllLocked = true →
    exec (.fcReport e) s = .next (s.fcEmit e.val 0))

/-! ### Clocks, the chain and health (R294 to R320, R512 to R517) -/

/-- REF_PRESENT, REF_LOST, INACTIVE_REFERENCE_LOST, XO_OK, XO_LOST, X32_OK and X32_LOST (R294, R295, R302, R303). A reference that
qualifies sets its OK bit and its measurement; the loss of the active one raises REF_LOST and starts holdover where HOLDOVER is 1
and XO_IN is there, else a relock in XO mode; the loss of another clears its bit only. The crystal and XO_IN show likewise.

X32_DIS_WRITE, RC_TRIM, AUD_PLL_ENABLE, AUD_PLL_LOCK and AUD_UNLOCK (R295, R296, R304, R317). X32_DIS puts the crystal out of use; the
trim shows its error; an audio PLL that no running port uses is enabled or stopped by its bit, locks with XO_IN there, and raises
AUD_UNLOCK when its lock goes.

LINE_COUNTER_WINDOW, LINE_LOCK, SYNC_RETURN and SYNC_SLEW_DONE (R307, R308, R312, R313). A measuring line goes on to ACQUIRE
within ±1 of its reference; a locked one beyond 100 ppm is in ERROR; a line locks from ACQUIRE. A returned SYNC_IN within 2
taps locks line 8 again; further off it relocks or slews as RECOVER says; a slew that is done goes on to ACQUIRE. -/
def Obligations.Clocks : Prop :=
  ((∀ (sync : Bool) (ppm : Int) (s : State), s.powered .clock 0 = true → s.on F.CLK_STAT_XO_OK 0 = true →
    s.clk.returns = [] → s.get F.CLK_STAT_PLL_STATE 0 ≠ 3 →
    exec (.refPresent sync ppm) s = .next ((s.put (if sync then F.CLK_STAT_SYNC_OK else F.CLK_STAT_REF_OK) 0 1).put
      (if sync then F.SYNC_MEAS_PPM else F.REF_MEAS_PPM) 0 (satS 24 ppm))) ∧
  (∀ s : State, s.powered .clock 0 = true → s.get F.CLK_STAT_REF_ACT 0 = 1 → s.on F.CLK_STAT_REF_OK 0 = true →
    s.get F.CLK_STAT_PLL_STATE 0 = 2 →
    let c := { s.clk with returns := 1 :: s.clk.returns.filter (· != 1) }
    let u := { s.put F.CLK_STAT_REF_OK 0 0 with clk := c }.raise .clock 0 Ev.refLost
    (s.on F.PLL_CFG_HOLDOVER 0 = true → s.on F.CLK_STAT_XO_OK 0 = true → exec .refLost s =
      .next { u.put F.CLK_STAT_PLL_STATE 0 3 with clk := { c with holdAt := s.now } }) ∧
    (s.on F.PLL_CFG_HOLDOVER 0 = false → exec .refLost s = .next (u.startRelock 0))) ∧
  (∀ (sync : Bool) (s : State), s.get F.CLK_STAT_REF_ACT 0 ≠ (if sync then 2 else 1) →
    s.on (if sync then F.CLK_STAT_SYNC_OK else F.CLK_STAT_REF_OK) 0 = true → s.clk.relock = none →
    exec (.inactiveReferenceLost sync) s = .next (s.put (if sync then F.CLK_STAT_SYNC_OK else F.CLK_STAT_REF_OK) 0 0)) ∧
  (∀ (khz : Nat) (s : State), s.powered .clock 0 = true → s.get F.FRC_MEAS_KHZ 0 = 0 →
    exec (.xoOk khz) s = .next ((s.put F.CLK_STAT_XO_OK 0 1).put F.FRC_MEAS_KHZ 0 (min khz (2 ^ 17 - 1)))) ∧
  (∀ s : State, s.powered .clock 0 = true → s.on F.CLK_STAT_XO_OK 0 = true → s.get F.CLK_STAT_PLL_STATE 0 = 2 →
    let t := (s.put F.CLK_STAT_XO_OK 0 0).raise .clock 0 Ev.xoLost
    (s.get F.CLK_STAT_REF_ACT 0 = 0 → exec .xoLost s = .next (t.startRelock 0)) ∧
    (s.get F.CLK_STAT_REF_ACT 0 ≠ 0 → exec .xoLost s = .next t)) ∧
  (∀ s : State, s.mode ≠ .off → s.on F.X32_CFG_X32_DIS 0 = false → s.on F.CLK_STAT_X32_OK 0 = false →
    exec .x32Ok s = .next ((s.puts 0 [(F.CLK_STAT_X32_SRC, 1), (F.CLK_STAT_X32_OK, 1)]).raiseOn .clock 0 Ev.x32Ok)) ∧
  (∀ s : State, s.on F.CLK_STAT_X32_SRC 0 = true →
    exec .x32Lost s = .next ((s.puts 0 [(F.CLK_STAT_X32_SRC, 0), (F.CLK_STAT_X32_OK, 0)]).raiseOn .clock 0 Ev.x32Lost))) ∧
  ((∀ (a : Accessor) (w : Word) (s t : State), s.Acts a .clock 0 0x5C →
    plainWrite .clock 0 0x5C (s.major a 0x02) w s = .ok t →
    exec (.x32DisWrite a w) s = .next (if t.on F.X32_CFG_X32_DIS 0 = true then
      t.puts 0 [(F.CLK_STAT_X32_SRC, 0), (F.CLK_STAT_X32_OK, 0)] else t)) ∧
  (∀ (err : Int) (s : State), s.pllLocked = true → exec (.rcTrim err) s = .next (s.put F.X32_CFG_RC_ERR 0 (satS 16 err))) ∧
  (∀ (a : Accessor) (w : Word) (s : State), s.Acts a .clock 0 0x60 →
    (w.toNat = 3 → exec (.audPllEnable a w) s = .next ((s.put F.AUD_PLL_CFG_A_EN 0 1).put F.AUD_PLL_CFG_B_EN 0 1)) ∧
    (w.toNat = 2 → s.audPllUsed false = false → exec (.audPllEnable a w) s =
      .next (((s.put F.AUD_PLL_CFG_A_EN 0 0).put F.CLK_STAT_AUD_A_LOCK 0 0).put F.AUD_PLL_CFG_B_EN 0 1)) ∧
    (w.toNat = 2 → s.audPllUsed false = true →
      exec (.audPllEnable a w) s = .next (s.discard a .clock 0 0x60 .range))) ∧
  (∀ (b : Bool) (s : State), s.on (if b then F.AUD_PLL_CFG_B_EN else F.AUD_PLL_CFG_A_EN) 0 = true →
    let lock := if b then F.CLK_STAT_AUD_B_LOCK else F.CLK_STAT_AUD_A_LOCK
    (s.on F.CLK_STAT_XO_OK 0 = true → exec (.audPllLock b) s = .next (s.put lock 0 1)) ∧
    (s.on lock 0 = true → exec (.audUnlock b) s = .next ((s.put lock 0 0).raise .clock 0 Ev.audUnlock)))) ∧
  ((∀ (n : Fin 9) (diff : Int) (s : State),
    (s.getE F.LINE_STAT_STATE 0 n.val = 1 ∨ s.getE F.LINE_STAT_STATE 0 n.val = 6 →
      exec (.lineCounterWindow n diff) s = .next (s.lineTo n.val (if diff.natAbs ≤ 1 then 2 else 1))) ∧
    (s.getE F.LINE_STAT_STATE 0 n.val = 3 → diff.natAbs ≤ 6 → exec (.lineCounterWindow n diff) s = .next s) ∧
    (s.getE F.LINE_STAT_STATE 0 n.val = 3 → 7 ≤ diff.natAbs → n.val ≠ 8 →
      exec (.lineCounterWindow n diff) s = .next ((s.lineTo n.val 6).raise .dll 0 Ev.lineFreqErr)) ∧
    (s.getE F.LINE_STAT_STATE 0 n.val = 2 → n.val ≠ 8 → exec (.lineLock n) s =
      .next (((s.putE F.LINE_STAT_STATE 0 n.val 3).putE F.LINE_STAT_LOCK 0 n.val 1).raise .dll 0 Ev.lineLock))) ∧
  (∀ (n st : Nat) (s : State), (s.lineLocked n = false →
      s.lineTo n st = (s.putE F.LINE_STAT_STATE 0 n st).putE F.LINE_STAT_LOCK 0 n 0) ∧
    (s.lineLocked n = true → s.lineTo n st =
      ((s.putE F.LINE_STAT_STATE 0 n st).putE F.LINE_STAT_LOCK 0 n 0).raise .dll 0 Ev.lineUnlock)) ∧
  (∀ (err : Int) (s : State), s.getE F.LINE_STAT_STATE 0 8 = 4 → s.on F.CLK_STAT_SYNC_OK 0 = true →
    s.get F.CLK_STAT_REF_ACT 0 = 2 → s.get F.CLK_STAT_PLL_STATE 0 = 2 →
    let t := (s.put F.SYNC_STAT_JUMP 0 (satS 16 err)).raise .dll 0 Ev.syncReturn
    (err.natAbs ≤ 2 → exec (.syncReturn err) s =
      .next (((t.putE F.LINE_STAT_STATE 0 8 3).putE F.LINE_STAT_LOCK 0 8 1).raise .dll 0 Ev.lineLock)) ∧
    (2 < err.natAbs → s.on F.SYNC_CFG_RECOVER 0 = true → exec (.syncReturn err) s = .next (t.startRelock 2))) ∧
  (∀ s : State, s.getE F.LINE_STAT_STATE 0 8 = 5 →
    exec .syncSlewDone s = .next (((s.lineTo 8 2).put F.SYNC_STAT_LEFT 0 0).raise .dll 0 Ev.syncSlewDone)))

/-- PLL_APPLY, PLL_COUNTER_WINDOW, PLL_LOCK and WINDOW_RESUME (R298 to R301). APPLY starts a relock to REF_SEL's reference, refused while one
runs or where the reference is absent; two windows within ±1 declare counter lock; the lock makes the target the active
reference; a locked PLL that misses by more than 4 loses it; a window resumes once its own line is locked again. -/
def Obligations.Relocks : Prop :=
  (∀ (a : Accessor) (w : Word) (s : State), s.Acts a .clock 0 0x48 → bits w.toNat 0 0 = 1 →
    (s.clk.relock = none → s.get F.PLL_CFG_REF_SEL 0 = 0 ∨ (s.get F.PLL_CFG_REF_SEL 0 = 1 ∧ s.on F.CLK_STAT_REF_OK 0 = true) →
      exec (.pllApply a w) s = .next (s.startRelock (s.get F.PLL_CFG_REF_SEL 0))) ∧
    (s.clk.relock.isSome = true ∨ (s.get F.PLL_CFG_REF_SEL 0 = 1 ∧ s.on F.CLK_STAT_REF_OK 0 = false) →
      exec (.pllApply a w) s = .next (s.discard a .clock 0 0x48 .range))) ∧
  (∀ (ref : Nat) (s : State), (s.startRelock ref).get F.CLK_STAT_PLL_STATE 0 = 1 ∧ (s.startRelock ref).pllLocked = false ∧
    (s.startRelock ref).clk.target = ref ∧ (s.startRelock ref).clk.relock = some (s.clk.relock.getD s.now)) ∧
  (∀ (count : Nat) (s : State), s.get F.CLK_STAT_PLL_STATE 0 = 1 → s.clk.counted = false → s.refOk s.clk.target = true →
    let k := pllExpected s.clk.target
    (k + 1 < count ∨ count + 1 < k →
      exec (.pllCounterWindow count) s = .next { s with clk := { s.clk with good := 0 } }) ∧
    (k ≤ count + 1 → count ≤ k + 1 → s.clk.good = 0 →
      exec (.pllCounterWindow count) s = .next { s with clk := { s.clk with good := 1 } }) ∧
    (k ≤ count + 1 → count ≤ k + 1 → s.clk.good ≠ 0 → s.clk.target ≠ 2 →
      exec (.pllCounterWindow count) s = .next { s with clk := { s.clk with counted := true } })) ∧
  (∀ (count : Nat) (s : State), s.get F.CLK_STAT_PLL_STATE 0 = 2 → s.refOk (s.get F.CLK_STAT_REF_ACT 0) = true →
    let k := pllExpected (s.get F.CLK_STAT_REF_ACT 0)
    (count ≤ k + 4 → k ≤ count + 4 → exec (.pllCounterWindow count) s = .next s) ∧
    (k + 4 < count → exec (.pllCounterWindow count) s =
      .next ((s.raise .clock 0 Ev.pllUnlock).startRelock (s.get F.CLK_STAT_REF_ACT 0)))) ∧
  (∀ (start : Nat) (s : State), s.clk.relock = some start → s.clk.counted = true → s.mode = .awake →
    exec .pllLock s = .next (s.pllLocks start) ∧ (s.pllLocks start).clk.relock = none ∧
      (s.pllLocks start).clk.resume = true) ∧
  (∀ (n : Fin 8) (start : Nat) (s : State), (s.fe n.val).stopped = some start →
    (s.pllLocked = false → exec (.windowResume n) s = .next s) ∧
    (s.pllLocked = true → s.powered .fe n.val = true → s.lineLocked (s.hwOf n.val) = true →
      s.windowSlots n.val = [] → exec (.windowResume n) s =
        .next ((((s.setFe n.val { s.fe n.val with stopped := none }).rawGap n.val start).folGap n.val start).latchFrame n.val)))

/-- HIST_SECOND, LIFE_UPDATE, AGE_MEASURE_GO, AGE_MEASURE_TIMER and AGE_MEASURE_DONE (R513 to R515). Each second of the hottest valid
sensor falls into its bin of 10 °C, and 60 make a minute; the hour writes the equivalent hours, with LIFE_WARN once at 80 %;
a measurement starts by GO or by the timer, and a slowdown of 4 % or more raises AGE_WARN once. -/
def Obligations.HealthMonitors : Prop :=
  (∀ t : Int, (t < -40 → histBin t = 0) ∧ (240 ≤ t → histBin t = 15) ∧
    (-40 ≤ t → t < 240 → 1 ≤ histBin t ∧ histBin t ≤ 14 ∧
      20 * ((histBin t : Int) - 1) ≤ t + 40 ∧ t + 40 < 20 * (histBin t : Int))) ∧
  (∀ (temps : List Int) (t0 : Int) (s : State), s.domOn 0 = true → s.domOn 1 = false → temps[0]? = some t0 →
    let h := s.histAdd (histBin t0)
    ∃ t, exec (.histSecond temps) s = .next t ∧ t = { h with health := t.health } ∧ t.health.secs = h.health.secs) ∧
  (∀ (k : Nat) (s : State), (Tbl.get s.health.secs 0 k < 59 →
      s.histAdd k = { s with health := { s.health with secs := Tbl.set s.health.secs 0 k (Tbl.get s.health.secs 0 k + 1) } }) ∧
    (59 ≤ Tbl.get s.health.secs 0 k →
      s.histAdd k = { s.countE F.HIST_MINUTES 0 k 1 with health := { s.health with secs := Tbl.set s.health.secs 0 k 0 } })) ∧
  (∀ s : State, s.domOn 1 = true →
    let t := s.put F.HLT_LIFE_EQ_HOURS 0 (min s.lifeHours (2 ^ 32 - 1))
    (s.lifeHours < 175200 → exec .lifeUpdate s = .next t) ∧
    (175200 ≤ s.lifeHours → s.health.lifeTold = false → exec .lifeUpdate s =
      .next ({ t with health := { s.health with lifeTold := true } }.raise .health 0 Ev.lifeWarn))) ∧
  (∀ (a : Accessor) (w : Word) (s : State), s.Acts a .health 0 0x84 → bit w.toNat 0 = true →
    (s.on F.HLT_AGE_CMD_RUNNING 0 = false → exec (.ageMeasureGo a w) s = .next (s.put F.HLT_AGE_CMD_RUNNING 0 1)) ∧
    (s.on F.HLT_AGE_CMD_RUNNING 0 = true → exec (.ageMeasureGo a w) s = .next (s.discard a .health 0 0x84 .range))) ∧
  (∀ s : State, s.domOn 1 = true → exec .ageMeasureTimer s = .next (s.put F.HLT_AGE_CMD_RUNNING 0 1)) ∧
  (∀ (v : Nat) (s : State), s.on F.HLT_AGE_CMD_RUNNING 0 = true → s.domOn 1 = true →
    let t := ((s.put F.HLT_AGE_CMD_RUNNING 0 0).putE F.HLT_AGE_SLOW 0 0 (min v 65535)).putE F.HLT_AGE_VALID 0 0 1
    (v < 400 → exec (.ageMeasureDone [v]) s = .next t) ∧
    (400 ≤ v → s.health.ageTold = false → exec (.ageMeasureDone [v]) s =
      .next ({ t with health := { s.health with ageTold := true } }.raise .health 0 Ev.ageWarn)))

/-! ### Rings and records (R386 to R412) -/

/-- RING_ENABLE, RING_DISABLE and DRAIN_END (R390, R396). Enabling takes the pots, zeroes HEAD, TAIL and SEQ, and the ring is
RUNNING, or STOPPED while its function may not send; BASE 0 and a class that does not suit are refused; disabling drains; a
drained ring with nothing in hand frees its pots and is DISABLED.

RING_TAIL_WRITE, RING_RESTART, RING_FLUSH and FLUSH_TIMER (R391, R393, R394). TAIL takes a value below ENTRIES, and a STARVED ring goes on;
RESTART lets a HALTED ring fetch again; FLUSH and the timer complete the current buffer once its record is whole, with no effect where
it holds no byte. -/
def Obligations.RingWork : Prop :=
  ((∀ (a : Accessor) (r : Fin 64) (w : Word) (s : State), s.HeadActs a .ring r.val 0x10 false true →
    bits w.toNat 4 1 = 0 → s.powered .ring r.val = true → s.on (H.RESET .ring) r.val = false →
    (∀ u, bit w.toNat 0 = true → s.enabled .ring r.val = false → s.ringState r.val = 0 → s.ringBase r.val ≠ 0 →
      s.ringBase r.val % 32 = 0 → s.get F.RING_CFG_DIR r.val = 0 →
      s.allocPots (s.ringFunc r.val) (.ring r.val) (s.get F.RING_CFG_POTS r.val) = some u →
      let t := { u with rings := Tbl.erase u.rings r.val }.puts r.val [(H.ENABLE .ring, 1), (F.RING_HEAD_HEAD, 0),
        (F.RING_TAIL_TAIL, 0), (F.RING_SEQ_SEQ, 0), (F.RING_STAT_HALT_REASON, 0), (F.RING_STAT_GAP_PEND, 0),
        (F.RING_FILL_BYTES, 0)]
      let c := t.cfg (t.ringFunc r.val)
      exec (.ringEnable a r w) s = .next (t.put F.RING_STAT_STATE r.val (if c.bme && !c.d3 then 1 else 3)).sweeps) ∧
    (bit w.toNat 0 = true → s.enabled .ring r.val = false → s.ringState r.val = 0 → s.ringBase r.val = 0 →
      exec (.ringEnable a r w) s = .next (s.discard a .ring r.val 0x10 .range).sweeps) ∧
    (bit w.toNat 0 = false → exec (.ringDisable a r w) s = .next (s.ringDisable r.val).sweeps)) ∧
  (∀ (r : Nat) (s : State), s.enabled .ring r = true →
    ((s.ringDisable r).ring r).draining = true ∧ (s.ringDisable r).enabled .ring r = false ∧
    (s.ringState r ≠ 5 → (s.ringDisable r).ringState r = 6) ∧ (s.ringDisable r).crucible = s.crucible) ∧
  (∀ (r : Fin 64) (s : State), (s.ring r.val).draining = true → (s.ring r.val).ending = none →
    exec (.drainEnd r) s = .next (s.ringEnd r.val false)) ∧
  (∀ (r : Nat) (s : State), (s.ringFinish r false).ringState r = 0 ∧ (s.ringFinish r false).potsOf (.ring r) = [] ∧
    bit ((s.ringFinish r false).get (H.EVT .ring) r) Ev.ringDisabled = true)) ∧
  ((∀ (a : Accessor) (r : Fin 64) (w : Word) (s : State), s.Acts a .ring r.val 0x50 →
    let v := bits w.toNat 15 0
    let t := s.put F.RING_TAIL_TAIL r.val v
    (v < s.get F.RING_SIZE_ENTRIES r.val → s.ringState r.val ≠ 2 → exec (.ringTailWrite a r w) s = .next t) ∧
    (v < s.get F.RING_SIZE_ENTRIES r.val → s.ringState r.val = 2 → v ≠ s.get F.RING_HEAD_HEAD r.val →
      exec (.ringTailWrite a r w) s = .next (t.put F.RING_STAT_STATE r.val 1)) ∧
    (s.get F.RING_SIZE_ENTRIES r.val ≤ v →
      exec (.ringTailWrite a r w) s = .next (s.discard a .ring r.val 0x50 .range))) ∧
  (∀ (a : Accessor) (r : Fin 64) (w : Word) (s : State), s.ActsNow a .ring r.val 0x84 w →
    (bits w.toNat 1 0 = 2 → exec (.ringRestart a r w) s = .next (s.ringRestart r.val)) ∧
    (bits w.toNat 1 0 = 1 → exec (.ringFlush a r w) s = .next (s.flushBuf r.val))) ∧
  (∀ (r : Nat) (s : State), s.ringState r = 4 → s.get F.RING_CFG_DIR r = 0 →
    s.ringRestart r = (((s.setRing r { s.ring r with descs := [] }).put F.RING_STAT_HALT_REASON r 0).showFill r).ringGoes r) ∧
  (∀ (r : Nat) (s : State), s.ringState r ≠ 4 → s.ringRestart r = s) ∧
  (∀ (r : Nat) (s : State), (s.ring r).used = 0 ∨ (s.ring r).descs = [] → s.flushBuf r = s) ∧
  (∀ (r : Fin 64) (s : State), (s.get F.RING_FLUSH_FLUSH_US r.val = 0 → exec (.flushTimer r) s = .next s) ∧
    (s.get F.RING_FLUSH_FLUSH_US r.val ≠ 0 → exec (.flushTimer r) s = .next (s.flushBuf r.val))))

/-- DESC_FETCH, DMA_BURST, COAL_TIMER and READ_COMPLETION_ERROR (R388, R389, R391, R393, R394, R397). A fetch reads the 32 bytes of the next
descriptor handed over; LEN 0 at HEAD halts with DESC_ERR; the DMA engine serves rings by class and in turn, and a burst of a
TO_HOST ring with a known address writes stream bytes, at most 512 and not across a 4 KiB boundary; the timer sends the message due; a
failed read halts the ring with HOST_ERR.

RECORD_OFFER and CULL_OVERFLOW_END (R398 to R400). A record enters the elastic buffer whole, with the next SEQ, or is culled whole and
counted; after culls of its source a GAP of 64 bytes goes ahead of it; an overflow episode ends with no tracked source left. -/
def Obligations.RingData : Prop :=
  ((∀ (r : Fin 64) (addr len ctl cookie phys : Nat) (s : State), s.ringMoves r.val = true → s.descMore r.val = true →
    s.xlate (s.ringFunc r.val) (s.descAddr r.val (s.descNext r.val)) false = some phys →
    let t := (s.hit r.val).send (.dmaRead r.val phys 32)
    let d : Desc := { index := s.descNext r.val, addr := addr, len := len, int := bit ctl 0, cookie := cookie }
    exec (.descFetch r addr len ctl cookie) s =
      .next ((t.setRing r.val { t.ring r.val with descs := (t.ring r.val).descs ++ [d] }).headCheck r.val)) ∧
  (∀ (r : Nat) (d : Desc) (rest : List Desc) (s : State), (s.ring r).descs = d :: rest →
    (d.len ≠ 0 → s.headCheck r = s) ∧
    (d.len = 0 → s.headCheck r = (s.setRing r { s.ring r with descs := [] }).haltRing r 1)) ∧
  (∀ (r : Fin 64) (cut : Bool) (data : List Byte) (d : Desc) (rest : List Desc) (addr phys : Nat) (s : State),
    s.dmaRing = some r.val → s.ringNeed r.val = some (0, addr) → s.xlate (s.ringFunc r.val) addr true = some phys →
    (s.ring r.val).descs = d :: rest →
    let u := { s with dmaTurn := Tbl.set s.dmaTurn 63 (s.get F.RING_CFG_CLASS r.val) r.val }
    exec (.dmaBurst r cut data) s = .next (u.burstOut r.val d phys cut)) ∧
  (∀ (r : Fin 64) (cut : Bool) (data : List Byte) (s : State), s.dmaRing ≠ some r.val →
    exec (.dmaBurst r cut data) s = .next s) ∧
  (∀ (turn : Tbl Nat) (ok : Nat → Bool) (r q : Nat) (s : State), s.pickRing turn ok = some r → q < 64 → ok q = true →
    s.get F.RING_CFG_CLASS q < 4 → r < 64 ∧ ok r = true ∧ s.get F.RING_CFG_CLASS r ≤ s.get F.RING_CFG_CLASS q) ∧
  (∀ (n pos sent : Nat) (first : Option Nat) (l : List Held), (takeStream n pos first l sent).1.length ≤ n ∧
    (takeStream n pos first l sent).2.1.length ≤ l.length) ∧
  (∀ (r : Fin 64) (s : State), (s.ring r.val).coal ≠ 0 → s.on F.RING_IRQ_EN r.val = true →
    s.get F.RING_IRQ_COAL_US r.val ≠ 0 → exec (.coalTimer r) s =
      .next ((s.setRing r.val { s.ring r.val with coal := 0 }).message (s.ringFunc r.val) (s.get F.RING_IRQ_VEC r.val))) ∧
  (∀ (r : Fin 64) (cause : Fin 4) (s : State), s.ringMoves r.val = true → exec (.readCompletionError r cause) s =
    .next ((s.aerLog (s.ringFunc r.val) r.val (cause.val + 1)).haltRing r.val 3))) ∧
  ((∀ (r : Fin 64) (x : Rec) (s : State), x.notRx = 0 → s.domOn 14 = true →
    exec (.recordOffer r x) s = .next (s.offer r.val { x with epoch := s.srcEpoch x.kind x.source })) ∧
  (∀ (r : Nat) (x : Rec) (s : State), x.produced (s.get F.RING_CFG_REC_VER r) = true → s.ringTakes r = true →
    (s.ring r).culls = [] →
    let len := x.length (s.get F.RING_CFG_REC_VER r)
    ((s.ring r).fill + len ≤ s.ringCap r →
      s.offer r x = (s.setRing r { s.ring r with culling := false }).enter r x) ∧
    (s.ringCap r < (s.ring r).fill + len → s.offer r x = s.cull r x true)) ∧
  (∀ (r : Nat) (x : Rec) (c : Culled) (s : State), x.produced (s.get F.RING_CFG_REC_VER r) = true →
    s.ringTakes r = true → (s.ring r).culls = [c] → c.isOf x = true →
    let len := x.length (s.get F.RING_CFG_REC_VER r)
    ((s.ring r).fill + 64 + len ≤ s.ringCap r → s.offer r x =
      (((s.setRing r { s.ring r with culls := [], culling := false }).put F.RING_STAT_GAP_PEND r 0).enter r
        (c.gap x.time)).enter r x) ∧
    (s.ringCap r < (s.ring r).fill + 64 + len → s.offer r x = s.cull r x true)) ∧
  (∀ (r : Nat) (x : Rec) (s : State), s.ringTakes r = false → x.produced (s.get F.RING_CFG_REC_VER r) = true →
    s.offer r x = s.cull r x false) ∧
  (∀ (r : Nat) (x : Rec) (k : Bool) (s : State), s.get F.RING_SEQ_SEQ r < 2 ^ 32 - 1 →
    (s.cull r x k).get F.RING_SEQ_SEQ r = s.get F.RING_SEQ_SEQ r + 1 ∧ ((s.cull r x k).ring r).buf = (s.ring r).buf) ∧
  (∀ (r : Fin 64) (o : Overflow) (s : State), (s.ring r.val).overflow = some o → (s.ring r.val).culls = [] →
    let done := (s.ring r.val).overflowDone ++ [(o, s.now)]
    exec (.cullOverflowEnd r) s =
      .next ((s.setRing r.val { s.ring r.val with overflow := none, overflowDone := done }).overflowGap r.val)))

/-! ### Power, sleep, wake and the lehr sequencer (R321 to R352, R519 to R521) -/

/-- PD_REQ and POWER_DONE (R322): an on request for one domain starts its transition; when a transition ends with no request
behind it, the domain is on or off as it asked, and no transition runs.

Power-on and epochs (R54, R323): as PD_11 comes on, the epoch of every slot increments once, unless it is the first power-on
after a device reset or a wake, whose increment stands for it; other epochs stay. -/
def Obligations.Domains : Prop :=
  ((∀ (a : Accessor) (w : Word) (d : Nat) (s : State), s.Acts a .aon 0 0x80 → 2 ≤ d → d < 16 → w.toNat = 2 ^ d →
    s.devMoves = false → s.pdQueue = [] → s.pdWaits = false → (s.dom d).run = none → (s.dom d).on = false →
    s.prereqOk d = true →
    exec (.pdReq a w) s = .next { s.setDom d { s.dom d with run := some (true, .pdReq) } with pdQueue := [] }) ∧
  (∀ (d : Fin 16) (on : Bool) (o : Origin) (s : State), d.val ≠ 0 → (s.dom d.val).run = some (on, o) →
    (s.dom d.val).pend = none → s.mode = .awake → s.fg.preset = none → s.pdQueue = [] →
    ∃ t : State, exec (.powerDone d) s = .next t ∧ t.domOn d.val = on ∧ (t.dom d.val).run = none ∧ t.mode = .awake ∧
      (d.val ≠ 13 → t.crucible = s.crucible) ∧ t.time = s.time ∧ t.epochBase = s.epochBase)) ∧
  (∀ s : State,
    ((s.dom 11).exempt = false → ∀ n, n < 512 →
      (s.domUp 11).epoch (.slot n) = (if s.epoch (.slot n) = 255 then 1 else s.epoch (.slot n) + 1)) ∧
    ((s.dom 11).exempt = true → ∀ r : Res, (s.domUp 11).epoch r = s.epoch r) ∧
    (∀ n, (s.domUp 11).epoch (.ring n) = s.epoch (.ring n) ∧ (s.domUp 11).epoch (.tap n) = s.epoch (.tap n)))

/-- CB_STATE_WRITE and CB_DONE (R519, R520): an accepted request shows at once in CB_STATE and changes no contents; at its end the
bank is in the state asked for, and a bank that goes OFF holds no defined byte. -/
def Obligations.CrucibleBanks : Prop :=
  (∀ (a : Accessor) (w : Word) (s : State), s.Acts a .crucible 0 0x40 →
    (∀ k, k < 8 → bits w.toNat (2 * k + 1) (2 * k) ≠ 3 ∧
      (bits w.toNat (2 * k + 1) (2 * k) ≠ s.bankShown k →
        (s.bank k).moving = none ∧ (bits w.toNat (2 * k + 1) (2 * k) = 0 ∨ s.bankUsed k = false))) →
    ∃ t : State, exec (.cbStateWrite a w) s = .next t ∧ (∀ k, k < 8 → t.bankShown k = bits w.toNat (2 * k + 1) (2 * k)) ∧
      { t with banks := s.banks } = s) ∧
  (∀ (k : Fin 8) (x : Nat) (s : State), (s.bank k.val).moving = some x →
    (x ≠ 2 → exec (.cbDone k) s =
      .next ((s.setBank k.val { s.bank k.val with state := x, moving := none }).raise .crucible 0 Ev.cbDone)) ∧
    (x = 2 → exec (.cbDone k) s =
      .next ({ s.setBank k.val { state := 2 } with crucible := Memory.lose s.crucible k.val }.raise .crucible 0 Ev.cbDone))) ∧
  (∀ (m : List Host.Cell) (k a : Nat), bankOf a = k → Memory.read (Memory.lose m k) a = none) ∧
  (∀ (m : List Host.Cell) (k a : Nat), bankOf a ≠ k → Memory.read (Memory.lose m k) a = Memory.read m a)

/-- SLEEP_REQUEST (R327, R328): a request that R327 does not refuse makes DEV_STATE ENTERING and changes nothing else; one that it
refuses is refused with CFG_ERR.

SLEEP_COMMIT and SLEEP_DECLARED (R326, R328, R339): at the commit point every domain but PD_0 goes off and every pot is free; at
the declaration the part is in SLEEP, or in LEHR with the sequencer running and its first cycle one PERIOD away, or due at once with
FIRST_NOW. -/
def Obligations.EnteringSleep : Prop :=
  (∀ (a : Accessor) (w : Word) (s : State), s.Acts a .aon 0 0x44 →
    bits w.toNat 1 0 = 1 ∨ bits w.toNat 1 0 = 2 →
    (s.sleepRefused (bits w.toNat 1 0 == 2) = false →
      exec (.sleepRequest a w) s = .next { s with mode := .entering (bits w.toNat 1 0 == 2), wakeHid := {} }) ∧
    (s.sleepRefused (bits w.toNat 1 0 == 2) = true →
      exec (.sleepRequest a w) s = .next (s.discard a .aon 0 0x44 .range)) ∧
    (s.get F.WAKE_EN_EN 0 = 0 → s.sleepRefused (bits w.toNat 1 0 == 2) = true) ∧
    (s.mode ≠ .awake → s.sleepRefused (bits w.toNat 1 0 == 2) = true) ∧
    (bits w.toNat 1 0 = 2 → s.on F.GLOBAL_STAT_FG_ACTIVE 0 = true → s.sleepRefused true = true)) ∧
  ((∀ (lehr : Bool) (s : State), s.mode = .entering lehr →
    ∃ t : State, exec (.sleepCommit false) s = .next t ∧ t.mode = .committed lehr ∧ (∀ d, d ≠ 0 → t.domOn d = false) ∧ t.pots = []) ∧
  (∀ s : State, s.mode = .committed false → s.wakeHid.srcs = 0 → exec .sleepDeclared s = .next { s with mode := .sleep }) ∧
  (∀ s : State, s.mode = .committed true → s.wakeHid.srcs = 0 →
    s.aonTime.toNat + s.get F.LEHR_CFG_PERIOD 0 * 32768 < 2 ^ 48 →
    ∃ t : State, exec .sleepDeclared s = .next t ∧ t.mode = .lehr ∧ t.on F.LEHR_STAT_RUNNING 0 = true ∧
      t.lehrNext = s.aonTime.toNat + (if s.on F.LEHR_CFG_FIRST_NOW 0 then 0 else s.get F.LEHR_CFG_PERIOD 0 * 32768) ∧
      SameRegs s t [F.LEHR_STAT_RUNNING.key 0 0, F.LEHR_NEXT_LO_AT.key 0 0, F.LEHR_NEXT_HI_AT.key 0 0] ∧
      { t with fields := s.fields, mode := s.mode } = s))

/-- WAKE_EVENT, AON_TIMER_MATCH and AON_SAMPLE (R329, R331, R333): an enabled source aborts an entry before the commit point, with
WAKE_LAST naming it; in SLEEP it starts a wake; a source that is not enabled does nothing. A sample is kept, and it fires nothing
while the temperature is below THRESH and the supply is not below WARN.

WAKE (R54, R333, R334): a wake that is complete leaves the part awake, every epoch increments once, and WAKE_LAST takes the wake. -/
def Obligations.Waking : Prop :=
  ((∀ (lehr : Bool) (s : State), s.mode = .entering lehr → bit (s.get F.WAKE_EN_EN 0) 2 = true → s.wakeHid.srcs = 0 →
    ∃ t : State, exec (.wakeEvent false) s = .next t ∧ t.mode = .awake ∧ t.get F.WAKE_LAST_0_SOURCE 0 = 3 ∧
      t.get F.WAKE_LAST_0_SLEEP_ABORTED 0 = 1 ∧ bit (t.get (H.EVT .aon) 0) Ev.sleepAbort = true) ∧
  (∀ s : State, s.mode = .sleep → bit (s.get F.WAKE_EN_EN 0) 2 = true → s.domOn 1 = false → s.on F.LEHR_STAT_IN_CYCLE 0 = false →
    ∃ t : State, exec (.wakeEvent false) s = .next t ∧ t.mode = .waking false ∧ bit (t.get F.WAKE_PEND_PEND 0) 2 = true ∧
      (t.dom 1).run = some (true, .device)) ∧
  (∀ s : State, bit (s.get F.WAKE_EN_EN 0) 2 = false → exec (.wakeEvent false) s = .next s) ∧
  (∀ s : State, s.aonTime.toNat = s.get F.WAKE_AT_LO_AT 0 + s.get F.WAKE_AT_HI_AT 0 * 2 ^ 32 →
    exec .aonTimerMatch s = .next (s.wakeFire (2 ^ 0) 0)) ∧
  (∀ (temp : Int) (vio : Nat) (s : State), s.mode ≠ .off → temp < 2 * (s.get F.AON_OT_THRESH 0 : Int) →
    s.get F.AON_SUPPLY_WARN 0 ≤ vio →
    exec (.aonSample temp vio) s =
      .next (s.puts 0 [(F.AON_OT_TEMP, satS 16 temp), (F.AON_SUPPLY_VIO_AON, min vio 65535)]))) ∧
  (∀ (lehr : Bool) (s : State), s.mode = .waking lehr → s.pllLocked = true → s.domOn 13 = true →
    (s.on F.SLEEP_CFG_HOST_UP 0 = false ∨ s.domOn 14 = true) →
    ∃ t : State, exec .wake s = .next t ∧ t.mode = .awake ∧ t.wakeHid = {} ∧ t.crucible = s.crucible ∧
      (∀ r : Res, t.epoch r = if s.epoch r = 255 then 1 else s.epoch r + 1) ∧
      t.get F.WAKE_LAST_0_SOURCE 0 = firstSource s.wakeHid.srcs ∧ t.get F.WAKE_LAST_0_SLEEP_ABORTED 0 = 0 ∧
      t.get F.WAKE_LAST_0_COUNT 0 = min (s.get F.WAKE_LAST_0_COUNT 0 + 1) 65535)

/-- SERVE_VISIT and SERVE_VISIT_END (R335): a visit brings PD_1 up and counts itself; at its end SERVE reads 0, the part is in the
state it left, and PD_1 is off unless a cycle has it. No epoch changes.

PUNTY_RELEASE (R338): a held group whose domain is on and whose registers are loaded is released: its pads take their live values,
and HELD and LOADED clear; a group that is not held is left as it is. -/
def Obligations.VisitsAndPads : Prop :=
  ((∀ s : State, s.mode = .sleep ∨ s.mode = .lehr → s.on F.SLEEP_CFG_MGMT_SERVE 0 = true → s.visits = false →
    s.domOn 1 = false →
    ∃ t : State, exec .serveVisit s = .next t ∧ t.visits = true ∧ t.domOn 1 = true ∧ t.mode = s.mode ∧
      t.get F.SERVE_COUNT_COUNT 0 = min (s.get F.SERVE_COUNT_COUNT 0 + 1) (2 ^ F.SERVE_COUNT_COUNT.width - 1) ∧
      t.epochBase = s.epochBase ∧ t.epochs = s.epochs) ∧
  (∀ s : State, s.visits = true → s.on F.LEHR_STAT_IN_CYCLE 0 = false → s.lehr.due = false →
    ∃ t : State, exec .serveVisitEnd s = .next t ∧ t.visits = false ∧ t.domOn 1 = false ∧ t.mode = s.mode ∧
      t.epochBase = s.epochBase ∧ t.epochs = s.epochs) ∧
  (∀ s : State, s.visits = true → s.on F.LEHR_STAT_IN_CYCLE 0 = true → s.lehr.due = false →
    exec .serveVisitEnd s = .next (s.put F.AON_STAT_SERVE 0 0))) ∧
  ((∀ (a : Accessor) (w : Word) (g : Nat) (s : State), s.Acts a .aon 0 0x88 → g < 8 → w.toNat = 2 ^ g → s.held g = true →
    s.domOn (puntyDom g) = true → s.loaded g = true → exec (.puntyRelease a w) s = .next (s.release g)) ∧
  (∀ (a : Accessor) (w : Word) (g : Nat) (s : State), s.Acts a .aon 0 0x88 → g < 8 → w.toNat = 2 ^ g → s.held g = false →
    exec (.puntyRelease a w) s = .next s) ∧
  (∀ (g : Nat) (s : State), g < 8 → (s.release g).held g = false ∧ (s.release g).loaded g = false ∧
    (s.release g).padOut g = (s.release g).padLive g ∧
    ∀ k, k < 8 → k ≠ g → (s.release g).held k = s.held k ∧ (s.release g).loaded k = s.loaded k))

/-- WATCH_ENTRY_WRITE (R341): a write with EN 0 is accepted whatever else the entry holds, it disables the entry and clears its
history; a write with EN 1 of an entry that R341 does not admit is refused with CFG_ERR.

LEHR_ALERT_ACK and LOG_CLEAR (R345, R346): ACK clears the alert latch and CLEAR empties the log; neither changes anything else.

LEHR_CYCLE_START (R339, R352): in LEHR, with no cycle running and no visit, the cycle starts: IN_CYCLE reads 1, CYCLES counts, PD_1
is on, its PLL relocks, and the next cycle is one PERIOD on; while a cycle runs CYCLE_OVERRUN is raised in its place.

LEHR_UNIT_MATCH and LEHR_DWELL_END (R342, R343): a deciding unit ends the dwell with a match at its frequency; a dwell that ends
without validity goes on at the next alternative frequency, and without one its outcome is no match. -/
def Obligations.LehrSequencer : Prop :=
  (∀ (a : Accessor) (e : Fin 16) (w : Word) (s : State), s.Acts a .lehr 0 (0x100 + 0x20 * e.val) → s.major a 0x5C = 2 →
    (bit w.toNat 0 = false →
      ∃ t : State, exec (.watchEntryWrite a e 0 w) s = .next t ∧ t.getE F.LW_CFG_EN 0 e.val = 0 ∧
        t.getE F.LW_STAT_HISTORY 0 e.val = 0 ∧ { t with fields := s.fields } = s) ∧
    (∀ t : State, plainWrite .lehr 0 (0x100 + 0x20 * e.val) 2 w s = .ok t → bit w.toNat 0 = true →
      (t.watchOf e.val).ok (t.getE F.LW_FREQ_DWELL 0 e.val) = false →
      exec (.watchEntryWrite a e 0 w) s = .next (s.discard a .lehr 0 (0x100 + 0x20 * e.val) .range))) ∧
  ((∀ (a : Accessor) (w : Word) (s : State), s.Acts a .lehr 0 0x48 → bit w.toNat 1 = true →
    exec (.lehrAlertAck a w) s = .next (s.put F.LEHR_ALERT_ASSERTED 0 0)) ∧
  (∀ (a : Accessor) (w : Word) (s : State), s.Acts a .lehr 0 0x4C → bit w.toNat 31 = true →
    exec (.logClear a w) s =
      .next (s.puts 0 [(F.LEHR_LOGCTL_HEAD, 0), (F.LEHR_LOGCTL_COUNT, 0), (F.LEHR_LOGCTL_OVERFLOW, 0)]))) ∧
  ((∀ s : State, s.mode = .lehr → s.on F.LEHR_STAT_IN_CYCLE 0 = false → s.visits = false → s.domOn 1 = false →
    ∃ t : State, exec .lehrCycleStart s = .next t ∧ t.on F.LEHR_STAT_IN_CYCLE 0 = true ∧ t.domOn 1 = true ∧ t.clk.relock ≠ none ∧
      t.get F.LEHR_STAT_CYCLES 0 = min (s.get F.LEHR_STAT_CYCLES 0 + 1) (2 ^ F.LEHR_STAT_CYCLES.width - 1) ∧
      t.mode = .lehr) ∧
  (∀ s : State, s.mode = .lehr → s.on F.LEHR_STAT_IN_CYCLE 0 = true →
    exec .lehrCycleStart s =
      .next ((s.putLehrNext (s.lehrNext + s.get F.LEHR_CFG_PERIOD 0 * aonPerSecond)).raise .lehr 0 Ev.cycleOverrun)) ∧
  (∀ s : State, s.mode ≠ .lehr → exec .lehrCycleStart s = .next s)) ∧
  ((∀ (u : WatchUnit) (d : Dwell) (s : State), s.dwelling = some d → u.hits d.set.rule d.set.p0 d.set.p1 = true →
    exec (.lehrUnitMatch u) s =
      .next (s.outcome d true true (some d.af) (u.value (sgn 16 (s.getE F.LW_STAT_VALUE 0 d.entry))))) ∧
  (∀ (level value : Int) (present sync : Bool) (d : Dwell) (s : State), s.dwelling = some d → d.set.rule = 0 →
    exec (.lehrDwellEnd level present sync value) s =
      .next (s.outcome d true (decide (sgn 16 (bits d.set.p0 15 0) < level)) (some d.af) level)) ∧
  (∀ (level value : Int) (present : Bool) (d : Dwell) (k : Nat) (rest : List Nat) (s : State), s.dwelling = some d →
    d.set.rule = 3 → d.rest = k :: rest →
    exec (.lehrDwellEnd level present false value) s =
      .next { s.dwellTune d.set k with
        lehr := { s.lehr with dwell := some { d with af := k, rest := rest, tone := 0 } } }) ∧
  (∀ (level value : Int) (present : Bool) (d : Dwell) (s : State), s.dwelling = some d → d.set.rule = 3 → d.rest = [] →
    exec (.lehrDwellEnd level present false value) s = .next (s.outcome d false false none value)))

/-! ### Start-up, first gather and the loader (R354 to R382) -/

/-- AON_POWER_UP and VIO_AON_REMOVAL (R25, R54, R355, R499): from OFF, PD_0 comes up in RESET; with VIO_AON gone everything that PD_0
holds is lost: device time reads 0 and every epoch 1 from then on. What is programmed in OTP stays.

PWR_GOOD_RISE (R354, R357, R358, R472): the straps are latched, every pad group is held, and PD_1 starts to come up; while the part
is not in reset nothing happens. -/
def Obligations.PowerUp : Prop :=
  ((∀ (ma : Fin 8) (s : State), s.mode = .off →
    exec (.aonPowerUp ma) s = .next { s with mode := .reset, start := { s.start with ma := ma.val } }) ∧
  (∀ s : State, ∃ t : State, exec .vioAonRemoval s = .next t ∧ t.mode = .off ∧ t.time = 0 ∧ t.aonTime = 0 ∧ t.fields = [] ∧
    t.crucible = [] ∧ (∀ r : Res, t.epoch r = 1) ∧ (∀ d, t.domOn d = false) ∧ t.otp = s.otp)) ∧
  (∀ (straps ma : Fin 8) (s : State),
    (s.mode = .reset → s.start.holding = true →
      ∃ t : State, exec (.pwrGoodRise straps ma) s = .next t ∧ t.start.strap = straps.val ∧ t.start.ma = ma.val ∧
        t.start.holding = false ∧ (t.dom 1).run = some (true, .device) ∧ (∀ g, g < 8 → t.held g = true) ∧
        t.mode = .reset ∧ t.epochBase = s.epochBase ∧ t.epochs = s.epochs) ∧
    (s.mode ≠ .reset → exec (.pwrGoodRise straps ma) s = .next s))

/-- PWR_GOOD_FALL and SYS_RST_N_LOW (R54, R325, R326, R356): a device reset. Every domain but PD_0 is off, every epoch increments once,
every dialect returns to 0 and SPOKEN to 1, and device time goes on. Before the first rise of PWR_GOOD its fall is no reset. -/
def Obligations.DeviceResets : Prop :=
  (∀ s : State, s.mode ≠ .off → s.start.pwrHigh = true → exec .pwrGoodFall s = .next s.deviceReset) ∧
  (∀ s : State, s.start.pwrHigh = false → exec .pwrGoodFall s = .next s) ∧
  (∀ s : State, s.mode ≠ .off → exec .sysRstNLow s = .next s.deviceReset) ∧
  (∀ s : State, s.deviceReset.mode = .reset ∧ (∀ d, d ≠ 0 → s.deviceReset.domOn d = false) ∧
    (∀ r : Res, s.deviceReset.epoch r = if s.epoch r = 255 then 1 else s.epoch r + 1) ∧ s.deviceReset.speak = [] ∧
    s.deviceReset.spoken = 1 ∧ s.deviceReset.time = s.time ∧ s.deviceReset.aonTime = s.aonTime ∧
    s.deviceReset.otp = s.otp ∧ s.deviceReset.start.holding = true)

/-- STAGE_1_TIMEOUT and FG_ESTABLISHED (R358, R365): 600 ms without first gather bring stage 1, and so does its establishment, which
FG_STAT shows: PLAYING with audio, else WATCHING.

FG_WATCH_MATCH and FG_WATCH_END (R366): a match that makes CONFIRM consecutive ones activates the alarm of its entry, which sets the
latch; a unit that does not match breaks the run; END_MS without a match end the alarm. -/
def Obligations.FirstGather : Prop :=
  ((∀ s : State, s.domOn 1 = true → s.stage = 0 → s.domOn 14 = true →
    exec .stage1Timeout s = .next { s with start := { s.start with ready1 := true } }.stageUp) ∧
  (∀ (p : Preset) (s : State), s.fgReceives = some p → s.get F.FG_STAT_STATE 0 = 1 →
    exec .fgEstablished s = .next (s.put F.FG_STAT_STATE 0 (if p.audio ∧ p.mode ≤ 1 then 2 else 3)).stage1Ready)) ∧
  ((∀ (e : Fin 4) (u : WatchUnit) (p : Preset) (s : State), s.fgReceives = some p →
    (p.rules.getD e.val (0, 0, 0, 0, 0)).1 ≠ 0 →
    let r := p.rules.getD e.val (0, 0, 0, 0, 0)
    let h := Tbl.get s.fg.watch {} e.val
    let m := fgMatch r.1 r.2.2.2.1 r.2.2.2.2 h.tone u
    (m.1 = true → r.2.1 ≤ h.hits + 1 → bit (s.get F.FG_WATCH_ACTIVE 0) e.val = false →
      exec (.fgWatchMatch e u) s =
        .next ({ s with fg := { s.fg with watch := Tbl.set s.fg.watch {} e.val ⟨h.hits + 1, s.now, m.2⟩ } }.fgActivate e.val)) ∧
    (m.1 = false → exec (.fgWatchMatch e u) s =
      .next { s with fg := { s.fg with watch := Tbl.set s.fg.watch {} e.val ⟨0, h.last, m.2⟩ } })) ∧
  (∀ (e : Nat) (s : State), e < 4 → bit ((s.fgActivate e).get F.FG_WATCH_ACTIVE 0) e = true ∧
    (s.fgActivate e).get F.FG_STAT_ALERT 0 = 1) ∧
  (∀ (e : Fin 4) (p : Preset) (s : State), s.fg.preset = some p → bit (s.get F.FG_WATCH_ACTIVE 0) e.val = true →
    msTicks (p.rules.getD e.val (0, 0, 0, 0, 0)).2.2.1 ≤ s.now - (Tbl.get s.fg.watch {} e.val).last → p.follow = false →
    exec (.fgWatchEnd e) s =
      .next (s.put F.FG_WATCH_ACTIVE 0 (clearBits (s.get F.FG_WATCH_ACTIVE 0) (2 ^ e.val)))))

/-- FG_STOP, FG_ACK and FG_HANDOVER (R366, R368, R375): ACK clears the latch and nothing else; STOP with no handover running ends first
gather; a HANDOVER that R375 admits starts: STATE 4, RESULT 1, and the slot joins the part's group.

HO_ATTEMPT_END and HO_DONE (R376): an attempt with a peak of at least 0.8 and a lag within a quarter of a sample starts the crossfade;
any other moves the delay by the lag, and after the fourth the handover fails with reason 1. At the end of the crossfade AP_0 plays the
slot, and RESULT is DONE. -/
def Obligations.FirstGatherCommands : Prop :=
  ((∀ (a : Accessor) (w : Word) (s : State), s.Acts a .otp 0 0x50 → bits w.toNat 2 0 = 2 →
    exec (.fgAck a w) s = .next (s.put F.FG_STAT_ALERT 0 0)) ∧
  (∀ (a : Accessor) (w : Word) (s : State), s.Acts a .otp 0 0x50 → bits w.toNat 2 0 = 1 →
    s.on F.GLOBAL_STAT_FG_ACTIVE 0 = true → s.fg.ho = none →
    exec (.fgStop a w) s = .next (s.fgRelease.raise .otp 0 Ev.fgEnd)) ∧
  (∀ (p : Preset) (s : State), s.fg.preset = some p → s.fgRelease.on F.GLOBAL_STAT_FG_ACTIVE 0 = false ∧
    s.fgRelease.get F.FG_STAT_STATE 0 = 6 ∧ s.fgRelease.fg = {}) ∧
  (∀ (a : Accessor) (w : Word) (n : Nat) (s : State), s.Acts a .otp 0 0x50 → bits w.toNat 2 0 = 4 → bits w.toNat 12 4 = n →
    ∀ t, handover n (bit w.toNat 3) s = .ok t →
      exec (.fgHandover a w) s = .next t ∧ t.get F.FG_STAT_STATE 0 = 4 ∧ t.get F.FG_HO_STAT_RESULT 0 = 1 ∧
        (∃ h, t.fg.ho = some h ∧ h.slot = n ∧ h.epoch = s.epoch (.slot n) ∧ h.cross = false))) ∧
  ((∀ (peak lag : Int) (h : Ho) (s : State), s.fg.ho = some h → h.cross = false →
    (8000 ≤ peak → lag.natAbs ≤ 4 → exec (.hoAttemptEnd peak lag) s =
      .next { s.put F.FG_HO_STAT_ATTEMPTS 0 (s.get F.FG_HO_STAT_ATTEMPTS 0 + 1) with
        fg := { s.fg with ho := some { h with cross := true } } }) ∧
    (peak < 8000 → s.get F.FG_HO_STAT_ATTEMPTS 0 + 1 < 4 →
      ∃ t : State, exec (.hoAttemptEnd peak lag) s = .next t ∧ t.fg.ho = some { h with d := h.d + lag * 64 } ∧
        t.get F.FG_HO_STAT_ATTEMPTS 0 = s.get F.FG_HO_STAT_ATTEMPTS 0 + 1 ∧ t.get F.FG_STAT_STATE 0 = s.get F.FG_STAT_STATE 0) ∧
    (peak < 8000 → s.get F.FG_HO_STAT_ATTEMPTS 0 = 3 →
      ∃ t : State, exec (.hoAttemptEnd peak lag) s = .next t ∧ t.fg.ho = none ∧ t.get F.FG_HO_STAT_RESULT 0 = 3 ∧
        t.get F.FG_HO_STAT_REASON 0 = 1 ∧ t.get F.FG_STAT_STATE 0 = 2)) ∧
  (∀ (h : Ho) (p : Preset) (s : State), s.fg.ho = some h → s.fg.preset = some p → h.cross = true → h.stop = false →
    h.keep = true → h.slot < 512 → p.apSlot < 32 →
    ∃ t : State, exec .hoDone s = .next t ∧ t.getE F.OUT_SRC_KIND 0 (p.apSlot / 2) = 1 ∧
      t.getE F.OUT_SRC_INDEX 0 (p.apSlot / 2) = h.slot ∧ t.get F.FG_HO_STAT_RESULT 0 = 2 ∧ t.get F.FG_STAT_STATE 0 = 5 ∧
      t.fg.ho = none ∧ t.fg.preset = some p))

/-- IMAGE_AUTH_DONE (R371, R372): the flash candidate that passes every check starts and the loader is in INIT with its version and
sequence; the only flash candidate, when a check fails, leaves ERR with the number of the check that failed first, and the loader waits for
the host unless policy 1 halts it.

BOOT_WATCHDOG, MBX_GO and MBX_ABORT (R372 to R374): the watchdog acts only in INIT, with ERR 9 and FALLBACK after a flash image;
GO in WAIT_HOST with a length starts HOST_LOAD of the host's image; ABORT returns to WAIT_HOST with ERR 10. -/
def Obligations.Loading : Prop :=
  ((∀ (flash : List (List Byte)) (k g h : Bool) (i : Nat) (hd : List Byte) (s : State), s.get F.BOOT_STAT_STATE 0 = 1 →
    nextImage flash s.start.tried = some (i, hd) → i < 4 → s.imageErr hd none k g h = 0 →
    ∃ t : State, exec (.imageAuthDone flash k g h) s = .next t ∧ t.get F.BOOT_STAT_STATE 0 = 5 ∧
      t.get F.FW_VER_VER 0 = hdrNum hd 20 4 % 2 ^ 32 ∧ t.get F.BOOT_STAT_SOURCE 0 = i ∧
      t.start.image = some (i, hdrNum hd 20 4, hdrNum hd 12 4)) ∧
  (∀ (flash : List (List Byte)) (k g h : Bool) (i e : Nat) (hd : List Byte) (s : State), s.get F.BOOT_STAT_STATE 0 = 1 →
    nextImage flash s.start.tried = some (i, hd) → nextImage flash (i :: s.start.tried) = none →
    s.imageErr hd none k g h = e → e ≠ 0 → s.bootPolicy ≠ 1 →
    ∃ t : State, exec (.imageAuthDone flash k g h) s = .next t ∧ t.get F.BOOT_STAT_STATE 0 = 2 ∧ t.get F.BOOT_STAT_ERR 0 = e) ∧
  (∀ (hd : List Byte) (g h : Bool) (s : State), hdrOk hd = true → 4 ≤ hdrNum hd 8 4 → hdrNum hd 8 4 ≤ 786432 →
    hdrNum hd 8 4 % 4 = 0 → hdrNum hd 6 2 ≤ 3 → s.keyRevoked (hdrNum hd 6 2) = true → s.imageErr hd none true g h = 4)) ∧
  ((∀ s : State, s.get F.BOOT_STAT_STATE 0 = 5 → s.get F.BOOT_STAT_SOURCE 0 ≠ 2 →
    ∃ t : State, exec .bootWatchdog s = .next t ∧ t.get F.BOOT_STAT_STATE 0 = 1 ∧ t.get F.BOOT_STAT_ERR 0 = 9 ∧
      t.get F.BOOT_STAT_FALLBACK 0 = 1 ∧ t.start.image = none) ∧
  (∀ s : State, s.get F.BOOT_STAT_STATE 0 ≠ 5 → exec .bootWatchdog s = .next s) ∧
  (∀ (a : Accessor) (w : Word) (s : State), s.Acts a .global (accIdx a) 0x114 → isManager a = true → bits w.toNat 1 0 = 1 →
    s.get F.BOOT_STAT_STATE 0 = 2 → 516 ≤ s.get F.MBX_LEN_LEN 0 →
    exec (.mbxGo a w) s = .next ((s.put F.BOOT_STAT_SOURCE 0 2).put F.BOOT_STAT_STATE 0 3)) ∧
  (∀ (a : Accessor) (w : Word) (s : State), s.Acts a .global (accIdx a) 0x114 → isManager a = true → bits w.toNat 1 0 = 2 →
    s.get F.BOOT_STAT_STATE 0 = 3 ∨ s.get F.BOOT_STAT_STATE 0 = 4 →
    ∃ t : State, exec (.mbxAbort a w) s = .next t ∧ t.get F.BOOT_STAT_STATE 0 = 2 ∧ t.get F.BOOT_STAT_ERR 0 = 10) ∧
  (∀ (a : Accessor) (w : Word) (s : State), s.Acts a .global (accIdx a) 0x114 → isManager a = false →
    exec (.mbxGo a w) s = .next (s.discard a .global (accIdx a) 0x114 .owner)))

/-! ### Translation and ring faults (R413 to R430, R438 to R441) -/

/-- XLAT_CFG_WRITE, INV_ALL, INV_PAGE, INV_DONE and ATS_INVALIDATE_REQUEST (R414, R421, R422, R438). MODE changes only while every ring of the
function is DISABLED; an invalidation drops the entries it names and is BUSY until done; a host's request drops the entries of its
range and is answered.

LOCAL_WALK and ATS_COMPLETION (R415 to R420, R422, R423, R438). A walk reads three tables from the root, 8 bytes each, indexed by 12 bits
of the address; a good leaf gives a page with its permissions, V = 0 gives CAUSE 1, a reserved bit or a failed read CAUSE 4; an
address beyond 48 bits faults without a walk. A completion gives its page, CAUSE 1 without a permission, CAUSE 3 with UR or CA. -/
def Obligations.TranslationsOfRings : Prop :=
  ((∀ (a : Accessor) (w : Word) (s t : State), s.Acts a .xlat (accView a) 0x40 →
    let f := accView a
    (bits w.toNat 1 0 ≠ s.get F.XLAT_CFG_MODE f → s.ringsIdle f = false →
      exec (.xlatCfgWrite a w) s = .next (s.discard a .xlat f 0x40 .range)) ∧
    (bits w.toNat 1 0 ≠ 1 → s.ringsIdle f = true → plainWrite .xlat f 0x40 (s.major a 0x71) w s = .ok t →
      exec (.xlatCfgWrite a w) s = .next (if bits w.toNat 1 0 = s.get F.XLAT_CFG_MODE f then t else t.xdropAll f)) ∧
    (bits w.toNat 1 0 = 1 → s.ringsIdle f = true → (s.cfg f).ats = false →
      exec (.xlatCfgWrite a w) s = .next (s.discard a .xlat f 0x40 .range))) ∧
  (∀ (a : Accessor) (w : Word) (s : State), s.Acts a .xlat (accView a) 0x4C →
    let f := accView a
    (s.on F.XLAT_INV_BUSY f = false → w.toNat = 1 →
      exec (.invAll a w) s = .next ((s.xdropAll f).put F.XLAT_INV_BUSY f 1)) ∧
    (s.on F.XLAT_INV_BUSY f = false → w.toNat = 2 →
      exec (.invPage a w) s = .next ((s.xdrop f (s.invPage f)).put F.XLAT_INV_BUSY f 1)) ∧
    (s.on F.XLAT_INV_BUSY f = true → w.toNat = 1 →
      exec (.invAll a w) s = .next (s.discard a .xlat f 0x4C .busy)) ∧
    (s.on F.XLAT_INV_BUSY f = false → w.toNat = 3 →
      exec (.invAll a w) s = .next (s.discard a .xlat f 0x4C .range))) ∧
  (∀ (f : Nat) (addr : Nat) (s : State), s.get F.XLAT_CFG_MODE f ≠ 0 →
    (s.xdropAll f).xlate f addr false = none ∧ (s.xdropAll f).xlate f addr true = none ∧
    (s.xdrop f addr).xlate f addr false = none ∧ (s.xdrop f addr).xlate f addr true = none) ∧
  (∀ (f : Fin 4) (s : State), s.on F.XLAT_INV_BUSY f.val = true →
    exec (.invDone f) s = .next ((s.put F.XLAT_INV_BUSY f.val 0).raise .xlat f.val Ev.invDone)) ∧
  (∀ (f : Fin 4) (addr size : Nat) (s : State), s.link.up = true → s.domOn 14 = true →
    let keep (e : XEntry) := !(e.func == f.val && decide (e.base < addr + size) && decide (addr < e.base + e.size))
    exec (.atsInvalidateRequest f addr size) s =
      .next ({ s with xcache := s.xcache.filter keep }.send (.invCompletion f.val)))) ∧
  ((∀ (va root e1 e2 e3 : Nat), bit e1 0 = true → bits e1 14 3 = 0 → bits e1 63 52 = 0 → bit e2 0 = true →
    bits e2 14 3 = 0 → bits e2 63 52 = 0 → bit e3 0 = true → bits e3 11 3 = 0 → bits e3 63 52 = 0 →
    walkFrom va 3 root [(0, e1), (0, e2), (0, e3)] =
      ([root + va / 2 ^ 36 % 4096 * 8, bits e1 51 12 * 4096 + va / 2 ^ 24 % 4096 * 8,
        bits e2 51 12 * 4096 + va / 2 ^ 12 % 4096 * 8], .page (bits e3 51 12 * 4096) (bit e3 1) (bit e3 2))) ∧
  (∀ (va root e : Nat) (k : Nat) (rest : List (Nat × Nat)),
    (bit e 0 = false → (walkFrom va (k + 1) root ((0, e) :: rest)).2 = .fail 1 0) ∧
    (bit e 0 = true → bits e 11 3 ≠ 0 → (walkFrom va (k + 1) root ((0, e) :: rest)).2 = .fail 4 0) ∧
    (∀ st, st = 1 ∨ st = 2 ∨ st = 3 ∨ st = 4 → (walkFrom va (k + 1) root ((st, e) :: rest)).2 = .fail 4 st)) ∧
  (∀ (r : Fin 64) (reads : List (Nat × Nat)) (acc addr : Nat) (needed : Bool) (s : State), s.walkRing = some r.val →
    s.missing r.val = some (acc, addr, needed) →
    let f := s.ringFunc r.val
    let u := { s with walkTurn := Tbl.set s.walkTurn 63 (s.get F.RING_CFG_CLASS r.val) r.val }
    (2 ^ 48 ≤ addr → exec (.localWalk r reads) s = .next (u.translated r.val acc addr needed false (.error 1))) ∧
    (∀ l phys rd wr, addr < 2 ^ 48 → walkFrom addr 3 (s.xroot f) reads = (l, .page phys rd wr) →
      exec (.localWalk r reads) s = .next ((l.foldl (fun x a => x.send (.walkRead f a)) (u.countWalk f needed)).translated
        r.val acc addr needed false (.ok ⟨f, addr / 4096 * 4096, 4096, phys, rd, wr⟩)))) ∧
  (∀ (r : Fin 64) (grant : Option Grant) (acc addr : Nat) (needed : Bool) (s : State),
    s.get F.XLAT_CFG_MODE (s.ringFunc r.val) = 1 → s.missing r.val = some (acc, addr, needed) → addr < 2 ^ 48 →
    (s.cfg (s.ringFunc r.val)).ats = true →
    let f := s.ringFunc r.val
    exec (.atsCompletion r grant) s =
      .next (((s.send (.atsRequest f (addr / 4096 * 4096))).countWalk f needed).translated r.val acc addr needed
        grant.isSome (grantResult grant f addr))) ∧
  (∀ (r acc addr c : Nat) (ask : Bool) (s : State), s.translated r acc addr false ask (.error c) = s ∧
    (∀ e, s.translated r acc addr false ask (.ok e) = s.xput e addr)) ∧
  (∀ (f addr : Nat) (write : Bool) (s : State), s.get F.XLAT_CFG_MODE f = 0 → s.xlate f addr write = some addr))

/-- PRG_RESPONSE, RETRY, SKIP_RECORD, ABORT_RING and FAULT_LOG_FREE (R424 to R428, R440, R441). A fault stops its ring and is logged with where
it came; Invalid Request shows in the entry, Response Failure stops page requests; RESUME of a FAULTED ring retries, skips the record or
aborts, and is refused for any other ring; freeing advances HEAD over at most COUNT entries. -/
def Obligations.RingFaults : Prop :=
  (∀ (r acc cause addr : Nat) (ask : Bool) (s : State), s.get F.FAULT_LOG_COUNT (s.ringFunc r) < 256 →
    let f := s.ringFunc r
    let t := s.faultRing r acc cause addr ask
    t.ringState r = 5 ∧ t.get F.FAULT_LOG_COUNT f = s.get F.FAULT_LOG_COUNT f + 1 ∧
      bit (t.get (H.EVT .fault) f) Ev.fault = true ∧
      (∃ x, (t.ring r).fault = some x ∧ x.addr = addr ∧ x.cause = cause ∧ x.access = acc)) ∧
  (∀ (r : Fin 64) (grant : Option Grant) (x : RingFault) (s : State), (s.ring r.val).fault = some x → x.asked = true →
    let f := s.ringFunc r.val
    let y := { x with asked := false, cause := 3 }
    let t (k : Nat) := ((s.setRing r.val { s.ring r.val with fault := some y }).showAsked f).editFault f x.entry
      fun e => { e with resp := k, cause := 3 }
    exec (.prgResponse r 1 grant) s = .next (t 2) ∧
    exec (.prgResponse r 2 grant) s = .next (((t 3).put F.XLAT_STAT_PRI_STOPPED f 1).raise .xlat f Ev.priStopped)) ∧
  (∀ (a : Accessor) (r : Fin 64) (w : Word) (x : RingFault) (s : State), s.Acts a .fault (accView a) 0x6C →
    bits w.toNat 5 0 = r.val → bits w.toNat 31 24 = s.epoch (.ring r.val) →
    (s.ring r.val).fault = some x → s.ringFunc r.val = accView a → s.ringState r.val = 5 →
    (bits w.toNat 9 8 = 0 → exec (.retry a w) s = .next ((s.settleFault r.val 2).ringGoes r.val)) ∧
    (bits w.toNat 9 8 = 1 → x.access = 0 → exec (.skipRecord a w) s =
      .next (((((s.settleFault r.val 2).skipOut r.val).ringGoes r.val).tryWriteback r.val).feedRing r.val)) ∧
    (bits w.toNat 9 8 = 1 → 2 ≤ x.access →
      exec (.skipRecord a w) s = .next (s.discard a .fault (accView a) 0x6C .range)) ∧
    (bits w.toNat 9 8 = 2 → exec (.abortRing a w) s = .next (s.ringAbort r.val))) ∧
  (∀ (a : Accessor) (w : Word) (s : State), s.Acts a .fault (accView a) 0x40 →
    let f := accView a
    let k := (bits w.toNat 7 0 + 256 - s.get F.FAULT_LOG_HEAD f) % 256
    (s.get F.FAULT_LOG_COUNT f < k → exec (.faultLogFree a w) s = .next (s.discard a .fault f 0x40 .range)) ∧
    (k ≤ s.get F.FAULT_LOG_COUNT f → ∃ t, exec (.faultLogFree a w) s = .next t ∧
      t.get F.FAULT_LOG_COUNT f = s.get F.FAULT_LOG_COUNT f - k ∧
      t.get F.FAULT_LOG_HEAD f = (s.get F.FAULT_LOG_HEAD f + k) % 256 ∧ t.crucible = s.crucible))

/-! ### The link, configuration space, functions (R14, R383 to R387, R431 to R437) -/

/-- PERST_ASSERT, PERST_DEASSERT, HOT_RESET, LINK_DOWN and LINK_UP (R361, R383, R385). A reset of the link resets every function as by an FLR
and takes the link down; PERST_N keeps it so; the link comes up with its speed and width once PERST_N is high and PD_14 is on; each
change by itself raises its event on every function's HOST page.

CONFIG_WRITE and W2_ACCESS (R14, R374, R384, R386, R387, R414, R424). Bus Master Enable and D3hot stop and restart the function's rings;
pending messages go once they may; ATS Enable cleared drops the translations of ATS mode; setting PRI Enable lets page requests go
again. W2 is the crucible of PF_0: a byte written to a bank that is ON is read back, and one that is not ON reads 0 and discards writes. -/
def Obligations.LinkAndHost : Prop :=
  ((∀ s : State, exec .perstAssert s =
      .next { s.linkReset with link := { s.linkReset.link with perst := true } }) ∧
  (∀ s : State, let t := { s with link := { s.link with up := false, speed := 0, lanes := 0 } }
    (s.domOn 14 = false → s.linkReset = t) ∧
    (s.domOn 14 = true → s.linkReset = [0, 1, 2, 3].foldl (fun u f => (u.flr f).flrSettings f) t)) ∧
  (∀ s : State, exec .perstDeassert s = .next { s with link := { s.link with perst := false } }.trainStart) ∧
  (∀ s : State, (s.link.up = true → exec .hotReset s = .next s.linkReset ∧
      exec .linkDown s = .next (s.linkReset.raiseHosts Ev.linkDown)) ∧
    (s.link.up = false → exec .hotReset s = .next s ∧ exec .linkDown s = .next s)) ∧
  (∀ (speed lanes : Nat) (s : State), s.link.up = false → s.link.perst = false → s.domOn 14 = true → s.domOn 1 = true →
    exec (.linkUp speed lanes) s =
      .next ({ s.trainStart with link := { s.link with up := true, speed := speed, lanes := lanes } }.raiseHosts Ev.linkUp)) ∧
  (∀ (speed lanes : Nat) (s : State), s.link.perst = true → exec (.linkUp speed lanes) s = .next s)) ∧
  ((∀ (f : Fin 4) (v : Bool) (s : State), s.link.up = true → s.domOn 14 = true →
    exec (.configWrite f (.bme v)) s =
      .next (((s.setCfg f.val { s.cfg f.val with bme := v }).ringsFollow f.val).flushPending f.val) ∧
    exec (.configWrite f (.d3 v)) s =
      .next (((s.setCfg f.val { s.cfg f.val with d3 := v }).ringsFollow f.val).flushPending f.val) ∧
    exec (.configWrite f (.mse v)) s = .next (s.setCfg f.val { s.cfg f.val with mse := v }) ∧
    (∀ m, exec (.configWrite f (.msix v m)) s =
      .next ((s.setCfg f.val { s.cfg f.val with msixEn := v, msixMask := m }).flushPending f.val)) ∧
    (s.get F.XLAT_CFG_MODE f.val = 1 → exec (.configWrite f (.ats false)) s =
      .next ((s.setCfg f.val { s.cfg f.val with ats := false }).xdropAll f.val)) ∧
    ((s.cfg f.val).pri = false → exec (.configWrite f (.pri true)) s =
      .next ((s.setCfg f.val { s.cfg f.val with pri := true }).put F.XLAT_STAT_PRI_STOPPED f.val 0)) ∧
    (∀ x y, exec (.configWrite f (.sizes x y)) s =
      .next (s.setCfg f.val { s.cfg f.val with mps := x, mrrs := y }))) ∧
  (∀ (addr count : Nat) (data : List Byte) (s : State), s.link.up = true → s.reaches (.pf 0) = true →
    exec (.w2Access true addr count data) s = .next (s.w2Write addr data) ∧
    (let u := s.w2Bytes addr count
     exec (.w2Access false addr count data) s =
      .next ({ u.1 with resp := u.2.map fun b : Byte => b.toNat }.send (.w2Read addr u.2)))) ∧
  (∀ (a c : Nat) (b : Byte) (s : State),
    (s.bankOn (bankOf a) = true → a < Memory.size → bankOf a ≠ 0 → (s.w2Byte a b).cbRead a = some b) ∧
    (c ≠ a → (s.w2Byte a b).cbRead c = s.cbRead c) ∧
    (s.bankOn (bankOf a) = false → s.w2Byte a b = s ∧ (s.w2Bytes a 1).2 = [0])))

/-- OWNERSHIP_WRITE (R432, R443). A write that changes the owner of resources that may change gives each its new owner and increments its
epoch, and OWNER_CHG is raised; one that changes nothing has no effect; one that names a resource in use, or a function whose FLR runs, is
refused whole.

FLR and FLR_DONE (R434 to R437). An FLR sets FLR_BUSY, ends the function's rings, translations, fault log, followers, comparisons and
rules, resets what RESET_SCOPE selects, and returns its settings; another FLR of a function in reset is absorbed; at its end FLR_BUSY clears,
FLR_COUNT counts it, and the epochs of the function and of what it owns increment once. -/
def Obligations.FunctionOwnership : Prop :=
  (∀ (a : Accessor) (off e : Nat) (row : OwnRow) (w : Word) (s : State), s.Acts a .function 0 off →
    ownAt off = some (row, e) →
    let old (i : Nat) : Nat := s.ownEntry row.fld (16 * e + i)
    let new (i : Nat) : Nat := w.toNat / 2 ^ (2 * i) % 4
    let held (i : Nat) : Bool := s.ownHeld (row.inst (16 * e + i)).1 (row.inst (16 * e + i)).2
    ((∀ i, i < 16 → 16 * e + i < row.count → new i = old i) → exec (.ownershipWrite a off w) s = .next s.sweeps) ∧
    ((∃ i, i < 16 ∧ 16 * e + i < row.count ∧ new i ≠ old i ∧ (s.flrRuns (old i) || s.flrRuns (new i)) = true) →
      exec (.ownershipWrite a off w) s = .next (s.discard a .function 0 off .busy).sweeps) ∧
    ((∀ i, i < 16 → 16 * e + i < row.count → new i ≠ old i → (s.flrRuns (old i) || s.flrRuns (new i)) = false) →
      (∃ i, i < 16 ∧ 16 * e + i < row.count ∧ new i ≠ old i ∧ held i = true) →
      exec (.ownershipWrite a off w) s = .next (s.discard a .function 0 off .range).sweeps) ∧
    ((∃ i, i < 16 ∧ 16 * e + i < row.count ∧ new i ≠ old i) →
      (∀ i, i < 16 → 16 * e + i < row.count → new i ≠ old i →
        (s.flrRuns (old i) || s.flrRuns (new i)) = false ∧ held i = false) →
      ∃ t : State, exec (.ownershipWrite a off w) s = .next t.sweeps ∧
        (∀ i, i < 16 → 16 * e + i < row.count → t.ownEntry row.fld (16 * e + i) = new i) ∧
        (∀ i, i < 16 → 16 * e + i < row.count → new i ≠ old i → t.epoch (row.res (16 * e + i)) =
          if s.epoch (row.res (16 * e + i)) = 255 then 1 else s.epoch (row.res (16 * e + i)) + 1) ∧
        bit (t.get (H.EVT .function) 0) Ev.ownerChg = true ∧ t.crucible = s.crucible)) ∧
  ((∀ (f : Fin 4) (s : State), s.link.up = true → s.domOn 14 = true → exec (.flr f) s = .next (s.flr f.val)) ∧
  (∀ (f : Fin 4) (s : State), s.flrRuns f.val = true → s.flr f.val = s) ∧
  (∀ (f : Nat) (s : State), (s.flrSettings f).cfg f = {} ∧ (s.flrSettings f).crucible = s.crucible ∧
    (∀ p, p < 256 → Tbl.get (s.flrSettings f).speak 0 (256 * f + p) = 0)) ∧
  (∀ (f : Fin 4) (s : State), s.flrRuns f.val = true →
    let u := (s.bumpEpoch (.func f.val)).bumpList (s.ownedRes f.val)
    exec (.flrDone f) s = .next ((((u.put F.FUNC_STAT_FLR_BUSY 0
      (clearBits (u.get F.FUNC_STAT_FLR_BUSY 0) (2 ^ f.val))).count (flrCountFld f.val) 0 1).raise .function 0
        Ev.flrDone).sweeps)) ∧
  (∀ (f : Fin 4) (s : State), s.flrRuns f.val = false → exec (.flrDone f) s = .next s))

/-! ### Audio ports (R445 to R470) -/

/-- AP_ENABLE and AP_DISABLE (R446, R448, R465). Enabling checks the format and the clock, takes the input buffer's pots and waits
for frames with no reference; while one of these fails the write is refused; disabling a port that waits for its clock stops it
at once, that of one with frames at the next; first gather keeps AP_0.

AP_FRAME and PORT_INPUT_OFFER (R446, R454, R457, R463). A port that waits runs from its first frame as a controller, and as a target after 16
frames of a measured rate; a target frame of the wrong length slips; a stopping port stops; a completed input record goes to
the ring as soon as it has room, and else waits. -/
def Obligations.Ports : Prop :=
  ((∀ (a : Accessor) (p : Fin 8) (w : Word) (s : State), s.HeadActs a .ap p.val 0x10 false true → bits w.toNat 4 1 = 0 →
    s.powered .ap p.val = true → s.on (H.RESET .ap) p.val = false →
    (∀ u, bit w.toNat 0 = true → s.enabled .ap p.val = false → s.on F.GLOBAL_STAT_FG_ACTIVE 0 = false →
      s.get F.AP_STAT_STATE p.val = 0 → formatOk (s.get F.AP_CFG_FORMAT p.val) (s.get F.AP_CFG_SLOTS p.val) = true →
      s.clockOk p.val = true → s.audPllOn p.val = true →
      s.allocPots (s.owner .ap p.val) (.port p.val) (s.get F.AP_BUF_IN_POTS p.val) = some u →
      let t := u.puts p.val [(H.ENABLE .ap, 1), (F.AP_STAT_STATE, 1), (F.AP_STAT_RATE_VALID, 0), (F.AP_STAT_CLASS, 0),
        (F.AP_STAT_REF_CLASS, 0), (F.AP_RATE_RATE, 0), (F.AP_RATE_REF_RATE, 0)]
      exec (.apEnable a p w) s =
        .next (t.setAp p.val { ins := (t.ap p.val).ins, outs := (t.ap p.val).outs }).sweeps) ∧
    (bit w.toNat 0 = true → s.enabled .ap p.val = false → s.on F.GLOBAL_STAT_FG_ACTIVE 0 = false →
      s.get F.AP_STAT_STATE p.val = 0 → formatOk (s.get F.AP_CFG_FORMAT p.val) (s.get F.AP_CFG_SLOTS p.val) = false →
      exec (.apEnable a p w) s = .next (s.discard a .ap p.val 0x10 .range).sweeps) ∧
    (bit w.toNat 0 = false → exec (.apDisable a p w) s = .next (s.apDisable p.val).sweeps)) ∧
  (∀ (p : Nat) (s : State), s.enabled .ap p = true →
    let t := s.put (H.ENABLE .ap) p 0
    (s.get F.AP_STAT_STATE p = 2 → s.apDisable p = t.setAp p { t.ap p with stopping := true }) ∧
    (s.get F.AP_STAT_STATE p = 1 → s.apDisable p = t.apStop p)) ∧
  (∀ (p : Nat) (s : State), (s.apStop p).get F.AP_STAT_STATE p = 0)) ∧
  ((∀ (p : Fin 8) (bclk rate : Nat) (ins : List (List (Nat × Nat))) (late : List (Fin 16 × Nat)) (s : State),
    s.domOn 15 = true → s.get F.AP_STAT_STATE p.val ≠ 0 →
    let a := s.ap p.val
    let t := s.setAp p.val { a with frames := a.frames + 1 }
    (a.stopping = true → exec (.apFrame p bclk rate ins late) s = .next (s.apStop p.val)) ∧
    (a.stopping = false → s.get F.AP_STAT_STATE p.val = 1 → s.on F.AP_CFG_ROLE p.val = false →
      exec (.apFrame p bclk rate ins late) s = .next ((t.put F.AP_STAT_STATE p.val 2).apRun p.val bclk ins late)) ∧
    (a.stopping = false → s.get F.AP_STAT_STATE p.val = 1 → s.on F.AP_CFG_ROLE p.val = true →
      exec (.apFrame p bclk rate ins late) s =
        .next (if 16 ≤ a.frames ∧ rateMeasured rate = true then t.put F.AP_STAT_STATE p.val 2 else t)) ∧
    (a.stopping = false → s.get F.AP_STAT_STATE p.val = 2 →
      exec (.apFrame p bclk rate ins late) s = .next (s.apRun p.val bclk ins late))) ∧
  (∀ (p k : Nat) (s : State), (s.ap p).out k = { kind := s.getE F.OUT_SRC_KIND p k, index := s.getE F.OUT_SRC_INDEX p k } →
    s.getE F.OUT_SRC_KIND p k = 0 → s.outFrame p k = s) ∧
  (∀ (p : Fin 8) (k : Fin 16) (x : Rec) (rest : List Rec) (s : State), ((s.ap p.val).inp k.val).done = x :: rest →
    let r := s.getE F.IN_CFG_RING p.val k.val
    (s.domOn 14 = true → s.ringTakes r = true → s.owner .ring r = s.owner .ap p.val →
      (s.ring r).fill + x.length (s.get F.RING_CFG_REC_VER r) ≤ s.ringCap r → exec (.portInputOffer p k) s =
        .next ((s.setAp p.val ((s.ap p.val).setInp k.val { (s.ap p.val).inp k.val with done := rest })).offer r x)) ∧
    (s.ringTakes r = false → exec (.portInputOffer p k) s = .next s)) ∧
  (∀ w v : Nat, outSample w v < 2 ^ 32 ∧ inSample w v < 2 ^ 24))

/-- RATE_WINDOW, RATE_ACK, CLK_LOST, REFERENCE_RATE_PERIOD and CLK_BACK (R450, R451, R461, R462). The first valid window of a running port
sets its reference; RATE_ACK sets it to the measured rate; four missing frames put a port with an outside clock into CLK_LOST,
which writes zeros at the reference rate; the clock is back within 0.2 % of the reference, and else the rate halts.

OUT_SRC_WRITE, PORT_AG_JOIN, PORT_AG_LEAVE and IN_CFG_WRITE (R454, R458, R460). A source that the port's owner may name is taken for a
pair of no group; a pair joins a group that admits it, the first port member fixing the group's PD, and leaves it; writing
IN_CFG ends the block in progress and attaches the pair; while first gather plays, AP_0 refuses them all with BUSY (R367). -/
def Obligations.PortRatesAndPairs : Prop :=
  ((∀ (p : Fin 8) (valid : Bool) (rate : Nat) (s : State),
    (valid = false ∨ s.pllLocked = false → exec (.rateWindow p valid rate) s = .next s) ∧
    (s.get F.AP_STAT_STATE p.val = 2 → s.pllLocked = true → s.domOn 15 = true → (s.ap p.val).refSet = false →
      rateMeasured rate = true →
      let t := s.puts p.val [(F.AP_RATE_RATE, rate), (F.AP_STAT_RATE_VALID, 1), (F.AP_STAT_CLASS, rateClass rate)]
      exec (.rateWindow p true rate) s =
        .next ((t.puts p.val [(F.AP_RATE_REF_RATE, rate), (F.AP_STAT_REF_CLASS, rateClass rate)]).setAp p.val
          { s.ap p.val with refSet := true }))) ∧
  (∀ (a : Accessor) (p : Fin 8) (w : Word) (s : State), s.ActsNow a .ap p.val 0x54 w → bit w.toNat 0 = true →
    s.on F.GLOBAL_STAT_FG_ACTIVE 0 = false →
    let rate := s.get F.AP_RATE_RATE p.val
    let t := s.puts p.val [(F.AP_RATE_REF_RATE, rate), (F.AP_STAT_REF_CLASS, rateClass rate)]
    let halted := t.get F.AP_STAT_STATE p.val == 4
    let h := { t.ap p.val with refSet := true, told := false, bad := 0, good := 0, ack := halted }
    (s.on F.AP_STAT_RATE_VALID p.val = true → exec (.rateAck a p w) s = .next (t.setAp p.val h)) ∧
    (s.on F.AP_STAT_RATE_VALID p.val = false →
      exec (.rateAck a p w) s = .next (s.discard a .ap p.val 0x54 .range))) ∧
  (∀ (p : Fin 8) (s : State), s.get F.AP_STAT_STATE p.val = 2 → s.domOn 15 = true →
    (s.extClock p.val = true → exec (.clkLost p) s = .next ([0, 1, 2, 3].foldl (fun u _ => u.breakPeriod p.val 256)
      ((s.put F.AP_STAT_STATE p.val 3).raise .ap p.val Ev.clkLost))) ∧
    (s.extClock p.val = false → exec (.clkLost p) s = .next s)) ∧
  (∀ (p : Fin 8) (s : State), s.domOn 15 = true →
    (s.get F.AP_STAT_STATE p.val = 3 → exec (.referenceRatePeriod p) s = .next (s.breakPeriod p.val 256)) ∧
    (s.get F.AP_STAT_STATE p.val = 4 → exec (.referenceRatePeriod p) s = .next (s.breakPeriod p.val 512)) ∧
    (s.get F.AP_STAT_STATE p.val < 3 → exec (.referenceRatePeriod p) s = .next s)) ∧
  (∀ (p : Fin 8) (rate : Nat) (s : State), s.get F.AP_STAT_STATE p.val = 3 → s.domOn 15 = true →
    let ref := s.get F.AP_RATE_REF_RATE p.val
    (1000 * rate ≤ 1002 * ref → 998 * ref ≤ 1000 * rate → exec (.clkBack p rate) s =
      .next (((s.breakEnd p.val).put F.AP_STAT_STATE p.val 2).raise .ap p.val Ev.clkBack)) ∧
    (1002 * ref < 1000 * rate → exec (.clkBack p rate) s =
      .next ((s.put F.AP_STAT_STATE p.val 4).raise .ap p.val Ev.haltRate)))) ∧
  ((∀ (a : Accessor) (p : Fin 8) (k : Fin 16) (w : Word) (s : State), s.Acts a .ap p.val (0x100 + 16 * k.val) →
    s.on F.GLOBAL_STAT_FG_ACTIVE 0 = false →
    let kind := bits w.toNat 2 0
    let index := bits w.toNat 13 4
    (k.val < s.pairs p.val → s.outMember p.val k.val = false → s.srcAllowed p.val kind index = true →
      exec (.outSrcWrite a p k w) s =
        .next ((s.putE F.OUT_SRC_KIND p.val k.val kind).putE F.OUT_SRC_INDEX p.val k.val index)) ∧
    (s.srcAllowed p.val kind index = false →
      exec (.outSrcWrite a p k w) s = .next (s.discard a .ap p.val (0x100 + 16 * k.val) .range))) ∧
  (∀ (a : Accessor) (p : Fin 8) (k : Fin 16) (w : Word) (s : State), s.Acts a .ap p.val (0x204 + 16 * k.val) →
    s.on F.GLOBAL_STAT_FG_ACTIVE 0 = false → bits w.toNat 8 8 = 1 →
    let g := bits w.toNat 5 0
    let ref := s.get F.AP_AG_REF_PD p.val
    (k.val < s.pairs p.val → s.inMember p.val k.val = false → s.portJoinRefused p.val g ref 0 none = false →
      exec (.portAgJoin a p k true w) s = .next (((s.portJoin g ref (.inp p.val k.val)).putE F.IN_AG_GROUP p.val k.val
        g).putE F.IN_AG_MEMBER p.val k.val 1)) ∧
    (s.portJoinRefused p.val g ref 0 none = true → k.val < s.pairs p.val → s.inMember p.val k.val = false →
      exec (.portAgJoin a p k true w) s = .next (s.discard a .ap p.val (0x204 + 16 * k.val) .range))) ∧
  (∀ (a : Accessor) (p : Fin 8) (k : Fin 16) (w : Word) (s : State), s.on F.GLOBAL_STAT_FG_ACTIVE 0 = false →
    bits w.toNat 8 8 = 0 →
    (s.Acts a .ap p.val (0x204 + 16 * k.val) → exec (.portAgLeave a p k true w) s =
      .next ((s.inLeave p.val k.val).putE F.IN_AG_GROUP p.val k.val (bits w.toNat 5 0))) ∧
    (s.Acts a .ap p.val (0x104 + 16 * k.val) → exec (.portAgLeave a p k false w) s =
      .next ((s.outLeave p.val k.val).putE F.OUT_AG_GROUP p.val k.val (bits w.toNat 5 0)))) ∧
  (∀ (g ref : Nat) (m : Member) (s : State), (s.portJoin g ref m).grp g =
    { s.grp g with pd := if (s.grp g).hasPort then (s.grp g).pd else ref, members := (s.grp g).members ++ [m] }) ∧
  (∀ (p g ref lat : Nat) (s : State), 61 ≤ g ∨ (s.grp g).hasPort = false ∧ ref < lat →
    s.portJoinRefused p g ref lat none = true) ∧
  (∀ (a : Accessor) (p : Fin 8) (k : Fin 16) (w : Word) (s t : State), s.Acts a .ap p.val (0x200 + 16 * k.val) →
    s.on F.GLOBAL_STAT_FG_ACTIVE 0 = false →
    (bit w.toNat 0 = false ∨ s.owner .ring (bits w.toNat 9 4) = s.owner .ap p.val ∧
      s.get F.RING_CFG_DIR (bits w.toNat 9 4) = 0) →
    plainWrite .ap p.val (0x200 + 16 * k.val) (s.major a (0x60 + p.val)) w (s.inClose p.val k.val) = .ok t →
    exec (.inCfgWrite a p k w) s =
      .next (t.setAp p.val ((t.ap p.val).setInp k.val { (t.ap p.val).inp k.val with detached := false }))) ∧
  (∀ (a : Accessor) (k : Fin 16) (w : Word) (s : State), s.on F.GLOBAL_STAT_FG_ACTIVE 0 = true →
    (s.Acts a .ap 0 (0x100 + 16 * k.val) →
      exec (.outSrcWrite a 0 k w) s = .next (s.discard a .ap 0 (0x100 + 16 * k.val) .busy)) ∧
    (s.Acts a .ap 0 (0x200 + 16 * k.val) →
      exec (.inCfgWrite a 0 k w) s = .next (s.discard a .ap 0 (0x200 + 16 * k.val) .busy)) ∧
    (s.Acts a .ap 0 0x54 → exec (.rateAck a 0 w) s = .next (s.discard a .ap 0 0x54 .busy))))

/-! ### The management bus (R472 to R495) -/

/-- The Zwikiur commands execute (R475, R478 to R482, R492). At stage 3, with nothing held, a command whose bytes the port takes,
with all its parameters, with PEC where it is due, and not a read-only command ended by P, executes: its effect happens, MGMT_CMDS
counts it, the read phase returns its data, and LAST_CMD and LAST_RESULT tell the end. FUNC_RESET, and FG_CTRL with a read
phase, need dialect 2. -/
def Obligations.ZwikiurExecutes : Prop :=
  ∀ (bytes ps : List Byte) (pec : Bool) (read : Option Nat) (s : State),
    s.mode = .awake → s.domOn 1 = true → s.stage = 3 → s.mgmt.held = none → s.visits = false →
    ∀ x ∈ [(Instr.dialect, 0x00), (Instr.ident, 0x01), (Instr.status, 0x02), (Instr.attnStatus, 0x03), (Instr.wakeLast, 0x04),
        (Instr.sleep, 0x05), (Instr.temp, 0x08), (Instr.otpRead, 0x10), (fun b r => Instr.otpWrite b r [], 0x11),
        (Instr.lehrCfg, 0x20), (Instr.lehrLog, 0x21), (Instr.pageRead, 0x30), (Instr.pageWrite, 0x31), (Instr.fgCtrl, 0x40),
        (Instr.funcReset, 0x7E), (Instr.deviceReset, 0x7F)],
      zwWalk [s.busAddr false, BitVec.ofNat 8 x.2] x.2 [] false bytes = .ok (ps, pec) → zwLeast x.2 ps ≤ ps.length →
      (read = none → zwReads x.2 ps = false) →
      (read = none ∨ zwWrites x.2 = true → pec = true ∨ (x.2 ≠ 0x11 ∧ s.on F.MGMT_CFG_PEC_REQ 0 = false)) →
      (x.2 = 0x7E ∨ x.2 = 0x40 ∧ read ≠ none → s.spoken ≠ 1) →
      exec (x.1 bytes read) s =
        .next (({ s with resp := [] }).zwRun x.2 ([s.busAddr false, BitVec.ofNat 8 x.2] ++ bytes) ps read [])

/-- What the Zwikiur commands do (R491): DIALECT sets SPOKEN; FG_CTRL acts as ACK and then as STOP; FUNC_RESET begins an FLR of
the function named; DEVICE_RESET is a device reset; SLEEP makes a request under R327; PAGE_WRITE and LEHR_CFG write their
words one by one as the fifth accessor; OTP_WRITE refuses all its words for one that may not be programmed; the commands that
only read change nothing. -/
def Obligations.ZwikiurEffects : Prop :=
  (∀ (s : State) (m : Byte), s.zwDo 0x00 [m] [] = (s.put F.MGMT_STAT_DIALECT 0 m.toNat, 0) ∧ s.zwDo 0x00 [] [] = (s, 0)) ∧
  (∀ (s : State) (x : Byte), (s.zwDo 0x40 [x] []).1 =
    (if x.toNat.testBit 0 then (if x.toNat.testBit 1 then s.put F.FG_STAT_ALERT 0 0 else s).fgStop
     else if x.toNat.testBit 1 then s.put F.FG_STAT_ALERT 0 0 else s)) ∧
  (∀ (s : State) (f c : Byte), s.zwDo 0x7E [f, c] [] = (s.flr f.toNat, 0)) ∧
  (∀ (s : State) (k : Byte), s.zwDo 0x7F [k] [] = (s.deviceReset, 0)) ∧
  (∀ (s : State) (g c : Byte), s.visits = false → g.toNat = 1 ∨ g.toNat = 2 →
    s.zwDo 0x05 [g, c] [] = if s.sleepRefused (g.toNat == 2) then (s, 5)
      else ({ s with mode := .entering (g.toNat == 2), wakeHid := {} }, 0)) ∧
  (∀ (s : State) (p lo hi b0 b1 b2 b3 : Byte),
    (s.zwDo 0x31 [7, p, lo, hi, b0, b1, b2, b3] []).1 =
      s.wordWrite .mgmt (p.toNat * 4096 + lo.toNat + 256 * hi.toNat) (BitVec.ofNat 32 (ofLe [b0, b1, b2, b3]))) ∧
  (∀ (s : State) (b0 b1 b2 b3 : Byte), (s.zwDo 0x20 [5, 16, b0, b1, b2, b3] []).1 =
      s.wordWrite .mgmt 0x5C040 (BitVec.ofNat 32 (ofLe [b0, b1, b2, b3]))) ∧
  (∀ (s : State) (lo hi b0 b1 b2 b3 : Byte),
    s.otpTakes (ofLe [lo, hi] / 4) (ofLe [b0, b1, b2, b3]) = false →
    s.zwDo 0x11 [6, lo, hi, b0, b1, b2, b3] [] = (s, 5)) ∧
  (∀ (s : State) (ps : List Byte), ∀ cmd ∈ [0x01, 0x02, 0x03, 0x04, 0x08, 0x10, 0x21, 0x30], s.zwDo cmd ps [] = (s, 0))

/-- A write phase that the port does not take whole has no effect (R477 to R479): the code of the byte that is not acknowledged
becomes LAST_RESULT, and no state but the port's own registers, its counters and events changes. -/
def Obligations.ZwikiurRefused : Prop :=
  ∀ (bytes : List Byte) (read : Option Nat) (e : Nat) (s : State),
    s.mode = .awake → s.domOn 1 = true → s.stage = 3 → s.mgmt.held = none → s.visits = false →
    ∀ x ∈ [(Instr.dialect, 0x00), (Instr.wakeLast, 0x04), (Instr.sleep, 0x05), (Instr.temp, 0x08), (Instr.otpRead, 0x10),
        (fun b r => Instr.otpWrite b r [], 0x11), (Instr.lehrCfg, 0x20), (Instr.lehrLog, 0x21), (Instr.pageRead, 0x30),
        (Instr.pageWrite, 0x31), (Instr.fgCtrl, 0x40), (Instr.deviceReset, 0x7F)],
      zwWalk [s.busAddr false, BitVec.ofNat 8 x.2] x.2 [] false bytes = .error e →
      ∃ t : State, exec (x.1 bytes read) s = .next t ∧ t.get F.MGMT_STAT_LAST_RESULT 0 = e ∧
        t.get F.MGMT_STAT_LAST_CMD 0 = x.2 ∧ t.get F.MGMT_CMDS_COUNT 0 = s.get F.MGMT_CMDS_COUNT 0 ∧
        { t with fields := s.fields, out := s.out, attn := s.attn, resp := s.resp } = s

/-- QUICK_READ (R475, R491): it returns the 8 bytes of STATUS, a PEC byte and then 0xFF, and changes nothing while the part is
awake.

MGMT_ADDRESS (R335, R474): in SLEEP or LEHR a matching address with MGMT_SERVE 1 starts a serve visit: PD_1 comes up, SERVE reads
1 and SERVE_COUNT counts it; an address that does not match has no effect, nor has a match while the part is awake.

MGMT_ABORT, MGMT_TIMEOUT and SCL_LOW_TIMEOUT (R476, R483, R484, R492): the event is raised, the counter counts, LAST_RESULT says
ABORTED or TIMEOUT, and the command in progress has no effect. -/
def Obligations.BusEvents : Prop :=
  (∀ (k : Nat) (s : State), s.mode = .awake → s.domOn 1 = true →
    ∃ t : State, exec (.quickRead k) s = .next t ∧ { t with resp := s.resp } = s ∧ t.resp.length = k ∧
      (∀ i, i < 8 → i < k → t.resp[i]? = (s.statusBytes[i]?).map fun b => b.toNat) ∧
      ∀ i, 9 ≤ i → i < k → t.resp[i]? = some 255) ∧
  (∀ (addr : BitVec 7) (read : Bool) (s : State),
    (addr.toNat ≠ 0x58 + s.start.ma → exec (.mgmtAddress addr read) s = .next s) ∧
    (s.mode = .awake → exec (.mgmtAddress addr read) s = .next s) ∧
    (addr.toNat = 0x58 + s.start.ma → s.mode = .sleep ∨ s.mode = .lehr → s.visits = false →
      s.on F.SLEEP_CFG_MGMT_SERVE 0 = true →
      exec (.mgmtAddress addr read) s = .next s.serveStart ∧ s.serveStart.visits = true ∧ s.serveStart.domOn 1 = true ∧
        s.serveStart.mode = s.mode ∧ s.serveStart.epochBase = s.epochBase)) ∧
  (∀ (c : Byte) (s : State), s.mode = .awake → s.domOn 1 = true → c ≠ 1 → c ≠ 2 → c ≠ 3 →
    (s.served c.toNat = 0 →
      exec (.mgmtAbort (some c)) s =
        .next (((({ s with resp := [] }).count F.MGMT_ABORTS_COUNT 0 1).raise .mgmt 0 Ev.mgmtAbort).puts 0
          [(F.MGMT_STAT_LAST_CMD, c.toNat), (F.MGMT_STAT_LAST_RESULT, 1)])) ∧
    exec (.mgmtTimeout (some c)) s = .next (((s.count F.MGMT_TIMEOUTS_COUNT 0 1).raise .mgmt 0 Ev.mgmtTimeout).puts 0
      [(F.MGMT_STAT_LAST_CMD, c.toNat), (F.MGMT_STAT_LAST_RESULT, 8)]) ∧
    exec (.sclLowTimeout (some c)) s = .next (((s.count F.MGMT_TIMEOUTS_COUNT 0 1).raise .mgmt 0 Ev.mgmtTimeout).puts 0
      [(F.MGMT_STAT_LAST_CMD, c.toNat), (F.MGMT_STAT_LAST_RESULT, 8)]))

/-- ATTN_SIGNAL and ATTN_REPEAT (R486, R487): a due signal of a series is given, and MGMT_ATTNS counts it; the repeat timer makes
the next one due. No signal is given in a serve visit (R488).

ATTN_STATUS (R488): a read clears, of the bits it returned as 1, those in the bytes that the controller clocked whole, and no
others; if it clears any, ATTN_READ is raised. -/
def Obligations.AttentionSignals : Prop :=
  ((∀ s : State, s.attn.active = true → s.attn.due = true → s.attnWanted = true → s.domOn 1 = true → s.visits = false →
    ∃ t : State, exec .attnSignal s = .next t ∧ t.out = .attention :: s.out ∧ t.attn.due = false ∧ t.attn.given = s.attn.given + 1 ∧
      t.get F.MGMT_ATTNS_COUNT 0 = min (s.get F.MGMT_ATTNS_COUNT 0 + 1) (2 ^ 32 - 1) ∧
      SameRegs s t [F.MGMT_ATTNS_COUNT.key 0 0] ∧ { t with fields := s.fields, out := s.out, attn := s.attn } = s) ∧
  (∀ s : State, s.visits = true → exec .attnSignal s = .next s) ∧
  (∀ s : State, s.attn.active = true → 0 < s.attn.given →
    exec .attnRepeat s = .next { s with attn := { s.attn with due := true } })) ∧
  (∀ (k : Nat) (s : State), s.get F.MGMT_ATTN_PEND_PEND 0 < 2 ^ 12 →
    (∀ b, b < 12 → bit ((s.attnCleared k).get F.MGMT_ATTN_PEND_PEND 0) b =
      (bit (s.get F.MGMT_ATTN_PEND_PEND 0) b && !decide (b < 8 * min 4 (k - 1)))) ∧
    (s.get F.MGMT_ATTN_PEND_PEND 0 % 2 ^ (8 * min 4 (k - 1)) ≠ 0 →
      bit ((s.attnCleared k).get (H.EVT .mgmt) 0) Ev.attnRead = true) ∧
    (s.get F.MGMT_ATTN_PEND_PEND 0 % 2 ^ (8 * min 4 (k - 1)) = 0 → s.attnCleared k = s))

/-- STAGE_CHG (R358, R359): STAGE goes up one step when the condition of the next stage is met, never by more and never down. -/
def Obligations.StageSteps : Prop :=
  (∀ s : State, s.stage = 0 → s.start.ready1 = true → s.domOn 1 = true → s.domOn 14 = true →
    exec .stageChg s = .next s.stageUp) ∧
  (∀ s : State, s.stage = 1 → s.get F.BOOT_STAT_STATE 0 = 5 → exec .stageChg s = .next s.stageUp) ∧
  (∀ s : State, s.stage = 2 → s.get F.BOOT_STAT_STATE 0 = 5 → s.mode = .awake → exec .stageChg s = .next s.stage3) ∧
  (∀ s : State, s.stage = 3 → exec .stageChg s = .next s) ∧
  (∀ s : State, s.stage < 7 → s.stageUp.stage = s.stage + 1)
end

