-- ==== Sys2Proof/Laws/Bits.lean ====
section
/-! SUPPORT. Bits of numbers: a one-bit field as a flag, the flags as numbers. -/

namespace Sys2Proof.Machine

theorem bits_self (w k : Nat) : bits w k k = b2n (bit w k) := by
  simp only [bits, bit, b2n, Nat.sub_self, Nat.zero_add, pow_one, Nat.testBit_eq_decide_div_mod_eq]
  by_cases h : w / 2 ^ k % 2 = 1
  · simp [h]
  · have : w / 2 ^ k % 2 = 0 := by omega
    simp [this]

@[simp] theorem b2n_true : b2n true = 1 := rfl

@[simp] theorem b2n_false : b2n false = 0 := rfl

theorem b2n_lt (b : Bool) : b2n b < 2 := by cases b <;> decide

theorem bits_lt (w hi lo : Nat) : bits w hi lo < 2 ^ (hi - lo + 1) := Nat.mod_lt _ (Nat.two_pow_pos _)

end Sys2Proof.Machine
end

