-- ==== Sys2Proof/Laws/Table.lean ====
section
/-! SUPPORT. The laws of a sparse table: what a read sees after a write, and that the operations keep the keys rising. -/

namespace Sys2Proof

variable {α : Type}

@[simp] theorem Tbl.get_nil (d : α) (k : Nat) : Tbl.get [] d k = d := rfl

theorem Tbl.get_cons (d : α) (k k' : Nat) (v : α) (r : Tbl α) :
    Tbl.get ((k', v) :: r) d k = if k' = k then v else Tbl.get r d k := rfl

theorem Tbl.get_erase_same (t : Tbl α) (d : α) (k : Nat) : Tbl.get (Tbl.erase t k) d k = d := by
  induction t with
  | nil => rfl
  | cons p r ih =>
    obtain ⟨k', v⟩ := p
    by_cases h : k' = k
    · simpa [Tbl.erase, h] using ih
    · simpa [Tbl.erase, h, Tbl.get_cons] using ih

theorem Tbl.get_erase_ne (t : Tbl α) (d : α) {k j : Nat} (hj : j ≠ k) : Tbl.get (Tbl.erase t k) d j = Tbl.get t d j := by
  induction t with
  | nil => rfl
  | cons p r ih =>
    obtain ⟨k', v⟩ := p
    simp only [Tbl.erase] at ih ⊢
    by_cases h : k' = k
    · subst h
      simp [Tbl.get_cons, ih, Ne.symm hj]
    · simp [h, Tbl.get_cons, ih]

theorem Tbl.get_insert_same (t : Tbl α) (d : α) (k : Nat) (v : α) (h : ∀ p ∈ t, p.1 ≠ k) :
    Tbl.get (Tbl.insert t k v) d k = v := by
  induction t with
  | nil => simp [Tbl.insert, Tbl.get_cons]
  | cons p r ih =>
    obtain ⟨k', v'⟩ := p
    have h' : k' ≠ k := h (k', v') (by simp)
    unfold Tbl.insert
    split
    · simp [Tbl.get_cons]
    · simp [Tbl.get_cons, h', ih (fun q hq => h q (by simp [hq]))]

theorem Tbl.get_insert_ne (t : Tbl α) (d : α) {k j : Nat} (v : α) (hj : j ≠ k) :
    Tbl.get (Tbl.insert t k v) d j = Tbl.get t d j := by
  induction t with
  | nil => simp [Tbl.insert, Tbl.get_cons, Ne.symm hj]
  | cons p r ih =>
    obtain ⟨k', v'⟩ := p
    unfold Tbl.insert
    split
    · simp [Tbl.get_cons, Ne.symm hj]
    · simp [Tbl.get_cons, ih]

theorem Tbl.erase_keys (t : Tbl α) (k : Nat) : ∀ p ∈ Tbl.erase t k, p.1 ≠ k := by
  intro p hp
  simpa [Tbl.erase] using (List.mem_filter.mp hp).2

/-- A read of the key just written gives the value written. -/
@[simp] theorem Tbl.get_set_same [DecidableEq α] (t : Tbl α) (d : α) (k : Nat) (v : α) :
    Tbl.get (Tbl.set t d k v) d k = v := by
  unfold Tbl.set
  split
  · next h => rw [Tbl.get_erase_same, h]
  · exact Tbl.get_insert_same _ _ _ _ (Tbl.erase_keys t k)

/-- A write leaves every other key as it was, whatever default a reader names. -/
theorem Tbl.get_set_ne [DecidableEq α] (t : Tbl α) (d d' : α) {k j : Nat} (v : α) (hj : j ≠ k) :
    Tbl.get (Tbl.set t d k v) d' j = Tbl.get t d' j := by
  unfold Tbl.set
  split
  · exact Tbl.get_erase_ne _ _ hj
  · rw [Tbl.get_insert_ne _ _ _ hj, Tbl.get_erase_ne _ _ hj]

theorem Tbl.get_set [DecidableEq α] (t : Tbl α) (d : α) (k j : Nat) (v : α) :
    Tbl.get (Tbl.set t d k v) d j = if j = k then v else Tbl.get t d j := by
  split
  · next h => rw [h, Tbl.get_set_same]
  · next h => exact Tbl.get_set_ne t d d v h

theorem Tbl.get_dropRange_in (t : Tbl α) (d : α) {lo hi k : Nat} (h : lo ≤ k ∧ k < hi) :
    Tbl.get (Tbl.dropRange t lo hi) d k = d := by
  induction t with
  | nil => rfl
  | cons p r ih =>
    obtain ⟨k', v⟩ := p
    simp only [Tbl.dropRange] at ih ⊢
    by_cases hk : k' = k
    · subst hk
      simpa [h.1, h.2] using ih
    · by_cases hin : lo ≤ k' ∧ k' < hi
      · simpa [hin.1, hin.2] using ih
      · have : (!(decide (lo ≤ k') && decide (k' < hi))) = true := by simp; omega
        rw [List.filter_cons]
        simp only [this, if_true, Tbl.get_cons, hk, if_false]
        exact ih

theorem Tbl.get_dropRange_out (t : Tbl α) (d : α) {lo hi k : Nat} (h : ¬ (lo ≤ k ∧ k < hi)) :
    Tbl.get (Tbl.dropRange t lo hi) d k = Tbl.get t d k := by
  induction t with
  | nil => rfl
  | cons p r ih =>
    obtain ⟨k', v⟩ := p
    simp only [Tbl.dropRange] at ih ⊢
    rw [List.filter_cons]
    by_cases hk : k' = k
    · subst hk
      have : (!(decide (lo ≤ k') && decide (k' < hi))) = true := by simp; omega
      simp [this, Tbl.get_cons]
    · split
      · simp only [Tbl.get_cons, hk, if_false]
        exact ih
      · simp only [Tbl.get_cons, hk, if_false]
        exact ih

/-! ### The keys stay rising -/

theorem Tbl.sorted_erase {t : Tbl α} (h : Tbl.Sorted t) (k : Nat) : Tbl.Sorted (Tbl.erase t k) := h.filter _

theorem Tbl.insert_keys {t : Tbl α} {k : Nat} {v : α} : ∀ p ∈ Tbl.insert t k v, p.1 = k ∨ p ∈ t := by
  induction t with
  | nil => intro p hp; simp [Tbl.insert] at hp; simp [hp]
  | cons q r ih =>
    obtain ⟨k', v'⟩ := q
    intro p hp
    unfold Tbl.insert at hp
    split at hp
    · rcases List.mem_cons.mp hp with rfl | h
      · exact .inl rfl
      · exact .inr h
    · rcases List.mem_cons.mp hp with rfl | h
      · exact .inr (by simp)
      · rcases ih p h with h | h
        · exact .inl h
        · exact .inr (by simp [h])

theorem Tbl.sorted_insert {t : Tbl α} (h : Tbl.Sorted t) {k : Nat} (v : α) (hk : ∀ p ∈ t, p.1 ≠ k) :
    Tbl.Sorted (Tbl.insert t k v) := by
  induction t with
  | nil => simp [Tbl.insert, Tbl.Sorted]
  | cons q r ih =>
    obtain ⟨k', v'⟩ := q
    have hr := List.pairwise_cons.mp h
    unfold Tbl.insert
    split
    · next hlt =>
      refine List.pairwise_cons.mpr ⟨?_, h⟩
      intro p hp
      rcases List.mem_cons.mp hp with rfl | hp
      · exact hlt
      · exact Nat.lt_trans hlt (hr.1 p hp)
    · next hlt =>
      refine List.pairwise_cons.mpr ⟨?_, ih hr.2 (fun p hp => hk p (by simp [hp]))⟩
      intro p hp
      rcases Tbl.insert_keys p hp with e | hp
      · have := hk (k', v') (by simp)
        simp only at this ⊢
        omega
      · exact hr.1 p hp

theorem Tbl.sorted_set [DecidableEq α] {t : Tbl α} (h : Tbl.Sorted t) (d : α) (k : Nat) (v : α) :
    Tbl.Sorted (Tbl.set t d k v) := by
  unfold Tbl.set
  split
  · exact Tbl.sorted_erase h k
  · exact Tbl.sorted_insert (Tbl.sorted_erase h k) v (Tbl.erase_keys t k)

theorem Tbl.sorted_dropRange {t : Tbl α} (h : Tbl.Sorted t) (lo hi : Nat) : Tbl.Sorted (Tbl.dropRange t lo hi) :=
  h.filter _

end Sys2Proof
end

