-- ==== Sys2Proof/Laws/State.lean ====
section
/-! SUPPORT. What each update of the state leaves as it was, one lemma per update and field, and what a reader of a hidden
table sees after an update. -/

namespace Sys2Proof.Machine

/-! ### The register table -/

@[simp] theorem State.putE_pending (s : State) (f : Fld) (n e v : Nat) : (s.putE f n e v).pending = s.pending := rfl
@[simp] theorem State.putE_speak (s : State) (f : Fld) (n e v : Nat) : (s.putE f n e v).speak = s.speak := rfl
@[simp] theorem State.putE_epochBase (s : State) (f : Fld) (n e v : Nat) : (s.putE f n e v).epochBase = s.epochBase := rfl
@[simp] theorem State.putE_epochs (s : State) (f : Fld) (n e v : Nat) : (s.putE f n e v).epochs = s.epochs := rfl
@[simp] theorem State.putE_latches (s : State) (f : Fld) (n e v : Nat) : (s.putE f n e v).latches = s.latches := rfl
@[simp] theorem State.putE_time (s : State) (f : Fld) (n e v : Nat) : (s.putE f n e v).time = s.time := rfl
@[simp] theorem State.putE_aonTime (s : State) (f : Fld) (n e v : Nat) : (s.putE f n e v).aonTime = s.aonTime := rfl
@[simp] theorem State.putE_aonPhase (s : State) (f : Fld) (n e v : Nat) : (s.putE f n e v).aonPhase = s.aonPhase := rfl
@[simp] theorem State.putE_freeCount (s : State) (f : Fld) (n e v : Nat) : (s.putE f n e v).freeCount = s.freeCount := rfl
@[simp] theorem State.putE_resp (s : State) (f : Fld) (n e v : Nat) : (s.putE f n e v).resp = s.resp := rfl
@[simp] theorem State.putE_out (s : State) (f : Fld) (n e v : Nat) : (s.putE f n e v).out = s.out := rfl
@[simp] theorem State.putE_mode (s : State) (f : Fld) (n e v : Nat) : (s.putE f n e v).mode = s.mode := rfl
@[simp] theorem State.putE_doms (s : State) (f : Fld) (n e v : Nat) : (s.putE f n e v).doms = s.doms := rfl
@[simp] theorem State.putE_pdQueue (s : State) (f : Fld) (n e v : Nat) : (s.putE f n e v).pdQueue = s.pdQueue := rfl
@[simp] theorem State.putE_banks (s : State) (f : Fld) (n e v : Nat) : (s.putE f n e v).banks = s.banks := rfl
@[simp] theorem State.putE_pots (s : State) (f : Fld) (n e v : Nat) : (s.putE f n e v).pots = s.pots := rfl
@[simp] theorem State.putE_crucible (s : State) (f : Fld) (n e v : Nat) : (s.putE f n e v).crucible = s.crucible := rfl
@[simp] theorem State.putE_fes (s : State) (f : Fld) (n e v : Nat) : (s.putE f n e v).fes = s.fes := rfl
@[simp] theorem State.putE_hws (s : State) (f : Fld) (n e v : Nat) : (s.putE f n e v).hws = s.hws := rfl
@[simp] theorem State.putE_hands (s : State) (f : Fld) (n e v : Nat) : (s.putE f n e v).hands = s.hands := rfl
@[simp] theorem State.putE_aerials (s : State) (f : Fld) (n e v : Nat) : (s.putE f n e v).aerials = s.aerials := rfl
@[simp] theorem State.putE_tuners (s : State) (f : Fld) (n e v : Nat) : (s.putE f n e v).tuners = s.tuners := rfl
@[simp] theorem State.putE_gainLog (s : State) (f : Fld) (n e v : Nat) : (s.putE f n e v).gainLog = s.gainLog := rfl
@[simp] theorem State.putE_slots (s : State) (f : Fld) (n e v : Nat) : (s.putE f n e v).slots = s.slots := rfl
@[simp] theorem State.putE_groups (s : State) (f : Fld) (n e v : Nat) : (s.putE f n e v).groups = s.groups := rfl
@[simp] theorem State.putE_profiles (s : State) (f : Fld) (n e v : Nat) : (s.putE f n e v).profiles = s.profiles := rfl
@[simp] theorem State.putE_loader (s : State) (f : Fld) (n e v : Nat) : (s.putE f n e v).loader = s.loader := rfl
@[simp] theorem State.putE_snaps (s : State) (f : Fld) (n e v : Nat) : (s.putE f n e v).snaps = s.snaps := rfl
@[simp] theorem State.putE_lanes (s : State) (f : Fld) (n e v : Nat) : (s.putE f n e v).lanes = s.lanes := rfl
@[simp] theorem State.putE_ctxs (s : State) (f : Fld) (n e v : Nat) : (s.putE f n e v).ctxs = s.ctxs := rfl
@[simp] theorem State.putE_taps (s : State) (f : Fld) (n e v : Nat) : (s.putE f n e v).taps = s.taps := rfl
@[simp] theorem State.putE_ruleType (s : State) (f : Fld) (n e v : Nat) : (s.putE f n e v).ruleType = s.ruleType := rfl
@[simp] theorem State.putE_fols (s : State) (f : Fld) (n e v : Nat) : (s.putE f n e v).fols = s.fols := rfl
@[simp] theorem State.putE_mets (s : State) (f : Fld) (n e v : Nat) : (s.putE f n e v).mets = s.mets := rfl
@[simp] theorem State.putE_ref (s : State) (f : Fld) (n e v : Nat) : (s.putE f n e v).ref = s.ref := rfl
@[simp] theorem State.putE_pps (s : State) (f : Fld) (n e v : Nat) : (s.putE f n e v).pps = s.pps := rfl
@[simp] theorem State.putE_fcs (s : State) (f : Fld) (n e v : Nat) : (s.putE f n e v).fcs = s.fcs := rfl
@[simp] theorem State.putE_clk (s : State) (f : Fld) (n e v : Nat) : (s.putE f n e v).clk = s.clk := rfl
@[simp] theorem State.putE_wakeHid (s : State) (f : Fld) (n e v : Nat) : (s.putE f n e v).wakeHid = s.wakeHid := rfl
@[simp] theorem State.putE_punty (s : State) (f : Fld) (n e v : Nat) : (s.putE f n e v).punty = s.punty := rfl
@[simp] theorem State.putE_lehr (s : State) (f : Fld) (n e v : Nat) : (s.putE f n e v).lehr = s.lehr := rfl
@[simp] theorem State.putE_start (s : State) (f : Fld) (n e v : Nat) : (s.putE f n e v).start = s.start := rfl
@[simp] theorem State.putE_fg (s : State) (f : Fld) (n e v : Nat) : (s.putE f n e v).fg = s.fg := rfl
@[simp] theorem State.putE_otp (s : State) (f : Fld) (n e v : Nat) : (s.putE f n e v).otp = s.otp := rfl
@[simp] theorem State.putE_otpSpares (s : State) (f : Fld) (n e v : Nat) : (s.putE f n e v).otpSpares = s.otpSpares := rfl
@[simp] theorem State.putE_link (s : State) (f : Fld) (n e v : Nat) : (s.putE f n e v).link = s.link := rfl
@[simp] theorem State.putE_cfgs (s : State) (f : Fld) (n e v : Nat) : (s.putE f n e v).cfgs = s.cfgs := rfl
@[simp] theorem State.putE_rings (s : State) (f : Fld) (n e v : Nat) : (s.putE f n e v).rings = s.rings := rfl
@[simp] theorem State.putE_dmaTurn (s : State) (f : Fld) (n e v : Nat) : (s.putE f n e v).dmaTurn = s.dmaTurn := rfl
@[simp] theorem State.putE_walkTurn (s : State) (f : Fld) (n e v : Nat) : (s.putE f n e v).walkTurn = s.walkTurn := rfl
@[simp] theorem State.putE_xcache (s : State) (f : Fld) (n e v : Nat) : (s.putE f n e v).xcache = s.xcache := rfl
@[simp] theorem State.putE_faults (s : State) (f : Fld) (n e v : Nat) : (s.putE f n e v).faults = s.faults := rfl
@[simp] theorem State.putE_attn (s : State) (f : Fld) (n e v : Nat) : (s.putE f n e v).attn = s.attn := rfl
@[simp] theorem State.putE_aps (s : State) (f : Fld) (n e v : Nat) : (s.putE f n e v).aps = s.aps := rfl
@[simp] theorem State.putE_mgmt (s : State) (f : Fld) (n e v : Nat) : (s.putE f n e v).mgmt = s.mgmt := rfl
@[simp] theorem State.putE_health (s : State) (f : Fld) (n e v : Nat) : (s.putE f n e v).health = s.health := rfl
@[simp] theorem State.put_pending (s : State) (f : Fld) (n v : Nat) : (s.put f n v).pending = s.pending := rfl
@[simp] theorem State.put_speak (s : State) (f : Fld) (n v : Nat) : (s.put f n v).speak = s.speak := rfl
@[simp] theorem State.put_epochBase (s : State) (f : Fld) (n v : Nat) : (s.put f n v).epochBase = s.epochBase := rfl
@[simp] theorem State.put_epochs (s : State) (f : Fld) (n v : Nat) : (s.put f n v).epochs = s.epochs := rfl
@[simp] theorem State.put_latches (s : State) (f : Fld) (n v : Nat) : (s.put f n v).latches = s.latches := rfl
@[simp] theorem State.put_time (s : State) (f : Fld) (n v : Nat) : (s.put f n v).time = s.time := rfl
@[simp] theorem State.put_aonTime (s : State) (f : Fld) (n v : Nat) : (s.put f n v).aonTime = s.aonTime := rfl
@[simp] theorem State.put_aonPhase (s : State) (f : Fld) (n v : Nat) : (s.put f n v).aonPhase = s.aonPhase := rfl
@[simp] theorem State.put_freeCount (s : State) (f : Fld) (n v : Nat) : (s.put f n v).freeCount = s.freeCount := rfl
@[simp] theorem State.put_resp (s : State) (f : Fld) (n v : Nat) : (s.put f n v).resp = s.resp := rfl
@[simp] theorem State.put_out (s : State) (f : Fld) (n v : Nat) : (s.put f n v).out = s.out := rfl
@[simp] theorem State.put_mode (s : State) (f : Fld) (n v : Nat) : (s.put f n v).mode = s.mode := rfl
@[simp] theorem State.put_doms (s : State) (f : Fld) (n v : Nat) : (s.put f n v).doms = s.doms := rfl
@[simp] theorem State.put_pdQueue (s : State) (f : Fld) (n v : Nat) : (s.put f n v).pdQueue = s.pdQueue := rfl
@[simp] theorem State.put_banks (s : State) (f : Fld) (n v : Nat) : (s.put f n v).banks = s.banks := rfl
@[simp] theorem State.put_pots (s : State) (f : Fld) (n v : Nat) : (s.put f n v).pots = s.pots := rfl
@[simp] theorem State.put_crucible (s : State) (f : Fld) (n v : Nat) : (s.put f n v).crucible = s.crucible := rfl
@[simp] theorem State.put_fes (s : State) (f : Fld) (n v : Nat) : (s.put f n v).fes = s.fes := rfl
@[simp] theorem State.put_hws (s : State) (f : Fld) (n v : Nat) : (s.put f n v).hws = s.hws := rfl
@[simp] theorem State.put_hands (s : State) (f : Fld) (n v : Nat) : (s.put f n v).hands = s.hands := rfl
@[simp] theorem State.put_aerials (s : State) (f : Fld) (n v : Nat) : (s.put f n v).aerials = s.aerials := rfl
@[simp] theorem State.put_tuners (s : State) (f : Fld) (n v : Nat) : (s.put f n v).tuners = s.tuners := rfl
@[simp] theorem State.put_gainLog (s : State) (f : Fld) (n v : Nat) : (s.put f n v).gainLog = s.gainLog := rfl
@[simp] theorem State.put_slots (s : State) (f : Fld) (n v : Nat) : (s.put f n v).slots = s.slots := rfl
@[simp] theorem State.put_groups (s : State) (f : Fld) (n v : Nat) : (s.put f n v).groups = s.groups := rfl
@[simp] theorem State.put_profiles (s : State) (f : Fld) (n v : Nat) : (s.put f n v).profiles = s.profiles := rfl
@[simp] theorem State.put_loader (s : State) (f : Fld) (n v : Nat) : (s.put f n v).loader = s.loader := rfl
@[simp] theorem State.put_snaps (s : State) (f : Fld) (n v : Nat) : (s.put f n v).snaps = s.snaps := rfl
@[simp] theorem State.put_lanes (s : State) (f : Fld) (n v : Nat) : (s.put f n v).lanes = s.lanes := rfl
@[simp] theorem State.put_ctxs (s : State) (f : Fld) (n v : Nat) : (s.put f n v).ctxs = s.ctxs := rfl
@[simp] theorem State.put_taps (s : State) (f : Fld) (n v : Nat) : (s.put f n v).taps = s.taps := rfl
@[simp] theorem State.put_ruleType (s : State) (f : Fld) (n v : Nat) : (s.put f n v).ruleType = s.ruleType := rfl
@[simp] theorem State.put_fols (s : State) (f : Fld) (n v : Nat) : (s.put f n v).fols = s.fols := rfl
@[simp] theorem State.put_mets (s : State) (f : Fld) (n v : Nat) : (s.put f n v).mets = s.mets := rfl
@[simp] theorem State.put_ref (s : State) (f : Fld) (n v : Nat) : (s.put f n v).ref = s.ref := rfl
@[simp] theorem State.put_pps (s : State) (f : Fld) (n v : Nat) : (s.put f n v).pps = s.pps := rfl
@[simp] theorem State.put_fcs (s : State) (f : Fld) (n v : Nat) : (s.put f n v).fcs = s.fcs := rfl
@[simp] theorem State.put_clk (s : State) (f : Fld) (n v : Nat) : (s.put f n v).clk = s.clk := rfl
@[simp] theorem State.put_wakeHid (s : State) (f : Fld) (n v : Nat) : (s.put f n v).wakeHid = s.wakeHid := rfl
@[simp] theorem State.put_punty (s : State) (f : Fld) (n v : Nat) : (s.put f n v).punty = s.punty := rfl
@[simp] theorem State.put_lehr (s : State) (f : Fld) (n v : Nat) : (s.put f n v).lehr = s.lehr := rfl
@[simp] theorem State.put_start (s : State) (f : Fld) (n v : Nat) : (s.put f n v).start = s.start := rfl
@[simp] theorem State.put_fg (s : State) (f : Fld) (n v : Nat) : (s.put f n v).fg = s.fg := rfl
@[simp] theorem State.put_otp (s : State) (f : Fld) (n v : Nat) : (s.put f n v).otp = s.otp := rfl
@[simp] theorem State.put_otpSpares (s : State) (f : Fld) (n v : Nat) : (s.put f n v).otpSpares = s.otpSpares := rfl
@[simp] theorem State.put_link (s : State) (f : Fld) (n v : Nat) : (s.put f n v).link = s.link := rfl
@[simp] theorem State.put_cfgs (s : State) (f : Fld) (n v : Nat) : (s.put f n v).cfgs = s.cfgs := rfl
@[simp] theorem State.put_rings (s : State) (f : Fld) (n v : Nat) : (s.put f n v).rings = s.rings := rfl
@[simp] theorem State.put_dmaTurn (s : State) (f : Fld) (n v : Nat) : (s.put f n v).dmaTurn = s.dmaTurn := rfl
@[simp] theorem State.put_walkTurn (s : State) (f : Fld) (n v : Nat) : (s.put f n v).walkTurn = s.walkTurn := rfl
@[simp] theorem State.put_xcache (s : State) (f : Fld) (n v : Nat) : (s.put f n v).xcache = s.xcache := rfl
@[simp] theorem State.put_faults (s : State) (f : Fld) (n v : Nat) : (s.put f n v).faults = s.faults := rfl
@[simp] theorem State.put_attn (s : State) (f : Fld) (n v : Nat) : (s.put f n v).attn = s.attn := rfl
@[simp] theorem State.put_aps (s : State) (f : Fld) (n v : Nat) : (s.put f n v).aps = s.aps := rfl
@[simp] theorem State.put_mgmt (s : State) (f : Fld) (n v : Nat) : (s.put f n v).mgmt = s.mgmt := rfl
@[simp] theorem State.put_health (s : State) (f : Fld) (n v : Nat) : (s.put f n v).health = s.health := rfl

@[simp] theorem State.putE_fe (s : State) (f : Fld) (n e v : Nat) : (s.putE f n e v).fe = s.fe := rfl
@[simp] theorem State.putE_hw (s : State) (f : Fld) (n e v : Nat) : (s.putE f n e v).hw = s.hw := rfl
@[simp] theorem State.putE_hand (s : State) (f : Fld) (n e v : Nat) : (s.putE f n e v).hand = s.hand := rfl
@[simp] theorem State.putE_aerial (s : State) (f : Fld) (n e v : Nat) : (s.putE f n e v).aerial = s.aerial := rfl
@[simp] theorem State.putE_tuner (s : State) (f : Fld) (n e v : Nat) : (s.putE f n e v).tuner = s.tuner := rfl
@[simp] theorem State.putE_dom (s : State) (f : Fld) (n e v : Nat) : (s.putE f n e v).dom = s.dom := rfl
@[simp] theorem State.putE_bank (s : State) (f : Fld) (n e v : Nat) : (s.putE f n e v).bank = s.bank := rfl
@[simp] theorem State.putE_cfg (s : State) (f : Fld) (n e v : Nat) : (s.putE f n e v).cfg = s.cfg := rfl
@[simp] theorem State.putE_ring (s : State) (f : Fld) (n e v : Nat) : (s.putE f n e v).ring = s.ring := rfl
@[simp] theorem State.putE_latch (s : State) (f : Fld) (n e v : Nat) : (s.putE f n e v).latch = s.latch := rfl
@[simp] theorem State.putE_slot (s : State) (f : Fld) (n e v : Nat) : (s.putE f n e v).slot = s.slot := rfl
@[simp] theorem State.putE_grp (s : State) (f : Fld) (n e v : Nat) : (s.putE f n e v).grp = s.grp := rfl
@[simp] theorem State.putE_lane (s : State) (f : Fld) (n e v : Nat) : (s.putE f n e v).lane = s.lane := rfl
@[simp] theorem State.putE_ctxHid (s : State) (f : Fld) (n e v : Nat) : (s.putE f n e v).ctxHid = s.ctxHid := rfl
@[simp] theorem State.putE_tap (s : State) (f : Fld) (n e v : Nat) : (s.putE f n e v).tap = s.tap := rfl
@[simp] theorem State.putE_fol (s : State) (f : Fld) (n e v : Nat) : (s.putE f n e v).fol = s.fol := rfl
@[simp] theorem State.putE_ap (s : State) (f : Fld) (n e v : Nat) : (s.putE f n e v).ap = s.ap := rfl

@[simp] theorem State.put_fe (s : State) (f : Fld) (n v : Nat) : (s.put f n v).fe = s.fe := rfl
@[simp] theorem State.put_hw (s : State) (f : Fld) (n v : Nat) : (s.put f n v).hw = s.hw := rfl
@[simp] theorem State.put_hand (s : State) (f : Fld) (n v : Nat) : (s.put f n v).hand = s.hand := rfl
@[simp] theorem State.put_aerial (s : State) (f : Fld) (n v : Nat) : (s.put f n v).aerial = s.aerial := rfl
@[simp] theorem State.put_tuner (s : State) (f : Fld) (n v : Nat) : (s.put f n v).tuner = s.tuner := rfl
@[simp] theorem State.put_dom (s : State) (f : Fld) (n v : Nat) : (s.put f n v).dom = s.dom := rfl
@[simp] theorem State.put_bank (s : State) (f : Fld) (n v : Nat) : (s.put f n v).bank = s.bank := rfl
@[simp] theorem State.put_cfg (s : State) (f : Fld) (n v : Nat) : (s.put f n v).cfg = s.cfg := rfl
@[simp] theorem State.put_ring (s : State) (f : Fld) (n v : Nat) : (s.put f n v).ring = s.ring := rfl
@[simp] theorem State.put_latch (s : State) (f : Fld) (n v : Nat) : (s.put f n v).latch = s.latch := rfl
@[simp] theorem State.put_slot (s : State) (f : Fld) (n v : Nat) : (s.put f n v).slot = s.slot := rfl
@[simp] theorem State.put_grp (s : State) (f : Fld) (n v : Nat) : (s.put f n v).grp = s.grp := rfl
@[simp] theorem State.put_lane (s : State) (f : Fld) (n v : Nat) : (s.put f n v).lane = s.lane := rfl
@[simp] theorem State.put_ctxHid (s : State) (f : Fld) (n v : Nat) : (s.put f n v).ctxHid = s.ctxHid := rfl
@[simp] theorem State.put_tap (s : State) (f : Fld) (n v : Nat) : (s.put f n v).tap = s.tap := rfl
@[simp] theorem State.put_fol (s : State) (f : Fld) (n v : Nat) : (s.put f n v).fol = s.fol := rfl
@[simp] theorem State.put_ap (s : State) (f : Fld) (n v : Nat) : (s.put f n v).ap = s.ap := rfl

/-! ### The hidden tables -/

@[simp] theorem State.setFe_pending (s : State) (n : Nat) (h : FeHid) : (s.setFe n h).pending = s.pending := rfl
@[simp] theorem State.setFe_fields (s : State) (n : Nat) (h : FeHid) : (s.setFe n h).fields = s.fields := rfl
@[simp] theorem State.setFe_speak (s : State) (n : Nat) (h : FeHid) : (s.setFe n h).speak = s.speak := rfl
@[simp] theorem State.setFe_epochBase (s : State) (n : Nat) (h : FeHid) : (s.setFe n h).epochBase = s.epochBase := rfl
@[simp] theorem State.setFe_epochs (s : State) (n : Nat) (h : FeHid) : (s.setFe n h).epochs = s.epochs := rfl
@[simp] theorem State.setFe_latches (s : State) (n : Nat) (h : FeHid) : (s.setFe n h).latches = s.latches := rfl
@[simp] theorem State.setFe_time (s : State) (n : Nat) (h : FeHid) : (s.setFe n h).time = s.time := rfl
@[simp] theorem State.setFe_aonTime (s : State) (n : Nat) (h : FeHid) : (s.setFe n h).aonTime = s.aonTime := rfl
@[simp] theorem State.setFe_aonPhase (s : State) (n : Nat) (h : FeHid) : (s.setFe n h).aonPhase = s.aonPhase := rfl
@[simp] theorem State.setFe_freeCount (s : State) (n : Nat) (h : FeHid) : (s.setFe n h).freeCount = s.freeCount := rfl
@[simp] theorem State.setFe_resp (s : State) (n : Nat) (h : FeHid) : (s.setFe n h).resp = s.resp := rfl
@[simp] theorem State.setFe_out (s : State) (n : Nat) (h : FeHid) : (s.setFe n h).out = s.out := rfl
@[simp] theorem State.setFe_mode (s : State) (n : Nat) (h : FeHid) : (s.setFe n h).mode = s.mode := rfl
@[simp] theorem State.setFe_doms (s : State) (n : Nat) (h : FeHid) : (s.setFe n h).doms = s.doms := rfl
@[simp] theorem State.setFe_pdQueue (s : State) (n : Nat) (h : FeHid) : (s.setFe n h).pdQueue = s.pdQueue := rfl
@[simp] theorem State.setFe_banks (s : State) (n : Nat) (h : FeHid) : (s.setFe n h).banks = s.banks := rfl
@[simp] theorem State.setFe_pots (s : State) (n : Nat) (h : FeHid) : (s.setFe n h).pots = s.pots := rfl
@[simp] theorem State.setFe_crucible (s : State) (n : Nat) (h : FeHid) : (s.setFe n h).crucible = s.crucible := rfl
@[simp] theorem State.setFe_hws (s : State) (n : Nat) (h : FeHid) : (s.setFe n h).hws = s.hws := rfl
@[simp] theorem State.setFe_hands (s : State) (n : Nat) (h : FeHid) : (s.setFe n h).hands = s.hands := rfl
@[simp] theorem State.setFe_aerials (s : State) (n : Nat) (h : FeHid) : (s.setFe n h).aerials = s.aerials := rfl
@[simp] theorem State.setFe_tuners (s : State) (n : Nat) (h : FeHid) : (s.setFe n h).tuners = s.tuners := rfl
@[simp] theorem State.setFe_gainLog (s : State) (n : Nat) (h : FeHid) : (s.setFe n h).gainLog = s.gainLog := rfl
@[simp] theorem State.setFe_slots (s : State) (n : Nat) (h : FeHid) : (s.setFe n h).slots = s.slots := rfl
@[simp] theorem State.setFe_groups (s : State) (n : Nat) (h : FeHid) : (s.setFe n h).groups = s.groups := rfl
@[simp] theorem State.setFe_profiles (s : State) (n : Nat) (h : FeHid) : (s.setFe n h).profiles = s.profiles := rfl
@[simp] theorem State.setFe_loader (s : State) (n : Nat) (h : FeHid) : (s.setFe n h).loader = s.loader := rfl
@[simp] theorem State.setFe_snaps (s : State) (n : Nat) (h : FeHid) : (s.setFe n h).snaps = s.snaps := rfl
@[simp] theorem State.setFe_lanes (s : State) (n : Nat) (h : FeHid) : (s.setFe n h).lanes = s.lanes := rfl
@[simp] theorem State.setFe_ctxs (s : State) (n : Nat) (h : FeHid) : (s.setFe n h).ctxs = s.ctxs := rfl
@[simp] theorem State.setFe_taps (s : State) (n : Nat) (h : FeHid) : (s.setFe n h).taps = s.taps := rfl
@[simp] theorem State.setFe_ruleType (s : State) (n : Nat) (h : FeHid) : (s.setFe n h).ruleType = s.ruleType := rfl
@[simp] theorem State.setFe_fols (s : State) (n : Nat) (h : FeHid) : (s.setFe n h).fols = s.fols := rfl
@[simp] theorem State.setFe_mets (s : State) (n : Nat) (h : FeHid) : (s.setFe n h).mets = s.mets := rfl
@[simp] theorem State.setFe_ref (s : State) (n : Nat) (h : FeHid) : (s.setFe n h).ref = s.ref := rfl
@[simp] theorem State.setFe_pps (s : State) (n : Nat) (h : FeHid) : (s.setFe n h).pps = s.pps := rfl
@[simp] theorem State.setFe_fcs (s : State) (n : Nat) (h : FeHid) : (s.setFe n h).fcs = s.fcs := rfl
@[simp] theorem State.setFe_clk (s : State) (n : Nat) (h : FeHid) : (s.setFe n h).clk = s.clk := rfl
@[simp] theorem State.setFe_wakeHid (s : State) (n : Nat) (h : FeHid) : (s.setFe n h).wakeHid = s.wakeHid := rfl
@[simp] theorem State.setFe_punty (s : State) (n : Nat) (h : FeHid) : (s.setFe n h).punty = s.punty := rfl
@[simp] theorem State.setFe_lehr (s : State) (n : Nat) (h : FeHid) : (s.setFe n h).lehr = s.lehr := rfl
@[simp] theorem State.setFe_start (s : State) (n : Nat) (h : FeHid) : (s.setFe n h).start = s.start := rfl
@[simp] theorem State.setFe_fg (s : State) (n : Nat) (h : FeHid) : (s.setFe n h).fg = s.fg := rfl
@[simp] theorem State.setFe_otp (s : State) (n : Nat) (h : FeHid) : (s.setFe n h).otp = s.otp := rfl
@[simp] theorem State.setFe_otpSpares (s : State) (n : Nat) (h : FeHid) : (s.setFe n h).otpSpares = s.otpSpares := rfl
@[simp] theorem State.setFe_link (s : State) (n : Nat) (h : FeHid) : (s.setFe n h).link = s.link := rfl
@[simp] theorem State.setFe_cfgs (s : State) (n : Nat) (h : FeHid) : (s.setFe n h).cfgs = s.cfgs := rfl
@[simp] theorem State.setFe_rings (s : State) (n : Nat) (h : FeHid) : (s.setFe n h).rings = s.rings := rfl
@[simp] theorem State.setFe_dmaTurn (s : State) (n : Nat) (h : FeHid) : (s.setFe n h).dmaTurn = s.dmaTurn := rfl
@[simp] theorem State.setFe_walkTurn (s : State) (n : Nat) (h : FeHid) : (s.setFe n h).walkTurn = s.walkTurn := rfl
@[simp] theorem State.setFe_xcache (s : State) (n : Nat) (h : FeHid) : (s.setFe n h).xcache = s.xcache := rfl
@[simp] theorem State.setFe_faults (s : State) (n : Nat) (h : FeHid) : (s.setFe n h).faults = s.faults := rfl
@[simp] theorem State.setFe_attn (s : State) (n : Nat) (h : FeHid) : (s.setFe n h).attn = s.attn := rfl
@[simp] theorem State.setFe_aps (s : State) (n : Nat) (h : FeHid) : (s.setFe n h).aps = s.aps := rfl
@[simp] theorem State.setFe_mgmt (s : State) (n : Nat) (h : FeHid) : (s.setFe n h).mgmt = s.mgmt := rfl
@[simp] theorem State.setFe_health (s : State) (n : Nat) (h : FeHid) : (s.setFe n h).health = s.health := rfl
@[simp] theorem State.setFe_hw (s : State) (n : Nat) (h : FeHid) : (s.setFe n h).hw = s.hw := rfl
@[simp] theorem State.setFe_hand (s : State) (n : Nat) (h : FeHid) : (s.setFe n h).hand = s.hand := rfl
@[simp] theorem State.setFe_aerial (s : State) (n : Nat) (h : FeHid) : (s.setFe n h).aerial = s.aerial := rfl
@[simp] theorem State.setFe_tuner (s : State) (n : Nat) (h : FeHid) : (s.setFe n h).tuner = s.tuner := rfl
@[simp] theorem State.setFe_dom (s : State) (n : Nat) (h : FeHid) : (s.setFe n h).dom = s.dom := rfl
@[simp] theorem State.setFe_bank (s : State) (n : Nat) (h : FeHid) : (s.setFe n h).bank = s.bank := rfl
@[simp] theorem State.setFe_cfg (s : State) (n : Nat) (h : FeHid) : (s.setFe n h).cfg = s.cfg := rfl
@[simp] theorem State.setFe_ring (s : State) (n : Nat) (h : FeHid) : (s.setFe n h).ring = s.ring := rfl
@[simp] theorem State.setFe_latch (s : State) (n : Nat) (h : FeHid) : (s.setFe n h).latch = s.latch := rfl
@[simp] theorem State.setFe_slot (s : State) (n : Nat) (h : FeHid) : (s.setFe n h).slot = s.slot := rfl
@[simp] theorem State.setFe_grp (s : State) (n : Nat) (h : FeHid) : (s.setFe n h).grp = s.grp := rfl
@[simp] theorem State.setFe_lane (s : State) (n : Nat) (h : FeHid) : (s.setFe n h).lane = s.lane := rfl
@[simp] theorem State.setFe_ctxHid (s : State) (n : Nat) (h : FeHid) : (s.setFe n h).ctxHid = s.ctxHid := rfl
@[simp] theorem State.setFe_tap (s : State) (n : Nat) (h : FeHid) : (s.setFe n h).tap = s.tap := rfl
@[simp] theorem State.setFe_fol (s : State) (n : Nat) (h : FeHid) : (s.setFe n h).fol = s.fol := rfl
@[simp] theorem State.setFe_ap (s : State) (n : Nat) (h : FeHid) : (s.setFe n h).ap = s.ap := rfl
@[simp] theorem State.setFe_getE (s : State) (n : Nat) (h : FeHid) (z : Fld) (m i : Nat) : (s.setFe n h).getE z m i = s.getE z m i := rfl
@[simp] theorem State.setFe_get (s : State) (n : Nat) (h : FeHid) (z : Fld) (m : Nat) : (s.setFe n h).get z m = s.get z m := rfl
@[simp] theorem State.setFe_on (s : State) (n : Nat) (h : FeHid) (z : Fld) (m : Nat) : (s.setFe n h).on z m = s.on z m := rfl
@[simp] theorem State.setFe_fe_same (s : State) (n : Nat) (h : FeHid) : (s.setFe n h).fe n = h := Tbl.get_set_same _ _ _ _
theorem State.setFe_fe_ne (s : State) {n j : Nat} (h : FeHid) (hj : j ≠ n) : (s.setFe n h).fe j = s.fe j :=
  Tbl.get_set_ne _ _ _ _ hj

@[simp] theorem State.setHw_pending (s : State) (n : Nat) (h : HwHid) : (s.setHw n h).pending = s.pending := rfl
@[simp] theorem State.setHw_fields (s : State) (n : Nat) (h : HwHid) : (s.setHw n h).fields = s.fields := rfl
@[simp] theorem State.setHw_speak (s : State) (n : Nat) (h : HwHid) : (s.setHw n h).speak = s.speak := rfl
@[simp] theorem State.setHw_epochBase (s : State) (n : Nat) (h : HwHid) : (s.setHw n h).epochBase = s.epochBase := rfl
@[simp] theorem State.setHw_epochs (s : State) (n : Nat) (h : HwHid) : (s.setHw n h).epochs = s.epochs := rfl
@[simp] theorem State.setHw_latches (s : State) (n : Nat) (h : HwHid) : (s.setHw n h).latches = s.latches := rfl
@[simp] theorem State.setHw_time (s : State) (n : Nat) (h : HwHid) : (s.setHw n h).time = s.time := rfl
@[simp] theorem State.setHw_aonTime (s : State) (n : Nat) (h : HwHid) : (s.setHw n h).aonTime = s.aonTime := rfl
@[simp] theorem State.setHw_aonPhase (s : State) (n : Nat) (h : HwHid) : (s.setHw n h).aonPhase = s.aonPhase := rfl
@[simp] theorem State.setHw_freeCount (s : State) (n : Nat) (h : HwHid) : (s.setHw n h).freeCount = s.freeCount := rfl
@[simp] theorem State.setHw_resp (s : State) (n : Nat) (h : HwHid) : (s.setHw n h).resp = s.resp := rfl
@[simp] theorem State.setHw_out (s : State) (n : Nat) (h : HwHid) : (s.setHw n h).out = s.out := rfl
@[simp] theorem State.setHw_mode (s : State) (n : Nat) (h : HwHid) : (s.setHw n h).mode = s.mode := rfl
@[simp] theorem State.setHw_doms (s : State) (n : Nat) (h : HwHid) : (s.setHw n h).doms = s.doms := rfl
@[simp] theorem State.setHw_pdQueue (s : State) (n : Nat) (h : HwHid) : (s.setHw n h).pdQueue = s.pdQueue := rfl
@[simp] theorem State.setHw_banks (s : State) (n : Nat) (h : HwHid) : (s.setHw n h).banks = s.banks := rfl
@[simp] theorem State.setHw_pots (s : State) (n : Nat) (h : HwHid) : (s.setHw n h).pots = s.pots := rfl
@[simp] theorem State.setHw_crucible (s : State) (n : Nat) (h : HwHid) : (s.setHw n h).crucible = s.crucible := rfl
@[simp] theorem State.setHw_fes (s : State) (n : Nat) (h : HwHid) : (s.setHw n h).fes = s.fes := rfl
@[simp] theorem State.setHw_hands (s : State) (n : Nat) (h : HwHid) : (s.setHw n h).hands = s.hands := rfl
@[simp] theorem State.setHw_aerials (s : State) (n : Nat) (h : HwHid) : (s.setHw n h).aerials = s.aerials := rfl
@[simp] theorem State.setHw_tuners (s : State) (n : Nat) (h : HwHid) : (s.setHw n h).tuners = s.tuners := rfl
@[simp] theorem State.setHw_gainLog (s : State) (n : Nat) (h : HwHid) : (s.setHw n h).gainLog = s.gainLog := rfl
@[simp] theorem State.setHw_slots (s : State) (n : Nat) (h : HwHid) : (s.setHw n h).slots = s.slots := rfl
@[simp] theorem State.setHw_groups (s : State) (n : Nat) (h : HwHid) : (s.setHw n h).groups = s.groups := rfl
@[simp] theorem State.setHw_profiles (s : State) (n : Nat) (h : HwHid) : (s.setHw n h).profiles = s.profiles := rfl
@[simp] theorem State.setHw_loader (s : State) (n : Nat) (h : HwHid) : (s.setHw n h).loader = s.loader := rfl
@[simp] theorem State.setHw_snaps (s : State) (n : Nat) (h : HwHid) : (s.setHw n h).snaps = s.snaps := rfl
@[simp] theorem State.setHw_lanes (s : State) (n : Nat) (h : HwHid) : (s.setHw n h).lanes = s.lanes := rfl
@[simp] theorem State.setHw_ctxs (s : State) (n : Nat) (h : HwHid) : (s.setHw n h).ctxs = s.ctxs := rfl
@[simp] theorem State.setHw_taps (s : State) (n : Nat) (h : HwHid) : (s.setHw n h).taps = s.taps := rfl
@[simp] theorem State.setHw_ruleType (s : State) (n : Nat) (h : HwHid) : (s.setHw n h).ruleType = s.ruleType := rfl
@[simp] theorem State.setHw_fols (s : State) (n : Nat) (h : HwHid) : (s.setHw n h).fols = s.fols := rfl
@[simp] theorem State.setHw_mets (s : State) (n : Nat) (h : HwHid) : (s.setHw n h).mets = s.mets := rfl
@[simp] theorem State.setHw_ref (s : State) (n : Nat) (h : HwHid) : (s.setHw n h).ref = s.ref := rfl
@[simp] theorem State.setHw_pps (s : State) (n : Nat) (h : HwHid) : (s.setHw n h).pps = s.pps := rfl
@[simp] theorem State.setHw_fcs (s : State) (n : Nat) (h : HwHid) : (s.setHw n h).fcs = s.fcs := rfl
@[simp] theorem State.setHw_clk (s : State) (n : Nat) (h : HwHid) : (s.setHw n h).clk = s.clk := rfl
@[simp] theorem State.setHw_wakeHid (s : State) (n : Nat) (h : HwHid) : (s.setHw n h).wakeHid = s.wakeHid := rfl
@[simp] theorem State.setHw_punty (s : State) (n : Nat) (h : HwHid) : (s.setHw n h).punty = s.punty := rfl
@[simp] theorem State.setHw_lehr (s : State) (n : Nat) (h : HwHid) : (s.setHw n h).lehr = s.lehr := rfl
@[simp] theorem State.setHw_start (s : State) (n : Nat) (h : HwHid) : (s.setHw n h).start = s.start := rfl
@[simp] theorem State.setHw_fg (s : State) (n : Nat) (h : HwHid) : (s.setHw n h).fg = s.fg := rfl
@[simp] theorem State.setHw_otp (s : State) (n : Nat) (h : HwHid) : (s.setHw n h).otp = s.otp := rfl
@[simp] theorem State.setHw_otpSpares (s : State) (n : Nat) (h : HwHid) : (s.setHw n h).otpSpares = s.otpSpares := rfl
@[simp] theorem State.setHw_link (s : State) (n : Nat) (h : HwHid) : (s.setHw n h).link = s.link := rfl
@[simp] theorem State.setHw_cfgs (s : State) (n : Nat) (h : HwHid) : (s.setHw n h).cfgs = s.cfgs := rfl
@[simp] theorem State.setHw_rings (s : State) (n : Nat) (h : HwHid) : (s.setHw n h).rings = s.rings := rfl
@[simp] theorem State.setHw_dmaTurn (s : State) (n : Nat) (h : HwHid) : (s.setHw n h).dmaTurn = s.dmaTurn := rfl
@[simp] theorem State.setHw_walkTurn (s : State) (n : Nat) (h : HwHid) : (s.setHw n h).walkTurn = s.walkTurn := rfl
@[simp] theorem State.setHw_xcache (s : State) (n : Nat) (h : HwHid) : (s.setHw n h).xcache = s.xcache := rfl
@[simp] theorem State.setHw_faults (s : State) (n : Nat) (h : HwHid) : (s.setHw n h).faults = s.faults := rfl
@[simp] theorem State.setHw_attn (s : State) (n : Nat) (h : HwHid) : (s.setHw n h).attn = s.attn := rfl
@[simp] theorem State.setHw_aps (s : State) (n : Nat) (h : HwHid) : (s.setHw n h).aps = s.aps := rfl
@[simp] theorem State.setHw_mgmt (s : State) (n : Nat) (h : HwHid) : (s.setHw n h).mgmt = s.mgmt := rfl
@[simp] theorem State.setHw_health (s : State) (n : Nat) (h : HwHid) : (s.setHw n h).health = s.health := rfl
@[simp] theorem State.setHw_fe (s : State) (n : Nat) (h : HwHid) : (s.setHw n h).fe = s.fe := rfl
@[simp] theorem State.setHw_hand (s : State) (n : Nat) (h : HwHid) : (s.setHw n h).hand = s.hand := rfl
@[simp] theorem State.setHw_aerial (s : State) (n : Nat) (h : HwHid) : (s.setHw n h).aerial = s.aerial := rfl
@[simp] theorem State.setHw_tuner (s : State) (n : Nat) (h : HwHid) : (s.setHw n h).tuner = s.tuner := rfl
@[simp] theorem State.setHw_dom (s : State) (n : Nat) (h : HwHid) : (s.setHw n h).dom = s.dom := rfl
@[simp] theorem State.setHw_bank (s : State) (n : Nat) (h : HwHid) : (s.setHw n h).bank = s.bank := rfl
@[simp] theorem State.setHw_cfg (s : State) (n : Nat) (h : HwHid) : (s.setHw n h).cfg = s.cfg := rfl
@[simp] theorem State.setHw_ring (s : State) (n : Nat) (h : HwHid) : (s.setHw n h).ring = s.ring := rfl
@[simp] theorem State.setHw_latch (s : State) (n : Nat) (h : HwHid) : (s.setHw n h).latch = s.latch := rfl
@[simp] theorem State.setHw_slot (s : State) (n : Nat) (h : HwHid) : (s.setHw n h).slot = s.slot := rfl
@[simp] theorem State.setHw_grp (s : State) (n : Nat) (h : HwHid) : (s.setHw n h).grp = s.grp := rfl
@[simp] theorem State.setHw_lane (s : State) (n : Nat) (h : HwHid) : (s.setHw n h).lane = s.lane := rfl
@[simp] theorem State.setHw_ctxHid (s : State) (n : Nat) (h : HwHid) : (s.setHw n h).ctxHid = s.ctxHid := rfl
@[simp] theorem State.setHw_tap (s : State) (n : Nat) (h : HwHid) : (s.setHw n h).tap = s.tap := rfl
@[simp] theorem State.setHw_fol (s : State) (n : Nat) (h : HwHid) : (s.setHw n h).fol = s.fol := rfl
@[simp] theorem State.setHw_ap (s : State) (n : Nat) (h : HwHid) : (s.setHw n h).ap = s.ap := rfl
@[simp] theorem State.setHw_getE (s : State) (n : Nat) (h : HwHid) (z : Fld) (m i : Nat) : (s.setHw n h).getE z m i = s.getE z m i := rfl
@[simp] theorem State.setHw_get (s : State) (n : Nat) (h : HwHid) (z : Fld) (m : Nat) : (s.setHw n h).get z m = s.get z m := rfl
@[simp] theorem State.setHw_on (s : State) (n : Nat) (h : HwHid) (z : Fld) (m : Nat) : (s.setHw n h).on z m = s.on z m := rfl
@[simp] theorem State.setHw_hw_same (s : State) (n : Nat) (h : HwHid) : (s.setHw n h).hw n = h := Tbl.get_set_same _ _ _ _
theorem State.setHw_hw_ne (s : State) {n j : Nat} (h : HwHid) (hj : j ≠ n) : (s.setHw n h).hw j = s.hw j :=
  Tbl.get_set_ne _ _ _ _ hj

@[simp] theorem State.setHand_pending (s : State) (k : Nat) (h : Handover) : (s.setHand k h).pending = s.pending := rfl
@[simp] theorem State.setHand_fields (s : State) (k : Nat) (h : Handover) : (s.setHand k h).fields = s.fields := rfl
@[simp] theorem State.setHand_speak (s : State) (k : Nat) (h : Handover) : (s.setHand k h).speak = s.speak := rfl
@[simp] theorem State.setHand_epochBase (s : State) (k : Nat) (h : Handover) : (s.setHand k h).epochBase = s.epochBase := rfl
@[simp] theorem State.setHand_epochs (s : State) (k : Nat) (h : Handover) : (s.setHand k h).epochs = s.epochs := rfl
@[simp] theorem State.setHand_latches (s : State) (k : Nat) (h : Handover) : (s.setHand k h).latches = s.latches := rfl
@[simp] theorem State.setHand_time (s : State) (k : Nat) (h : Handover) : (s.setHand k h).time = s.time := rfl
@[simp] theorem State.setHand_aonTime (s : State) (k : Nat) (h : Handover) : (s.setHand k h).aonTime = s.aonTime := rfl
@[simp] theorem State.setHand_aonPhase (s : State) (k : Nat) (h : Handover) : (s.setHand k h).aonPhase = s.aonPhase := rfl
@[simp] theorem State.setHand_freeCount (s : State) (k : Nat) (h : Handover) : (s.setHand k h).freeCount = s.freeCount := rfl
@[simp] theorem State.setHand_resp (s : State) (k : Nat) (h : Handover) : (s.setHand k h).resp = s.resp := rfl
@[simp] theorem State.setHand_out (s : State) (k : Nat) (h : Handover) : (s.setHand k h).out = s.out := rfl
@[simp] theorem State.setHand_mode (s : State) (k : Nat) (h : Handover) : (s.setHand k h).mode = s.mode := rfl
@[simp] theorem State.setHand_doms (s : State) (k : Nat) (h : Handover) : (s.setHand k h).doms = s.doms := rfl
@[simp] theorem State.setHand_pdQueue (s : State) (k : Nat) (h : Handover) : (s.setHand k h).pdQueue = s.pdQueue := rfl
@[simp] theorem State.setHand_banks (s : State) (k : Nat) (h : Handover) : (s.setHand k h).banks = s.banks := rfl
@[simp] theorem State.setHand_pots (s : State) (k : Nat) (h : Handover) : (s.setHand k h).pots = s.pots := rfl
@[simp] theorem State.setHand_crucible (s : State) (k : Nat) (h : Handover) : (s.setHand k h).crucible = s.crucible := rfl
@[simp] theorem State.setHand_fes (s : State) (k : Nat) (h : Handover) : (s.setHand k h).fes = s.fes := rfl
@[simp] theorem State.setHand_hws (s : State) (k : Nat) (h : Handover) : (s.setHand k h).hws = s.hws := rfl
@[simp] theorem State.setHand_aerials (s : State) (k : Nat) (h : Handover) : (s.setHand k h).aerials = s.aerials := rfl
@[simp] theorem State.setHand_tuners (s : State) (k : Nat) (h : Handover) : (s.setHand k h).tuners = s.tuners := rfl
@[simp] theorem State.setHand_gainLog (s : State) (k : Nat) (h : Handover) : (s.setHand k h).gainLog = s.gainLog := rfl
@[simp] theorem State.setHand_slots (s : State) (k : Nat) (h : Handover) : (s.setHand k h).slots = s.slots := rfl
@[simp] theorem State.setHand_groups (s : State) (k : Nat) (h : Handover) : (s.setHand k h).groups = s.groups := rfl
@[simp] theorem State.setHand_profiles (s : State) (k : Nat) (h : Handover) : (s.setHand k h).profiles = s.profiles := rfl
@[simp] theorem State.setHand_loader (s : State) (k : Nat) (h : Handover) : (s.setHand k h).loader = s.loader := rfl
@[simp] theorem State.setHand_snaps (s : State) (k : Nat) (h : Handover) : (s.setHand k h).snaps = s.snaps := rfl
@[simp] theorem State.setHand_lanes (s : State) (k : Nat) (h : Handover) : (s.setHand k h).lanes = s.lanes := rfl
@[simp] theorem State.setHand_ctxs (s : State) (k : Nat) (h : Handover) : (s.setHand k h).ctxs = s.ctxs := rfl
@[simp] theorem State.setHand_taps (s : State) (k : Nat) (h : Handover) : (s.setHand k h).taps = s.taps := rfl
@[simp] theorem State.setHand_ruleType (s : State) (k : Nat) (h : Handover) : (s.setHand k h).ruleType = s.ruleType := rfl
@[simp] theorem State.setHand_fols (s : State) (k : Nat) (h : Handover) : (s.setHand k h).fols = s.fols := rfl
@[simp] theorem State.setHand_mets (s : State) (k : Nat) (h : Handover) : (s.setHand k h).mets = s.mets := rfl
@[simp] theorem State.setHand_ref (s : State) (k : Nat) (h : Handover) : (s.setHand k h).ref = s.ref := rfl
@[simp] theorem State.setHand_pps (s : State) (k : Nat) (h : Handover) : (s.setHand k h).pps = s.pps := rfl
@[simp] theorem State.setHand_fcs (s : State) (k : Nat) (h : Handover) : (s.setHand k h).fcs = s.fcs := rfl
@[simp] theorem State.setHand_clk (s : State) (k : Nat) (h : Handover) : (s.setHand k h).clk = s.clk := rfl
@[simp] theorem State.setHand_wakeHid (s : State) (k : Nat) (h : Handover) : (s.setHand k h).wakeHid = s.wakeHid := rfl
@[simp] theorem State.setHand_punty (s : State) (k : Nat) (h : Handover) : (s.setHand k h).punty = s.punty := rfl
@[simp] theorem State.setHand_lehr (s : State) (k : Nat) (h : Handover) : (s.setHand k h).lehr = s.lehr := rfl
@[simp] theorem State.setHand_start (s : State) (k : Nat) (h : Handover) : (s.setHand k h).start = s.start := rfl
@[simp] theorem State.setHand_fg (s : State) (k : Nat) (h : Handover) : (s.setHand k h).fg = s.fg := rfl
@[simp] theorem State.setHand_otp (s : State) (k : Nat) (h : Handover) : (s.setHand k h).otp = s.otp := rfl
@[simp] theorem State.setHand_otpSpares (s : State) (k : Nat) (h : Handover) : (s.setHand k h).otpSpares = s.otpSpares := rfl
@[simp] theorem State.setHand_link (s : State) (k : Nat) (h : Handover) : (s.setHand k h).link = s.link := rfl
@[simp] theorem State.setHand_cfgs (s : State) (k : Nat) (h : Handover) : (s.setHand k h).cfgs = s.cfgs := rfl
@[simp] theorem State.setHand_rings (s : State) (k : Nat) (h : Handover) : (s.setHand k h).rings = s.rings := rfl
@[simp] theorem State.setHand_dmaTurn (s : State) (k : Nat) (h : Handover) : (s.setHand k h).dmaTurn = s.dmaTurn := rfl
@[simp] theorem State.setHand_walkTurn (s : State) (k : Nat) (h : Handover) : (s.setHand k h).walkTurn = s.walkTurn := rfl
@[simp] theorem State.setHand_xcache (s : State) (k : Nat) (h : Handover) : (s.setHand k h).xcache = s.xcache := rfl
@[simp] theorem State.setHand_faults (s : State) (k : Nat) (h : Handover) : (s.setHand k h).faults = s.faults := rfl
@[simp] theorem State.setHand_attn (s : State) (k : Nat) (h : Handover) : (s.setHand k h).attn = s.attn := rfl
@[simp] theorem State.setHand_aps (s : State) (k : Nat) (h : Handover) : (s.setHand k h).aps = s.aps := rfl
@[simp] theorem State.setHand_mgmt (s : State) (k : Nat) (h : Handover) : (s.setHand k h).mgmt = s.mgmt := rfl
@[simp] theorem State.setHand_health (s : State) (k : Nat) (h : Handover) : (s.setHand k h).health = s.health := rfl
@[simp] theorem State.setHand_fe (s : State) (k : Nat) (h : Handover) : (s.setHand k h).fe = s.fe := rfl
@[simp] theorem State.setHand_hw (s : State) (k : Nat) (h : Handover) : (s.setHand k h).hw = s.hw := rfl
@[simp] theorem State.setHand_aerial (s : State) (k : Nat) (h : Handover) : (s.setHand k h).aerial = s.aerial := rfl
@[simp] theorem State.setHand_tuner (s : State) (k : Nat) (h : Handover) : (s.setHand k h).tuner = s.tuner := rfl
@[simp] theorem State.setHand_dom (s : State) (k : Nat) (h : Handover) : (s.setHand k h).dom = s.dom := rfl
@[simp] theorem State.setHand_bank (s : State) (k : Nat) (h : Handover) : (s.setHand k h).bank = s.bank := rfl
@[simp] theorem State.setHand_cfg (s : State) (k : Nat) (h : Handover) : (s.setHand k h).cfg = s.cfg := rfl
@[simp] theorem State.setHand_ring (s : State) (k : Nat) (h : Handover) : (s.setHand k h).ring = s.ring := rfl
@[simp] theorem State.setHand_latch (s : State) (k : Nat) (h : Handover) : (s.setHand k h).latch = s.latch := rfl
@[simp] theorem State.setHand_slot (s : State) (k : Nat) (h : Handover) : (s.setHand k h).slot = s.slot := rfl
@[simp] theorem State.setHand_grp (s : State) (k : Nat) (h : Handover) : (s.setHand k h).grp = s.grp := rfl
@[simp] theorem State.setHand_lane (s : State) (k : Nat) (h : Handover) : (s.setHand k h).lane = s.lane := rfl
@[simp] theorem State.setHand_ctxHid (s : State) (k : Nat) (h : Handover) : (s.setHand k h).ctxHid = s.ctxHid := rfl
@[simp] theorem State.setHand_tap (s : State) (k : Nat) (h : Handover) : (s.setHand k h).tap = s.tap := rfl
@[simp] theorem State.setHand_fol (s : State) (k : Nat) (h : Handover) : (s.setHand k h).fol = s.fol := rfl
@[simp] theorem State.setHand_ap (s : State) (k : Nat) (h : Handover) : (s.setHand k h).ap = s.ap := rfl
@[simp] theorem State.setHand_getE (s : State) (k : Nat) (h : Handover) (z : Fld) (m i : Nat) : (s.setHand k h).getE z m i = s.getE z m i := rfl
@[simp] theorem State.setHand_get (s : State) (k : Nat) (h : Handover) (z : Fld) (m : Nat) : (s.setHand k h).get z m = s.get z m := rfl
@[simp] theorem State.setHand_on (s : State) (k : Nat) (h : Handover) (z : Fld) (m : Nat) : (s.setHand k h).on z m = s.on z m := rfl
@[simp] theorem State.setHand_hand_same (s : State) (k : Nat) (h : Handover) : (s.setHand k h).hand k = h := Tbl.get_set_same _ _ _ _
theorem State.setHand_hand_ne (s : State) {k j : Nat} (h : Handover) (hj : j ≠ k) : (s.setHand k h).hand j = s.hand j :=
  Tbl.get_set_ne _ _ _ _ hj

@[simp] theorem State.setAerial_pending (s : State) (p : Nat) (h : PortHid) : (s.setAerial p h).pending = s.pending := rfl
@[simp] theorem State.setAerial_fields (s : State) (p : Nat) (h : PortHid) : (s.setAerial p h).fields = s.fields := rfl
@[simp] theorem State.setAerial_speak (s : State) (p : Nat) (h : PortHid) : (s.setAerial p h).speak = s.speak := rfl
@[simp] theorem State.setAerial_epochBase (s : State) (p : Nat) (h : PortHid) : (s.setAerial p h).epochBase = s.epochBase := rfl
@[simp] theorem State.setAerial_epochs (s : State) (p : Nat) (h : PortHid) : (s.setAerial p h).epochs = s.epochs := rfl
@[simp] theorem State.setAerial_latches (s : State) (p : Nat) (h : PortHid) : (s.setAerial p h).latches = s.latches := rfl
@[simp] theorem State.setAerial_time (s : State) (p : Nat) (h : PortHid) : (s.setAerial p h).time = s.time := rfl
@[simp] theorem State.setAerial_aonTime (s : State) (p : Nat) (h : PortHid) : (s.setAerial p h).aonTime = s.aonTime := rfl
@[simp] theorem State.setAerial_aonPhase (s : State) (p : Nat) (h : PortHid) : (s.setAerial p h).aonPhase = s.aonPhase := rfl
@[simp] theorem State.setAerial_freeCount (s : State) (p : Nat) (h : PortHid) : (s.setAerial p h).freeCount = s.freeCount := rfl
@[simp] theorem State.setAerial_resp (s : State) (p : Nat) (h : PortHid) : (s.setAerial p h).resp = s.resp := rfl
@[simp] theorem State.setAerial_out (s : State) (p : Nat) (h : PortHid) : (s.setAerial p h).out = s.out := rfl
@[simp] theorem State.setAerial_mode (s : State) (p : Nat) (h : PortHid) : (s.setAerial p h).mode = s.mode := rfl
@[simp] theorem State.setAerial_doms (s : State) (p : Nat) (h : PortHid) : (s.setAerial p h).doms = s.doms := rfl
@[simp] theorem State.setAerial_pdQueue (s : State) (p : Nat) (h : PortHid) : (s.setAerial p h).pdQueue = s.pdQueue := rfl
@[simp] theorem State.setAerial_banks (s : State) (p : Nat) (h : PortHid) : (s.setAerial p h).banks = s.banks := rfl
@[simp] theorem State.setAerial_pots (s : State) (p : Nat) (h : PortHid) : (s.setAerial p h).pots = s.pots := rfl
@[simp] theorem State.setAerial_crucible (s : State) (p : Nat) (h : PortHid) : (s.setAerial p h).crucible = s.crucible := rfl
@[simp] theorem State.setAerial_fes (s : State) (p : Nat) (h : PortHid) : (s.setAerial p h).fes = s.fes := rfl
@[simp] theorem State.setAerial_hws (s : State) (p : Nat) (h : PortHid) : (s.setAerial p h).hws = s.hws := rfl
@[simp] theorem State.setAerial_hands (s : State) (p : Nat) (h : PortHid) : (s.setAerial p h).hands = s.hands := rfl
@[simp] theorem State.setAerial_tuners (s : State) (p : Nat) (h : PortHid) : (s.setAerial p h).tuners = s.tuners := rfl
@[simp] theorem State.setAerial_gainLog (s : State) (p : Nat) (h : PortHid) : (s.setAerial p h).gainLog = s.gainLog := rfl
@[simp] theorem State.setAerial_slots (s : State) (p : Nat) (h : PortHid) : (s.setAerial p h).slots = s.slots := rfl
@[simp] theorem State.setAerial_groups (s : State) (p : Nat) (h : PortHid) : (s.setAerial p h).groups = s.groups := rfl
@[simp] theorem State.setAerial_profiles (s : State) (p : Nat) (h : PortHid) : (s.setAerial p h).profiles = s.profiles := rfl
@[simp] theorem State.setAerial_loader (s : State) (p : Nat) (h : PortHid) : (s.setAerial p h).loader = s.loader := rfl
@[simp] theorem State.setAerial_snaps (s : State) (p : Nat) (h : PortHid) : (s.setAerial p h).snaps = s.snaps := rfl
@[simp] theorem State.setAerial_lanes (s : State) (p : Nat) (h : PortHid) : (s.setAerial p h).lanes = s.lanes := rfl
@[simp] theorem State.setAerial_ctxs (s : State) (p : Nat) (h : PortHid) : (s.setAerial p h).ctxs = s.ctxs := rfl
@[simp] theorem State.setAerial_taps (s : State) (p : Nat) (h : PortHid) : (s.setAerial p h).taps = s.taps := rfl
@[simp] theorem State.setAerial_ruleType (s : State) (p : Nat) (h : PortHid) : (s.setAerial p h).ruleType = s.ruleType := rfl
@[simp] theorem State.setAerial_fols (s : State) (p : Nat) (h : PortHid) : (s.setAerial p h).fols = s.fols := rfl
@[simp] theorem State.setAerial_mets (s : State) (p : Nat) (h : PortHid) : (s.setAerial p h).mets = s.mets := rfl
@[simp] theorem State.setAerial_ref (s : State) (p : Nat) (h : PortHid) : (s.setAerial p h).ref = s.ref := rfl
@[simp] theorem State.setAerial_pps (s : State) (p : Nat) (h : PortHid) : (s.setAerial p h).pps = s.pps := rfl
@[simp] theorem State.setAerial_fcs (s : State) (p : Nat) (h : PortHid) : (s.setAerial p h).fcs = s.fcs := rfl
@[simp] theorem State.setAerial_clk (s : State) (p : Nat) (h : PortHid) : (s.setAerial p h).clk = s.clk := rfl
@[simp] theorem State.setAerial_wakeHid (s : State) (p : Nat) (h : PortHid) : (s.setAerial p h).wakeHid = s.wakeHid := rfl
@[simp] theorem State.setAerial_punty (s : State) (p : Nat) (h : PortHid) : (s.setAerial p h).punty = s.punty := rfl
@[simp] theorem State.setAerial_lehr (s : State) (p : Nat) (h : PortHid) : (s.setAerial p h).lehr = s.lehr := rfl
@[simp] theorem State.setAerial_start (s : State) (p : Nat) (h : PortHid) : (s.setAerial p h).start = s.start := rfl
@[simp] theorem State.setAerial_fg (s : State) (p : Nat) (h : PortHid) : (s.setAerial p h).fg = s.fg := rfl
@[simp] theorem State.setAerial_otp (s : State) (p : Nat) (h : PortHid) : (s.setAerial p h).otp = s.otp := rfl
@[simp] theorem State.setAerial_otpSpares (s : State) (p : Nat) (h : PortHid) : (s.setAerial p h).otpSpares = s.otpSpares := rfl
@[simp] theorem State.setAerial_link (s : State) (p : Nat) (h : PortHid) : (s.setAerial p h).link = s.link := rfl
@[simp] theorem State.setAerial_cfgs (s : State) (p : Nat) (h : PortHid) : (s.setAerial p h).cfgs = s.cfgs := rfl
@[simp] theorem State.setAerial_rings (s : State) (p : Nat) (h : PortHid) : (s.setAerial p h).rings = s.rings := rfl
@[simp] theorem State.setAerial_dmaTurn (s : State) (p : Nat) (h : PortHid) : (s.setAerial p h).dmaTurn = s.dmaTurn := rfl
@[simp] theorem State.setAerial_walkTurn (s : State) (p : Nat) (h : PortHid) : (s.setAerial p h).walkTurn = s.walkTurn := rfl
@[simp] theorem State.setAerial_xcache (s : State) (p : Nat) (h : PortHid) : (s.setAerial p h).xcache = s.xcache := rfl
@[simp] theorem State.setAerial_faults (s : State) (p : Nat) (h : PortHid) : (s.setAerial p h).faults = s.faults := rfl
@[simp] theorem State.setAerial_attn (s : State) (p : Nat) (h : PortHid) : (s.setAerial p h).attn = s.attn := rfl
@[simp] theorem State.setAerial_aps (s : State) (p : Nat) (h : PortHid) : (s.setAerial p h).aps = s.aps := rfl
@[simp] theorem State.setAerial_mgmt (s : State) (p : Nat) (h : PortHid) : (s.setAerial p h).mgmt = s.mgmt := rfl
@[simp] theorem State.setAerial_health (s : State) (p : Nat) (h : PortHid) : (s.setAerial p h).health = s.health := rfl
@[simp] theorem State.setAerial_fe (s : State) (p : Nat) (h : PortHid) : (s.setAerial p h).fe = s.fe := rfl
@[simp] theorem State.setAerial_hw (s : State) (p : Nat) (h : PortHid) : (s.setAerial p h).hw = s.hw := rfl
@[simp] theorem State.setAerial_hand (s : State) (p : Nat) (h : PortHid) : (s.setAerial p h).hand = s.hand := rfl
@[simp] theorem State.setAerial_tuner (s : State) (p : Nat) (h : PortHid) : (s.setAerial p h).tuner = s.tuner := rfl
@[simp] theorem State.setAerial_dom (s : State) (p : Nat) (h : PortHid) : (s.setAerial p h).dom = s.dom := rfl
@[simp] theorem State.setAerial_bank (s : State) (p : Nat) (h : PortHid) : (s.setAerial p h).bank = s.bank := rfl
@[simp] theorem State.setAerial_cfg (s : State) (p : Nat) (h : PortHid) : (s.setAerial p h).cfg = s.cfg := rfl
@[simp] theorem State.setAerial_ring (s : State) (p : Nat) (h : PortHid) : (s.setAerial p h).ring = s.ring := rfl
@[simp] theorem State.setAerial_latch (s : State) (p : Nat) (h : PortHid) : (s.setAerial p h).latch = s.latch := rfl
@[simp] theorem State.setAerial_slot (s : State) (p : Nat) (h : PortHid) : (s.setAerial p h).slot = s.slot := rfl
@[simp] theorem State.setAerial_grp (s : State) (p : Nat) (h : PortHid) : (s.setAerial p h).grp = s.grp := rfl
@[simp] theorem State.setAerial_lane (s : State) (p : Nat) (h : PortHid) : (s.setAerial p h).lane = s.lane := rfl
@[simp] theorem State.setAerial_ctxHid (s : State) (p : Nat) (h : PortHid) : (s.setAerial p h).ctxHid = s.ctxHid := rfl
@[simp] theorem State.setAerial_tap (s : State) (p : Nat) (h : PortHid) : (s.setAerial p h).tap = s.tap := rfl
@[simp] theorem State.setAerial_fol (s : State) (p : Nat) (h : PortHid) : (s.setAerial p h).fol = s.fol := rfl
@[simp] theorem State.setAerial_ap (s : State) (p : Nat) (h : PortHid) : (s.setAerial p h).ap = s.ap := rfl
@[simp] theorem State.setAerial_getE (s : State) (p : Nat) (h : PortHid) (z : Fld) (m i : Nat) : (s.setAerial p h).getE z m i = s.getE z m i := rfl
@[simp] theorem State.setAerial_get (s : State) (p : Nat) (h : PortHid) (z : Fld) (m : Nat) : (s.setAerial p h).get z m = s.get z m := rfl
@[simp] theorem State.setAerial_on (s : State) (p : Nat) (h : PortHid) (z : Fld) (m : Nat) : (s.setAerial p h).on z m = s.on z m := rfl
@[simp] theorem State.setAerial_aerial_same (s : State) (p : Nat) (h : PortHid) : (s.setAerial p h).aerial p = h := Tbl.get_set_same _ _ _ _
theorem State.setAerial_aerial_ne (s : State) {p j : Nat} (h : PortHid) (hj : j ≠ p) : (s.setAerial p h).aerial j = s.aerial j :=
  Tbl.get_set_ne _ _ _ _ hj

@[simp] theorem State.setTuner_pending (s : State) (p : Nat) (h : TunHid) : (s.setTuner p h).pending = s.pending := rfl
@[simp] theorem State.setTuner_fields (s : State) (p : Nat) (h : TunHid) : (s.setTuner p h).fields = s.fields := rfl
@[simp] theorem State.setTuner_speak (s : State) (p : Nat) (h : TunHid) : (s.setTuner p h).speak = s.speak := rfl
@[simp] theorem State.setTuner_epochBase (s : State) (p : Nat) (h : TunHid) : (s.setTuner p h).epochBase = s.epochBase := rfl
@[simp] theorem State.setTuner_epochs (s : State) (p : Nat) (h : TunHid) : (s.setTuner p h).epochs = s.epochs := rfl
@[simp] theorem State.setTuner_latches (s : State) (p : Nat) (h : TunHid) : (s.setTuner p h).latches = s.latches := rfl
@[simp] theorem State.setTuner_time (s : State) (p : Nat) (h : TunHid) : (s.setTuner p h).time = s.time := rfl
@[simp] theorem State.setTuner_aonTime (s : State) (p : Nat) (h : TunHid) : (s.setTuner p h).aonTime = s.aonTime := rfl
@[simp] theorem State.setTuner_aonPhase (s : State) (p : Nat) (h : TunHid) : (s.setTuner p h).aonPhase = s.aonPhase := rfl
@[simp] theorem State.setTuner_freeCount (s : State) (p : Nat) (h : TunHid) : (s.setTuner p h).freeCount = s.freeCount := rfl
@[simp] theorem State.setTuner_resp (s : State) (p : Nat) (h : TunHid) : (s.setTuner p h).resp = s.resp := rfl
@[simp] theorem State.setTuner_out (s : State) (p : Nat) (h : TunHid) : (s.setTuner p h).out = s.out := rfl
@[simp] theorem State.setTuner_mode (s : State) (p : Nat) (h : TunHid) : (s.setTuner p h).mode = s.mode := rfl
@[simp] theorem State.setTuner_doms (s : State) (p : Nat) (h : TunHid) : (s.setTuner p h).doms = s.doms := rfl
@[simp] theorem State.setTuner_pdQueue (s : State) (p : Nat) (h : TunHid) : (s.setTuner p h).pdQueue = s.pdQueue := rfl
@[simp] theorem State.setTuner_banks (s : State) (p : Nat) (h : TunHid) : (s.setTuner p h).banks = s.banks := rfl
@[simp] theorem State.setTuner_pots (s : State) (p : Nat) (h : TunHid) : (s.setTuner p h).pots = s.pots := rfl
@[simp] theorem State.setTuner_crucible (s : State) (p : Nat) (h : TunHid) : (s.setTuner p h).crucible = s.crucible := rfl
@[simp] theorem State.setTuner_fes (s : State) (p : Nat) (h : TunHid) : (s.setTuner p h).fes = s.fes := rfl
@[simp] theorem State.setTuner_hws (s : State) (p : Nat) (h : TunHid) : (s.setTuner p h).hws = s.hws := rfl
@[simp] theorem State.setTuner_hands (s : State) (p : Nat) (h : TunHid) : (s.setTuner p h).hands = s.hands := rfl
@[simp] theorem State.setTuner_aerials (s : State) (p : Nat) (h : TunHid) : (s.setTuner p h).aerials = s.aerials := rfl
@[simp] theorem State.setTuner_gainLog (s : State) (p : Nat) (h : TunHid) : (s.setTuner p h).gainLog = s.gainLog := rfl
@[simp] theorem State.setTuner_slots (s : State) (p : Nat) (h : TunHid) : (s.setTuner p h).slots = s.slots := rfl
@[simp] theorem State.setTuner_groups (s : State) (p : Nat) (h : TunHid) : (s.setTuner p h).groups = s.groups := rfl
@[simp] theorem State.setTuner_profiles (s : State) (p : Nat) (h : TunHid) : (s.setTuner p h).profiles = s.profiles := rfl
@[simp] theorem State.setTuner_loader (s : State) (p : Nat) (h : TunHid) : (s.setTuner p h).loader = s.loader := rfl
@[simp] theorem State.setTuner_snaps (s : State) (p : Nat) (h : TunHid) : (s.setTuner p h).snaps = s.snaps := rfl
@[simp] theorem State.setTuner_lanes (s : State) (p : Nat) (h : TunHid) : (s.setTuner p h).lanes = s.lanes := rfl
@[simp] theorem State.setTuner_ctxs (s : State) (p : Nat) (h : TunHid) : (s.setTuner p h).ctxs = s.ctxs := rfl
@[simp] theorem State.setTuner_taps (s : State) (p : Nat) (h : TunHid) : (s.setTuner p h).taps = s.taps := rfl
@[simp] theorem State.setTuner_ruleType (s : State) (p : Nat) (h : TunHid) : (s.setTuner p h).ruleType = s.ruleType := rfl
@[simp] theorem State.setTuner_fols (s : State) (p : Nat) (h : TunHid) : (s.setTuner p h).fols = s.fols := rfl
@[simp] theorem State.setTuner_mets (s : State) (p : Nat) (h : TunHid) : (s.setTuner p h).mets = s.mets := rfl
@[simp] theorem State.setTuner_ref (s : State) (p : Nat) (h : TunHid) : (s.setTuner p h).ref = s.ref := rfl
@[simp] theorem State.setTuner_pps (s : State) (p : Nat) (h : TunHid) : (s.setTuner p h).pps = s.pps := rfl
@[simp] theorem State.setTuner_fcs (s : State) (p : Nat) (h : TunHid) : (s.setTuner p h).fcs = s.fcs := rfl
@[simp] theorem State.setTuner_clk (s : State) (p : Nat) (h : TunHid) : (s.setTuner p h).clk = s.clk := rfl
@[simp] theorem State.setTuner_wakeHid (s : State) (p : Nat) (h : TunHid) : (s.setTuner p h).wakeHid = s.wakeHid := rfl
@[simp] theorem State.setTuner_punty (s : State) (p : Nat) (h : TunHid) : (s.setTuner p h).punty = s.punty := rfl
@[simp] theorem State.setTuner_lehr (s : State) (p : Nat) (h : TunHid) : (s.setTuner p h).lehr = s.lehr := rfl
@[simp] theorem State.setTuner_start (s : State) (p : Nat) (h : TunHid) : (s.setTuner p h).start = s.start := rfl
@[simp] theorem State.setTuner_fg (s : State) (p : Nat) (h : TunHid) : (s.setTuner p h).fg = s.fg := rfl
@[simp] theorem State.setTuner_otp (s : State) (p : Nat) (h : TunHid) : (s.setTuner p h).otp = s.otp := rfl
@[simp] theorem State.setTuner_otpSpares (s : State) (p : Nat) (h : TunHid) : (s.setTuner p h).otpSpares = s.otpSpares := rfl
@[simp] theorem State.setTuner_link (s : State) (p : Nat) (h : TunHid) : (s.setTuner p h).link = s.link := rfl
@[simp] theorem State.setTuner_cfgs (s : State) (p : Nat) (h : TunHid) : (s.setTuner p h).cfgs = s.cfgs := rfl
@[simp] theorem State.setTuner_rings (s : State) (p : Nat) (h : TunHid) : (s.setTuner p h).rings = s.rings := rfl
@[simp] theorem State.setTuner_dmaTurn (s : State) (p : Nat) (h : TunHid) : (s.setTuner p h).dmaTurn = s.dmaTurn := rfl
@[simp] theorem State.setTuner_walkTurn (s : State) (p : Nat) (h : TunHid) : (s.setTuner p h).walkTurn = s.walkTurn := rfl
@[simp] theorem State.setTuner_xcache (s : State) (p : Nat) (h : TunHid) : (s.setTuner p h).xcache = s.xcache := rfl
@[simp] theorem State.setTuner_faults (s : State) (p : Nat) (h : TunHid) : (s.setTuner p h).faults = s.faults := rfl
@[simp] theorem State.setTuner_attn (s : State) (p : Nat) (h : TunHid) : (s.setTuner p h).attn = s.attn := rfl
@[simp] theorem State.setTuner_aps (s : State) (p : Nat) (h : TunHid) : (s.setTuner p h).aps = s.aps := rfl
@[simp] theorem State.setTuner_mgmt (s : State) (p : Nat) (h : TunHid) : (s.setTuner p h).mgmt = s.mgmt := rfl
@[simp] theorem State.setTuner_health (s : State) (p : Nat) (h : TunHid) : (s.setTuner p h).health = s.health := rfl
@[simp] theorem State.setTuner_fe (s : State) (p : Nat) (h : TunHid) : (s.setTuner p h).fe = s.fe := rfl
@[simp] theorem State.setTuner_hw (s : State) (p : Nat) (h : TunHid) : (s.setTuner p h).hw = s.hw := rfl
@[simp] theorem State.setTuner_hand (s : State) (p : Nat) (h : TunHid) : (s.setTuner p h).hand = s.hand := rfl
@[simp] theorem State.setTuner_aerial (s : State) (p : Nat) (h : TunHid) : (s.setTuner p h).aerial = s.aerial := rfl
@[simp] theorem State.setTuner_dom (s : State) (p : Nat) (h : TunHid) : (s.setTuner p h).dom = s.dom := rfl
@[simp] theorem State.setTuner_bank (s : State) (p : Nat) (h : TunHid) : (s.setTuner p h).bank = s.bank := rfl
@[simp] theorem State.setTuner_cfg (s : State) (p : Nat) (h : TunHid) : (s.setTuner p h).cfg = s.cfg := rfl
@[simp] theorem State.setTuner_ring (s : State) (p : Nat) (h : TunHid) : (s.setTuner p h).ring = s.ring := rfl
@[simp] theorem State.setTuner_latch (s : State) (p : Nat) (h : TunHid) : (s.setTuner p h).latch = s.latch := rfl
@[simp] theorem State.setTuner_slot (s : State) (p : Nat) (h : TunHid) : (s.setTuner p h).slot = s.slot := rfl
@[simp] theorem State.setTuner_grp (s : State) (p : Nat) (h : TunHid) : (s.setTuner p h).grp = s.grp := rfl
@[simp] theorem State.setTuner_lane (s : State) (p : Nat) (h : TunHid) : (s.setTuner p h).lane = s.lane := rfl
@[simp] theorem State.setTuner_ctxHid (s : State) (p : Nat) (h : TunHid) : (s.setTuner p h).ctxHid = s.ctxHid := rfl
@[simp] theorem State.setTuner_tap (s : State) (p : Nat) (h : TunHid) : (s.setTuner p h).tap = s.tap := rfl
@[simp] theorem State.setTuner_fol (s : State) (p : Nat) (h : TunHid) : (s.setTuner p h).fol = s.fol := rfl
@[simp] theorem State.setTuner_ap (s : State) (p : Nat) (h : TunHid) : (s.setTuner p h).ap = s.ap := rfl
@[simp] theorem State.setTuner_getE (s : State) (p : Nat) (h : TunHid) (z : Fld) (m i : Nat) : (s.setTuner p h).getE z m i = s.getE z m i := rfl
@[simp] theorem State.setTuner_get (s : State) (p : Nat) (h : TunHid) (z : Fld) (m : Nat) : (s.setTuner p h).get z m = s.get z m := rfl
@[simp] theorem State.setTuner_on (s : State) (p : Nat) (h : TunHid) (z : Fld) (m : Nat) : (s.setTuner p h).on z m = s.on z m := rfl
@[simp] theorem State.setTuner_tuner_same (s : State) (p : Nat) (h : TunHid) : (s.setTuner p h).tuner p = h := Tbl.get_set_same _ _ _ _
theorem State.setTuner_tuner_ne (s : State) {p j : Nat} (h : TunHid) (hj : j ≠ p) : (s.setTuner p h).tuner j = s.tuner j :=
  Tbl.get_set_ne _ _ _ _ hj

@[simp] theorem State.setDom_pending (s : State) (d : Nat) (h : Dom) : (s.setDom d h).pending = s.pending := rfl
@[simp] theorem State.setDom_fields (s : State) (d : Nat) (h : Dom) : (s.setDom d h).fields = s.fields := rfl
@[simp] theorem State.setDom_speak (s : State) (d : Nat) (h : Dom) : (s.setDom d h).speak = s.speak := rfl
@[simp] theorem State.setDom_epochBase (s : State) (d : Nat) (h : Dom) : (s.setDom d h).epochBase = s.epochBase := rfl
@[simp] theorem State.setDom_epochs (s : State) (d : Nat) (h : Dom) : (s.setDom d h).epochs = s.epochs := rfl
@[simp] theorem State.setDom_latches (s : State) (d : Nat) (h : Dom) : (s.setDom d h).latches = s.latches := rfl
@[simp] theorem State.setDom_time (s : State) (d : Nat) (h : Dom) : (s.setDom d h).time = s.time := rfl
@[simp] theorem State.setDom_aonTime (s : State) (d : Nat) (h : Dom) : (s.setDom d h).aonTime = s.aonTime := rfl
@[simp] theorem State.setDom_aonPhase (s : State) (d : Nat) (h : Dom) : (s.setDom d h).aonPhase = s.aonPhase := rfl
@[simp] theorem State.setDom_freeCount (s : State) (d : Nat) (h : Dom) : (s.setDom d h).freeCount = s.freeCount := rfl
@[simp] theorem State.setDom_resp (s : State) (d : Nat) (h : Dom) : (s.setDom d h).resp = s.resp := rfl
@[simp] theorem State.setDom_out (s : State) (d : Nat) (h : Dom) : (s.setDom d h).out = s.out := rfl
@[simp] theorem State.setDom_mode (s : State) (d : Nat) (h : Dom) : (s.setDom d h).mode = s.mode := rfl
@[simp] theorem State.setDom_pdQueue (s : State) (d : Nat) (h : Dom) : (s.setDom d h).pdQueue = s.pdQueue := rfl
@[simp] theorem State.setDom_banks (s : State) (d : Nat) (h : Dom) : (s.setDom d h).banks = s.banks := rfl
@[simp] theorem State.setDom_pots (s : State) (d : Nat) (h : Dom) : (s.setDom d h).pots = s.pots := rfl
@[simp] theorem State.setDom_crucible (s : State) (d : Nat) (h : Dom) : (s.setDom d h).crucible = s.crucible := rfl
@[simp] theorem State.setDom_fes (s : State) (d : Nat) (h : Dom) : (s.setDom d h).fes = s.fes := rfl
@[simp] theorem State.setDom_hws (s : State) (d : Nat) (h : Dom) : (s.setDom d h).hws = s.hws := rfl
@[simp] theorem State.setDom_hands (s : State) (d : Nat) (h : Dom) : (s.setDom d h).hands = s.hands := rfl
@[simp] theorem State.setDom_aerials (s : State) (d : Nat) (h : Dom) : (s.setDom d h).aerials = s.aerials := rfl
@[simp] theorem State.setDom_tuners (s : State) (d : Nat) (h : Dom) : (s.setDom d h).tuners = s.tuners := rfl
@[simp] theorem State.setDom_gainLog (s : State) (d : Nat) (h : Dom) : (s.setDom d h).gainLog = s.gainLog := rfl
@[simp] theorem State.setDom_slots (s : State) (d : Nat) (h : Dom) : (s.setDom d h).slots = s.slots := rfl
@[simp] theorem State.setDom_groups (s : State) (d : Nat) (h : Dom) : (s.setDom d h).groups = s.groups := rfl
@[simp] theorem State.setDom_profiles (s : State) (d : Nat) (h : Dom) : (s.setDom d h).profiles = s.profiles := rfl
@[simp] theorem State.setDom_loader (s : State) (d : Nat) (h : Dom) : (s.setDom d h).loader = s.loader := rfl
@[simp] theorem State.setDom_snaps (s : State) (d : Nat) (h : Dom) : (s.setDom d h).snaps = s.snaps := rfl
@[simp] theorem State.setDom_lanes (s : State) (d : Nat) (h : Dom) : (s.setDom d h).lanes = s.lanes := rfl
@[simp] theorem State.setDom_ctxs (s : State) (d : Nat) (h : Dom) : (s.setDom d h).ctxs = s.ctxs := rfl
@[simp] theorem State.setDom_taps (s : State) (d : Nat) (h : Dom) : (s.setDom d h).taps = s.taps := rfl
@[simp] theorem State.setDom_ruleType (s : State) (d : Nat) (h : Dom) : (s.setDom d h).ruleType = s.ruleType := rfl
@[simp] theorem State.setDom_fols (s : State) (d : Nat) (h : Dom) : (s.setDom d h).fols = s.fols := rfl
@[simp] theorem State.setDom_mets (s : State) (d : Nat) (h : Dom) : (s.setDom d h).mets = s.mets := rfl
@[simp] theorem State.setDom_ref (s : State) (d : Nat) (h : Dom) : (s.setDom d h).ref = s.ref := rfl
@[simp] theorem State.setDom_pps (s : State) (d : Nat) (h : Dom) : (s.setDom d h).pps = s.pps := rfl
@[simp] theorem State.setDom_fcs (s : State) (d : Nat) (h : Dom) : (s.setDom d h).fcs = s.fcs := rfl
@[simp] theorem State.setDom_clk (s : State) (d : Nat) (h : Dom) : (s.setDom d h).clk = s.clk := rfl
@[simp] theorem State.setDom_wakeHid (s : State) (d : Nat) (h : Dom) : (s.setDom d h).wakeHid = s.wakeHid := rfl
@[simp] theorem State.setDom_punty (s : State) (d : Nat) (h : Dom) : (s.setDom d h).punty = s.punty := rfl
@[simp] theorem State.setDom_lehr (s : State) (d : Nat) (h : Dom) : (s.setDom d h).lehr = s.lehr := rfl
@[simp] theorem State.setDom_start (s : State) (d : Nat) (h : Dom) : (s.setDom d h).start = s.start := rfl
@[simp] theorem State.setDom_fg (s : State) (d : Nat) (h : Dom) : (s.setDom d h).fg = s.fg := rfl
@[simp] theorem State.setDom_otp (s : State) (d : Nat) (h : Dom) : (s.setDom d h).otp = s.otp := rfl
@[simp] theorem State.setDom_otpSpares (s : State) (d : Nat) (h : Dom) : (s.setDom d h).otpSpares = s.otpSpares := rfl
@[simp] theorem State.setDom_link (s : State) (d : Nat) (h : Dom) : (s.setDom d h).link = s.link := rfl
@[simp] theorem State.setDom_cfgs (s : State) (d : Nat) (h : Dom) : (s.setDom d h).cfgs = s.cfgs := rfl
@[simp] theorem State.setDom_rings (s : State) (d : Nat) (h : Dom) : (s.setDom d h).rings = s.rings := rfl
@[simp] theorem State.setDom_dmaTurn (s : State) (d : Nat) (h : Dom) : (s.setDom d h).dmaTurn = s.dmaTurn := rfl
@[simp] theorem State.setDom_walkTurn (s : State) (d : Nat) (h : Dom) : (s.setDom d h).walkTurn = s.walkTurn := rfl
@[simp] theorem State.setDom_xcache (s : State) (d : Nat) (h : Dom) : (s.setDom d h).xcache = s.xcache := rfl
@[simp] theorem State.setDom_faults (s : State) (d : Nat) (h : Dom) : (s.setDom d h).faults = s.faults := rfl
@[simp] theorem State.setDom_attn (s : State) (d : Nat) (h : Dom) : (s.setDom d h).attn = s.attn := rfl
@[simp] theorem State.setDom_aps (s : State) (d : Nat) (h : Dom) : (s.setDom d h).aps = s.aps := rfl
@[simp] theorem State.setDom_mgmt (s : State) (d : Nat) (h : Dom) : (s.setDom d h).mgmt = s.mgmt := rfl
@[simp] theorem State.setDom_health (s : State) (d : Nat) (h : Dom) : (s.setDom d h).health = s.health := rfl
@[simp] theorem State.setDom_fe (s : State) (d : Nat) (h : Dom) : (s.setDom d h).fe = s.fe := rfl
@[simp] theorem State.setDom_hw (s : State) (d : Nat) (h : Dom) : (s.setDom d h).hw = s.hw := rfl
@[simp] theorem State.setDom_hand (s : State) (d : Nat) (h : Dom) : (s.setDom d h).hand = s.hand := rfl
@[simp] theorem State.setDom_aerial (s : State) (d : Nat) (h : Dom) : (s.setDom d h).aerial = s.aerial := rfl
@[simp] theorem State.setDom_tuner (s : State) (d : Nat) (h : Dom) : (s.setDom d h).tuner = s.tuner := rfl
@[simp] theorem State.setDom_bank (s : State) (d : Nat) (h : Dom) : (s.setDom d h).bank = s.bank := rfl
@[simp] theorem State.setDom_cfg (s : State) (d : Nat) (h : Dom) : (s.setDom d h).cfg = s.cfg := rfl
@[simp] theorem State.setDom_ring (s : State) (d : Nat) (h : Dom) : (s.setDom d h).ring = s.ring := rfl
@[simp] theorem State.setDom_latch (s : State) (d : Nat) (h : Dom) : (s.setDom d h).latch = s.latch := rfl
@[simp] theorem State.setDom_slot (s : State) (d : Nat) (h : Dom) : (s.setDom d h).slot = s.slot := rfl
@[simp] theorem State.setDom_grp (s : State) (d : Nat) (h : Dom) : (s.setDom d h).grp = s.grp := rfl
@[simp] theorem State.setDom_lane (s : State) (d : Nat) (h : Dom) : (s.setDom d h).lane = s.lane := rfl
@[simp] theorem State.setDom_ctxHid (s : State) (d : Nat) (h : Dom) : (s.setDom d h).ctxHid = s.ctxHid := rfl
@[simp] theorem State.setDom_tap (s : State) (d : Nat) (h : Dom) : (s.setDom d h).tap = s.tap := rfl
@[simp] theorem State.setDom_fol (s : State) (d : Nat) (h : Dom) : (s.setDom d h).fol = s.fol := rfl
@[simp] theorem State.setDom_ap (s : State) (d : Nat) (h : Dom) : (s.setDom d h).ap = s.ap := rfl
@[simp] theorem State.setDom_getE (s : State) (d : Nat) (h : Dom) (z : Fld) (m i : Nat) : (s.setDom d h).getE z m i = s.getE z m i := rfl
@[simp] theorem State.setDom_get (s : State) (d : Nat) (h : Dom) (z : Fld) (m : Nat) : (s.setDom d h).get z m = s.get z m := rfl
@[simp] theorem State.setDom_on (s : State) (d : Nat) (h : Dom) (z : Fld) (m : Nat) : (s.setDom d h).on z m = s.on z m := rfl
@[simp] theorem State.setDom_dom_same (s : State) (d : Nat) (h : Dom) : (s.setDom d h).dom d = h := Tbl.get_set_same _ _ _ _
theorem State.setDom_dom_ne (s : State) {d j : Nat} (h : Dom) (hj : j ≠ d) : (s.setDom d h).dom j = s.dom j :=
  Tbl.get_set_ne _ _ _ _ hj

@[simp] theorem State.setBank_pending (s : State) (k : Nat) (h : CBank) : (s.setBank k h).pending = s.pending := rfl
@[simp] theorem State.setBank_fields (s : State) (k : Nat) (h : CBank) : (s.setBank k h).fields = s.fields := rfl
@[simp] theorem State.setBank_speak (s : State) (k : Nat) (h : CBank) : (s.setBank k h).speak = s.speak := rfl
@[simp] theorem State.setBank_epochBase (s : State) (k : Nat) (h : CBank) : (s.setBank k h).epochBase = s.epochBase := rfl
@[simp] theorem State.setBank_epochs (s : State) (k : Nat) (h : CBank) : (s.setBank k h).epochs = s.epochs := rfl
@[simp] theorem State.setBank_latches (s : State) (k : Nat) (h : CBank) : (s.setBank k h).latches = s.latches := rfl
@[simp] theorem State.setBank_time (s : State) (k : Nat) (h : CBank) : (s.setBank k h).time = s.time := rfl
@[simp] theorem State.setBank_aonTime (s : State) (k : Nat) (h : CBank) : (s.setBank k h).aonTime = s.aonTime := rfl
@[simp] theorem State.setBank_aonPhase (s : State) (k : Nat) (h : CBank) : (s.setBank k h).aonPhase = s.aonPhase := rfl
@[simp] theorem State.setBank_freeCount (s : State) (k : Nat) (h : CBank) : (s.setBank k h).freeCount = s.freeCount := rfl
@[simp] theorem State.setBank_resp (s : State) (k : Nat) (h : CBank) : (s.setBank k h).resp = s.resp := rfl
@[simp] theorem State.setBank_out (s : State) (k : Nat) (h : CBank) : (s.setBank k h).out = s.out := rfl
@[simp] theorem State.setBank_mode (s : State) (k : Nat) (h : CBank) : (s.setBank k h).mode = s.mode := rfl
@[simp] theorem State.setBank_doms (s : State) (k : Nat) (h : CBank) : (s.setBank k h).doms = s.doms := rfl
@[simp] theorem State.setBank_pdQueue (s : State) (k : Nat) (h : CBank) : (s.setBank k h).pdQueue = s.pdQueue := rfl
@[simp] theorem State.setBank_pots (s : State) (k : Nat) (h : CBank) : (s.setBank k h).pots = s.pots := rfl
@[simp] theorem State.setBank_crucible (s : State) (k : Nat) (h : CBank) : (s.setBank k h).crucible = s.crucible := rfl
@[simp] theorem State.setBank_fes (s : State) (k : Nat) (h : CBank) : (s.setBank k h).fes = s.fes := rfl
@[simp] theorem State.setBank_hws (s : State) (k : Nat) (h : CBank) : (s.setBank k h).hws = s.hws := rfl
@[simp] theorem State.setBank_hands (s : State) (k : Nat) (h : CBank) : (s.setBank k h).hands = s.hands := rfl
@[simp] theorem State.setBank_aerials (s : State) (k : Nat) (h : CBank) : (s.setBank k h).aerials = s.aerials := rfl
@[simp] theorem State.setBank_tuners (s : State) (k : Nat) (h : CBank) : (s.setBank k h).tuners = s.tuners := rfl
@[simp] theorem State.setBank_gainLog (s : State) (k : Nat) (h : CBank) : (s.setBank k h).gainLog = s.gainLog := rfl
@[simp] theorem State.setBank_slots (s : State) (k : Nat) (h : CBank) : (s.setBank k h).slots = s.slots := rfl
@[simp] theorem State.setBank_groups (s : State) (k : Nat) (h : CBank) : (s.setBank k h).groups = s.groups := rfl
@[simp] theorem State.setBank_profiles (s : State) (k : Nat) (h : CBank) : (s.setBank k h).profiles = s.profiles := rfl
@[simp] theorem State.setBank_loader (s : State) (k : Nat) (h : CBank) : (s.setBank k h).loader = s.loader := rfl
@[simp] theorem State.setBank_snaps (s : State) (k : Nat) (h : CBank) : (s.setBank k h).snaps = s.snaps := rfl
@[simp] theorem State.setBank_lanes (s : State) (k : Nat) (h : CBank) : (s.setBank k h).lanes = s.lanes := rfl
@[simp] theorem State.setBank_ctxs (s : State) (k : Nat) (h : CBank) : (s.setBank k h).ctxs = s.ctxs := rfl
@[simp] theorem State.setBank_taps (s : State) (k : Nat) (h : CBank) : (s.setBank k h).taps = s.taps := rfl
@[simp] theorem State.setBank_ruleType (s : State) (k : Nat) (h : CBank) : (s.setBank k h).ruleType = s.ruleType := rfl
@[simp] theorem State.setBank_fols (s : State) (k : Nat) (h : CBank) : (s.setBank k h).fols = s.fols := rfl
@[simp] theorem State.setBank_mets (s : State) (k : Nat) (h : CBank) : (s.setBank k h).mets = s.mets := rfl
@[simp] theorem State.setBank_ref (s : State) (k : Nat) (h : CBank) : (s.setBank k h).ref = s.ref := rfl
@[simp] theorem State.setBank_pps (s : State) (k : Nat) (h : CBank) : (s.setBank k h).pps = s.pps := rfl
@[simp] theorem State.setBank_fcs (s : State) (k : Nat) (h : CBank) : (s.setBank k h).fcs = s.fcs := rfl
@[simp] theorem State.setBank_clk (s : State) (k : Nat) (h : CBank) : (s.setBank k h).clk = s.clk := rfl
@[simp] theorem State.setBank_wakeHid (s : State) (k : Nat) (h : CBank) : (s.setBank k h).wakeHid = s.wakeHid := rfl
@[simp] theorem State.setBank_punty (s : State) (k : Nat) (h : CBank) : (s.setBank k h).punty = s.punty := rfl
@[simp] theorem State.setBank_lehr (s : State) (k : Nat) (h : CBank) : (s.setBank k h).lehr = s.lehr := rfl
@[simp] theorem State.setBank_start (s : State) (k : Nat) (h : CBank) : (s.setBank k h).start = s.start := rfl
@[simp] theorem State.setBank_fg (s : State) (k : Nat) (h : CBank) : (s.setBank k h).fg = s.fg := rfl
@[simp] theorem State.setBank_otp (s : State) (k : Nat) (h : CBank) : (s.setBank k h).otp = s.otp := rfl
@[simp] theorem State.setBank_otpSpares (s : State) (k : Nat) (h : CBank) : (s.setBank k h).otpSpares = s.otpSpares := rfl
@[simp] theorem State.setBank_link (s : State) (k : Nat) (h : CBank) : (s.setBank k h).link = s.link := rfl
@[simp] theorem State.setBank_cfgs (s : State) (k : Nat) (h : CBank) : (s.setBank k h).cfgs = s.cfgs := rfl
@[simp] theorem State.setBank_rings (s : State) (k : Nat) (h : CBank) : (s.setBank k h).rings = s.rings := rfl
@[simp] theorem State.setBank_dmaTurn (s : State) (k : Nat) (h : CBank) : (s.setBank k h).dmaTurn = s.dmaTurn := rfl
@[simp] theorem State.setBank_walkTurn (s : State) (k : Nat) (h : CBank) : (s.setBank k h).walkTurn = s.walkTurn := rfl
@[simp] theorem State.setBank_xcache (s : State) (k : Nat) (h : CBank) : (s.setBank k h).xcache = s.xcache := rfl
@[simp] theorem State.setBank_faults (s : State) (k : Nat) (h : CBank) : (s.setBank k h).faults = s.faults := rfl
@[simp] theorem State.setBank_attn (s : State) (k : Nat) (h : CBank) : (s.setBank k h).attn = s.attn := rfl
@[simp] theorem State.setBank_aps (s : State) (k : Nat) (h : CBank) : (s.setBank k h).aps = s.aps := rfl
@[simp] theorem State.setBank_mgmt (s : State) (k : Nat) (h : CBank) : (s.setBank k h).mgmt = s.mgmt := rfl
@[simp] theorem State.setBank_health (s : State) (k : Nat) (h : CBank) : (s.setBank k h).health = s.health := rfl
@[simp] theorem State.setBank_fe (s : State) (k : Nat) (h : CBank) : (s.setBank k h).fe = s.fe := rfl
@[simp] theorem State.setBank_hw (s : State) (k : Nat) (h : CBank) : (s.setBank k h).hw = s.hw := rfl
@[simp] theorem State.setBank_hand (s : State) (k : Nat) (h : CBank) : (s.setBank k h).hand = s.hand := rfl
@[simp] theorem State.setBank_aerial (s : State) (k : Nat) (h : CBank) : (s.setBank k h).aerial = s.aerial := rfl
@[simp] theorem State.setBank_tuner (s : State) (k : Nat) (h : CBank) : (s.setBank k h).tuner = s.tuner := rfl
@[simp] theorem State.setBank_dom (s : State) (k : Nat) (h : CBank) : (s.setBank k h).dom = s.dom := rfl
@[simp] theorem State.setBank_cfg (s : State) (k : Nat) (h : CBank) : (s.setBank k h).cfg = s.cfg := rfl
@[simp] theorem State.setBank_ring (s : State) (k : Nat) (h : CBank) : (s.setBank k h).ring = s.ring := rfl
@[simp] theorem State.setBank_latch (s : State) (k : Nat) (h : CBank) : (s.setBank k h).latch = s.latch := rfl
@[simp] theorem State.setBank_slot (s : State) (k : Nat) (h : CBank) : (s.setBank k h).slot = s.slot := rfl
@[simp] theorem State.setBank_grp (s : State) (k : Nat) (h : CBank) : (s.setBank k h).grp = s.grp := rfl
@[simp] theorem State.setBank_lane (s : State) (k : Nat) (h : CBank) : (s.setBank k h).lane = s.lane := rfl
@[simp] theorem State.setBank_ctxHid (s : State) (k : Nat) (h : CBank) : (s.setBank k h).ctxHid = s.ctxHid := rfl
@[simp] theorem State.setBank_tap (s : State) (k : Nat) (h : CBank) : (s.setBank k h).tap = s.tap := rfl
@[simp] theorem State.setBank_fol (s : State) (k : Nat) (h : CBank) : (s.setBank k h).fol = s.fol := rfl
@[simp] theorem State.setBank_ap (s : State) (k : Nat) (h : CBank) : (s.setBank k h).ap = s.ap := rfl
@[simp] theorem State.setBank_getE (s : State) (k : Nat) (h : CBank) (z : Fld) (m i : Nat) : (s.setBank k h).getE z m i = s.getE z m i := rfl
@[simp] theorem State.setBank_get (s : State) (k : Nat) (h : CBank) (z : Fld) (m : Nat) : (s.setBank k h).get z m = s.get z m := rfl
@[simp] theorem State.setBank_on (s : State) (k : Nat) (h : CBank) (z : Fld) (m : Nat) : (s.setBank k h).on z m = s.on z m := rfl
@[simp] theorem State.setBank_bank_same (s : State) (k : Nat) (h : CBank) : (s.setBank k h).bank k = h := Tbl.get_set_same _ _ _ _
theorem State.setBank_bank_ne (s : State) {k j : Nat} (h : CBank) (hj : j ≠ k) : (s.setBank k h).bank j = s.bank j :=
  Tbl.get_set_ne _ _ _ _ hj

@[simp] theorem State.setCfg_pending (s : State) (f : Nat) (h : Cfg) : (s.setCfg f h).pending = s.pending := rfl
@[simp] theorem State.setCfg_fields (s : State) (f : Nat) (h : Cfg) : (s.setCfg f h).fields = s.fields := rfl
@[simp] theorem State.setCfg_speak (s : State) (f : Nat) (h : Cfg) : (s.setCfg f h).speak = s.speak := rfl
@[simp] theorem State.setCfg_epochBase (s : State) (f : Nat) (h : Cfg) : (s.setCfg f h).epochBase = s.epochBase := rfl
@[simp] theorem State.setCfg_epochs (s : State) (f : Nat) (h : Cfg) : (s.setCfg f h).epochs = s.epochs := rfl
@[simp] theorem State.setCfg_latches (s : State) (f : Nat) (h : Cfg) : (s.setCfg f h).latches = s.latches := rfl
@[simp] theorem State.setCfg_time (s : State) (f : Nat) (h : Cfg) : (s.setCfg f h).time = s.time := rfl
@[simp] theorem State.setCfg_aonTime (s : State) (f : Nat) (h : Cfg) : (s.setCfg f h).aonTime = s.aonTime := rfl
@[simp] theorem State.setCfg_aonPhase (s : State) (f : Nat) (h : Cfg) : (s.setCfg f h).aonPhase = s.aonPhase := rfl
@[simp] theorem State.setCfg_freeCount (s : State) (f : Nat) (h : Cfg) : (s.setCfg f h).freeCount = s.freeCount := rfl
@[simp] theorem State.setCfg_resp (s : State) (f : Nat) (h : Cfg) : (s.setCfg f h).resp = s.resp := rfl
@[simp] theorem State.setCfg_out (s : State) (f : Nat) (h : Cfg) : (s.setCfg f h).out = s.out := rfl
@[simp] theorem State.setCfg_mode (s : State) (f : Nat) (h : Cfg) : (s.setCfg f h).mode = s.mode := rfl
@[simp] theorem State.setCfg_doms (s : State) (f : Nat) (h : Cfg) : (s.setCfg f h).doms = s.doms := rfl
@[simp] theorem State.setCfg_pdQueue (s : State) (f : Nat) (h : Cfg) : (s.setCfg f h).pdQueue = s.pdQueue := rfl
@[simp] theorem State.setCfg_banks (s : State) (f : Nat) (h : Cfg) : (s.setCfg f h).banks = s.banks := rfl
@[simp] theorem State.setCfg_pots (s : State) (f : Nat) (h : Cfg) : (s.setCfg f h).pots = s.pots := rfl
@[simp] theorem State.setCfg_crucible (s : State) (f : Nat) (h : Cfg) : (s.setCfg f h).crucible = s.crucible := rfl
@[simp] theorem State.setCfg_fes (s : State) (f : Nat) (h : Cfg) : (s.setCfg f h).fes = s.fes := rfl
@[simp] theorem State.setCfg_hws (s : State) (f : Nat) (h : Cfg) : (s.setCfg f h).hws = s.hws := rfl
@[simp] theorem State.setCfg_hands (s : State) (f : Nat) (h : Cfg) : (s.setCfg f h).hands = s.hands := rfl
@[simp] theorem State.setCfg_aerials (s : State) (f : Nat) (h : Cfg) : (s.setCfg f h).aerials = s.aerials := rfl
@[simp] theorem State.setCfg_tuners (s : State) (f : Nat) (h : Cfg) : (s.setCfg f h).tuners = s.tuners := rfl
@[simp] theorem State.setCfg_gainLog (s : State) (f : Nat) (h : Cfg) : (s.setCfg f h).gainLog = s.gainLog := rfl
@[simp] theorem State.setCfg_slots (s : State) (f : Nat) (h : Cfg) : (s.setCfg f h).slots = s.slots := rfl
@[simp] theorem State.setCfg_groups (s : State) (f : Nat) (h : Cfg) : (s.setCfg f h).groups = s.groups := rfl
@[simp] theorem State.setCfg_profiles (s : State) (f : Nat) (h : Cfg) : (s.setCfg f h).profiles = s.profiles := rfl
@[simp] theorem State.setCfg_loader (s : State) (f : Nat) (h : Cfg) : (s.setCfg f h).loader = s.loader := rfl
@[simp] theorem State.setCfg_snaps (s : State) (f : Nat) (h : Cfg) : (s.setCfg f h).snaps = s.snaps := rfl
@[simp] theorem State.setCfg_lanes (s : State) (f : Nat) (h : Cfg) : (s.setCfg f h).lanes = s.lanes := rfl
@[simp] theorem State.setCfg_ctxs (s : State) (f : Nat) (h : Cfg) : (s.setCfg f h).ctxs = s.ctxs := rfl
@[simp] theorem State.setCfg_taps (s : State) (f : Nat) (h : Cfg) : (s.setCfg f h).taps = s.taps := rfl
@[simp] theorem State.setCfg_ruleType (s : State) (f : Nat) (h : Cfg) : (s.setCfg f h).ruleType = s.ruleType := rfl
@[simp] theorem State.setCfg_fols (s : State) (f : Nat) (h : Cfg) : (s.setCfg f h).fols = s.fols := rfl
@[simp] theorem State.setCfg_mets (s : State) (f : Nat) (h : Cfg) : (s.setCfg f h).mets = s.mets := rfl
@[simp] theorem State.setCfg_ref (s : State) (f : Nat) (h : Cfg) : (s.setCfg f h).ref = s.ref := rfl
@[simp] theorem State.setCfg_pps (s : State) (f : Nat) (h : Cfg) : (s.setCfg f h).pps = s.pps := rfl
@[simp] theorem State.setCfg_fcs (s : State) (f : Nat) (h : Cfg) : (s.setCfg f h).fcs = s.fcs := rfl
@[simp] theorem State.setCfg_clk (s : State) (f : Nat) (h : Cfg) : (s.setCfg f h).clk = s.clk := rfl
@[simp] theorem State.setCfg_wakeHid (s : State) (f : Nat) (h : Cfg) : (s.setCfg f h).wakeHid = s.wakeHid := rfl
@[simp] theorem State.setCfg_punty (s : State) (f : Nat) (h : Cfg) : (s.setCfg f h).punty = s.punty := rfl
@[simp] theorem State.setCfg_lehr (s : State) (f : Nat) (h : Cfg) : (s.setCfg f h).lehr = s.lehr := rfl
@[simp] theorem State.setCfg_start (s : State) (f : Nat) (h : Cfg) : (s.setCfg f h).start = s.start := rfl
@[simp] theorem State.setCfg_fg (s : State) (f : Nat) (h : Cfg) : (s.setCfg f h).fg = s.fg := rfl
@[simp] theorem State.setCfg_otp (s : State) (f : Nat) (h : Cfg) : (s.setCfg f h).otp = s.otp := rfl
@[simp] theorem State.setCfg_otpSpares (s : State) (f : Nat) (h : Cfg) : (s.setCfg f h).otpSpares = s.otpSpares := rfl
@[simp] theorem State.setCfg_link (s : State) (f : Nat) (h : Cfg) : (s.setCfg f h).link = s.link := rfl
@[simp] theorem State.setCfg_rings (s : State) (f : Nat) (h : Cfg) : (s.setCfg f h).rings = s.rings := rfl
@[simp] theorem State.setCfg_dmaTurn (s : State) (f : Nat) (h : Cfg) : (s.setCfg f h).dmaTurn = s.dmaTurn := rfl
@[simp] theorem State.setCfg_walkTurn (s : State) (f : Nat) (h : Cfg) : (s.setCfg f h).walkTurn = s.walkTurn := rfl
@[simp] theorem State.setCfg_xcache (s : State) (f : Nat) (h : Cfg) : (s.setCfg f h).xcache = s.xcache := rfl
@[simp] theorem State.setCfg_faults (s : State) (f : Nat) (h : Cfg) : (s.setCfg f h).faults = s.faults := rfl
@[simp] theorem State.setCfg_attn (s : State) (f : Nat) (h : Cfg) : (s.setCfg f h).attn = s.attn := rfl
@[simp] theorem State.setCfg_aps (s : State) (f : Nat) (h : Cfg) : (s.setCfg f h).aps = s.aps := rfl
@[simp] theorem State.setCfg_mgmt (s : State) (f : Nat) (h : Cfg) : (s.setCfg f h).mgmt = s.mgmt := rfl
@[simp] theorem State.setCfg_health (s : State) (f : Nat) (h : Cfg) : (s.setCfg f h).health = s.health := rfl
@[simp] theorem State.setCfg_fe (s : State) (f : Nat) (h : Cfg) : (s.setCfg f h).fe = s.fe := rfl
@[simp] theorem State.setCfg_hw (s : State) (f : Nat) (h : Cfg) : (s.setCfg f h).hw = s.hw := rfl
@[simp] theorem State.setCfg_hand (s : State) (f : Nat) (h : Cfg) : (s.setCfg f h).hand = s.hand := rfl
@[simp] theorem State.setCfg_aerial (s : State) (f : Nat) (h : Cfg) : (s.setCfg f h).aerial = s.aerial := rfl
@[simp] theorem State.setCfg_tuner (s : State) (f : Nat) (h : Cfg) : (s.setCfg f h).tuner = s.tuner := rfl
@[simp] theorem State.setCfg_dom (s : State) (f : Nat) (h : Cfg) : (s.setCfg f h).dom = s.dom := rfl
@[simp] theorem State.setCfg_bank (s : State) (f : Nat) (h : Cfg) : (s.setCfg f h).bank = s.bank := rfl
@[simp] theorem State.setCfg_ring (s : State) (f : Nat) (h : Cfg) : (s.setCfg f h).ring = s.ring := rfl
@[simp] theorem State.setCfg_latch (s : State) (f : Nat) (h : Cfg) : (s.setCfg f h).latch = s.latch := rfl
@[simp] theorem State.setCfg_slot (s : State) (f : Nat) (h : Cfg) : (s.setCfg f h).slot = s.slot := rfl
@[simp] theorem State.setCfg_grp (s : State) (f : Nat) (h : Cfg) : (s.setCfg f h).grp = s.grp := rfl
@[simp] theorem State.setCfg_lane (s : State) (f : Nat) (h : Cfg) : (s.setCfg f h).lane = s.lane := rfl
@[simp] theorem State.setCfg_ctxHid (s : State) (f : Nat) (h : Cfg) : (s.setCfg f h).ctxHid = s.ctxHid := rfl
@[simp] theorem State.setCfg_tap (s : State) (f : Nat) (h : Cfg) : (s.setCfg f h).tap = s.tap := rfl
@[simp] theorem State.setCfg_fol (s : State) (f : Nat) (h : Cfg) : (s.setCfg f h).fol = s.fol := rfl
@[simp] theorem State.setCfg_ap (s : State) (f : Nat) (h : Cfg) : (s.setCfg f h).ap = s.ap := rfl
@[simp] theorem State.setCfg_getE (s : State) (f : Nat) (h : Cfg) (z : Fld) (m i : Nat) : (s.setCfg f h).getE z m i = s.getE z m i := rfl
@[simp] theorem State.setCfg_get (s : State) (f : Nat) (h : Cfg) (z : Fld) (m : Nat) : (s.setCfg f h).get z m = s.get z m := rfl
@[simp] theorem State.setCfg_on (s : State) (f : Nat) (h : Cfg) (z : Fld) (m : Nat) : (s.setCfg f h).on z m = s.on z m := rfl
@[simp] theorem State.setCfg_cfg_same (s : State) (f : Nat) (h : Cfg) : (s.setCfg f h).cfg f = h := Tbl.get_set_same _ _ _ _
theorem State.setCfg_cfg_ne (s : State) {f j : Nat} (h : Cfg) (hj : j ≠ f) : (s.setCfg f h).cfg j = s.cfg j :=
  Tbl.get_set_ne _ _ _ _ hj

@[simp] theorem State.setRing_pending (s : State) (r : Nat) (h : RingHid) : (s.setRing r h).pending = s.pending := rfl
@[simp] theorem State.setRing_fields (s : State) (r : Nat) (h : RingHid) : (s.setRing r h).fields = s.fields := rfl
@[simp] theorem State.setRing_speak (s : State) (r : Nat) (h : RingHid) : (s.setRing r h).speak = s.speak := rfl
@[simp] theorem State.setRing_epochBase (s : State) (r : Nat) (h : RingHid) : (s.setRing r h).epochBase = s.epochBase := rfl
@[simp] theorem State.setRing_epochs (s : State) (r : Nat) (h : RingHid) : (s.setRing r h).epochs = s.epochs := rfl
@[simp] theorem State.setRing_latches (s : State) (r : Nat) (h : RingHid) : (s.setRing r h).latches = s.latches := rfl
@[simp] theorem State.setRing_time (s : State) (r : Nat) (h : RingHid) : (s.setRing r h).time = s.time := rfl
@[simp] theorem State.setRing_aonTime (s : State) (r : Nat) (h : RingHid) : (s.setRing r h).aonTime = s.aonTime := rfl
@[simp] theorem State.setRing_aonPhase (s : State) (r : Nat) (h : RingHid) : (s.setRing r h).aonPhase = s.aonPhase := rfl
@[simp] theorem State.setRing_freeCount (s : State) (r : Nat) (h : RingHid) : (s.setRing r h).freeCount = s.freeCount := rfl
@[simp] theorem State.setRing_resp (s : State) (r : Nat) (h : RingHid) : (s.setRing r h).resp = s.resp := rfl
@[simp] theorem State.setRing_out (s : State) (r : Nat) (h : RingHid) : (s.setRing r h).out = s.out := rfl
@[simp] theorem State.setRing_mode (s : State) (r : Nat) (h : RingHid) : (s.setRing r h).mode = s.mode := rfl
@[simp] theorem State.setRing_doms (s : State) (r : Nat) (h : RingHid) : (s.setRing r h).doms = s.doms := rfl
@[simp] theorem State.setRing_pdQueue (s : State) (r : Nat) (h : RingHid) : (s.setRing r h).pdQueue = s.pdQueue := rfl
@[simp] theorem State.setRing_banks (s : State) (r : Nat) (h : RingHid) : (s.setRing r h).banks = s.banks := rfl
@[simp] theorem State.setRing_pots (s : State) (r : Nat) (h : RingHid) : (s.setRing r h).pots = s.pots := rfl
@[simp] theorem State.setRing_crucible (s : State) (r : Nat) (h : RingHid) : (s.setRing r h).crucible = s.crucible := rfl
@[simp] theorem State.setRing_fes (s : State) (r : Nat) (h : RingHid) : (s.setRing r h).fes = s.fes := rfl
@[simp] theorem State.setRing_hws (s : State) (r : Nat) (h : RingHid) : (s.setRing r h).hws = s.hws := rfl
@[simp] theorem State.setRing_hands (s : State) (r : Nat) (h : RingHid) : (s.setRing r h).hands = s.hands := rfl
@[simp] theorem State.setRing_aerials (s : State) (r : Nat) (h : RingHid) : (s.setRing r h).aerials = s.aerials := rfl
@[simp] theorem State.setRing_tuners (s : State) (r : Nat) (h : RingHid) : (s.setRing r h).tuners = s.tuners := rfl
@[simp] theorem State.setRing_gainLog (s : State) (r : Nat) (h : RingHid) : (s.setRing r h).gainLog = s.gainLog := rfl
@[simp] theorem State.setRing_slots (s : State) (r : Nat) (h : RingHid) : (s.setRing r h).slots = s.slots := rfl
@[simp] theorem State.setRing_groups (s : State) (r : Nat) (h : RingHid) : (s.setRing r h).groups = s.groups := rfl
@[simp] theorem State.setRing_profiles (s : State) (r : Nat) (h : RingHid) : (s.setRing r h).profiles = s.profiles := rfl
@[simp] theorem State.setRing_loader (s : State) (r : Nat) (h : RingHid) : (s.setRing r h).loader = s.loader := rfl
@[simp] theorem State.setRing_snaps (s : State) (r : Nat) (h : RingHid) : (s.setRing r h).snaps = s.snaps := rfl
@[simp] theorem State.setRing_lanes (s : State) (r : Nat) (h : RingHid) : (s.setRing r h).lanes = s.lanes := rfl
@[simp] theorem State.setRing_ctxs (s : State) (r : Nat) (h : RingHid) : (s.setRing r h).ctxs = s.ctxs := rfl
@[simp] theorem State.setRing_taps (s : State) (r : Nat) (h : RingHid) : (s.setRing r h).taps = s.taps := rfl
@[simp] theorem State.setRing_ruleType (s : State) (r : Nat) (h : RingHid) : (s.setRing r h).ruleType = s.ruleType := rfl
@[simp] theorem State.setRing_fols (s : State) (r : Nat) (h : RingHid) : (s.setRing r h).fols = s.fols := rfl
@[simp] theorem State.setRing_mets (s : State) (r : Nat) (h : RingHid) : (s.setRing r h).mets = s.mets := rfl
@[simp] theorem State.setRing_ref (s : State) (r : Nat) (h : RingHid) : (s.setRing r h).ref = s.ref := rfl
@[simp] theorem State.setRing_pps (s : State) (r : Nat) (h : RingHid) : (s.setRing r h).pps = s.pps := rfl
@[simp] theorem State.setRing_fcs (s : State) (r : Nat) (h : RingHid) : (s.setRing r h).fcs = s.fcs := rfl
@[simp] theorem State.setRing_clk (s : State) (r : Nat) (h : RingHid) : (s.setRing r h).clk = s.clk := rfl
@[simp] theorem State.setRing_wakeHid (s : State) (r : Nat) (h : RingHid) : (s.setRing r h).wakeHid = s.wakeHid := rfl
@[simp] theorem State.setRing_punty (s : State) (r : Nat) (h : RingHid) : (s.setRing r h).punty = s.punty := rfl
@[simp] theorem State.setRing_lehr (s : State) (r : Nat) (h : RingHid) : (s.setRing r h).lehr = s.lehr := rfl
@[simp] theorem State.setRing_start (s : State) (r : Nat) (h : RingHid) : (s.setRing r h).start = s.start := rfl
@[simp] theorem State.setRing_fg (s : State) (r : Nat) (h : RingHid) : (s.setRing r h).fg = s.fg := rfl
@[simp] theorem State.setRing_otp (s : State) (r : Nat) (h : RingHid) : (s.setRing r h).otp = s.otp := rfl
@[simp] theorem State.setRing_otpSpares (s : State) (r : Nat) (h : RingHid) : (s.setRing r h).otpSpares = s.otpSpares := rfl
@[simp] theorem State.setRing_link (s : State) (r : Nat) (h : RingHid) : (s.setRing r h).link = s.link := rfl
@[simp] theorem State.setRing_cfgs (s : State) (r : Nat) (h : RingHid) : (s.setRing r h).cfgs = s.cfgs := rfl
@[simp] theorem State.setRing_dmaTurn (s : State) (r : Nat) (h : RingHid) : (s.setRing r h).dmaTurn = s.dmaTurn := rfl
@[simp] theorem State.setRing_walkTurn (s : State) (r : Nat) (h : RingHid) : (s.setRing r h).walkTurn = s.walkTurn := rfl
@[simp] theorem State.setRing_xcache (s : State) (r : Nat) (h : RingHid) : (s.setRing r h).xcache = s.xcache := rfl
@[simp] theorem State.setRing_faults (s : State) (r : Nat) (h : RingHid) : (s.setRing r h).faults = s.faults := rfl
@[simp] theorem State.setRing_attn (s : State) (r : Nat) (h : RingHid) : (s.setRing r h).attn = s.attn := rfl
@[simp] theorem State.setRing_aps (s : State) (r : Nat) (h : RingHid) : (s.setRing r h).aps = s.aps := rfl
@[simp] theorem State.setRing_mgmt (s : State) (r : Nat) (h : RingHid) : (s.setRing r h).mgmt = s.mgmt := rfl
@[simp] theorem State.setRing_health (s : State) (r : Nat) (h : RingHid) : (s.setRing r h).health = s.health := rfl
@[simp] theorem State.setRing_fe (s : State) (r : Nat) (h : RingHid) : (s.setRing r h).fe = s.fe := rfl
@[simp] theorem State.setRing_hw (s : State) (r : Nat) (h : RingHid) : (s.setRing r h).hw = s.hw := rfl
@[simp] theorem State.setRing_hand (s : State) (r : Nat) (h : RingHid) : (s.setRing r h).hand = s.hand := rfl
@[simp] theorem State.setRing_aerial (s : State) (r : Nat) (h : RingHid) : (s.setRing r h).aerial = s.aerial := rfl
@[simp] theorem State.setRing_tuner (s : State) (r : Nat) (h : RingHid) : (s.setRing r h).tuner = s.tuner := rfl
@[simp] theorem State.setRing_dom (s : State) (r : Nat) (h : RingHid) : (s.setRing r h).dom = s.dom := rfl
@[simp] theorem State.setRing_bank (s : State) (r : Nat) (h : RingHid) : (s.setRing r h).bank = s.bank := rfl
@[simp] theorem State.setRing_cfg (s : State) (r : Nat) (h : RingHid) : (s.setRing r h).cfg = s.cfg := rfl
@[simp] theorem State.setRing_latch (s : State) (r : Nat) (h : RingHid) : (s.setRing r h).latch = s.latch := rfl
@[simp] theorem State.setRing_slot (s : State) (r : Nat) (h : RingHid) : (s.setRing r h).slot = s.slot := rfl
@[simp] theorem State.setRing_grp (s : State) (r : Nat) (h : RingHid) : (s.setRing r h).grp = s.grp := rfl
@[simp] theorem State.setRing_lane (s : State) (r : Nat) (h : RingHid) : (s.setRing r h).lane = s.lane := rfl
@[simp] theorem State.setRing_ctxHid (s : State) (r : Nat) (h : RingHid) : (s.setRing r h).ctxHid = s.ctxHid := rfl
@[simp] theorem State.setRing_tap (s : State) (r : Nat) (h : RingHid) : (s.setRing r h).tap = s.tap := rfl
@[simp] theorem State.setRing_fol (s : State) (r : Nat) (h : RingHid) : (s.setRing r h).fol = s.fol := rfl
@[simp] theorem State.setRing_ap (s : State) (r : Nat) (h : RingHid) : (s.setRing r h).ap = s.ap := rfl
@[simp] theorem State.setRing_getE (s : State) (r : Nat) (h : RingHid) (z : Fld) (m i : Nat) : (s.setRing r h).getE z m i = s.getE z m i := rfl
@[simp] theorem State.setRing_get (s : State) (r : Nat) (h : RingHid) (z : Fld) (m : Nat) : (s.setRing r h).get z m = s.get z m := rfl
@[simp] theorem State.setRing_on (s : State) (r : Nat) (h : RingHid) (z : Fld) (m : Nat) : (s.setRing r h).on z m = s.on z m := rfl
@[simp] theorem State.setRing_ring_same (s : State) (r : Nat) (h : RingHid) : (s.setRing r h).ring r = h := Tbl.get_set_same _ _ _ _
theorem State.setRing_ring_ne (s : State) {r j : Nat} (h : RingHid) (hj : j ≠ r) : (s.setRing r h).ring j = s.ring j :=
  Tbl.get_set_ne _ _ _ _ hj

@[simp] theorem State.setLatch_pending (s : State) (a : Accessor) (h : Latches) : (s.setLatch a h).pending = s.pending := rfl
@[simp] theorem State.setLatch_fields (s : State) (a : Accessor) (h : Latches) : (s.setLatch a h).fields = s.fields := rfl
@[simp] theorem State.setLatch_speak (s : State) (a : Accessor) (h : Latches) : (s.setLatch a h).speak = s.speak := rfl
@[simp] theorem State.setLatch_epochBase (s : State) (a : Accessor) (h : Latches) : (s.setLatch a h).epochBase = s.epochBase := rfl
@[simp] theorem State.setLatch_epochs (s : State) (a : Accessor) (h : Latches) : (s.setLatch a h).epochs = s.epochs := rfl
@[simp] theorem State.setLatch_time (s : State) (a : Accessor) (h : Latches) : (s.setLatch a h).time = s.time := rfl
@[simp] theorem State.setLatch_aonTime (s : State) (a : Accessor) (h : Latches) : (s.setLatch a h).aonTime = s.aonTime := rfl
@[simp] theorem State.setLatch_aonPhase (s : State) (a : Accessor) (h : Latches) : (s.setLatch a h).aonPhase = s.aonPhase := rfl
@[simp] theorem State.setLatch_freeCount (s : State) (a : Accessor) (h : Latches) : (s.setLatch a h).freeCount = s.freeCount := rfl
@[simp] theorem State.setLatch_resp (s : State) (a : Accessor) (h : Latches) : (s.setLatch a h).resp = s.resp := rfl
@[simp] theorem State.setLatch_out (s : State) (a : Accessor) (h : Latches) : (s.setLatch a h).out = s.out := rfl
@[simp] theorem State.setLatch_mode (s : State) (a : Accessor) (h : Latches) : (s.setLatch a h).mode = s.mode := rfl
@[simp] theorem State.setLatch_doms (s : State) (a : Accessor) (h : Latches) : (s.setLatch a h).doms = s.doms := rfl
@[simp] theorem State.setLatch_pdQueue (s : State) (a : Accessor) (h : Latches) : (s.setLatch a h).pdQueue = s.pdQueue := rfl
@[simp] theorem State.setLatch_banks (s : State) (a : Accessor) (h : Latches) : (s.setLatch a h).banks = s.banks := rfl
@[simp] theorem State.setLatch_pots (s : State) (a : Accessor) (h : Latches) : (s.setLatch a h).pots = s.pots := rfl
@[simp] theorem State.setLatch_crucible (s : State) (a : Accessor) (h : Latches) : (s.setLatch a h).crucible = s.crucible := rfl
@[simp] theorem State.setLatch_fes (s : State) (a : Accessor) (h : Latches) : (s.setLatch a h).fes = s.fes := rfl
@[simp] theorem State.setLatch_hws (s : State) (a : Accessor) (h : Latches) : (s.setLatch a h).hws = s.hws := rfl
@[simp] theorem State.setLatch_hands (s : State) (a : Accessor) (h : Latches) : (s.setLatch a h).hands = s.hands := rfl
@[simp] theorem State.setLatch_aerials (s : State) (a : Accessor) (h : Latches) : (s.setLatch a h).aerials = s.aerials := rfl
@[simp] theorem State.setLatch_tuners (s : State) (a : Accessor) (h : Latches) : (s.setLatch a h).tuners = s.tuners := rfl
@[simp] theorem State.setLatch_gainLog (s : State) (a : Accessor) (h : Latches) : (s.setLatch a h).gainLog = s.gainLog := rfl
@[simp] theorem State.setLatch_slots (s : State) (a : Accessor) (h : Latches) : (s.setLatch a h).slots = s.slots := rfl
@[simp] theorem State.setLatch_groups (s : State) (a : Accessor) (h : Latches) : (s.setLatch a h).groups = s.groups := rfl
@[simp] theorem State.setLatch_profiles (s : State) (a : Accessor) (h : Latches) : (s.setLatch a h).profiles = s.profiles := rfl
@[simp] theorem State.setLatch_loader (s : State) (a : Accessor) (h : Latches) : (s.setLatch a h).loader = s.loader := rfl
@[simp] theorem State.setLatch_snaps (s : State) (a : Accessor) (h : Latches) : (s.setLatch a h).snaps = s.snaps := rfl
@[simp] theorem State.setLatch_lanes (s : State) (a : Accessor) (h : Latches) : (s.setLatch a h).lanes = s.lanes := rfl
@[simp] theorem State.setLatch_ctxs (s : State) (a : Accessor) (h : Latches) : (s.setLatch a h).ctxs = s.ctxs := rfl
@[simp] theorem State.setLatch_taps (s : State) (a : Accessor) (h : Latches) : (s.setLatch a h).taps = s.taps := rfl
@[simp] theorem State.setLatch_ruleType (s : State) (a : Accessor) (h : Latches) : (s.setLatch a h).ruleType = s.ruleType := rfl
@[simp] theorem State.setLatch_fols (s : State) (a : Accessor) (h : Latches) : (s.setLatch a h).fols = s.fols := rfl
@[simp] theorem State.setLatch_mets (s : State) (a : Accessor) (h : Latches) : (s.setLatch a h).mets = s.mets := rfl
@[simp] theorem State.setLatch_ref (s : State) (a : Accessor) (h : Latches) : (s.setLatch a h).ref = s.ref := rfl
@[simp] theorem State.setLatch_pps (s : State) (a : Accessor) (h : Latches) : (s.setLatch a h).pps = s.pps := rfl
@[simp] theorem State.setLatch_fcs (s : State) (a : Accessor) (h : Latches) : (s.setLatch a h).fcs = s.fcs := rfl
@[simp] theorem State.setLatch_clk (s : State) (a : Accessor) (h : Latches) : (s.setLatch a h).clk = s.clk := rfl
@[simp] theorem State.setLatch_wakeHid (s : State) (a : Accessor) (h : Latches) : (s.setLatch a h).wakeHid = s.wakeHid := rfl
@[simp] theorem State.setLatch_punty (s : State) (a : Accessor) (h : Latches) : (s.setLatch a h).punty = s.punty := rfl
@[simp] theorem State.setLatch_lehr (s : State) (a : Accessor) (h : Latches) : (s.setLatch a h).lehr = s.lehr := rfl
@[simp] theorem State.setLatch_start (s : State) (a : Accessor) (h : Latches) : (s.setLatch a h).start = s.start := rfl
@[simp] theorem State.setLatch_fg (s : State) (a : Accessor) (h : Latches) : (s.setLatch a h).fg = s.fg := rfl
@[simp] theorem State.setLatch_otp (s : State) (a : Accessor) (h : Latches) : (s.setLatch a h).otp = s.otp := rfl
@[simp] theorem State.setLatch_otpSpares (s : State) (a : Accessor) (h : Latches) : (s.setLatch a h).otpSpares = s.otpSpares := rfl
@[simp] theorem State.setLatch_link (s : State) (a : Accessor) (h : Latches) : (s.setLatch a h).link = s.link := rfl
@[simp] theorem State.setLatch_cfgs (s : State) (a : Accessor) (h : Latches) : (s.setLatch a h).cfgs = s.cfgs := rfl
@[simp] theorem State.setLatch_rings (s : State) (a : Accessor) (h : Latches) : (s.setLatch a h).rings = s.rings := rfl
@[simp] theorem State.setLatch_dmaTurn (s : State) (a : Accessor) (h : Latches) : (s.setLatch a h).dmaTurn = s.dmaTurn := rfl
@[simp] theorem State.setLatch_walkTurn (s : State) (a : Accessor) (h : Latches) : (s.setLatch a h).walkTurn = s.walkTurn := rfl
@[simp] theorem State.setLatch_xcache (s : State) (a : Accessor) (h : Latches) : (s.setLatch a h).xcache = s.xcache := rfl
@[simp] theorem State.setLatch_faults (s : State) (a : Accessor) (h : Latches) : (s.setLatch a h).faults = s.faults := rfl
@[simp] theorem State.setLatch_attn (s : State) (a : Accessor) (h : Latches) : (s.setLatch a h).attn = s.attn := rfl
@[simp] theorem State.setLatch_aps (s : State) (a : Accessor) (h : Latches) : (s.setLatch a h).aps = s.aps := rfl
@[simp] theorem State.setLatch_mgmt (s : State) (a : Accessor) (h : Latches) : (s.setLatch a h).mgmt = s.mgmt := rfl
@[simp] theorem State.setLatch_health (s : State) (a : Accessor) (h : Latches) : (s.setLatch a h).health = s.health := rfl
@[simp] theorem State.setLatch_fe (s : State) (a : Accessor) (h : Latches) : (s.setLatch a h).fe = s.fe := rfl
@[simp] theorem State.setLatch_hw (s : State) (a : Accessor) (h : Latches) : (s.setLatch a h).hw = s.hw := rfl
@[simp] theorem State.setLatch_hand (s : State) (a : Accessor) (h : Latches) : (s.setLatch a h).hand = s.hand := rfl
@[simp] theorem State.setLatch_aerial (s : State) (a : Accessor) (h : Latches) : (s.setLatch a h).aerial = s.aerial := rfl
@[simp] theorem State.setLatch_tuner (s : State) (a : Accessor) (h : Latches) : (s.setLatch a h).tuner = s.tuner := rfl
@[simp] theorem State.setLatch_dom (s : State) (a : Accessor) (h : Latches) : (s.setLatch a h).dom = s.dom := rfl
@[simp] theorem State.setLatch_bank (s : State) (a : Accessor) (h : Latches) : (s.setLatch a h).bank = s.bank := rfl
@[simp] theorem State.setLatch_cfg (s : State) (a : Accessor) (h : Latches) : (s.setLatch a h).cfg = s.cfg := rfl
@[simp] theorem State.setLatch_ring (s : State) (a : Accessor) (h : Latches) : (s.setLatch a h).ring = s.ring := rfl
@[simp] theorem State.setLatch_slot (s : State) (a : Accessor) (h : Latches) : (s.setLatch a h).slot = s.slot := rfl
@[simp] theorem State.setLatch_grp (s : State) (a : Accessor) (h : Latches) : (s.setLatch a h).grp = s.grp := rfl
@[simp] theorem State.setLatch_lane (s : State) (a : Accessor) (h : Latches) : (s.setLatch a h).lane = s.lane := rfl
@[simp] theorem State.setLatch_ctxHid (s : State) (a : Accessor) (h : Latches) : (s.setLatch a h).ctxHid = s.ctxHid := rfl
@[simp] theorem State.setLatch_tap (s : State) (a : Accessor) (h : Latches) : (s.setLatch a h).tap = s.tap := rfl
@[simp] theorem State.setLatch_fol (s : State) (a : Accessor) (h : Latches) : (s.setLatch a h).fol = s.fol := rfl
@[simp] theorem State.setLatch_ap (s : State) (a : Accessor) (h : Latches) : (s.setLatch a h).ap = s.ap := rfl
@[simp] theorem State.setLatch_getE (s : State) (a : Accessor) (h : Latches) (z : Fld) (m i : Nat) : (s.setLatch a h).getE z m i = s.getE z m i := rfl
@[simp] theorem State.setLatch_get (s : State) (a : Accessor) (h : Latches) (z : Fld) (m : Nat) : (s.setLatch a h).get z m = s.get z m := rfl
@[simp] theorem State.setLatch_on (s : State) (a : Accessor) (h : Latches) (z : Fld) (m : Nat) : (s.setLatch a h).on z m = s.on z m := rfl
@[simp] theorem State.setLatch_latch_same (s : State) (a : Accessor) (h : Latches) : (s.setLatch a h).latch a = h := Tbl.get_set_same _ _ _ _

@[simp] theorem State.setSlot_pending (s : State) (n : Nat) (h : SlotHid) : (s.setSlot n h).pending = s.pending := rfl
@[simp] theorem State.setSlot_fields (s : State) (n : Nat) (h : SlotHid) : (s.setSlot n h).fields = s.fields := rfl
@[simp] theorem State.setSlot_speak (s : State) (n : Nat) (h : SlotHid) : (s.setSlot n h).speak = s.speak := rfl
@[simp] theorem State.setSlot_epochBase (s : State) (n : Nat) (h : SlotHid) : (s.setSlot n h).epochBase = s.epochBase := rfl
@[simp] theorem State.setSlot_epochs (s : State) (n : Nat) (h : SlotHid) : (s.setSlot n h).epochs = s.epochs := rfl
@[simp] theorem State.setSlot_latches (s : State) (n : Nat) (h : SlotHid) : (s.setSlot n h).latches = s.latches := rfl
@[simp] theorem State.setSlot_time (s : State) (n : Nat) (h : SlotHid) : (s.setSlot n h).time = s.time := rfl
@[simp] theorem State.setSlot_aonTime (s : State) (n : Nat) (h : SlotHid) : (s.setSlot n h).aonTime = s.aonTime := rfl
@[simp] theorem State.setSlot_aonPhase (s : State) (n : Nat) (h : SlotHid) : (s.setSlot n h).aonPhase = s.aonPhase := rfl
@[simp] theorem State.setSlot_freeCount (s : State) (n : Nat) (h : SlotHid) : (s.setSlot n h).freeCount = s.freeCount := rfl
@[simp] theorem State.setSlot_resp (s : State) (n : Nat) (h : SlotHid) : (s.setSlot n h).resp = s.resp := rfl
@[simp] theorem State.setSlot_out (s : State) (n : Nat) (h : SlotHid) : (s.setSlot n h).out = s.out := rfl
@[simp] theorem State.setSlot_mode (s : State) (n : Nat) (h : SlotHid) : (s.setSlot n h).mode = s.mode := rfl
@[simp] theorem State.setSlot_doms (s : State) (n : Nat) (h : SlotHid) : (s.setSlot n h).doms = s.doms := rfl
@[simp] theorem State.setSlot_pdQueue (s : State) (n : Nat) (h : SlotHid) : (s.setSlot n h).pdQueue = s.pdQueue := rfl
@[simp] theorem State.setSlot_banks (s : State) (n : Nat) (h : SlotHid) : (s.setSlot n h).banks = s.banks := rfl
@[simp] theorem State.setSlot_pots (s : State) (n : Nat) (h : SlotHid) : (s.setSlot n h).pots = s.pots := rfl
@[simp] theorem State.setSlot_crucible (s : State) (n : Nat) (h : SlotHid) : (s.setSlot n h).crucible = s.crucible := rfl
@[simp] theorem State.setSlot_fes (s : State) (n : Nat) (h : SlotHid) : (s.setSlot n h).fes = s.fes := rfl
@[simp] theorem State.setSlot_hws (s : State) (n : Nat) (h : SlotHid) : (s.setSlot n h).hws = s.hws := rfl
@[simp] theorem State.setSlot_hands (s : State) (n : Nat) (h : SlotHid) : (s.setSlot n h).hands = s.hands := rfl
@[simp] theorem State.setSlot_aerials (s : State) (n : Nat) (h : SlotHid) : (s.setSlot n h).aerials = s.aerials := rfl
@[simp] theorem State.setSlot_tuners (s : State) (n : Nat) (h : SlotHid) : (s.setSlot n h).tuners = s.tuners := rfl
@[simp] theorem State.setSlot_gainLog (s : State) (n : Nat) (h : SlotHid) : (s.setSlot n h).gainLog = s.gainLog := rfl
@[simp] theorem State.setSlot_groups (s : State) (n : Nat) (h : SlotHid) : (s.setSlot n h).groups = s.groups := rfl
@[simp] theorem State.setSlot_profiles (s : State) (n : Nat) (h : SlotHid) : (s.setSlot n h).profiles = s.profiles := rfl
@[simp] theorem State.setSlot_loader (s : State) (n : Nat) (h : SlotHid) : (s.setSlot n h).loader = s.loader := rfl
@[simp] theorem State.setSlot_snaps (s : State) (n : Nat) (h : SlotHid) : (s.setSlot n h).snaps = s.snaps := rfl
@[simp] theorem State.setSlot_lanes (s : State) (n : Nat) (h : SlotHid) : (s.setSlot n h).lanes = s.lanes := rfl
@[simp] theorem State.setSlot_ctxs (s : State) (n : Nat) (h : SlotHid) : (s.setSlot n h).ctxs = s.ctxs := rfl
@[simp] theorem State.setSlot_taps (s : State) (n : Nat) (h : SlotHid) : (s.setSlot n h).taps = s.taps := rfl
@[simp] theorem State.setSlot_ruleType (s : State) (n : Nat) (h : SlotHid) : (s.setSlot n h).ruleType = s.ruleType := rfl
@[simp] theorem State.setSlot_fols (s : State) (n : Nat) (h : SlotHid) : (s.setSlot n h).fols = s.fols := rfl
@[simp] theorem State.setSlot_mets (s : State) (n : Nat) (h : SlotHid) : (s.setSlot n h).mets = s.mets := rfl
@[simp] theorem State.setSlot_ref (s : State) (n : Nat) (h : SlotHid) : (s.setSlot n h).ref = s.ref := rfl
@[simp] theorem State.setSlot_pps (s : State) (n : Nat) (h : SlotHid) : (s.setSlot n h).pps = s.pps := rfl
@[simp] theorem State.setSlot_fcs (s : State) (n : Nat) (h : SlotHid) : (s.setSlot n h).fcs = s.fcs := rfl
@[simp] theorem State.setSlot_clk (s : State) (n : Nat) (h : SlotHid) : (s.setSlot n h).clk = s.clk := rfl
@[simp] theorem State.setSlot_wakeHid (s : State) (n : Nat) (h : SlotHid) : (s.setSlot n h).wakeHid = s.wakeHid := rfl
@[simp] theorem State.setSlot_punty (s : State) (n : Nat) (h : SlotHid) : (s.setSlot n h).punty = s.punty := rfl
@[simp] theorem State.setSlot_lehr (s : State) (n : Nat) (h : SlotHid) : (s.setSlot n h).lehr = s.lehr := rfl
@[simp] theorem State.setSlot_start (s : State) (n : Nat) (h : SlotHid) : (s.setSlot n h).start = s.start := rfl
@[simp] theorem State.setSlot_fg (s : State) (n : Nat) (h : SlotHid) : (s.setSlot n h).fg = s.fg := rfl
@[simp] theorem State.setSlot_otp (s : State) (n : Nat) (h : SlotHid) : (s.setSlot n h).otp = s.otp := rfl
@[simp] theorem State.setSlot_otpSpares (s : State) (n : Nat) (h : SlotHid) : (s.setSlot n h).otpSpares = s.otpSpares := rfl
@[simp] theorem State.setSlot_link (s : State) (n : Nat) (h : SlotHid) : (s.setSlot n h).link = s.link := rfl
@[simp] theorem State.setSlot_cfgs (s : State) (n : Nat) (h : SlotHid) : (s.setSlot n h).cfgs = s.cfgs := rfl
@[simp] theorem State.setSlot_rings (s : State) (n : Nat) (h : SlotHid) : (s.setSlot n h).rings = s.rings := rfl
@[simp] theorem State.setSlot_dmaTurn (s : State) (n : Nat) (h : SlotHid) : (s.setSlot n h).dmaTurn = s.dmaTurn := rfl
@[simp] theorem State.setSlot_walkTurn (s : State) (n : Nat) (h : SlotHid) : (s.setSlot n h).walkTurn = s.walkTurn := rfl
@[simp] theorem State.setSlot_xcache (s : State) (n : Nat) (h : SlotHid) : (s.setSlot n h).xcache = s.xcache := rfl
@[simp] theorem State.setSlot_faults (s : State) (n : Nat) (h : SlotHid) : (s.setSlot n h).faults = s.faults := rfl
@[simp] theorem State.setSlot_attn (s : State) (n : Nat) (h : SlotHid) : (s.setSlot n h).attn = s.attn := rfl
@[simp] theorem State.setSlot_aps (s : State) (n : Nat) (h : SlotHid) : (s.setSlot n h).aps = s.aps := rfl
@[simp] theorem State.setSlot_mgmt (s : State) (n : Nat) (h : SlotHid) : (s.setSlot n h).mgmt = s.mgmt := rfl
@[simp] theorem State.setSlot_health (s : State) (n : Nat) (h : SlotHid) : (s.setSlot n h).health = s.health := rfl
@[simp] theorem State.setSlot_fe (s : State) (n : Nat) (h : SlotHid) : (s.setSlot n h).fe = s.fe := rfl
@[simp] theorem State.setSlot_hw (s : State) (n : Nat) (h : SlotHid) : (s.setSlot n h).hw = s.hw := rfl
@[simp] theorem State.setSlot_hand (s : State) (n : Nat) (h : SlotHid) : (s.setSlot n h).hand = s.hand := rfl
@[simp] theorem State.setSlot_aerial (s : State) (n : Nat) (h : SlotHid) : (s.setSlot n h).aerial = s.aerial := rfl
@[simp] theorem State.setSlot_tuner (s : State) (n : Nat) (h : SlotHid) : (s.setSlot n h).tuner = s.tuner := rfl
@[simp] theorem State.setSlot_dom (s : State) (n : Nat) (h : SlotHid) : (s.setSlot n h).dom = s.dom := rfl
@[simp] theorem State.setSlot_bank (s : State) (n : Nat) (h : SlotHid) : (s.setSlot n h).bank = s.bank := rfl
@[simp] theorem State.setSlot_cfg (s : State) (n : Nat) (h : SlotHid) : (s.setSlot n h).cfg = s.cfg := rfl
@[simp] theorem State.setSlot_ring (s : State) (n : Nat) (h : SlotHid) : (s.setSlot n h).ring = s.ring := rfl
@[simp] theorem State.setSlot_latch (s : State) (n : Nat) (h : SlotHid) : (s.setSlot n h).latch = s.latch := rfl
@[simp] theorem State.setSlot_grp (s : State) (n : Nat) (h : SlotHid) : (s.setSlot n h).grp = s.grp := rfl
@[simp] theorem State.setSlot_lane (s : State) (n : Nat) (h : SlotHid) : (s.setSlot n h).lane = s.lane := rfl
@[simp] theorem State.setSlot_ctxHid (s : State) (n : Nat) (h : SlotHid) : (s.setSlot n h).ctxHid = s.ctxHid := rfl
@[simp] theorem State.setSlot_tap (s : State) (n : Nat) (h : SlotHid) : (s.setSlot n h).tap = s.tap := rfl
@[simp] theorem State.setSlot_fol (s : State) (n : Nat) (h : SlotHid) : (s.setSlot n h).fol = s.fol := rfl
@[simp] theorem State.setSlot_ap (s : State) (n : Nat) (h : SlotHid) : (s.setSlot n h).ap = s.ap := rfl
@[simp] theorem State.setSlot_getE (s : State) (n : Nat) (h : SlotHid) (z : Fld) (m i : Nat) : (s.setSlot n h).getE z m i = s.getE z m i := rfl
@[simp] theorem State.setSlot_get (s : State) (n : Nat) (h : SlotHid) (z : Fld) (m : Nat) : (s.setSlot n h).get z m = s.get z m := rfl
@[simp] theorem State.setSlot_on (s : State) (n : Nat) (h : SlotHid) (z : Fld) (m : Nat) : (s.setSlot n h).on z m = s.on z m := rfl
@[simp] theorem State.setSlot_slot_same (s : State) (n : Nat) (h : SlotHid) : (s.setSlot n h).slot n = h := Tbl.get_set_same _ _ _ _
theorem State.setSlot_slot_ne (s : State) {n j : Nat} (h : SlotHid) (hj : j ≠ n) : (s.setSlot n h).slot j = s.slot j :=
  Tbl.get_set_ne _ _ _ _ hj

@[simp] theorem State.setGrp_pending (s : State) (g : Nat) (h : Grp) : (s.setGrp g h).pending = s.pending := rfl
@[simp] theorem State.setGrp_fields (s : State) (g : Nat) (h : Grp) : (s.setGrp g h).fields = s.fields := rfl
@[simp] theorem State.setGrp_speak (s : State) (g : Nat) (h : Grp) : (s.setGrp g h).speak = s.speak := rfl
@[simp] theorem State.setGrp_epochBase (s : State) (g : Nat) (h : Grp) : (s.setGrp g h).epochBase = s.epochBase := rfl
@[simp] theorem State.setGrp_epochs (s : State) (g : Nat) (h : Grp) : (s.setGrp g h).epochs = s.epochs := rfl
@[simp] theorem State.setGrp_latches (s : State) (g : Nat) (h : Grp) : (s.setGrp g h).latches = s.latches := rfl
@[simp] theorem State.setGrp_time (s : State) (g : Nat) (h : Grp) : (s.setGrp g h).time = s.time := rfl
@[simp] theorem State.setGrp_aonTime (s : State) (g : Nat) (h : Grp) : (s.setGrp g h).aonTime = s.aonTime := rfl
@[simp] theorem State.setGrp_aonPhase (s : State) (g : Nat) (h : Grp) : (s.setGrp g h).aonPhase = s.aonPhase := rfl
@[simp] theorem State.setGrp_freeCount (s : State) (g : Nat) (h : Grp) : (s.setGrp g h).freeCount = s.freeCount := rfl
@[simp] theorem State.setGrp_resp (s : State) (g : Nat) (h : Grp) : (s.setGrp g h).resp = s.resp := rfl
@[simp] theorem State.setGrp_out (s : State) (g : Nat) (h : Grp) : (s.setGrp g h).out = s.out := rfl
@[simp] theorem State.setGrp_mode (s : State) (g : Nat) (h : Grp) : (s.setGrp g h).mode = s.mode := rfl
@[simp] theorem State.setGrp_doms (s : State) (g : Nat) (h : Grp) : (s.setGrp g h).doms = s.doms := rfl
@[simp] theorem State.setGrp_pdQueue (s : State) (g : Nat) (h : Grp) : (s.setGrp g h).pdQueue = s.pdQueue := rfl
@[simp] theorem State.setGrp_banks (s : State) (g : Nat) (h : Grp) : (s.setGrp g h).banks = s.banks := rfl
@[simp] theorem State.setGrp_pots (s : State) (g : Nat) (h : Grp) : (s.setGrp g h).pots = s.pots := rfl
@[simp] theorem State.setGrp_crucible (s : State) (g : Nat) (h : Grp) : (s.setGrp g h).crucible = s.crucible := rfl
@[simp] theorem State.setGrp_fes (s : State) (g : Nat) (h : Grp) : (s.setGrp g h).fes = s.fes := rfl
@[simp] theorem State.setGrp_hws (s : State) (g : Nat) (h : Grp) : (s.setGrp g h).hws = s.hws := rfl
@[simp] theorem State.setGrp_hands (s : State) (g : Nat) (h : Grp) : (s.setGrp g h).hands = s.hands := rfl
@[simp] theorem State.setGrp_aerials (s : State) (g : Nat) (h : Grp) : (s.setGrp g h).aerials = s.aerials := rfl
@[simp] theorem State.setGrp_tuners (s : State) (g : Nat) (h : Grp) : (s.setGrp g h).tuners = s.tuners := rfl
@[simp] theorem State.setGrp_gainLog (s : State) (g : Nat) (h : Grp) : (s.setGrp g h).gainLog = s.gainLog := rfl
@[simp] theorem State.setGrp_slots (s : State) (g : Nat) (h : Grp) : (s.setGrp g h).slots = s.slots := rfl
@[simp] theorem State.setGrp_profiles (s : State) (g : Nat) (h : Grp) : (s.setGrp g h).profiles = s.profiles := rfl
@[simp] theorem State.setGrp_loader (s : State) (g : Nat) (h : Grp) : (s.setGrp g h).loader = s.loader := rfl
@[simp] theorem State.setGrp_snaps (s : State) (g : Nat) (h : Grp) : (s.setGrp g h).snaps = s.snaps := rfl
@[simp] theorem State.setGrp_lanes (s : State) (g : Nat) (h : Grp) : (s.setGrp g h).lanes = s.lanes := rfl
@[simp] theorem State.setGrp_ctxs (s : State) (g : Nat) (h : Grp) : (s.setGrp g h).ctxs = s.ctxs := rfl
@[simp] theorem State.setGrp_taps (s : State) (g : Nat) (h : Grp) : (s.setGrp g h).taps = s.taps := rfl
@[simp] theorem State.setGrp_ruleType (s : State) (g : Nat) (h : Grp) : (s.setGrp g h).ruleType = s.ruleType := rfl
@[simp] theorem State.setGrp_fols (s : State) (g : Nat) (h : Grp) : (s.setGrp g h).fols = s.fols := rfl
@[simp] theorem State.setGrp_mets (s : State) (g : Nat) (h : Grp) : (s.setGrp g h).mets = s.mets := rfl
@[simp] theorem State.setGrp_ref (s : State) (g : Nat) (h : Grp) : (s.setGrp g h).ref = s.ref := rfl
@[simp] theorem State.setGrp_pps (s : State) (g : Nat) (h : Grp) : (s.setGrp g h).pps = s.pps := rfl
@[simp] theorem State.setGrp_fcs (s : State) (g : Nat) (h : Grp) : (s.setGrp g h).fcs = s.fcs := rfl
@[simp] theorem State.setGrp_clk (s : State) (g : Nat) (h : Grp) : (s.setGrp g h).clk = s.clk := rfl
@[simp] theorem State.setGrp_wakeHid (s : State) (g : Nat) (h : Grp) : (s.setGrp g h).wakeHid = s.wakeHid := rfl
@[simp] theorem State.setGrp_punty (s : State) (g : Nat) (h : Grp) : (s.setGrp g h).punty = s.punty := rfl
@[simp] theorem State.setGrp_lehr (s : State) (g : Nat) (h : Grp) : (s.setGrp g h).lehr = s.lehr := rfl
@[simp] theorem State.setGrp_start (s : State) (g : Nat) (h : Grp) : (s.setGrp g h).start = s.start := rfl
@[simp] theorem State.setGrp_fg (s : State) (g : Nat) (h : Grp) : (s.setGrp g h).fg = s.fg := rfl
@[simp] theorem State.setGrp_otp (s : State) (g : Nat) (h : Grp) : (s.setGrp g h).otp = s.otp := rfl
@[simp] theorem State.setGrp_otpSpares (s : State) (g : Nat) (h : Grp) : (s.setGrp g h).otpSpares = s.otpSpares := rfl
@[simp] theorem State.setGrp_link (s : State) (g : Nat) (h : Grp) : (s.setGrp g h).link = s.link := rfl
@[simp] theorem State.setGrp_cfgs (s : State) (g : Nat) (h : Grp) : (s.setGrp g h).cfgs = s.cfgs := rfl
@[simp] theorem State.setGrp_rings (s : State) (g : Nat) (h : Grp) : (s.setGrp g h).rings = s.rings := rfl
@[simp] theorem State.setGrp_dmaTurn (s : State) (g : Nat) (h : Grp) : (s.setGrp g h).dmaTurn = s.dmaTurn := rfl
@[simp] theorem State.setGrp_walkTurn (s : State) (g : Nat) (h : Grp) : (s.setGrp g h).walkTurn = s.walkTurn := rfl
@[simp] theorem State.setGrp_xcache (s : State) (g : Nat) (h : Grp) : (s.setGrp g h).xcache = s.xcache := rfl
@[simp] theorem State.setGrp_faults (s : State) (g : Nat) (h : Grp) : (s.setGrp g h).faults = s.faults := rfl
@[simp] theorem State.setGrp_attn (s : State) (g : Nat) (h : Grp) : (s.setGrp g h).attn = s.attn := rfl
@[simp] theorem State.setGrp_aps (s : State) (g : Nat) (h : Grp) : (s.setGrp g h).aps = s.aps := rfl
@[simp] theorem State.setGrp_mgmt (s : State) (g : Nat) (h : Grp) : (s.setGrp g h).mgmt = s.mgmt := rfl
@[simp] theorem State.setGrp_health (s : State) (g : Nat) (h : Grp) : (s.setGrp g h).health = s.health := rfl
@[simp] theorem State.setGrp_fe (s : State) (g : Nat) (h : Grp) : (s.setGrp g h).fe = s.fe := rfl
@[simp] theorem State.setGrp_hw (s : State) (g : Nat) (h : Grp) : (s.setGrp g h).hw = s.hw := rfl
@[simp] theorem State.setGrp_hand (s : State) (g : Nat) (h : Grp) : (s.setGrp g h).hand = s.hand := rfl
@[simp] theorem State.setGrp_aerial (s : State) (g : Nat) (h : Grp) : (s.setGrp g h).aerial = s.aerial := rfl
@[simp] theorem State.setGrp_tuner (s : State) (g : Nat) (h : Grp) : (s.setGrp g h).tuner = s.tuner := rfl
@[simp] theorem State.setGrp_dom (s : State) (g : Nat) (h : Grp) : (s.setGrp g h).dom = s.dom := rfl
@[simp] theorem State.setGrp_bank (s : State) (g : Nat) (h : Grp) : (s.setGrp g h).bank = s.bank := rfl
@[simp] theorem State.setGrp_cfg (s : State) (g : Nat) (h : Grp) : (s.setGrp g h).cfg = s.cfg := rfl
@[simp] theorem State.setGrp_ring (s : State) (g : Nat) (h : Grp) : (s.setGrp g h).ring = s.ring := rfl
@[simp] theorem State.setGrp_latch (s : State) (g : Nat) (h : Grp) : (s.setGrp g h).latch = s.latch := rfl
@[simp] theorem State.setGrp_slot (s : State) (g : Nat) (h : Grp) : (s.setGrp g h).slot = s.slot := rfl
@[simp] theorem State.setGrp_lane (s : State) (g : Nat) (h : Grp) : (s.setGrp g h).lane = s.lane := rfl
@[simp] theorem State.setGrp_ctxHid (s : State) (g : Nat) (h : Grp) : (s.setGrp g h).ctxHid = s.ctxHid := rfl
@[simp] theorem State.setGrp_tap (s : State) (g : Nat) (h : Grp) : (s.setGrp g h).tap = s.tap := rfl
@[simp] theorem State.setGrp_fol (s : State) (g : Nat) (h : Grp) : (s.setGrp g h).fol = s.fol := rfl
@[simp] theorem State.setGrp_ap (s : State) (g : Nat) (h : Grp) : (s.setGrp g h).ap = s.ap := rfl
@[simp] theorem State.setGrp_getE (s : State) (g : Nat) (h : Grp) (z : Fld) (m i : Nat) : (s.setGrp g h).getE z m i = s.getE z m i := rfl
@[simp] theorem State.setGrp_get (s : State) (g : Nat) (h : Grp) (z : Fld) (m : Nat) : (s.setGrp g h).get z m = s.get z m := rfl
@[simp] theorem State.setGrp_on (s : State) (g : Nat) (h : Grp) (z : Fld) (m : Nat) : (s.setGrp g h).on z m = s.on z m := rfl
@[simp] theorem State.setGrp_grp_same (s : State) (g : Nat) (h : Grp) : (s.setGrp g h).grp g = h := Tbl.get_set_same _ _ _ _
theorem State.setGrp_grp_ne (s : State) {g j : Nat} (h : Grp) (hj : j ≠ g) : (s.setGrp g h).grp j = s.grp j :=
  Tbl.get_set_ne _ _ _ _ hj

@[simp] theorem State.setLane_pending (s : State) (n : Nat) (h : LaneHid) : (s.setLane n h).pending = s.pending := rfl
@[simp] theorem State.setLane_fields (s : State) (n : Nat) (h : LaneHid) : (s.setLane n h).fields = s.fields := rfl
@[simp] theorem State.setLane_speak (s : State) (n : Nat) (h : LaneHid) : (s.setLane n h).speak = s.speak := rfl
@[simp] theorem State.setLane_epochBase (s : State) (n : Nat) (h : LaneHid) : (s.setLane n h).epochBase = s.epochBase := rfl
@[simp] theorem State.setLane_epochs (s : State) (n : Nat) (h : LaneHid) : (s.setLane n h).epochs = s.epochs := rfl
@[simp] theorem State.setLane_latches (s : State) (n : Nat) (h : LaneHid) : (s.setLane n h).latches = s.latches := rfl
@[simp] theorem State.setLane_time (s : State) (n : Nat) (h : LaneHid) : (s.setLane n h).time = s.time := rfl
@[simp] theorem State.setLane_aonTime (s : State) (n : Nat) (h : LaneHid) : (s.setLane n h).aonTime = s.aonTime := rfl
@[simp] theorem State.setLane_aonPhase (s : State) (n : Nat) (h : LaneHid) : (s.setLane n h).aonPhase = s.aonPhase := rfl
@[simp] theorem State.setLane_freeCount (s : State) (n : Nat) (h : LaneHid) : (s.setLane n h).freeCount = s.freeCount := rfl
@[simp] theorem State.setLane_resp (s : State) (n : Nat) (h : LaneHid) : (s.setLane n h).resp = s.resp := rfl
@[simp] theorem State.setLane_out (s : State) (n : Nat) (h : LaneHid) : (s.setLane n h).out = s.out := rfl
@[simp] theorem State.setLane_mode (s : State) (n : Nat) (h : LaneHid) : (s.setLane n h).mode = s.mode := rfl
@[simp] theorem State.setLane_doms (s : State) (n : Nat) (h : LaneHid) : (s.setLane n h).doms = s.doms := rfl
@[simp] theorem State.setLane_pdQueue (s : State) (n : Nat) (h : LaneHid) : (s.setLane n h).pdQueue = s.pdQueue := rfl
@[simp] theorem State.setLane_banks (s : State) (n : Nat) (h : LaneHid) : (s.setLane n h).banks = s.banks := rfl
@[simp] theorem State.setLane_pots (s : State) (n : Nat) (h : LaneHid) : (s.setLane n h).pots = s.pots := rfl
@[simp] theorem State.setLane_crucible (s : State) (n : Nat) (h : LaneHid) : (s.setLane n h).crucible = s.crucible := rfl
@[simp] theorem State.setLane_fes (s : State) (n : Nat) (h : LaneHid) : (s.setLane n h).fes = s.fes := rfl
@[simp] theorem State.setLane_hws (s : State) (n : Nat) (h : LaneHid) : (s.setLane n h).hws = s.hws := rfl
@[simp] theorem State.setLane_hands (s : State) (n : Nat) (h : LaneHid) : (s.setLane n h).hands = s.hands := rfl
@[simp] theorem State.setLane_aerials (s : State) (n : Nat) (h : LaneHid) : (s.setLane n h).aerials = s.aerials := rfl
@[simp] theorem State.setLane_tuners (s : State) (n : Nat) (h : LaneHid) : (s.setLane n h).tuners = s.tuners := rfl
@[simp] theorem State.setLane_gainLog (s : State) (n : Nat) (h : LaneHid) : (s.setLane n h).gainLog = s.gainLog := rfl
@[simp] theorem State.setLane_slots (s : State) (n : Nat) (h : LaneHid) : (s.setLane n h).slots = s.slots := rfl
@[simp] theorem State.setLane_groups (s : State) (n : Nat) (h : LaneHid) : (s.setLane n h).groups = s.groups := rfl
@[simp] theorem State.setLane_profiles (s : State) (n : Nat) (h : LaneHid) : (s.setLane n h).profiles = s.profiles := rfl
@[simp] theorem State.setLane_loader (s : State) (n : Nat) (h : LaneHid) : (s.setLane n h).loader = s.loader := rfl
@[simp] theorem State.setLane_snaps (s : State) (n : Nat) (h : LaneHid) : (s.setLane n h).snaps = s.snaps := rfl
@[simp] theorem State.setLane_ctxs (s : State) (n : Nat) (h : LaneHid) : (s.setLane n h).ctxs = s.ctxs := rfl
@[simp] theorem State.setLane_taps (s : State) (n : Nat) (h : LaneHid) : (s.setLane n h).taps = s.taps := rfl
@[simp] theorem State.setLane_ruleType (s : State) (n : Nat) (h : LaneHid) : (s.setLane n h).ruleType = s.ruleType := rfl
@[simp] theorem State.setLane_fols (s : State) (n : Nat) (h : LaneHid) : (s.setLane n h).fols = s.fols := rfl
@[simp] theorem State.setLane_mets (s : State) (n : Nat) (h : LaneHid) : (s.setLane n h).mets = s.mets := rfl
@[simp] theorem State.setLane_ref (s : State) (n : Nat) (h : LaneHid) : (s.setLane n h).ref = s.ref := rfl
@[simp] theorem State.setLane_pps (s : State) (n : Nat) (h : LaneHid) : (s.setLane n h).pps = s.pps := rfl
@[simp] theorem State.setLane_fcs (s : State) (n : Nat) (h : LaneHid) : (s.setLane n h).fcs = s.fcs := rfl
@[simp] theorem State.setLane_clk (s : State) (n : Nat) (h : LaneHid) : (s.setLane n h).clk = s.clk := rfl
@[simp] theorem State.setLane_wakeHid (s : State) (n : Nat) (h : LaneHid) : (s.setLane n h).wakeHid = s.wakeHid := rfl
@[simp] theorem State.setLane_punty (s : State) (n : Nat) (h : LaneHid) : (s.setLane n h).punty = s.punty := rfl
@[simp] theorem State.setLane_lehr (s : State) (n : Nat) (h : LaneHid) : (s.setLane n h).lehr = s.lehr := rfl
@[simp] theorem State.setLane_start (s : State) (n : Nat) (h : LaneHid) : (s.setLane n h).start = s.start := rfl
@[simp] theorem State.setLane_fg (s : State) (n : Nat) (h : LaneHid) : (s.setLane n h).fg = s.fg := rfl
@[simp] theorem State.setLane_otp (s : State) (n : Nat) (h : LaneHid) : (s.setLane n h).otp = s.otp := rfl
@[simp] theorem State.setLane_otpSpares (s : State) (n : Nat) (h : LaneHid) : (s.setLane n h).otpSpares = s.otpSpares := rfl
@[simp] theorem State.setLane_link (s : State) (n : Nat) (h : LaneHid) : (s.setLane n h).link = s.link := rfl
@[simp] theorem State.setLane_cfgs (s : State) (n : Nat) (h : LaneHid) : (s.setLane n h).cfgs = s.cfgs := rfl
@[simp] theorem State.setLane_rings (s : State) (n : Nat) (h : LaneHid) : (s.setLane n h).rings = s.rings := rfl
@[simp] theorem State.setLane_dmaTurn (s : State) (n : Nat) (h : LaneHid) : (s.setLane n h).dmaTurn = s.dmaTurn := rfl
@[simp] theorem State.setLane_walkTurn (s : State) (n : Nat) (h : LaneHid) : (s.setLane n h).walkTurn = s.walkTurn := rfl
@[simp] theorem State.setLane_xcache (s : State) (n : Nat) (h : LaneHid) : (s.setLane n h).xcache = s.xcache := rfl
@[simp] theorem State.setLane_faults (s : State) (n : Nat) (h : LaneHid) : (s.setLane n h).faults = s.faults := rfl
@[simp] theorem State.setLane_attn (s : State) (n : Nat) (h : LaneHid) : (s.setLane n h).attn = s.attn := rfl
@[simp] theorem State.setLane_aps (s : State) (n : Nat) (h : LaneHid) : (s.setLane n h).aps = s.aps := rfl
@[simp] theorem State.setLane_mgmt (s : State) (n : Nat) (h : LaneHid) : (s.setLane n h).mgmt = s.mgmt := rfl
@[simp] theorem State.setLane_health (s : State) (n : Nat) (h : LaneHid) : (s.setLane n h).health = s.health := rfl
@[simp] theorem State.setLane_fe (s : State) (n : Nat) (h : LaneHid) : (s.setLane n h).fe = s.fe := rfl
@[simp] theorem State.setLane_hw (s : State) (n : Nat) (h : LaneHid) : (s.setLane n h).hw = s.hw := rfl
@[simp] theorem State.setLane_hand (s : State) (n : Nat) (h : LaneHid) : (s.setLane n h).hand = s.hand := rfl
@[simp] theorem State.setLane_aerial (s : State) (n : Nat) (h : LaneHid) : (s.setLane n h).aerial = s.aerial := rfl
@[simp] theorem State.setLane_tuner (s : State) (n : Nat) (h : LaneHid) : (s.setLane n h).tuner = s.tuner := rfl
@[simp] theorem State.setLane_dom (s : State) (n : Nat) (h : LaneHid) : (s.setLane n h).dom = s.dom := rfl
@[simp] theorem State.setLane_bank (s : State) (n : Nat) (h : LaneHid) : (s.setLane n h).bank = s.bank := rfl
@[simp] theorem State.setLane_cfg (s : State) (n : Nat) (h : LaneHid) : (s.setLane n h).cfg = s.cfg := rfl
@[simp] theorem State.setLane_ring (s : State) (n : Nat) (h : LaneHid) : (s.setLane n h).ring = s.ring := rfl
@[simp] theorem State.setLane_latch (s : State) (n : Nat) (h : LaneHid) : (s.setLane n h).latch = s.latch := rfl
@[simp] theorem State.setLane_slot (s : State) (n : Nat) (h : LaneHid) : (s.setLane n h).slot = s.slot := rfl
@[simp] theorem State.setLane_grp (s : State) (n : Nat) (h : LaneHid) : (s.setLane n h).grp = s.grp := rfl
@[simp] theorem State.setLane_ctxHid (s : State) (n : Nat) (h : LaneHid) : (s.setLane n h).ctxHid = s.ctxHid := rfl
@[simp] theorem State.setLane_tap (s : State) (n : Nat) (h : LaneHid) : (s.setLane n h).tap = s.tap := rfl
@[simp] theorem State.setLane_fol (s : State) (n : Nat) (h : LaneHid) : (s.setLane n h).fol = s.fol := rfl
@[simp] theorem State.setLane_ap (s : State) (n : Nat) (h : LaneHid) : (s.setLane n h).ap = s.ap := rfl
@[simp] theorem State.setLane_getE (s : State) (n : Nat) (h : LaneHid) (z : Fld) (m i : Nat) : (s.setLane n h).getE z m i = s.getE z m i := rfl
@[simp] theorem State.setLane_get (s : State) (n : Nat) (h : LaneHid) (z : Fld) (m : Nat) : (s.setLane n h).get z m = s.get z m := rfl
@[simp] theorem State.setLane_on (s : State) (n : Nat) (h : LaneHid) (z : Fld) (m : Nat) : (s.setLane n h).on z m = s.on z m := rfl
@[simp] theorem State.setLane_lane_same (s : State) (n : Nat) (h : LaneHid) : (s.setLane n h).lane n = h := Tbl.get_set_same _ _ _ _
theorem State.setLane_lane_ne (s : State) {n j : Nat} (h : LaneHid) (hj : j ≠ n) : (s.setLane n h).lane j = s.lane j :=
  Tbl.get_set_ne _ _ _ _ hj

@[simp] theorem State.setCtx_pending (s : State) (c : Ctx) (h : CtxHid) : (s.setCtx c h).pending = s.pending := rfl
@[simp] theorem State.setCtx_fields (s : State) (c : Ctx) (h : CtxHid) : (s.setCtx c h).fields = s.fields := rfl
@[simp] theorem State.setCtx_speak (s : State) (c : Ctx) (h : CtxHid) : (s.setCtx c h).speak = s.speak := rfl
@[simp] theorem State.setCtx_epochBase (s : State) (c : Ctx) (h : CtxHid) : (s.setCtx c h).epochBase = s.epochBase := rfl
@[simp] theorem State.setCtx_epochs (s : State) (c : Ctx) (h : CtxHid) : (s.setCtx c h).epochs = s.epochs := rfl
@[simp] theorem State.setCtx_latches (s : State) (c : Ctx) (h : CtxHid) : (s.setCtx c h).latches = s.latches := rfl
@[simp] theorem State.setCtx_time (s : State) (c : Ctx) (h : CtxHid) : (s.setCtx c h).time = s.time := rfl
@[simp] theorem State.setCtx_aonTime (s : State) (c : Ctx) (h : CtxHid) : (s.setCtx c h).aonTime = s.aonTime := rfl
@[simp] theorem State.setCtx_aonPhase (s : State) (c : Ctx) (h : CtxHid) : (s.setCtx c h).aonPhase = s.aonPhase := rfl
@[simp] theorem State.setCtx_freeCount (s : State) (c : Ctx) (h : CtxHid) : (s.setCtx c h).freeCount = s.freeCount := rfl
@[simp] theorem State.setCtx_resp (s : State) (c : Ctx) (h : CtxHid) : (s.setCtx c h).resp = s.resp := rfl
@[simp] theorem State.setCtx_out (s : State) (c : Ctx) (h : CtxHid) : (s.setCtx c h).out = s.out := rfl
@[simp] theorem State.setCtx_mode (s : State) (c : Ctx) (h : CtxHid) : (s.setCtx c h).mode = s.mode := rfl
@[simp] theorem State.setCtx_doms (s : State) (c : Ctx) (h : CtxHid) : (s.setCtx c h).doms = s.doms := rfl
@[simp] theorem State.setCtx_pdQueue (s : State) (c : Ctx) (h : CtxHid) : (s.setCtx c h).pdQueue = s.pdQueue := rfl
@[simp] theorem State.setCtx_banks (s : State) (c : Ctx) (h : CtxHid) : (s.setCtx c h).banks = s.banks := rfl
@[simp] theorem State.setCtx_pots (s : State) (c : Ctx) (h : CtxHid) : (s.setCtx c h).pots = s.pots := rfl
@[simp] theorem State.setCtx_crucible (s : State) (c : Ctx) (h : CtxHid) : (s.setCtx c h).crucible = s.crucible := rfl
@[simp] theorem State.setCtx_fes (s : State) (c : Ctx) (h : CtxHid) : (s.setCtx c h).fes = s.fes := rfl
@[simp] theorem State.setCtx_hws (s : State) (c : Ctx) (h : CtxHid) : (s.setCtx c h).hws = s.hws := rfl
@[simp] theorem State.setCtx_hands (s : State) (c : Ctx) (h : CtxHid) : (s.setCtx c h).hands = s.hands := rfl
@[simp] theorem State.setCtx_aerials (s : State) (c : Ctx) (h : CtxHid) : (s.setCtx c h).aerials = s.aerials := rfl
@[simp] theorem State.setCtx_tuners (s : State) (c : Ctx) (h : CtxHid) : (s.setCtx c h).tuners = s.tuners := rfl
@[simp] theorem State.setCtx_gainLog (s : State) (c : Ctx) (h : CtxHid) : (s.setCtx c h).gainLog = s.gainLog := rfl
@[simp] theorem State.setCtx_slots (s : State) (c : Ctx) (h : CtxHid) : (s.setCtx c h).slots = s.slots := rfl
@[simp] theorem State.setCtx_groups (s : State) (c : Ctx) (h : CtxHid) : (s.setCtx c h).groups = s.groups := rfl
@[simp] theorem State.setCtx_profiles (s : State) (c : Ctx) (h : CtxHid) : (s.setCtx c h).profiles = s.profiles := rfl
@[simp] theorem State.setCtx_loader (s : State) (c : Ctx) (h : CtxHid) : (s.setCtx c h).loader = s.loader := rfl
@[simp] theorem State.setCtx_snaps (s : State) (c : Ctx) (h : CtxHid) : (s.setCtx c h).snaps = s.snaps := rfl
@[simp] theorem State.setCtx_lanes (s : State) (c : Ctx) (h : CtxHid) : (s.setCtx c h).lanes = s.lanes := rfl
@[simp] theorem State.setCtx_taps (s : State) (c : Ctx) (h : CtxHid) : (s.setCtx c h).taps = s.taps := rfl
@[simp] theorem State.setCtx_ruleType (s : State) (c : Ctx) (h : CtxHid) : (s.setCtx c h).ruleType = s.ruleType := rfl
@[simp] theorem State.setCtx_fols (s : State) (c : Ctx) (h : CtxHid) : (s.setCtx c h).fols = s.fols := rfl
@[simp] theorem State.setCtx_mets (s : State) (c : Ctx) (h : CtxHid) : (s.setCtx c h).mets = s.mets := rfl
@[simp] theorem State.setCtx_ref (s : State) (c : Ctx) (h : CtxHid) : (s.setCtx c h).ref = s.ref := rfl
@[simp] theorem State.setCtx_pps (s : State) (c : Ctx) (h : CtxHid) : (s.setCtx c h).pps = s.pps := rfl
@[simp] theorem State.setCtx_fcs (s : State) (c : Ctx) (h : CtxHid) : (s.setCtx c h).fcs = s.fcs := rfl
@[simp] theorem State.setCtx_clk (s : State) (c : Ctx) (h : CtxHid) : (s.setCtx c h).clk = s.clk := rfl
@[simp] theorem State.setCtx_wakeHid (s : State) (c : Ctx) (h : CtxHid) : (s.setCtx c h).wakeHid = s.wakeHid := rfl
@[simp] theorem State.setCtx_punty (s : State) (c : Ctx) (h : CtxHid) : (s.setCtx c h).punty = s.punty := rfl
@[simp] theorem State.setCtx_lehr (s : State) (c : Ctx) (h : CtxHid) : (s.setCtx c h).lehr = s.lehr := rfl
@[simp] theorem State.setCtx_start (s : State) (c : Ctx) (h : CtxHid) : (s.setCtx c h).start = s.start := rfl
@[simp] theorem State.setCtx_fg (s : State) (c : Ctx) (h : CtxHid) : (s.setCtx c h).fg = s.fg := rfl
@[simp] theorem State.setCtx_otp (s : State) (c : Ctx) (h : CtxHid) : (s.setCtx c h).otp = s.otp := rfl
@[simp] theorem State.setCtx_otpSpares (s : State) (c : Ctx) (h : CtxHid) : (s.setCtx c h).otpSpares = s.otpSpares := rfl
@[simp] theorem State.setCtx_link (s : State) (c : Ctx) (h : CtxHid) : (s.setCtx c h).link = s.link := rfl
@[simp] theorem State.setCtx_cfgs (s : State) (c : Ctx) (h : CtxHid) : (s.setCtx c h).cfgs = s.cfgs := rfl
@[simp] theorem State.setCtx_rings (s : State) (c : Ctx) (h : CtxHid) : (s.setCtx c h).rings = s.rings := rfl
@[simp] theorem State.setCtx_dmaTurn (s : State) (c : Ctx) (h : CtxHid) : (s.setCtx c h).dmaTurn = s.dmaTurn := rfl
@[simp] theorem State.setCtx_walkTurn (s : State) (c : Ctx) (h : CtxHid) : (s.setCtx c h).walkTurn = s.walkTurn := rfl
@[simp] theorem State.setCtx_xcache (s : State) (c : Ctx) (h : CtxHid) : (s.setCtx c h).xcache = s.xcache := rfl
@[simp] theorem State.setCtx_faults (s : State) (c : Ctx) (h : CtxHid) : (s.setCtx c h).faults = s.faults := rfl
@[simp] theorem State.setCtx_attn (s : State) (c : Ctx) (h : CtxHid) : (s.setCtx c h).attn = s.attn := rfl
@[simp] theorem State.setCtx_aps (s : State) (c : Ctx) (h : CtxHid) : (s.setCtx c h).aps = s.aps := rfl
@[simp] theorem State.setCtx_mgmt (s : State) (c : Ctx) (h : CtxHid) : (s.setCtx c h).mgmt = s.mgmt := rfl
@[simp] theorem State.setCtx_health (s : State) (c : Ctx) (h : CtxHid) : (s.setCtx c h).health = s.health := rfl
@[simp] theorem State.setCtx_fe (s : State) (c : Ctx) (h : CtxHid) : (s.setCtx c h).fe = s.fe := rfl
@[simp] theorem State.setCtx_hw (s : State) (c : Ctx) (h : CtxHid) : (s.setCtx c h).hw = s.hw := rfl
@[simp] theorem State.setCtx_hand (s : State) (c : Ctx) (h : CtxHid) : (s.setCtx c h).hand = s.hand := rfl
@[simp] theorem State.setCtx_aerial (s : State) (c : Ctx) (h : CtxHid) : (s.setCtx c h).aerial = s.aerial := rfl
@[simp] theorem State.setCtx_tuner (s : State) (c : Ctx) (h : CtxHid) : (s.setCtx c h).tuner = s.tuner := rfl
@[simp] theorem State.setCtx_dom (s : State) (c : Ctx) (h : CtxHid) : (s.setCtx c h).dom = s.dom := rfl
@[simp] theorem State.setCtx_bank (s : State) (c : Ctx) (h : CtxHid) : (s.setCtx c h).bank = s.bank := rfl
@[simp] theorem State.setCtx_cfg (s : State) (c : Ctx) (h : CtxHid) : (s.setCtx c h).cfg = s.cfg := rfl
@[simp] theorem State.setCtx_ring (s : State) (c : Ctx) (h : CtxHid) : (s.setCtx c h).ring = s.ring := rfl
@[simp] theorem State.setCtx_latch (s : State) (c : Ctx) (h : CtxHid) : (s.setCtx c h).latch = s.latch := rfl
@[simp] theorem State.setCtx_slot (s : State) (c : Ctx) (h : CtxHid) : (s.setCtx c h).slot = s.slot := rfl
@[simp] theorem State.setCtx_grp (s : State) (c : Ctx) (h : CtxHid) : (s.setCtx c h).grp = s.grp := rfl
@[simp] theorem State.setCtx_lane (s : State) (c : Ctx) (h : CtxHid) : (s.setCtx c h).lane = s.lane := rfl
@[simp] theorem State.setCtx_tap (s : State) (c : Ctx) (h : CtxHid) : (s.setCtx c h).tap = s.tap := rfl
@[simp] theorem State.setCtx_fol (s : State) (c : Ctx) (h : CtxHid) : (s.setCtx c h).fol = s.fol := rfl
@[simp] theorem State.setCtx_ap (s : State) (c : Ctx) (h : CtxHid) : (s.setCtx c h).ap = s.ap := rfl
@[simp] theorem State.setCtx_getE (s : State) (c : Ctx) (h : CtxHid) (z : Fld) (m i : Nat) : (s.setCtx c h).getE z m i = s.getE z m i := rfl
@[simp] theorem State.setCtx_get (s : State) (c : Ctx) (h : CtxHid) (z : Fld) (m : Nat) : (s.setCtx c h).get z m = s.get z m := rfl
@[simp] theorem State.setCtx_on (s : State) (c : Ctx) (h : CtxHid) (z : Fld) (m : Nat) : (s.setCtx c h).on z m = s.on z m := rfl
@[simp] theorem State.setCtx_ctxHid_same (s : State) (c : Ctx) (h : CtxHid) : (s.setCtx c h).ctxHid c = h := Tbl.get_set_same _ _ _ _

@[simp] theorem State.setTap_pending (s : State) (n : Nat) (h : TapHid) : (s.setTap n h).pending = s.pending := rfl
@[simp] theorem State.setTap_fields (s : State) (n : Nat) (h : TapHid) : (s.setTap n h).fields = s.fields := rfl
@[simp] theorem State.setTap_speak (s : State) (n : Nat) (h : TapHid) : (s.setTap n h).speak = s.speak := rfl
@[simp] theorem State.setTap_epochBase (s : State) (n : Nat) (h : TapHid) : (s.setTap n h).epochBase = s.epochBase := rfl
@[simp] theorem State.setTap_epochs (s : State) (n : Nat) (h : TapHid) : (s.setTap n h).epochs = s.epochs := rfl
@[simp] theorem State.setTap_latches (s : State) (n : Nat) (h : TapHid) : (s.setTap n h).latches = s.latches := rfl
@[simp] theorem State.setTap_time (s : State) (n : Nat) (h : TapHid) : (s.setTap n h).time = s.time := rfl
@[simp] theorem State.setTap_aonTime (s : State) (n : Nat) (h : TapHid) : (s.setTap n h).aonTime = s.aonTime := rfl
@[simp] theorem State.setTap_aonPhase (s : State) (n : Nat) (h : TapHid) : (s.setTap n h).aonPhase = s.aonPhase := rfl
@[simp] theorem State.setTap_freeCount (s : State) (n : Nat) (h : TapHid) : (s.setTap n h).freeCount = s.freeCount := rfl
@[simp] theorem State.setTap_resp (s : State) (n : Nat) (h : TapHid) : (s.setTap n h).resp = s.resp := rfl
@[simp] theorem State.setTap_out (s : State) (n : Nat) (h : TapHid) : (s.setTap n h).out = s.out := rfl
@[simp] theorem State.setTap_mode (s : State) (n : Nat) (h : TapHid) : (s.setTap n h).mode = s.mode := rfl
@[simp] theorem State.setTap_doms (s : State) (n : Nat) (h : TapHid) : (s.setTap n h).doms = s.doms := rfl
@[simp] theorem State.setTap_pdQueue (s : State) (n : Nat) (h : TapHid) : (s.setTap n h).pdQueue = s.pdQueue := rfl
@[simp] theorem State.setTap_banks (s : State) (n : Nat) (h : TapHid) : (s.setTap n h).banks = s.banks := rfl
@[simp] theorem State.setTap_pots (s : State) (n : Nat) (h : TapHid) : (s.setTap n h).pots = s.pots := rfl
@[simp] theorem State.setTap_crucible (s : State) (n : Nat) (h : TapHid) : (s.setTap n h).crucible = s.crucible := rfl
@[simp] theorem State.setTap_fes (s : State) (n : Nat) (h : TapHid) : (s.setTap n h).fes = s.fes := rfl
@[simp] theorem State.setTap_hws (s : State) (n : Nat) (h : TapHid) : (s.setTap n h).hws = s.hws := rfl
@[simp] theorem State.setTap_hands (s : State) (n : Nat) (h : TapHid) : (s.setTap n h).hands = s.hands := rfl
@[simp] theorem State.setTap_aerials (s : State) (n : Nat) (h : TapHid) : (s.setTap n h).aerials = s.aerials := rfl
@[simp] theorem State.setTap_tuners (s : State) (n : Nat) (h : TapHid) : (s.setTap n h).tuners = s.tuners := rfl
@[simp] theorem State.setTap_gainLog (s : State) (n : Nat) (h : TapHid) : (s.setTap n h).gainLog = s.gainLog := rfl
@[simp] theorem State.setTap_slots (s : State) (n : Nat) (h : TapHid) : (s.setTap n h).slots = s.slots := rfl
@[simp] theorem State.setTap_groups (s : State) (n : Nat) (h : TapHid) : (s.setTap n h).groups = s.groups := rfl
@[simp] theorem State.setTap_profiles (s : State) (n : Nat) (h : TapHid) : (s.setTap n h).profiles = s.profiles := rfl
@[simp] theorem State.setTap_loader (s : State) (n : Nat) (h : TapHid) : (s.setTap n h).loader = s.loader := rfl
@[simp] theorem State.setTap_snaps (s : State) (n : Nat) (h : TapHid) : (s.setTap n h).snaps = s.snaps := rfl
@[simp] theorem State.setTap_lanes (s : State) (n : Nat) (h : TapHid) : (s.setTap n h).lanes = s.lanes := rfl
@[simp] theorem State.setTap_ctxs (s : State) (n : Nat) (h : TapHid) : (s.setTap n h).ctxs = s.ctxs := rfl
@[simp] theorem State.setTap_ruleType (s : State) (n : Nat) (h : TapHid) : (s.setTap n h).ruleType = s.ruleType := rfl
@[simp] theorem State.setTap_fols (s : State) (n : Nat) (h : TapHid) : (s.setTap n h).fols = s.fols := rfl
@[simp] theorem State.setTap_mets (s : State) (n : Nat) (h : TapHid) : (s.setTap n h).mets = s.mets := rfl
@[simp] theorem State.setTap_ref (s : State) (n : Nat) (h : TapHid) : (s.setTap n h).ref = s.ref := rfl
@[simp] theorem State.setTap_pps (s : State) (n : Nat) (h : TapHid) : (s.setTap n h).pps = s.pps := rfl
@[simp] theorem State.setTap_fcs (s : State) (n : Nat) (h : TapHid) : (s.setTap n h).fcs = s.fcs := rfl
@[simp] theorem State.setTap_clk (s : State) (n : Nat) (h : TapHid) : (s.setTap n h).clk = s.clk := rfl
@[simp] theorem State.setTap_wakeHid (s : State) (n : Nat) (h : TapHid) : (s.setTap n h).wakeHid = s.wakeHid := rfl
@[simp] theorem State.setTap_punty (s : State) (n : Nat) (h : TapHid) : (s.setTap n h).punty = s.punty := rfl
@[simp] theorem State.setTap_lehr (s : State) (n : Nat) (h : TapHid) : (s.setTap n h).lehr = s.lehr := rfl
@[simp] theorem State.setTap_start (s : State) (n : Nat) (h : TapHid) : (s.setTap n h).start = s.start := rfl
@[simp] theorem State.setTap_fg (s : State) (n : Nat) (h : TapHid) : (s.setTap n h).fg = s.fg := rfl
@[simp] theorem State.setTap_otp (s : State) (n : Nat) (h : TapHid) : (s.setTap n h).otp = s.otp := rfl
@[simp] theorem State.setTap_otpSpares (s : State) (n : Nat) (h : TapHid) : (s.setTap n h).otpSpares = s.otpSpares := rfl
@[simp] theorem State.setTap_link (s : State) (n : Nat) (h : TapHid) : (s.setTap n h).link = s.link := rfl
@[simp] theorem State.setTap_cfgs (s : State) (n : Nat) (h : TapHid) : (s.setTap n h).cfgs = s.cfgs := rfl
@[simp] theorem State.setTap_rings (s : State) (n : Nat) (h : TapHid) : (s.setTap n h).rings = s.rings := rfl
@[simp] theorem State.setTap_dmaTurn (s : State) (n : Nat) (h : TapHid) : (s.setTap n h).dmaTurn = s.dmaTurn := rfl
@[simp] theorem State.setTap_walkTurn (s : State) (n : Nat) (h : TapHid) : (s.setTap n h).walkTurn = s.walkTurn := rfl
@[simp] theorem State.setTap_xcache (s : State) (n : Nat) (h : TapHid) : (s.setTap n h).xcache = s.xcache := rfl
@[simp] theorem State.setTap_faults (s : State) (n : Nat) (h : TapHid) : (s.setTap n h).faults = s.faults := rfl
@[simp] theorem State.setTap_attn (s : State) (n : Nat) (h : TapHid) : (s.setTap n h).attn = s.attn := rfl
@[simp] theorem State.setTap_aps (s : State) (n : Nat) (h : TapHid) : (s.setTap n h).aps = s.aps := rfl
@[simp] theorem State.setTap_mgmt (s : State) (n : Nat) (h : TapHid) : (s.setTap n h).mgmt = s.mgmt := rfl
@[simp] theorem State.setTap_health (s : State) (n : Nat) (h : TapHid) : (s.setTap n h).health = s.health := rfl
@[simp] theorem State.setTap_fe (s : State) (n : Nat) (h : TapHid) : (s.setTap n h).fe = s.fe := rfl
@[simp] theorem State.setTap_hw (s : State) (n : Nat) (h : TapHid) : (s.setTap n h).hw = s.hw := rfl
@[simp] theorem State.setTap_hand (s : State) (n : Nat) (h : TapHid) : (s.setTap n h).hand = s.hand := rfl
@[simp] theorem State.setTap_aerial (s : State) (n : Nat) (h : TapHid) : (s.setTap n h).aerial = s.aerial := rfl
@[simp] theorem State.setTap_tuner (s : State) (n : Nat) (h : TapHid) : (s.setTap n h).tuner = s.tuner := rfl
@[simp] theorem State.setTap_dom (s : State) (n : Nat) (h : TapHid) : (s.setTap n h).dom = s.dom := rfl
@[simp] theorem State.setTap_bank (s : State) (n : Nat) (h : TapHid) : (s.setTap n h).bank = s.bank := rfl
@[simp] theorem State.setTap_cfg (s : State) (n : Nat) (h : TapHid) : (s.setTap n h).cfg = s.cfg := rfl
@[simp] theorem State.setTap_ring (s : State) (n : Nat) (h : TapHid) : (s.setTap n h).ring = s.ring := rfl
@[simp] theorem State.setTap_latch (s : State) (n : Nat) (h : TapHid) : (s.setTap n h).latch = s.latch := rfl
@[simp] theorem State.setTap_slot (s : State) (n : Nat) (h : TapHid) : (s.setTap n h).slot = s.slot := rfl
@[simp] theorem State.setTap_grp (s : State) (n : Nat) (h : TapHid) : (s.setTap n h).grp = s.grp := rfl
@[simp] theorem State.setTap_lane (s : State) (n : Nat) (h : TapHid) : (s.setTap n h).lane = s.lane := rfl
@[simp] theorem State.setTap_ctxHid (s : State) (n : Nat) (h : TapHid) : (s.setTap n h).ctxHid = s.ctxHid := rfl
@[simp] theorem State.setTap_fol (s : State) (n : Nat) (h : TapHid) : (s.setTap n h).fol = s.fol := rfl
@[simp] theorem State.setTap_ap (s : State) (n : Nat) (h : TapHid) : (s.setTap n h).ap = s.ap := rfl
@[simp] theorem State.setTap_getE (s : State) (n : Nat) (h : TapHid) (z : Fld) (m i : Nat) : (s.setTap n h).getE z m i = s.getE z m i := rfl
@[simp] theorem State.setTap_get (s : State) (n : Nat) (h : TapHid) (z : Fld) (m : Nat) : (s.setTap n h).get z m = s.get z m := rfl
@[simp] theorem State.setTap_on (s : State) (n : Nat) (h : TapHid) (z : Fld) (m : Nat) : (s.setTap n h).on z m = s.on z m := rfl
@[simp] theorem State.setTap_tap_same (s : State) (n : Nat) (h : TapHid) : (s.setTap n h).tap n = h := Tbl.get_set_same _ _ _ _
theorem State.setTap_tap_ne (s : State) {n j : Nat} (h : TapHid) (hj : j ≠ n) : (s.setTap n h).tap j = s.tap j :=
  Tbl.get_set_ne _ _ _ _ hj

@[simp] theorem State.setFol_pending (s : State) (e : Nat) (h : FolHid) : (s.setFol e h).pending = s.pending := rfl
@[simp] theorem State.setFol_fields (s : State) (e : Nat) (h : FolHid) : (s.setFol e h).fields = s.fields := rfl
@[simp] theorem State.setFol_speak (s : State) (e : Nat) (h : FolHid) : (s.setFol e h).speak = s.speak := rfl
@[simp] theorem State.setFol_epochBase (s : State) (e : Nat) (h : FolHid) : (s.setFol e h).epochBase = s.epochBase := rfl
@[simp] theorem State.setFol_epochs (s : State) (e : Nat) (h : FolHid) : (s.setFol e h).epochs = s.epochs := rfl
@[simp] theorem State.setFol_latches (s : State) (e : Nat) (h : FolHid) : (s.setFol e h).latches = s.latches := rfl
@[simp] theorem State.setFol_time (s : State) (e : Nat) (h : FolHid) : (s.setFol e h).time = s.time := rfl
@[simp] theorem State.setFol_aonTime (s : State) (e : Nat) (h : FolHid) : (s.setFol e h).aonTime = s.aonTime := rfl
@[simp] theorem State.setFol_aonPhase (s : State) (e : Nat) (h : FolHid) : (s.setFol e h).aonPhase = s.aonPhase := rfl
@[simp] theorem State.setFol_freeCount (s : State) (e : Nat) (h : FolHid) : (s.setFol e h).freeCount = s.freeCount := rfl
@[simp] theorem State.setFol_resp (s : State) (e : Nat) (h : FolHid) : (s.setFol e h).resp = s.resp := rfl
@[simp] theorem State.setFol_out (s : State) (e : Nat) (h : FolHid) : (s.setFol e h).out = s.out := rfl
@[simp] theorem State.setFol_mode (s : State) (e : Nat) (h : FolHid) : (s.setFol e h).mode = s.mode := rfl
@[simp] theorem State.setFol_doms (s : State) (e : Nat) (h : FolHid) : (s.setFol e h).doms = s.doms := rfl
@[simp] theorem State.setFol_pdQueue (s : State) (e : Nat) (h : FolHid) : (s.setFol e h).pdQueue = s.pdQueue := rfl
@[simp] theorem State.setFol_banks (s : State) (e : Nat) (h : FolHid) : (s.setFol e h).banks = s.banks := rfl
@[simp] theorem State.setFol_pots (s : State) (e : Nat) (h : FolHid) : (s.setFol e h).pots = s.pots := rfl
@[simp] theorem State.setFol_crucible (s : State) (e : Nat) (h : FolHid) : (s.setFol e h).crucible = s.crucible := rfl
@[simp] theorem State.setFol_fes (s : State) (e : Nat) (h : FolHid) : (s.setFol e h).fes = s.fes := rfl
@[simp] theorem State.setFol_hws (s : State) (e : Nat) (h : FolHid) : (s.setFol e h).hws = s.hws := rfl
@[simp] theorem State.setFol_hands (s : State) (e : Nat) (h : FolHid) : (s.setFol e h).hands = s.hands := rfl
@[simp] theorem State.setFol_aerials (s : State) (e : Nat) (h : FolHid) : (s.setFol e h).aerials = s.aerials := rfl
@[simp] theorem State.setFol_tuners (s : State) (e : Nat) (h : FolHid) : (s.setFol e h).tuners = s.tuners := rfl
@[simp] theorem State.setFol_gainLog (s : State) (e : Nat) (h : FolHid) : (s.setFol e h).gainLog = s.gainLog := rfl
@[simp] theorem State.setFol_slots (s : State) (e : Nat) (h : FolHid) : (s.setFol e h).slots = s.slots := rfl
@[simp] theorem State.setFol_groups (s : State) (e : Nat) (h : FolHid) : (s.setFol e h).groups = s.groups := rfl
@[simp] theorem State.setFol_profiles (s : State) (e : Nat) (h : FolHid) : (s.setFol e h).profiles = s.profiles := rfl
@[simp] theorem State.setFol_loader (s : State) (e : Nat) (h : FolHid) : (s.setFol e h).loader = s.loader := rfl
@[simp] theorem State.setFol_snaps (s : State) (e : Nat) (h : FolHid) : (s.setFol e h).snaps = s.snaps := rfl
@[simp] theorem State.setFol_lanes (s : State) (e : Nat) (h : FolHid) : (s.setFol e h).lanes = s.lanes := rfl
@[simp] theorem State.setFol_ctxs (s : State) (e : Nat) (h : FolHid) : (s.setFol e h).ctxs = s.ctxs := rfl
@[simp] theorem State.setFol_taps (s : State) (e : Nat) (h : FolHid) : (s.setFol e h).taps = s.taps := rfl
@[simp] theorem State.setFol_ruleType (s : State) (e : Nat) (h : FolHid) : (s.setFol e h).ruleType = s.ruleType := rfl
@[simp] theorem State.setFol_mets (s : State) (e : Nat) (h : FolHid) : (s.setFol e h).mets = s.mets := rfl
@[simp] theorem State.setFol_ref (s : State) (e : Nat) (h : FolHid) : (s.setFol e h).ref = s.ref := rfl
@[simp] theorem State.setFol_pps (s : State) (e : Nat) (h : FolHid) : (s.setFol e h).pps = s.pps := rfl
@[simp] theorem State.setFol_fcs (s : State) (e : Nat) (h : FolHid) : (s.setFol e h).fcs = s.fcs := rfl
@[simp] theorem State.setFol_clk (s : State) (e : Nat) (h : FolHid) : (s.setFol e h).clk = s.clk := rfl
@[simp] theorem State.setFol_wakeHid (s : State) (e : Nat) (h : FolHid) : (s.setFol e h).wakeHid = s.wakeHid := rfl
@[simp] theorem State.setFol_punty (s : State) (e : Nat) (h : FolHid) : (s.setFol e h).punty = s.punty := rfl
@[simp] theorem State.setFol_lehr (s : State) (e : Nat) (h : FolHid) : (s.setFol e h).lehr = s.lehr := rfl
@[simp] theorem State.setFol_start (s : State) (e : Nat) (h : FolHid) : (s.setFol e h).start = s.start := rfl
@[simp] theorem State.setFol_fg (s : State) (e : Nat) (h : FolHid) : (s.setFol e h).fg = s.fg := rfl
@[simp] theorem State.setFol_otp (s : State) (e : Nat) (h : FolHid) : (s.setFol e h).otp = s.otp := rfl
@[simp] theorem State.setFol_otpSpares (s : State) (e : Nat) (h : FolHid) : (s.setFol e h).otpSpares = s.otpSpares := rfl
@[simp] theorem State.setFol_link (s : State) (e : Nat) (h : FolHid) : (s.setFol e h).link = s.link := rfl
@[simp] theorem State.setFol_cfgs (s : State) (e : Nat) (h : FolHid) : (s.setFol e h).cfgs = s.cfgs := rfl
@[simp] theorem State.setFol_rings (s : State) (e : Nat) (h : FolHid) : (s.setFol e h).rings = s.rings := rfl
@[simp] theorem State.setFol_dmaTurn (s : State) (e : Nat) (h : FolHid) : (s.setFol e h).dmaTurn = s.dmaTurn := rfl
@[simp] theorem State.setFol_walkTurn (s : State) (e : Nat) (h : FolHid) : (s.setFol e h).walkTurn = s.walkTurn := rfl
@[simp] theorem State.setFol_xcache (s : State) (e : Nat) (h : FolHid) : (s.setFol e h).xcache = s.xcache := rfl
@[simp] theorem State.setFol_faults (s : State) (e : Nat) (h : FolHid) : (s.setFol e h).faults = s.faults := rfl
@[simp] theorem State.setFol_attn (s : State) (e : Nat) (h : FolHid) : (s.setFol e h).attn = s.attn := rfl
@[simp] theorem State.setFol_aps (s : State) (e : Nat) (h : FolHid) : (s.setFol e h).aps = s.aps := rfl
@[simp] theorem State.setFol_mgmt (s : State) (e : Nat) (h : FolHid) : (s.setFol e h).mgmt = s.mgmt := rfl
@[simp] theorem State.setFol_health (s : State) (e : Nat) (h : FolHid) : (s.setFol e h).health = s.health := rfl
@[simp] theorem State.setFol_fe (s : State) (e : Nat) (h : FolHid) : (s.setFol e h).fe = s.fe := rfl
@[simp] theorem State.setFol_hw (s : State) (e : Nat) (h : FolHid) : (s.setFol e h).hw = s.hw := rfl
@[simp] theorem State.setFol_hand (s : State) (e : Nat) (h : FolHid) : (s.setFol e h).hand = s.hand := rfl
@[simp] theorem State.setFol_aerial (s : State) (e : Nat) (h : FolHid) : (s.setFol e h).aerial = s.aerial := rfl
@[simp] theorem State.setFol_tuner (s : State) (e : Nat) (h : FolHid) : (s.setFol e h).tuner = s.tuner := rfl
@[simp] theorem State.setFol_dom (s : State) (e : Nat) (h : FolHid) : (s.setFol e h).dom = s.dom := rfl
@[simp] theorem State.setFol_bank (s : State) (e : Nat) (h : FolHid) : (s.setFol e h).bank = s.bank := rfl
@[simp] theorem State.setFol_cfg (s : State) (e : Nat) (h : FolHid) : (s.setFol e h).cfg = s.cfg := rfl
@[simp] theorem State.setFol_ring (s : State) (e : Nat) (h : FolHid) : (s.setFol e h).ring = s.ring := rfl
@[simp] theorem State.setFol_latch (s : State) (e : Nat) (h : FolHid) : (s.setFol e h).latch = s.latch := rfl
@[simp] theorem State.setFol_slot (s : State) (e : Nat) (h : FolHid) : (s.setFol e h).slot = s.slot := rfl
@[simp] theorem State.setFol_grp (s : State) (e : Nat) (h : FolHid) : (s.setFol e h).grp = s.grp := rfl
@[simp] theorem State.setFol_lane (s : State) (e : Nat) (h : FolHid) : (s.setFol e h).lane = s.lane := rfl
@[simp] theorem State.setFol_ctxHid (s : State) (e : Nat) (h : FolHid) : (s.setFol e h).ctxHid = s.ctxHid := rfl
@[simp] theorem State.setFol_tap (s : State) (e : Nat) (h : FolHid) : (s.setFol e h).tap = s.tap := rfl
@[simp] theorem State.setFol_ap (s : State) (e : Nat) (h : FolHid) : (s.setFol e h).ap = s.ap := rfl
@[simp] theorem State.setFol_getE (s : State) (e : Nat) (h : FolHid) (z : Fld) (m i : Nat) : (s.setFol e h).getE z m i = s.getE z m i := rfl
@[simp] theorem State.setFol_get (s : State) (e : Nat) (h : FolHid) (z : Fld) (m : Nat) : (s.setFol e h).get z m = s.get z m := rfl
@[simp] theorem State.setFol_on (s : State) (e : Nat) (h : FolHid) (z : Fld) (m : Nat) : (s.setFol e h).on z m = s.on z m := rfl
@[simp] theorem State.setFol_fol_same (s : State) (e : Nat) (h : FolHid) : (s.setFol e h).fol e = h := Tbl.get_set_same _ _ _ _
theorem State.setFol_fol_ne (s : State) {e j : Nat} (h : FolHid) (hj : j ≠ e) : (s.setFol e h).fol j = s.fol j :=
  Tbl.get_set_ne _ _ _ _ hj

@[simp] theorem State.setAp_pending (s : State) (p : Nat) (h : ApHid) : (s.setAp p h).pending = s.pending := rfl
@[simp] theorem State.setAp_fields (s : State) (p : Nat) (h : ApHid) : (s.setAp p h).fields = s.fields := rfl
@[simp] theorem State.setAp_speak (s : State) (p : Nat) (h : ApHid) : (s.setAp p h).speak = s.speak := rfl
@[simp] theorem State.setAp_epochBase (s : State) (p : Nat) (h : ApHid) : (s.setAp p h).epochBase = s.epochBase := rfl
@[simp] theorem State.setAp_epochs (s : State) (p : Nat) (h : ApHid) : (s.setAp p h).epochs = s.epochs := rfl
@[simp] theorem State.setAp_latches (s : State) (p : Nat) (h : ApHid) : (s.setAp p h).latches = s.latches := rfl
@[simp] theorem State.setAp_time (s : State) (p : Nat) (h : ApHid) : (s.setAp p h).time = s.time := rfl
@[simp] theorem State.setAp_aonTime (s : State) (p : Nat) (h : ApHid) : (s.setAp p h).aonTime = s.aonTime := rfl
@[simp] theorem State.setAp_aonPhase (s : State) (p : Nat) (h : ApHid) : (s.setAp p h).aonPhase = s.aonPhase := rfl
@[simp] theorem State.setAp_freeCount (s : State) (p : Nat) (h : ApHid) : (s.setAp p h).freeCount = s.freeCount := rfl
@[simp] theorem State.setAp_resp (s : State) (p : Nat) (h : ApHid) : (s.setAp p h).resp = s.resp := rfl
@[simp] theorem State.setAp_out (s : State) (p : Nat) (h : ApHid) : (s.setAp p h).out = s.out := rfl
@[simp] theorem State.setAp_mode (s : State) (p : Nat) (h : ApHid) : (s.setAp p h).mode = s.mode := rfl
@[simp] theorem State.setAp_doms (s : State) (p : Nat) (h : ApHid) : (s.setAp p h).doms = s.doms := rfl
@[simp] theorem State.setAp_pdQueue (s : State) (p : Nat) (h : ApHid) : (s.setAp p h).pdQueue = s.pdQueue := rfl
@[simp] theorem State.setAp_banks (s : State) (p : Nat) (h : ApHid) : (s.setAp p h).banks = s.banks := rfl
@[simp] theorem State.setAp_pots (s : State) (p : Nat) (h : ApHid) : (s.setAp p h).pots = s.pots := rfl
@[simp] theorem State.setAp_crucible (s : State) (p : Nat) (h : ApHid) : (s.setAp p h).crucible = s.crucible := rfl
@[simp] theorem State.setAp_fes (s : State) (p : Nat) (h : ApHid) : (s.setAp p h).fes = s.fes := rfl
@[simp] theorem State.setAp_hws (s : State) (p : Nat) (h : ApHid) : (s.setAp p h).hws = s.hws := rfl
@[simp] theorem State.setAp_hands (s : State) (p : Nat) (h : ApHid) : (s.setAp p h).hands = s.hands := rfl
@[simp] theorem State.setAp_aerials (s : State) (p : Nat) (h : ApHid) : (s.setAp p h).aerials = s.aerials := rfl
@[simp] theorem State.setAp_tuners (s : State) (p : Nat) (h : ApHid) : (s.setAp p h).tuners = s.tuners := rfl
@[simp] theorem State.setAp_gainLog (s : State) (p : Nat) (h : ApHid) : (s.setAp p h).gainLog = s.gainLog := rfl
@[simp] theorem State.setAp_slots (s : State) (p : Nat) (h : ApHid) : (s.setAp p h).slots = s.slots := rfl
@[simp] theorem State.setAp_groups (s : State) (p : Nat) (h : ApHid) : (s.setAp p h).groups = s.groups := rfl
@[simp] theorem State.setAp_profiles (s : State) (p : Nat) (h : ApHid) : (s.setAp p h).profiles = s.profiles := rfl
@[simp] theorem State.setAp_loader (s : State) (p : Nat) (h : ApHid) : (s.setAp p h).loader = s.loader := rfl
@[simp] theorem State.setAp_snaps (s : State) (p : Nat) (h : ApHid) : (s.setAp p h).snaps = s.snaps := rfl
@[simp] theorem State.setAp_lanes (s : State) (p : Nat) (h : ApHid) : (s.setAp p h).lanes = s.lanes := rfl
@[simp] theorem State.setAp_ctxs (s : State) (p : Nat) (h : ApHid) : (s.setAp p h).ctxs = s.ctxs := rfl
@[simp] theorem State.setAp_taps (s : State) (p : Nat) (h : ApHid) : (s.setAp p h).taps = s.taps := rfl
@[simp] theorem State.setAp_ruleType (s : State) (p : Nat) (h : ApHid) : (s.setAp p h).ruleType = s.ruleType := rfl
@[simp] theorem State.setAp_fols (s : State) (p : Nat) (h : ApHid) : (s.setAp p h).fols = s.fols := rfl
@[simp] theorem State.setAp_mets (s : State) (p : Nat) (h : ApHid) : (s.setAp p h).mets = s.mets := rfl
@[simp] theorem State.setAp_ref (s : State) (p : Nat) (h : ApHid) : (s.setAp p h).ref = s.ref := rfl
@[simp] theorem State.setAp_pps (s : State) (p : Nat) (h : ApHid) : (s.setAp p h).pps = s.pps := rfl
@[simp] theorem State.setAp_fcs (s : State) (p : Nat) (h : ApHid) : (s.setAp p h).fcs = s.fcs := rfl
@[simp] theorem State.setAp_clk (s : State) (p : Nat) (h : ApHid) : (s.setAp p h).clk = s.clk := rfl
@[simp] theorem State.setAp_wakeHid (s : State) (p : Nat) (h : ApHid) : (s.setAp p h).wakeHid = s.wakeHid := rfl
@[simp] theorem State.setAp_punty (s : State) (p : Nat) (h : ApHid) : (s.setAp p h).punty = s.punty := rfl
@[simp] theorem State.setAp_lehr (s : State) (p : Nat) (h : ApHid) : (s.setAp p h).lehr = s.lehr := rfl
@[simp] theorem State.setAp_start (s : State) (p : Nat) (h : ApHid) : (s.setAp p h).start = s.start := rfl
@[simp] theorem State.setAp_fg (s : State) (p : Nat) (h : ApHid) : (s.setAp p h).fg = s.fg := rfl
@[simp] theorem State.setAp_otp (s : State) (p : Nat) (h : ApHid) : (s.setAp p h).otp = s.otp := rfl
@[simp] theorem State.setAp_otpSpares (s : State) (p : Nat) (h : ApHid) : (s.setAp p h).otpSpares = s.otpSpares := rfl
@[simp] theorem State.setAp_link (s : State) (p : Nat) (h : ApHid) : (s.setAp p h).link = s.link := rfl
@[simp] theorem State.setAp_cfgs (s : State) (p : Nat) (h : ApHid) : (s.setAp p h).cfgs = s.cfgs := rfl
@[simp] theorem State.setAp_rings (s : State) (p : Nat) (h : ApHid) : (s.setAp p h).rings = s.rings := rfl
@[simp] theorem State.setAp_dmaTurn (s : State) (p : Nat) (h : ApHid) : (s.setAp p h).dmaTurn = s.dmaTurn := rfl
@[simp] theorem State.setAp_walkTurn (s : State) (p : Nat) (h : ApHid) : (s.setAp p h).walkTurn = s.walkTurn := rfl
@[simp] theorem State.setAp_xcache (s : State) (p : Nat) (h : ApHid) : (s.setAp p h).xcache = s.xcache := rfl
@[simp] theorem State.setAp_faults (s : State) (p : Nat) (h : ApHid) : (s.setAp p h).faults = s.faults := rfl
@[simp] theorem State.setAp_attn (s : State) (p : Nat) (h : ApHid) : (s.setAp p h).attn = s.attn := rfl
@[simp] theorem State.setAp_mgmt (s : State) (p : Nat) (h : ApHid) : (s.setAp p h).mgmt = s.mgmt := rfl
@[simp] theorem State.setAp_health (s : State) (p : Nat) (h : ApHid) : (s.setAp p h).health = s.health := rfl
@[simp] theorem State.setAp_fe (s : State) (p : Nat) (h : ApHid) : (s.setAp p h).fe = s.fe := rfl
@[simp] theorem State.setAp_hw (s : State) (p : Nat) (h : ApHid) : (s.setAp p h).hw = s.hw := rfl
@[simp] theorem State.setAp_hand (s : State) (p : Nat) (h : ApHid) : (s.setAp p h).hand = s.hand := rfl
@[simp] theorem State.setAp_aerial (s : State) (p : Nat) (h : ApHid) : (s.setAp p h).aerial = s.aerial := rfl
@[simp] theorem State.setAp_tuner (s : State) (p : Nat) (h : ApHid) : (s.setAp p h).tuner = s.tuner := rfl
@[simp] theorem State.setAp_dom (s : State) (p : Nat) (h : ApHid) : (s.setAp p h).dom = s.dom := rfl
@[simp] theorem State.setAp_bank (s : State) (p : Nat) (h : ApHid) : (s.setAp p h).bank = s.bank := rfl
@[simp] theorem State.setAp_cfg (s : State) (p : Nat) (h : ApHid) : (s.setAp p h).cfg = s.cfg := rfl
@[simp] theorem State.setAp_ring (s : State) (p : Nat) (h : ApHid) : (s.setAp p h).ring = s.ring := rfl
@[simp] theorem State.setAp_latch (s : State) (p : Nat) (h : ApHid) : (s.setAp p h).latch = s.latch := rfl
@[simp] theorem State.setAp_slot (s : State) (p : Nat) (h : ApHid) : (s.setAp p h).slot = s.slot := rfl
@[simp] theorem State.setAp_grp (s : State) (p : Nat) (h : ApHid) : (s.setAp p h).grp = s.grp := rfl
@[simp] theorem State.setAp_lane (s : State) (p : Nat) (h : ApHid) : (s.setAp p h).lane = s.lane := rfl
@[simp] theorem State.setAp_ctxHid (s : State) (p : Nat) (h : ApHid) : (s.setAp p h).ctxHid = s.ctxHid := rfl
@[simp] theorem State.setAp_tap (s : State) (p : Nat) (h : ApHid) : (s.setAp p h).tap = s.tap := rfl
@[simp] theorem State.setAp_fol (s : State) (p : Nat) (h : ApHid) : (s.setAp p h).fol = s.fol := rfl
@[simp] theorem State.setAp_getE (s : State) (p : Nat) (h : ApHid) (z : Fld) (m i : Nat) : (s.setAp p h).getE z m i = s.getE z m i := rfl
@[simp] theorem State.setAp_get (s : State) (p : Nat) (h : ApHid) (z : Fld) (m : Nat) : (s.setAp p h).get z m = s.get z m := rfl
@[simp] theorem State.setAp_on (s : State) (p : Nat) (h : ApHid) (z : Fld) (m : Nat) : (s.setAp p h).on z m = s.on z m := rfl
@[simp] theorem State.setAp_ap_same (s : State) (p : Nat) (h : ApHid) : (s.setAp p h).ap p = h := Tbl.get_set_same _ _ _ _
theorem State.setAp_ap_ne (s : State) {p j : Nat} (h : ApHid) (hj : j ≠ p) : (s.setAp p h).ap j = s.ap j :=
  Tbl.get_set_ne _ _ _ _ hj

end Sys2Proof.Machine
end

