-- ==== Sys2Proof/Laws/Core.lean ====
section
/-! SUPPORT. The fields that few commands change: the crucible with its banks, the OTP, the dialects and
device time. Most operations keep them all
(`core`), and the lemmas say so once for each operation. -/

namespace Sys2Proof.Machine

/-- What few commands change: the queue, which none does, the crucible and its banks, the OTP, the dialects and device time. -/
abbrev Core := List Instr × List Host.Cell × Tbl CBank × Tbl Nat × Nat × Tbl Nat × BitVec 64

def State.core (s : State) : Core := (s.pending, s.crucible, s.banks, s.otp, s.otpSpares, s.speak, s.time)

/-- The same of an answer: an error leaves the state as it was. -/
def exCore (s : State) (e : Except Reason State) : Core :=
  match e with
  | .ok t => t.core
  | .error _ => s.core

/-- The same of an optional state. -/
def opCore (s : State) (o : Option State) : Core :=
  match o with
  | some t => t.core
  | none => s.core

/-- The same of an outcome. -/
def outCore (s : State) (o : Host.Outcome State Fault Refusal) : Core :=
  match o with
  | .next t => t.core
  | _ => s.core

theorem core_eta (s : State) : (s.pending, s.crucible, s.banks, s.otp, s.otpSpares, s.speak, s.time) = s.core := rfl

theorem core_mk {a0 a1 a2 a3 a4 a5 a6 a7 a8 a9 a10 a11 a12 a13 a14 a15 a16 a17 a18 a19 a20 a21 a22 a23
    a24 a25 a26 a27 a28 a29 a30 a31 a32 a33 a34 a35 a36 a37 a38 a39 a40 a41 a42 a43 a44 a45 a46 a47
    a48 a49 a50 a51 a52 a53 a54 a55 a56} :
    (State.mk a0 a1 a2 a3 a4 a5 a6 a7 a8 a9 a10 a11 a12 a13 a14 a15 a16 a17 a18 a19 a20 a21 a22 a23
      a24 a25 a26 a27 a28 a29 a30 a31 a32 a33 a34 a35 a36 a37 a38 a39 a40 a41 a42 a43 a44 a45 a46 a47
      a48 a49 a50 a51 a52 a53 a54 a55 a56).core =
      (a0, a17, a15, a44, a45, a2, a6) := rfl

theorem core_ite (c : Prop) [Decidable c] (a b : State) : (if c then a else b).core = if c then a.core else b.core :=
  apply_ite State.core c a b

theorem exCore_ite (s : State) (c : Prop) [Decidable c] (a b : Except Reason State) :
    exCore s (if c then a else b) = if c then exCore s a else exCore s b := apply_ite (exCore s) c a b

theorem opCore_ite (s : State) (c : Prop) [Decidable c] (a b : Option State) :
    opCore s (if c then a else b) = if c then opCore s a else opCore s b := apply_ite (opCore s) c a b

theorem outCore_ite (s : State) (c : Prop) [Decidable c] (a b : Host.Outcome State Fault Refusal) :
    outCore s (if c then a else b) = if c then outCore s a else outCore s b := apply_ite (outCore s) c a b

theorem exCore_ok (s t : State) : exCore s (.ok t) = t.core := rfl
theorem exCore_error (s : State) (r : Reason) : exCore s (.error r) = s.core := rfl
theorem opCore_some (s t : State) : opCore s (some t) = t.core := rfl
theorem opCore_none (s : State) : opCore s none = s.core := rfl
theorem outCore_next (s t : State) : outCore s (.next t) = t.core := rfl

theorem foldl_core {α : Type} (g : State → α → State) (h : ∀ t a, (g t a).core = t.core) (l : List α) (s : State) :
    (l.foldl g s).core = s.core := by
  induction l generalizing s with
  | nil => rfl
  | cons a l ih => rw [List.foldl_cons, ih, h]

/-- An answer whose core is the state's, of whatever state with that core it is said. -/
theorem exCore_congr {s t : State} (e : Except Reason State) (h : s.core = t.core) : exCore s e = exCore t e := by
  cases e with
  | ok u => rfl
  | error r => exact h

theorem ok_core {s t : State} {e : Except Reason State} (hs : exCore s e = s.core) (h : e = .ok t) : t.core = s.core := by
  rw [h] at hs; exact hs

theorem some_core {s t : State} {o : Option State} (hs : opCore s o = s.core) (h : o = some t) : t.core = s.core := by
  rw [h] at hs; exact hs

theorem pair_core {α : Type} {s t : State} {x : α} {p : State × α} (hs : p.1.core = s.core) (h : p = (t, x)) :
    t.core = s.core := by
  rw [h] at hs; exact hs

theorem opCore_map {s : State} {o : Option State} {g : State → State} (ho : opCore s o = s.core)
    (hg : ∀ t, (g t).core = t.core) : opCore s (o.map g) = s.core := by
  cases o with
  | none => rfl
  | some t => exact (hg t).trans ho

theorem opCore_bind {s : State} {o : Option State} {g : State → Option State} (ho : opCore s o = s.core)
    (hg : ∀ t, opCore t (g t) = t.core) : opCore s (o.bind g) = s.core := by
  cases o with
  | none => rfl
  | some t =>
    have h : t.core = s.core := ho
    have hb : opCore t (g t) = s.core := (hg t).trans h
    change opCore s (g t) = s.core
    revert hb
    cases g t with
    | none => intro _; rfl
    | some u => exact id

theorem getD_core {s : State} {o : Option State} (ho : opCore s o = s.core) : (o.getD s).core = s.core := by
  cases o with
  | none => rfl
  | some t => exact ho

/-- An answer whose core is that of the state it started from, said of another state with that core. -/
theorem exCore_of {s u : State} {e : Except Reason State} (h : exCore s e = s.core) (hu : s.core = u.core) :
    exCore u e = u.core := (exCore_congr e hu).symm.trans (h.trans hu)

theorem opCore_of {s u : State} {o : Option State} (h : opCore s o = s.core) (hu : s.core = u.core) :
    opCore u o = u.core := by
  cases o with
  | none => rfl
  | some t => exact h.trans hu

theorem onOk_core {s : State} {r : Except Reason State} {g : State → Except Reason State} (hr : exCore s r = s.core)
    (hg : ∀ t, exCore t (g t) = t.core) : exCore s (onOk r g) = s.core := by
  cases r with
  | error e => rfl
  | ok t =>
    have h : t.core = s.core := hr
    exact (exCore_congr (g t) h.symm).trans ((hg t).trans h)

end Sys2Proof.Machine
end

