-- ==== Sys2Proof/Laws/CoreOps.lean ====
section
/-! SUPPORT. What the operations over registers, events, records and the refusal rules keep: the fields of `core`. -/

namespace Sys2Proof.Machine

set_option linter.unusedSimpArgs false
set_option linter.unreachableTactic false
set_option linter.unusedTactic false
set_option linter.unnecessarySeqFocus false

theorem State.putE_core (s : State) (f : Fld) (n e v : Nat) :
    (State.putE s f n e v).core = s.core := by
  simp only [State.putE, ↓core_mk, eq_self, core_eta]

theorem State.put_core (s : State) (f : Fld) (n v : Nat) :
    (State.put s f n v).core = s.core := by
  simp only [State.put, eq_self, State.putE_core]

theorem State.count_core (s : State) (f : Fld) (n k : Nat) :
    (State.count s f n k).core = s.core := by
  simp only [State.count, eq_self, State.put_core]

theorem State.countE_core (s : State) (f : Fld) (n e k : Nat) :
    (State.countE s f n e k).core = s.core := by
  simp only [State.countE, eq_self, State.putE_core]

theorem State.puts_core (s : State) (n : Nat) (l : List (Fld × Nat)) : (s.puts n l).core = s.core := by
  induction l generalizing s with
  | nil => rfl
  | cons p l ih => exact (ih _).trans rfl

theorem State.resetRegs_core (s : State) (b : Blk) (n : Nat) :
    (State.resetRegs s b n).core = s.core := by
  simp only [State.resetRegs, ↓core_mk, eq_self, core_eta]

theorem State.resetFlds_core (s : State) (n : Nat) (l : List Fld) : (s.resetFlds n l).core = s.core := by
  induction l generalizing s with
  | nil => rfl
  | cons f l ih =>
    refine (ih _).trans (foldl_core _ ?_ _ _)
    intro t e
    rfl

theorem State.resetKeep_core (s : State) (b : Blk) (n : Nat) (keep : List Fld) :
    (State.resetKeep s b n keep).core = s.core := by
  simp only [State.resetKeep, eq_self, implies_true, foldl_core, State.putE_core, State.resetRegs_core]

theorem State.setFe_core (s : State) (n : Nat) (h : FeHid) :
    (State.setFe s n h).core = s.core := by
  simp only [State.setFe, ↓core_mk, eq_self, core_eta]

theorem State.setHw_core (s : State) (n : Nat) (h : HwHid) :
    (State.setHw s n h).core = s.core := by
  simp only [State.setHw, ↓core_mk, eq_self, core_eta]

theorem State.setHand_core (s : State) (k : Nat) (h : Handover) :
    (State.setHand s k h).core = s.core := by
  simp only [State.setHand, ↓core_mk, eq_self, core_eta]

theorem State.setAerial_core (s : State) (p : Nat) (h : PortHid) :
    (State.setAerial s p h).core = s.core := by
  simp only [State.setAerial, ↓core_mk, eq_self, core_eta]

theorem State.setTuner_core (s : State) (p : Nat) (h : TunHid) :
    (State.setTuner s p h).core = s.core := by
  simp only [State.setTuner, ↓core_mk, eq_self, core_eta]

theorem State.setDom_core (s : State) (d : Nat) (h : Dom) :
    (State.setDom s d h).core = s.core := by
  simp only [State.setDom, ↓core_mk, eq_self, core_eta]

theorem State.setCfg_core (s : State) (f : Nat) (h : Cfg) :
    (State.setCfg s f h).core = s.core := by
  simp only [State.setCfg, ↓core_mk, eq_self, core_eta]

theorem State.setRing_core (s : State) (r : Nat) (h : RingHid) :
    (State.setRing s r h).core = s.core := by
  simp only [State.setRing, ↓core_mk, eq_self, core_eta]

theorem State.setLatch_core (s : State) (a : Accessor) (h : Latches) :
    (State.setLatch s a h).core = s.core := by
  simp only [State.setLatch, ↓core_mk, eq_self, core_eta]

theorem State.setSlot_core (s : State) (n : Nat) (h : SlotHid) :
    (State.setSlot s n h).core = s.core := by
  simp only [State.setSlot, ↓core_mk, eq_self, core_eta]

theorem State.setGrp_core (s : State) (g : Nat) (h : Grp) :
    (State.setGrp s g h).core = s.core := by
  simp only [State.setGrp, ↓core_mk, eq_self, core_eta]

theorem State.setLane_core (s : State) (n : Nat) (h : LaneHid) :
    (State.setLane s n h).core = s.core := by
  simp only [State.setLane, ↓core_mk, eq_self, core_eta]

theorem State.setCtx_core (s : State) (c : Ctx) (h : CtxHid) :
    (State.setCtx s c h).core = s.core := by
  simp only [State.setCtx, ↓core_mk, eq_self, core_eta]

theorem State.setTap_core (s : State) (n : Nat) (h : TapHid) :
    (State.setTap s n h).core = s.core := by
  simp only [State.setTap, ↓core_mk, eq_self, core_eta]

theorem State.setFol_core (s : State) (e : Nat) (h : FolHid) :
    (State.setFol s e h).core = s.core := by
  simp only [State.setFol, ↓core_mk, eq_self, core_eta]

theorem State.setAp_core (s : State) (p : Nat) (h : ApHid) :
    (State.setAp s p h).core = s.core := by
  simp only [State.setAp, ↓core_mk, eq_self, core_eta]

theorem State.freeUsed_core (s : State) :
    (State.freeUsed s).core = s.core := by
  simp only [State.freeUsed, ↓core_mk, eq_self, core_eta]

theorem State.send_core (s : State) (o : Out) :
    (State.send s o).core = s.core := by
  simp only [State.send, ↓core_mk, eq_self, core_eta]

theorem State.bumpEpoch_core (s : State) (r : Res) :
    (State.bumpEpoch s r).core = s.core := by
  simp only [State.bumpEpoch, ↓core_mk, eq_self, core_eta]

theorem State.bumpAll_core (s : State) :
    (State.bumpAll s).core = s.core := by
  simp only [State.bumpAll, ↓core_mk, eq_self, core_eta]

theorem State.bumpList_core (s : State) (rs : List Res) :
    (State.bumpList s rs).core = s.core := by
  simp only [State.bumpList, eq_self, implies_true, foldl_core, State.bumpEpoch_core]

theorem State.allocPots_core (s : State) (f : Nat) (u : PotUser) (k : Nat) :
    opCore s (State.allocPots s f u k) = s.core := by
  simp only [State.allocPots, ↓core_mk, eq_self, opCore_ite, opCore_some, opCore_none, ite_self, core_eta]

theorem State.freePotsOf_core (s : State) (u : PotUser) :
    (State.freePotsOf s u).core = s.core := by
  simp only [State.freePotsOf, ↓core_mk, eq_self, core_eta]

theorem State.trimPots_core (s : State) (u : PotUser) (k : Nat) :
    (State.trimPots s u k).core = s.core := by
  simp only [State.trimPots, ↓core_mk, eq_self, core_eta]

theorem State.message_core (s : State) (f v : Nat) :
    (State.message s f v).core = s.core := by
  simp only [State.message, eq_self, core_ite, ite_self, State.putE_core, State.send_core]

theorem State.pageMessage_core (s : State) (f p : Nat) :
    (State.pageMessage s f p).core = s.core := by
  simp only [State.pageMessage, eq_self, core_ite, ite_self, State.message_core]

theorem State.flushPending_core (s : State) (f : Nat) :
    (State.flushPending s f).core = s.core := by
  simp only [State.flushPending, eq_self, implies_true, core_ite, ite_self, foldl_core, State.message_core, State.putE_core]

theorem State.withRise_core (s : State) (b : Blk) (n f : Nat) (g : State → State) (hg : (g s).core = s.core) :
    (State.withRise s b n f g).core = s.core := by
  simp only [State.withRise, eq_self, core_ite, ite_self, State.pageMessage_core, hg]

theorem State.attnKick_core (s : State) :
    (State.attnKick s).core = s.core := by
  simp only [State.attnKick, ↓core_mk, eq_self, core_ite, ite_self, core_eta, State.put_core]

theorem State.attnMark_core (s : State) (k : Nat) :
    (State.attnMark s k).core = s.core := by
  simp only [State.attnMark, ↓core_mk, eq_self, core_ite, ite_self, core_eta, State.attnKick_core, State.put_core]

theorem State.setEvt_core (s : State) (b : Blk) (n e : Nat) :
    (State.setEvt s b n e).core = s.core := by
  simp only [State.setEvt, eq_self, core_ite, ite_self, State.put_core]

theorem State.raise_core (s : State) (b : Blk) (n e : Nat) :
    (State.raise s b n e).core = s.core := by
  simp only [State.raise]; (repeat' split) <;> simp only [eq_self, State.attnMark_core, State.setEvt_core, State.withRise_core]

theorem State.raiseOn_core (s : State) (b : Blk) (n e : Nat) :
    (State.raiseOn s b n e).core = s.core := by
  simp only [State.raiseOn, eq_self, core_ite, ite_self, State.raise_core]

theorem State.raiseViews_core (s : State) (b : Blk) (e : Nat) (vs : List Nat) :
    (State.raiseViews s b e vs).core = s.core := by
  simp only [State.raiseViews]; (repeat' split) <;> simp only [eq_self, implies_true, core_ite, ite_self, foldl_core, State.attnMark_core, State.setEvt_core, State.withRise_core]

theorem State.logAccess_core (s : State) (a : Accessor) (page off : Nat) (r : Reason) :
    (State.logAccess s a page off r).core = s.core := by
  simp only [State.logAccess, eq_self, State.count_core, State.put_core]

theorem State.discard_core (s : State) (a : Accessor) (b : Blk) (n off : Nat) (r : Reason) :
    (State.discard s a b n off r).core = s.core := by
  simp only [State.discard, eq_self, State.logAccess_core, State.raise_core]

theorem State.starve_core (s : State) (r : Nat) :
    (State.starve s r).core = s.core := by
  simp only [State.starve, eq_self, core_ite, ite_self, State.put_core, State.raise_core]

theorem State.showFill_core (s : State) (r : Nat) :
    (State.showFill s r).core = s.core := by
  simp only [State.showFill, eq_self, core_ite, ite_self, State.put_core]

theorem State.enter_core (s : State) (r : Nat) (x : Rec) :
    (State.enter s r x).core = s.core := by
  simp only [State.enter, eq_self, State.put_core, State.setRing_core, State.showFill_core, State.starve_core]

theorem State.cull_core (s : State) (r : Nat) (x : Rec) (tracked : Bool) :
    (State.cull s r x tracked).core = s.core := by
  simp only [State.cull, eq_self, core_ite, ite_self, State.count_core, State.put_core, State.raise_core, State.setRing_core]

theorem State.offer_core (s : State) (r : Nat) (x : Rec) :
    (State.offer s r x).core = s.core := by
  simp only [State.offer]; (repeat' split) <;> simp only [eq_self, State.cull_core, State.enter_core, State.put_core, State.setRing_core]

theorem State.overflowGap_core (s : State) (r : Nat) :
    (State.overflowGap s r).core = s.core := by
  simp only [State.overflowGap]; (repeat' split) <;> simp only [eq_self, State.enter_core, State.setRing_core]

theorem State.deliver_core (s : State) (f r : Nat) (x : Rec) :
    (State.deliver s f r x).core = s.core := by
  simp only [State.deliver, eq_self, core_ite, ite_self, State.offer_core]

theorem State.unreached_core (s : State) (a : Accessor) : (s.unreached a).core = s.core := by
  cases a with
  | pf n => simp only [State.unreached, core_ite, State.send_core, ite_self]
  | mgmt => rfl

theorem State.settle_core (s : State) (a : Accessor) (b : Blk) (n off : Nat) (r : Except Reason State)
    (hr : exCore s r = s.core) : (s.settle a b n off r).core = s.core := by
  cases r with
  | ok t => exact hr
  | error e => exact s.discard_core a b n off e

theorem State.regWrite_core (s : State) (a : Accessor) (b : Blk) (n off : Nat) (h : State → Except Reason State)
    (hh : exCore s (h s) = s.core) : (s.regWrite a b n off h).core = s.core := by
  simp only [State.regWrite]
  (repeat' split) <;> simp only [State.unreached_core, State.discard_core, State.settle_core, hh]

theorem withEpoch_core (e : Nat) (w : Word) (h : State → Except Reason State) (s : State) (hh : exCore s (h s) = s.core) :
    exCore s (withEpoch e w h s) = s.core := by
  simp only [withEpoch, eq_self, exCore_ite, exCore_error, ite_self, hh]

theorem State.cmdWrite_core (s : State) (a : Accessor) (b : Blk) (n off : Nat) (w : Word) (h : State → Except Reason State) (hh : exCore s (h s) = s.core) :
    (State.cmdWrite s a b n off w h).core = s.core := by
  simp only [State.cmdWrite, eq_self, State.regWrite_core, withEpoch_core, hh]

theorem State.hdrWrite_core (s : State) (a : Accessor) (b : Blk) (n off : Nat) (reset ctrl : Bool)
    (h : State → Except Reason State) (hh : exCore s (h s) = s.core) : (s.hdrWrite a b n off reset ctrl h).core = s.core := by
  simp only [State.hdrWrite]
  (repeat' split) <;> simp only [State.unreached_core, State.discard_core, State.settle_core, hh]

theorem State.writeFld_core (s : State) (n : Nat) (f : Fld) (e v : Nat) :
    (State.writeFld s n f e v).core = s.core := by
  simp only [State.writeFld]; (repeat' split) <;> simp only [eq_self, State.putE_core]

theorem plainWrite_core (b : Blk) (n off major : Nat) (w : Word) (s : State) :
    exCore s (plainWrite b n off major w s) = s.core := by
  simp only [plainWrite, eq_self, implies_true, exCore_ite, exCore_ok, exCore_error, ite_self, foldl_core, State.writeFld_core]

theorem checked_core (ok : Bool) (s : State) :
    exCore s (checked ok s) = s.core := by
  simp only [checked, eq_self, exCore_ite, exCore_ok, exCore_error, ite_self]

end Sys2Proof.Machine
end

