-- ==== Sys2Proof/Laws/CoreFrontEnd.lean ====
section
/-! SUPPORT. What the operations over the front-ends, calibration and aerials keep: the fields of `core`. -/

namespace Sys2Proof.Machine

set_option linter.unusedSimpArgs false
set_option linter.unreachableTactic false
set_option linter.unusedTactic false
set_option linter.unnecessarySeqFocus false

theorem State.markStale_core (s : State) (n : Nat) :
    (State.markStale s n).core = s.core := by
  simp only [State.markStale, eq_self, core_ite, ite_self, State.put_core, State.raise_core, State.setFe_core]

theorem State.windowFresh_core (s : State) (n : Nat) :
    (State.windowFresh s n).core = s.core := by
  simp only [State.windowFresh, eq_self, State.putE_core, State.put_core, State.setFe_core]

theorem State.putTun_core (s : State) (p w : Nat) :
    (State.putTun s p w).core = s.core := by
  simp only [State.putTun, eq_self, State.putE_core]

theorem State.sweepCancel_core (s : State) (p : Nat) :
    (State.sweepCancel s p).core = s.core := by
  simp only [State.sweepCancel, eq_self, State.putTun_core, State.put_core, State.raise_core, State.setTuner_core]

theorem State.dropProbe_core (s : State) (p : Option Probe) :
    (State.dropProbe s p).core = s.core := by
  simp only [State.dropProbe]; (repeat' split) <;> simp only [eq_self, State.sweepCancel_core]

theorem State.beginStep_core (s : State) (n x : Nat) :
    (State.beginStep s n x).core = s.core := by
  simp only [State.beginStep, eq_self, State.put_core, State.setFe_core]

theorem State.startMove_core (s : State) (n : Nat) :
    (State.startMove s n).core = s.core := by
  simp only [State.startMove, eq_self, core_ite, ite_self, State.beginStep_core]

theorem State.cancelProbe_core (s : State) (n : Nat) :
    (State.cancelProbe s n).core = s.core := by
  simp only [State.cancelProbe, eq_self, core_ite, ite_self, State.dropProbe_core, State.put_core, State.raise_core, State.setFe_core]

theorem State.cancelBurst_core (s : State) (n : Nat) :
    (State.cancelBurst s n).core = s.core := by
  simp only [State.cancelBurst, eq_self, core_ite, ite_self, State.put_core, State.raise_core, State.setFe_core]

theorem State.partTarget1_core (s : State) (n t : Nat) :
    (State.partTarget1 s n t).core = s.core := by
  simp only [State.partTarget1, eq_self, core_ite, ite_self, State.cancelProbe_core, State.put_core, State.startMove_core]

theorem State.partTarget_core (s : State) (n t : Nat) :
    (State.partTarget s n t).core = s.core := by
  simp only [State.partTarget, eq_self, implies_true, foldl_core, State.partTarget1_core]

theorem State.partGroup_core (s : State) (n g : Nat) (join : Bool) :
    (State.partGroup s n g join).core = s.core := by
  simp only [State.partGroup, eq_self, implies_true, foldl_core, State.put_core]

theorem State.abandonHandover_core (s : State) (k reason : Nat) :
    (State.abandonHandover s k reason).core = s.core := by
  simp only [State.abandonHandover]; (repeat' split) <;> simp only [eq_self, State.count_core, State.partGroup_core, State.put_core, State.raise_core, State.setHand_core]

theorem State.abandonFor_core (s : State) (n reason : Nat) :
    (State.abandonFor s n reason).core = s.core := by
  simp only [State.abandonFor]; (repeat' split) <;> simp only [eq_self, State.abandonHandover_core]

theorem State.hostTarget1_core (s : State) (n t : Nat) :
    (State.hostTarget1 s n t).core = s.core := by
  simp only [State.hostTarget1, eq_self, State.abandonFor_core, State.cancelBurst_core, State.cancelProbe_core, State.put_core, State.startMove_core]

theorem feCtrlWrite_core (n : Nat) (w : Word) (s : State) :
    exCore s (feCtrlWrite n w s) = s.core := by
  simp only [feCtrlWrite, eq_self, implies_true, exCore_ite, exCore_ok, exCore_error, ite_self, foldl_core, State.hostTarget1_core, State.put_core]

theorem State.startProbe_core (s : State) (n : Nat) (p : Probe) :
    (State.startProbe s n p).core = s.core := by
  simp only [State.startProbe, eq_self, State.beginStep_core, State.put_core, State.setFe_core]

theorem State.acceptProbe_core (s : State) (n : Nat) (p : Probe) :
    (State.acceptProbe s n p).core = s.core := by
  simp only [State.acceptProbe, eq_self, core_ite, ite_self, State.dropProbe_core, State.put_core, State.raise_core, State.setFe_core, State.startProbe_core]

theorem probeGo_core (a : Accessor) (b : Blk) (off n : Nat) (p : Probe) (okTone : Bool) (s : State) :
    exCore s (probeGo a b off n p okTone s) = s.core := by
  simp only [probeGo, eq_self, exCore_ite, exCore_ok, exCore_error, ite_self, State.acceptProbe_core, State.discard_core, State.raise_core]

theorem feProbeWrite_core (a : Accessor) (n : Nat) (w : Word) (s : State) :
    exCore s (feProbeWrite a n w s) = s.core := by
  simp only [feProbeWrite, eq_self, exCore_ite, exCore_ok, exCore_error, ite_self, probeGo_core]

theorem State.gammaResult_core (s : State) (n mag : Nat) (phase : Int) :
    (State.gammaResult s n mag phase).core = s.core := by
  simp only [State.gammaResult, eq_self, core_ite, ite_self, State.putE_core, State.raise_core]

theorem State.leaveProbe_core (s : State) (n : Nat) :
    (State.leaveProbe s n).core = s.core := by
  simp only [State.leaveProbe, eq_self, core_ite, ite_self, State.put_core, State.raise_core, State.setFe_core, State.startMove_core]

theorem State.burstEndIfDue_core (s : State) (n : Nat) :
    (State.burstEndIfDue s n).core = s.core := by
  simp only [State.burstEndIfDue]; (repeat' split) <;> simp only [eq_self, State.partTarget_core, State.put_core, State.raise_core, State.setFe_core]

theorem feBurstWrite_core (n major : Nat) (w : Word) (s : State) :
    exCore s (feBurstWrite n major w s) = s.core := by
  simp only [feBurstWrite]; (repeat' split) <;> simp only [eq_self, exCore_ok, exCore_error, State.cancelBurst_core, State.partTarget_core, State.put_core, State.setFe_core]

theorem State.burstFrame_core (s : State) (drm : Bool) (c : Nat) :
    (State.burstFrame s drm c).core = s.core := by
  simp only [State.burstFrame]; refine foldl_core _ (fun t a => ?_) _ _; (repeat' split) <;> simp only [eq_self, State.put_core, State.setFe_core]

theorem State.gainStepIfDue_core (s : State) (n : Nat) :
    (State.gainStepIfDue s n).core = s.core := by
  simp only [State.gainStepIfDue]; (repeat' split) <;> simp only [↓core_mk, eq_self, core_eta, State.count_core, State.put_core, State.raise_core, State.setFe_core]

theorem State.gainDecide_core (s : State) (n : Nat) (peak : Int) :
    (State.gainDecide s n peak).core = s.core := by
  simp only [State.gainDecide, eq_self, core_ite, ite_self, State.setFe_core]

theorem State.gainFast_core (s : State) (n full : Nat) :
    (State.gainFast s n full).core = s.core := by
  simp only [State.gainFast, eq_self, core_ite, ite_self, State.setFe_core]

theorem feGainWritten_core (n : Nat) (s : State) :
    exCore s (feGainWritten n s) = s.core := by
  simp only [feGainWritten, eq_self, exCore_ite, exCore_ok, exCore_error, ite_self, State.setFe_core]

theorem State.applyWindow_core (s : State) (n start span pol : Nat) :
    (State.applyWindow s n start span pol).core = s.core := by
  simp only [State.applyWindow, eq_self, core_ite, ite_self, State.markStale_core, State.put_core, State.setFe_core]

theorem feTuneWrite_core (n : Nat) (w : Word) (s : State) :
    exCore s (feTuneWrite n w s) = s.core := by
  simp only [feTuneWrite, eq_self, implies_true, exCore_ite, exCore_ok, exCore_error, ite_self, foldl_core, State.applyWindow_core]

theorem State.latchFrame_core (s : State) (n : Nat) :
    (State.latchFrame s n).core = s.core := by
  simp only [State.latchFrame, eq_self, State.setFe_core]

theorem State.retuneStart1_core (s : State) (n : Nat) :
    (State.retuneStart1 s n).core = s.core := by
  simp only [State.retuneStart1, eq_self, core_ite, ite_self, State.latchFrame_core, State.put_core, State.setFe_core]

theorem State.retuneDone1_core (s : State) (n : Nat) :
    (State.retuneDone1 s n).core = s.core := by
  simp only [State.retuneDone1, eq_self, core_ite, ite_self, State.latchFrame_core, State.put_core, State.raise_core]

theorem State.formPair_core (s : State) (n p g : Nat) :
    (State.formPair s n p g).core = s.core := by
  simp only [State.formPair, eq_self, core_ite, ite_self, State.applyWindow_core, State.puts_core, State.setGrp_core]

theorem State.dissolvePair_core (s : State) (n : Nat) :
    (State.dissolvePair s n).core = s.core := by
  simp only [State.dissolvePair, eq_self, State.puts_core, State.setGrp_core]

theorem feRoleWrite_core (n : Nat) (w : Word) (s : State) :
    exCore s (feRoleWrite n w s) = s.core := by
  simp only [feRoleWrite]; (repeat' split) <;> simp only [eq_self, exCore_ok, exCore_error, State.dissolvePair_core, State.formPair_core, State.partTarget_core, State.put_core]

theorem State.feReset_core (s : State) (n : Nat) :
    (State.feReset s n).core = s.core := by
  simp only [State.feReset, eq_self, core_ite, ite_self, State.abandonFor_core, State.dissolvePair_core, State.dropProbe_core, State.put_core, State.raise_core, State.resetRegs_core, State.setFe_core]

theorem State.synthOff_core (s : State) (n : Nat) :
    (State.synthOff s n).core = s.core := by
  simp only [State.synthOff, eq_self, State.put_core, State.setFe_core]

theorem State.stepDone_core (s : State) (n x : Nat) :
    (State.stepDone s n x).core = s.core := by
  simp only [State.stepDone, eq_self, core_ite, ite_self, State.beginStep_core, State.put_core, State.raise_core, State.setFe_core, State.startMove_core, State.synthOff_core]

theorem execTuneCommit_core (a : Accessor) (f : Fin 8) (w : Word) (s : State) :
    outCore s (execTuneCommit a f w s) = s.core := by
  simp only [execTuneCommit, eq_self, outCore_next, State.cmdWrite_core, feTuneWrite_core]

theorem execRetuneStart_core (f : Fin 8) (s : State) :
    outCore s (execRetuneStart f s) = s.core := by
  simp only [execRetuneStart, eq_self, implies_true, outCore_next, foldl_core, State.retuneStart1_core]

theorem execRetuneDone_core (f : Fin 8) (s : State) :
    outCore s (execRetuneDone f s) = s.core := by
  simp only [execRetuneDone, eq_self, implies_true, outCore_next, foldl_core, State.retuneDone1_core]

theorem execFeStateWrite_core (a : Accessor) (f : Fin 8) (w : Word) (s : State) :
    outCore s (execFeStateWrite a f w s) = s.core := by
  simp only [execFeStateWrite, eq_self, outCore_next, State.regWrite_core, feCtrlWrite_core]

theorem execFeStepDone_core (f : Fin 8) (s : State) :
    outCore s (execFeStepDone f s) = s.core := by
  simp only [execFeStepDone]; (repeat' split) <;> simp only [eq_self, implies_true, outCore_next, foldl_core, State.stepDone_core]

theorem execQcalDone_core (f : Fin 8) (s : State) :
    outCore s (execQcalDone f s) = s.core := by
  simp only [execQcalDone, eq_self, outCore_ite, outCore_next, ite_self, State.raise_core, State.setFe_core, State.windowFresh_core]

theorem execLockLost_core (f : Fin 8) (s : State) :
    outCore s (execLockLost f s) = s.core := by
  simp only [execLockLost, eq_self, core_ite, outCore_ite, outCore_next, ite_self, State.abandonFor_core, State.cancelProbe_core, State.put_core, State.raise_core, State.setFe_core, State.startMove_core]

theorem execFeRelockDone_core (f : Fin 8) (s : State) :
    outCore s (execFeRelockDone f s) = s.core := by
  simp only [execFeRelockDone, eq_self, outCore_ite, outCore_next, ite_self, State.put_core, State.setFe_core]

theorem execProbeCommand_core (a : Accessor) (f : Fin 8) (w : Word) (s : State) :
    outCore s (execProbeCommand a f w s) = s.core := by
  simp only [execProbeCommand, eq_self, outCore_next, State.cmdWrite_core, feProbeWrite_core]

theorem execProbeStart_core (f : Fin 8) (s : State) :
    outCore s (execProbeStart f s) = s.core := by
  simp only [execProbeStart]; (repeat' split) <;> simp only [eq_self, outCore_next, State.put_core, State.setFe_core, State.startProbe_core]

theorem execProbeDone_core (f : Fin 8) (level phase : Int) (gammaMag : Fin 1025) (gammaPhase : Int) (s : State) :
    outCore s (execProbeDone f level phase gammaMag gammaPhase s) = s.core := by
  simp only [execProbeDone]; (repeat' split) <;> simp only [eq_self, outCore_next, State.gammaResult_core, State.leaveProbe_core, State.puts_core, State.raise_core]

theorem execBurstGo_core (a : Accessor) (f : Fin 8) (w : Word) (s : State) :
    outCore s (execBurstGo a f w s) = s.core := by
  simp only [execBurstGo, eq_self, outCore_next, State.cmdWrite_core, feBurstWrite_core]

theorem execBurstStop_core (a : Accessor) (f : Fin 8) (w : Word) (s : State) :
    outCore s (execBurstStop a f w s) = s.core := by
  simp only [execBurstStop, eq_self, outCore_next, State.cmdWrite_core, feBurstWrite_core]

theorem execBurstEnd_core (f : Fin 8) (s : State) :
    outCore s (execBurstEnd f s) = s.core := by
  simp only [execBurstEnd, eq_self, outCore_next, State.burstEndIfDue_core]

theorem execBurstTimeout_core (f : Fin 8) (s : State) :
    outCore s (execBurstTimeout f s) = s.core := by
  simp only [execBurstTimeout]; (repeat' split) <;> simp only [eq_self, outCore_next, State.partTarget_core, State.put_core, State.raise_core, State.setFe_core]

theorem execGainBlockEnd_core (f : Fin 8) (peakCdb : Int) (fullScale : Bool) (s : State) :
    outCore s (execGainBlockEnd f peakCdb fullScale s) = s.core := by
  simp only [execGainBlockEnd, eq_self, core_ite, outCore_ite, outCore_next, ite_self, State.gainDecide_core, State.raise_core]

theorem execGainStep_core (f : Fin 8) (s : State) :
    outCore s (execGainStep f s) = s.core := by
  simp only [execGainStep, eq_self, outCore_next, State.gainStepIfDue_core]

theorem execDiversityPairForm_core (a : Accessor) (f : Fin 8) (w : Word) (s : State) :
    outCore s (execDiversityPairForm a f w s) = s.core := by
  simp only [execDiversityPairForm, eq_self, outCore_next, State.regWrite_core, feRoleWrite_core]

theorem execPairDissolve_core (a : Accessor) (f : Fin 8) (w : Word) (s : State) :
    outCore s (execPairDissolve a f w s) = s.core := by
  simp only [execPairDissolve, eq_self, outCore_next, State.regWrite_core, feRoleWrite_core]

theorem execSpareDesignate_core (a : Accessor) (f : Fin 8) (w : Word) (s : State) :
    outCore s (execSpareDesignate a f w s) = s.core := by
  simp only [execSpareDesignate, eq_self, outCore_next, State.regWrite_core, feRoleWrite_core]

theorem execFeSleepStale_core (f : Fin 8) (s : State) :
    outCore s (execFeSleepStale f s) = s.core := by
  simp only [execFeSleepStale, eq_self, outCore_ite, outCore_next, ite_self, State.markStale_core]

theorem execFeTempSample_core (f : Fin 8) (temp : Int) (s : State) :
    outCore s (execFeTempSample f temp s) = s.core := by
  simp only [execFeTempSample, eq_self, outCore_ite, outCore_next, ite_self, State.markStale_core, State.setHw_core]

theorem feCalWritten_core (n : Nat) (s : State) :
    exCore s (feCalWritten n s) = s.core := by
  simp only [feCalWritten, eq_self, exCore_ite, exCore_ok, exCore_error, ite_self]

theorem State.stepKept_core (s : State) (n i : Nat) :
    (State.stepKept s n i).core = s.core := by
  simp only [State.stepKept, eq_self, core_ite, ite_self, State.setFe_core, State.setHw_core, State.windowFresh_core]

theorem State.stepRejected_core (s : State) (n i : Nat) :
    (State.stepRejected s n i).core = s.core := by
  simp only [State.stepRejected, eq_self, core_ite, ite_self, State.put_core, State.raise_core, State.setHw_core]

theorem execCalStepStart_core (f : Fin 8) (s : State) :
    outCore s (execCalStepStart f s) = s.core := by
  simp only [execCalStepStart, eq_self, outCore_ite, outCore_next, ite_self, State.setFe_core]

theorem execScheduledCal_core (f : Fin 8) (s : State) :
    outCore s (execScheduledCal f s) = s.core := by
  simp only [execScheduledCal, eq_self, outCore_ite, outCore_next, ite_self, State.latchFrame_core, State.setFe_core]

theorem execCalStepEnd_core (f : Fin 8) (plausible : Bool) (s : State) :
    outCore s (execCalStepEnd f plausible s) = s.core := by
  simp only [execCalStepEnd]; (repeat' split) <;> simp only [eq_self, outCore_next, State.setFe_core, State.startMove_core, State.stepKept_core, State.stepRejected_core]

theorem State.startHandover_core (s : State) (k n sp : Nat) :
    (State.startHandover s k n sp).core = s.core := by
  simp only [State.startHandover, eq_self, State.partGroup_core, State.put_core, State.puts_core, State.setHand_core]

theorem State.requestHandover_core (s : State) (k : Nat) (w : Option Nat) :
    (State.requestHandover s k w).core = s.core := by
  simp only [State.requestHandover]; (repeat' split) <;> simp only [eq_self, State.setHand_core, State.startHandover_core]

theorem execRotationPeriod_core (lmh : Bool) (s : State) :
    outCore s (execRotationPeriod lmh s) = s.core := by
  simp only [execRotationPeriod, eq_self, outCore_next, State.requestHandover_core]

theorem calRotWrite_core (w : Word) (s : State) :
    exCore s (calRotWrite w s) = s.core := by
  simp only [calRotWrite, eq_self, exCore_ite, exCore_ok, exCore_error, ite_self, State.requestHandover_core]

theorem execCalRotCmd_core (a : Accessor) (w : Word) (s : State) :
    outCore s (execCalRotCmd a w s) = s.core := by
  simp only [execCalRotCmd, eq_self, outCore_next, State.regWrite_core, calRotWrite_core]

theorem execMatchAttemptEnd_core (lmh : Bool) (gain phase delay : Int) (s : State) :
    outCore s (execMatchAttemptEnd lmh gain phase delay s) = s.core := by
  simp only [execMatchAttemptEnd, eq_self, core_ite, outCore_ite, outCore_next, ite_self, State.abandonHandover_core, State.put_core, State.puts_core, State.setHand_core]

theorem State.rotationSwitchIfDue_core (s : State) (k : Nat) :
    (State.rotationSwitchIfDue s k).core = s.core := by
  simp only [State.rotationSwitchIfDue]; (repeat' split) <;> simp only [eq_self, State.count_core, State.partGroup_core, State.put_core, State.raise_core, State.setHand_core, State.windowFresh_core]

theorem execRotationSwitch_core (lmh : Bool) (s : State) :
    outCore s (execRotationSwitch lmh s) = s.core := by
  simp only [execRotationSwitch, eq_self, outCore_next, State.rotationSwitchIfDue_core]

theorem execFullCalDone_core (lmh : Bool) (s : State) :
    outCore s (execFullCalDone lmh s) = s.core := by
  simp only [execFullCalDone]; (repeat' split) <;> simp only [eq_self, outCore_next, State.put_core, State.raise_core, State.requestHandover_core, State.setHand_core, State.setHw_core]

theorem State.calReset_core (s : State) :
    (State.calReset s).core = s.core := by
  simp only [State.calReset, eq_self, implies_true, foldl_core, State.abandonHandover_core, State.putE_core, State.resetRegs_core]

theorem aerVhfWritten_core (s t : State) :
    exCore t (aerVhfWritten s t) = t.core := by
  simp only [aerVhfWritten, eq_self, exCore_ite, exCore_ok, exCore_error, ite_self]

theorem aerBiasWritten_core (t : State) :
    exCore t (aerBiasWritten t) = t.core := by
  simp only [aerBiasWritten, eq_self, implies_true, core_ite, exCore_ok, ite_self, foldl_core, State.putE_core, State.setAerial_core]

theorem aerTunWrite_core (p : Nat) (w : Word) (s : State) :
    exCore s (aerTunWrite p w s) = s.core := by
  simp only [aerTunWrite]; (repeat' split) <;> simp only [eq_self, exCore_ok, exCore_error, State.putTun_core, State.setTuner_core]

theorem State.tunerBoundary_core (s : State) (n : Nat) :
    (State.tunerBoundary s n).core = s.core := by
  simp only [State.tunerBoundary, eq_self, core_ite, ite_self, State.setTuner_core]

theorem State.sweepAccepted_core (s : State) (p n : Nat) :
    (State.sweepAccepted s p n).core = s.core := by
  simp only [State.sweepAccepted, eq_self, State.put_core, State.setTuner_core]

theorem aerSweepWrite_core (a : Accessor) (w : Word) (s : State) :
    exCore s (aerSweepWrite a w s) = s.core := by
  simp only [aerSweepWrite]; (repeat' split) <;> simp only [eq_self, exCore_ok, exCore_error, State.acceptProbe_core, State.discard_core, State.raise_core, State.sweepAccepted_core]

theorem execSweepGo_core (a : Accessor) (w : Word) (s : State) :
    outCore s (execSweepGo a w s) = s.core := by
  simp only [execSweepGo, eq_self, outCore_next, State.regWrite_core, aerSweepWrite_core]

theorem execSweepDone_core (p : Fin 3) (gammas : List (Nat × Nat)) (phase : Int) (s : State) :
    outCore s (execSweepDone p gammas phase s) = s.core := by
  simp only [execSweepDone]; (repeat' split) <;> simp only [eq_self, outCore_next, State.gammaResult_core, State.leaveProbe_core, State.putTun_core, State.puts_core, State.raise_core, State.setTuner_core]

theorem execBiasSample_core (p : Fin 5) (current : Fin 65536) (s : State) :
    outCore s (execBiasSample p current s) = s.core := by
  simp only [execBiasSample, eq_self, core_ite, outCore_ite, outCore_next, ite_self, State.putE_core, State.raise_core, State.setAerial_core]

theorem execNoiseFloorUpdate_core (p : Fin 5) (floor : Int) (s : State) :
    outCore s (execNoiseFloorUpdate p floor s) = s.core := by
  simp only [execNoiseFloorUpdate, eq_self, core_ite, outCore_ite, outCore_next, ite_self, State.putE_core, State.raise_core, State.setAerial_core]

theorem aerLearn_core (w : Word) (t : State) :
    exCore t (aerLearn w t) = t.core := by
  simp only [aerLearn, eq_self, implies_true, core_ite, exCore_ite, exCore_ok, ite_self, foldl_core, State.putE_core]

theorem execLearn_core (a : Accessor) (w : Word) (s : State) :
    outCore s (execLearn a w s) = s.core := by
  simp only [execLearn, eq_self, implies_true, outCore_next, onOk_core, State.regWrite_core, aerLearn_core, plainWrite_core]

theorem State.aerialReset_core (s : State) : (State.aerialReset s).core = s.core := by
  have k (t : State) (x : Tbl TunHid) (y : Tbl PortHid) : ({ t with tuners := x, aerials := y } : State).core = t.core := rfl
  simp only [State.aerialReset, core_ite, k, State.raise_core, State.resetRegs_core, ite_self]
  refine foldl_core _ (fun u p => ?_) _ _
  split
  · simp only [State.sweepCancel_core, core_ite, State.startMove_core, State.setFe_core, State.put_core, ite_self]
  · rfl

end Sys2Proof.Machine
end

