-- ==== Sys2Proof/Laws/CoreSlots.lean ====
section
/-! SUPPORT. What the operations over slots, side data and the analogue lanes keep: the fields of `core`. -/

namespace Sys2Proof.Machine

set_option linter.unusedSimpArgs false
set_option linter.unreachableTactic false
set_option linter.unusedTactic false
set_option linter.unnecessarySeqFocus false

theorem State.putEq_core (s : State) (n v : Nat) :
    (State.putEq s n v).core = s.core := by
  simp only [State.putEq, eq_self, State.put_core]

theorem State.growLine_core (s : State) (n k : Nat) : opCore s (s.growLine n k) = s.core := by
  refine opCore_map ?_ (fun t => State.put_core ..)
  split
  · exact State.allocPots_core ..
  · rfl

theorem State.trimLine_core (s : State) (n : Nat) :
    (State.trimLine s n).core = s.core := by
  simp only [State.trimLine, eq_self, State.put_core, State.trimPots_core]

theorem State.growLines_core (s : State) (n k : Nat) :
    opCore s (State.growLines s n k) = s.core := by
  simp only [State.growLines]; (repeat' split) <;> simp only [eq_self, implies_true, opCore_bind, State.growLine_core]

theorem State.delayRest_core (s : State) (n v : Nat) :
    (State.delayRest s n v).core = s.core := by
  simp only [State.delayRest, eq_self, State.put_core, State.setSlot_core]

theorem State.delayReached_core (s : State) (n : Nat) :
    (State.delayReached s n).core = s.core := by
  simp only [State.delayReached, eq_self, State.delayRest_core, State.raise_core, State.trimLine_core]

theorem State.startDelay_core (s : State) (n v mode : Nat) :
    (State.startDelay s n v mode).core = s.core := by
  simp only [State.startDelay, eq_self, core_ite, ite_self, State.delayReached_core, State.delayRest_core, State.put_core, State.setSlot_core]

theorem slotDlyWrite_core (n major : Nat) (w : Word) (s : State) :
    exCore s (slotDlyWrite n major w s) = s.core := by
  (simp only [slotDlyWrite]; (repeat' split) <;> (try simp only [↓core_mk, eq_self, implies_true, core_ite, exCore_ite, opCore_ite, outCore_ite, exCore_ok, exCore_error, opCore_some, opCore_none, outCore_next, ite_self, core_eta, if_true, if_false, foldl_core, onOk_core, opCore_map, opCore_bind, getD_core, State.growLines_core, State.startDelay_core]) <;> first
      | (refine ok_core ?_ ‹_ = Except.ok _›; simp only [↓core_mk, eq_self, implies_true, core_ite, exCore_ite, opCore_ite, outCore_ite, exCore_ok, exCore_error, opCore_some, opCore_none, outCore_next, ite_self, core_eta, if_true, if_false, foldl_core, onOk_core, opCore_map, opCore_bind, getD_core, State.growLines_core, State.startDelay_core]; done)
      | (refine some_core ?_ ‹_ = some _›; simp only [↓core_mk, eq_self, implies_true, core_ite, exCore_ite, opCore_ite, outCore_ite, exCore_ok, exCore_error, opCore_some, opCore_none, outCore_next, ite_self, core_eta, if_true, if_false, foldl_core, onOk_core, opCore_map, opCore_bind, getD_core, State.growLines_core, State.startDelay_core]; done)
      | (refine pair_core ?_ ‹_ = (_, _)›; simp only [↓core_mk, eq_self, implies_true, core_ite, exCore_ite, opCore_ite, outCore_ite, exCore_ok, exCore_error, opCore_some, opCore_none, outCore_next, ite_self, core_eta, if_true, if_false, foldl_core, onOk_core, opCore_map, opCore_bind, getD_core, State.growLines_core, State.startDelay_core]; done))

theorem State.takeStep_core (s : State) (n : Nat) :
    (State.takeStep s n).core = s.core := by
  simp only [State.takeStep, eq_self, core_ite, ite_self, State.count_core, State.delayReached_core]

theorem State.groupJoin_core (s : State) (g ref : Nat) (m : Member) :
    (State.groupJoin s g ref m).core = s.core := by
  simp only [State.groupJoin, eq_self, State.setGrp_core]

theorem State.groupLeave_core (s : State) (g : Nat) (m : Member) :
    (State.groupLeave s g m).core = s.core := by
  simp only [State.groupLeave, eq_self, State.setGrp_core]

theorem State.slotLeave_core (s : State) (n : Nat) :
    (State.slotLeave s n).core = s.core := by
  simp only [State.slotLeave]; (repeat' split) <;> simp only [eq_self, State.groupLeave_core, State.putEq_core, State.put_core, State.trimLine_core]

theorem slotAgWrite_core (n : Nat) (w : Word) (s : State) :
    exCore s (slotAgWrite n w s) = s.core := by
  (simp only [slotAgWrite]; (repeat' split) <;> (try simp only [↓core_mk, eq_self, implies_true, core_ite, exCore_ite, opCore_ite, outCore_ite, exCore_ok, exCore_error, opCore_some, opCore_none, outCore_next, ite_self, core_eta, if_true, if_false, foldl_core, onOk_core, opCore_map, opCore_bind, getD_core, State.groupJoin_core, State.growLines_core, State.putEq_core, State.put_core, State.slotLeave_core]) <;> first
      | (refine ok_core ?_ ‹_ = Except.ok _›; simp only [↓core_mk, eq_self, implies_true, core_ite, exCore_ite, opCore_ite, outCore_ite, exCore_ok, exCore_error, opCore_some, opCore_none, outCore_next, ite_self, core_eta, if_true, if_false, foldl_core, onOk_core, opCore_map, opCore_bind, getD_core, State.groupJoin_core, State.growLines_core, State.putEq_core, State.put_core, State.slotLeave_core]; done)
      | (refine some_core ?_ ‹_ = some _›; simp only [↓core_mk, eq_self, implies_true, core_ite, exCore_ite, opCore_ite, outCore_ite, exCore_ok, exCore_error, opCore_some, opCore_none, outCore_next, ite_self, core_eta, if_true, if_false, foldl_core, onOk_core, opCore_map, opCore_bind, getD_core, State.groupJoin_core, State.growLines_core, State.putEq_core, State.put_core, State.slotLeave_core]; done)
      | (refine pair_core ?_ ‹_ = (_, _)›; simp only [↓core_mk, eq_self, implies_true, core_ite, exCore_ite, opCore_ite, outCore_ite, exCore_ok, exCore_error, opCore_some, opCore_none, outCore_next, ite_self, core_eta, if_true, if_false, foldl_core, onOk_core, opCore_map, opCore_bind, getD_core, State.groupJoin_core, State.growLines_core, State.putEq_core, State.put_core, State.slotLeave_core]; done))

theorem State.feedDetectors_core (s : State) (n : Nat) (pk rms env : List (Option Nat)) :
    (State.feedDetectors s n pk rms env).core = s.core := by
  simp only [State.feedDetectors, eq_self, core_ite, ite_self, State.put_core, State.setSlot_core]

theorem State.resetDetectors_core (s : State) (n : Nat) :
    (State.resetDetectors s n).core = s.core := by
  simp only [State.resetDetectors, eq_self, State.puts_core, State.setSlot_core]

theorem detCmdWrite_core (n : Nat) (w : Word) (s : State) :
    exCore s (detCmdWrite n w s) = s.core := by
  simp only [detCmdWrite, eq_self, exCore_ite, exCore_ok, exCore_error, ite_self, State.setSlot_core]

theorem State.resetLane_core (s : State) (n : Nat) :
    (State.resetLane s n).core = s.core := by
  simp only [State.resetLane, eq_self, State.puts_core, State.resetRegs_core]

theorem State.releaseShadow_core (s : State) (n : Nat) :
    (State.releaseShadow s n).core = s.core := by
  simp only [State.releaseShadow, List.foldl_cons, List.foldl_nil]; (repeat' split) <;> simp only [eq_self, State.freePotsOf_core, State.puts_core, State.setSlot_core]

theorem State.setShadow_core (s : State) (n m : Nat) (b : Bind) :
    (State.setShadow s n m b).core = s.core := by
  simp only [State.setShadow, List.foldl_cons, List.foldl_nil, State.puts_core, State.setSlot_core]

theorem State.applyBind_core (s : State) (n : Nat) (b : Bind) : opCore s (s.applyBind n b) = s.core := by
  simp only [State.applyBind]
  split
  · rfl
  · split
    · rfl
    · refine opCore_map (State.growLine_core ..) (fun t => ?_)
      simp only [core_ite, State.resetLane_core, State.putEq_core, State.put_core, State.setSlot_core, ite_self]

theorem State.commitBound_core (s : State) (n : Nat) (b : Bind) : opCore s (s.commitBound n b) = s.core := by
  have h (m : Nat) : opCore s ((s.applyBind n b).bind fun t =>
      ((t.setShadow n m b).growLine m (linePots ((s.slot n).target + t.eqOf n)))) = s.core :=
    opCore_bind (State.applyBind_core ..) (fun t => opCore_of (State.growLine_core ..) (State.setShadow_core ..))
  simp only [State.commitBound]
  (repeat' split) <;> first
    | rfl
    | exact opCore_of (State.applyBind_core ..) (State.releaseShadow_core ..)
    | exact h _

theorem slotCommitWrite_core (n : Nat) (w : Word) (s : State) :
    exCore s (slotCommitWrite n w s) = s.core := by
  (simp only [slotCommitWrite]; (repeat' split) <;> (try simp only [↓core_mk, eq_self, implies_true, core_ite, exCore_ite, opCore_ite, outCore_ite, exCore_ok, exCore_error, opCore_some, opCore_none, outCore_next, ite_self, core_eta, if_true, if_false, foldl_core, onOk_core, opCore_map, opCore_bind, getD_core, State.commitBound_core, State.freePotsOf_core, State.puts_core, State.releaseShadow_core, State.resetLane_core, State.setSlot_core]) <;> first
      | (refine ok_core ?_ ‹_ = Except.ok _›; simp only [↓core_mk, eq_self, implies_true, core_ite, exCore_ite, opCore_ite, outCore_ite, exCore_ok, exCore_error, opCore_some, opCore_none, outCore_next, ite_self, core_eta, if_true, if_false, foldl_core, onOk_core, opCore_map, opCore_bind, getD_core, State.commitBound_core, State.freePotsOf_core, State.puts_core, State.releaseShadow_core, State.resetLane_core, State.setSlot_core]; done)
      | (refine some_core ?_ ‹_ = some _›; simp only [↓core_mk, eq_self, implies_true, core_ite, exCore_ite, opCore_ite, outCore_ite, exCore_ok, exCore_error, opCore_some, opCore_none, outCore_next, ite_self, core_eta, if_true, if_false, foldl_core, onOk_core, opCore_map, opCore_bind, getD_core, State.commitBound_core, State.freePotsOf_core, State.puts_core, State.releaseShadow_core, State.resetLane_core, State.setSlot_core]; done)
      | (refine pair_core ?_ ‹_ = (_, _)›; simp only [↓core_mk, eq_self, implies_true, core_ite, exCore_ite, opCore_ite, outCore_ite, exCore_ok, exCore_error, opCore_some, opCore_none, outCore_next, ite_self, core_eta, if_true, if_false, foldl_core, onOk_core, opCore_map, opCore_bind, getD_core, State.commitBound_core, State.freePotsOf_core, State.puts_core, State.releaseShadow_core, State.resetLane_core, State.setSlot_core]; done))

theorem profDataWrite_core (w : Word) (s : State) :
    exCore s (profDataWrite w s) = s.core := by
  simp only [profDataWrite, ↓core_mk, eq_self, exCore_ite, exCore_ok, exCore_error, ite_self, core_eta, State.put_core]

theorem profCommitWrite_core (w : Word) (s : State) :
    exCore s (profCommitWrite w s) = s.core := by
  simp only [profCommitWrite, ↓core_mk, eq_self, exCore_ite, exCore_ok, exCore_error, ite_self, core_eta, State.put_core, State.raise_core]

theorem bankRawWritten_core (n : Nat) (t : State) :
    exCore t (bankRawWritten n t) = t.core := by
  simp only [bankRawWritten, eq_self, exCore_ite, exCore_ok, exCore_error, ite_self]

theorem State.setSnap_core (s : State) (f : Nat) (x : Option Snap) :
    (State.setSnap s f x).core = s.core := by
  simp only [State.setSnap, ↓core_mk, eq_self, core_eta]

theorem State.snapEnd_core (s : State) (f : Nat) :
    (State.snapEnd s f).core = s.core := by
  simp only [State.snapEnd, eq_self, State.freePotsOf_core, State.puts_core, State.setSnap_core]

theorem bankSnapWrite_core (f major : Nat) (w : Word) (s : State) :
    exCore s (bankSnapWrite f major w s) = s.core := by
  (simp only [bankSnapWrite]; (repeat' split) <;> (try simp only [↓core_mk, eq_self, implies_true, core_ite, exCore_ite, opCore_ite, outCore_ite, exCore_ok, exCore_error, opCore_some, opCore_none, outCore_next, ite_self, core_eta, if_true, if_false, foldl_core, onOk_core, opCore_map, opCore_bind, getD_core, State.allocPots_core, State.puts_core, State.raise_core, State.setSnap_core, State.snapEnd_core]) <;> first
      | (refine ok_core ?_ ‹_ = Except.ok _›; simp only [↓core_mk, eq_self, implies_true, core_ite, exCore_ite, opCore_ite, outCore_ite, exCore_ok, exCore_error, opCore_some, opCore_none, outCore_next, ite_self, core_eta, if_true, if_false, foldl_core, onOk_core, opCore_map, opCore_bind, getD_core, State.allocPots_core, State.puts_core, State.raise_core, State.setSnap_core, State.snapEnd_core]; done)
      | (refine some_core ?_ ‹_ = some _›; simp only [↓core_mk, eq_self, implies_true, core_ite, exCore_ite, opCore_ite, outCore_ite, exCore_ok, exCore_error, opCore_some, opCore_none, outCore_next, ite_self, core_eta, if_true, if_false, foldl_core, onOk_core, opCore_map, opCore_bind, getD_core, State.allocPots_core, State.puts_core, State.raise_core, State.setSnap_core, State.snapEnd_core]; done)
      | (refine pair_core ?_ ‹_ = (_, _)›; simp only [↓core_mk, eq_self, implies_true, core_ite, exCore_ite, opCore_ite, outCore_ite, exCore_ok, exCore_error, opCore_some, opCore_none, outCore_next, ite_self, core_eta, if_true, if_false, foldl_core, onOk_core, opCore_map, opCore_bind, getD_core, State.allocPots_core, State.puts_core, State.raise_core, State.setSnap_core, State.snapEnd_core]; done))

theorem State.bankReset_core (s : State) (f : Nat) :
    (State.bankReset s f).core = s.core := by
  simp only [State.bankReset, eq_self, core_ite, ite_self, State.put_core, State.raise_core, State.resetRegs_core, State.snapEnd_core]

theorem execSlotCommit_core (a : Accessor) (n : Fin 512) (w : Word) (s : State) :
    outCore s (execSlotCommit a n w s) = s.core := by
  simp only [execSlotCommit, eq_self, outCore_next, State.cmdWrite_core, slotCommitWrite_core]

theorem execDelayCommand_core (a : Accessor) (n : Fin 512) (w : Word) (s : State) :
    outCore s (execDelayCommand a n w s) = s.core := by
  simp only [execDelayCommand, eq_self, outCore_next, State.cmdWrite_core, slotDlyWrite_core]

theorem execDelayStep_core (n : Fin 512) (s : State) :
    outCore s (execDelayStep n s) = s.core := by
  simp only [execDelayStep, eq_self, outCore_ite, outCore_next, ite_self, State.takeStep_core]

theorem execDlyZcTimeout_core (n : Fin 512) (s : State) :
    outCore s (execDlyZcTimeout n s) = s.core := by
  simp only [execDlyZcTimeout, eq_self, outCore_ite, outCore_next, ite_self, State.raise_core, State.takeStep_core]

theorem execDlyReached_core (n : Fin 512) (s : State) :
    outCore s (execDlyReached n s) = s.core := by
  simp only [execDlyReached, eq_self, outCore_ite, outCore_next, ite_self, State.delayReached_core]

theorem execAgJoin_core (a : Accessor) (n : Fin 512) (w : Word) (s : State) :
    outCore s (execAgJoin a n w s) = s.core := by
  simp only [execAgJoin, eq_self, outCore_next, State.regWrite_core, slotAgWrite_core]

theorem execAgLeave_core (a : Accessor) (n : Fin 512) (w : Word) (s : State) :
    outCore s (execAgLeave a n w s) = s.core := by
  simp only [execAgLeave, eq_self, outCore_next, State.regWrite_core, slotAgWrite_core]

theorem execPkRst_core (a : Accessor) (n : Fin 512) (w : Word) (s : State) :
    outCore s (execPkRst a n w s) = s.core := by
  simp only [execPkRst, eq_self, outCore_next, State.regWrite_core, detCmdWrite_core]

theorem execRmsRst_core (a : Accessor) (n : Fin 512) (w : Word) (s : State) :
    outCore s (execRmsRst a n w s) = s.core := by
  simp only [execRmsRst, eq_self, outCore_next, State.regWrite_core, detCmdWrite_core]

theorem execEnvRst_core (a : Accessor) (n : Fin 512) (w : Word) (s : State) :
    outCore s (execEnvRst a n w s) = s.core := by
  simp only [execEnvRst, eq_self, outCore_next, State.regWrite_core, detCmdWrite_core]

theorem execRmsBlockEnd_core (n : Fin 512) (sumSq count : Nat) (s : State) :
    outCore s (execRmsBlockEnd n sumSq count s) = s.core := by
  simp only [execRmsBlockEnd, eq_self, outCore_ite, outCore_next, ite_self, State.put_core, State.setSlot_core]

theorem State.slotEmit_core (s : State) (n : Nat) (x : Rec) :
    (State.slotEmit s n x).core = s.core := by
  simp only [State.slotEmit]; (repeat' split) <;> simp only [eq_self, State.deliver_core]

theorem execDetectorReport_core (n : Fin 512) (pk rms env : List (Option Nat)) (s : State) :
    outCore s (execDetectorReport n pk rms env s) = s.core := by
  simp only [execDetectorReport, eq_self, outCore_ite, outCore_next, ite_self, State.feedDetectors_core, State.slotEmit_core]

theorem execProfDataWrite_core (a : Accessor) (w : Word) (s : State) :
    outCore s (execProfDataWrite a w s) = s.core := by
  simp only [execProfDataWrite, eq_self, outCore_next, State.regWrite_core, profDataWrite_core]

theorem execProfCommit_core (a : Accessor) (w : Word) (s : State) :
    outCore s (execProfCommit a w s) = s.core := by
  simp only [execProfCommit, eq_self, outCore_next, State.regWrite_core, profCommitWrite_core]

theorem execRawCapture_core (a : Accessor) (f : Fin 8) (w : Word) (s : State) :
    outCore s (execRawCapture a f w s) = s.core := by
  simp only [execRawCapture, eq_self, implies_true, outCore_next, onOk_core, State.regWrite_core, bankRawWritten_core, plainWrite_core]

theorem execSnapGo_core (a : Accessor) (f : Fin 8) (w : Word) (s : State) :
    outCore s (execSnapGo a f w s) = s.core := by
  simp only [execSnapGo, eq_self, outCore_next, State.regWrite_core, bankSnapWrite_core]

theorem execSnapAbort_core (a : Accessor) (f : Fin 8) (w : Word) (s : State) :
    outCore s (execSnapAbort a f w s) = s.core := by
  simp only [execSnapAbort, eq_self, outCore_next, State.regWrite_core, bankSnapWrite_core]

theorem execSnapDone_core (f : Fin 8) (vals : List Int) (s : State) :
    outCore s (execSnapDone f vals s) = s.core := by
  simp only [execSnapDone]; (repeat' split) <;> simp only [eq_self, outCore_next, State.deliver_core, State.put_core, State.raise_core, State.snapEnd_core]

theorem execSnapTimeout_core (f : Fin 8) (s : State) :
    outCore s (execSnapTimeout f s) = s.core := by
  simp only [execSnapTimeout]; (repeat' split) <;> simp only [eq_self, outCore_next, State.raise_core, State.snapEnd_core]

theorem State.alarmEmit_core (s : State) (r kind : Nat) (unit : List Byte) :
    (State.alarmEmit s r kind unit).core = s.core := by
  simp only [State.alarmEmit, eq_self, core_ite, ite_self, State.deliver_core]

theorem State.alertFollow_core (s : State) :
    (State.alertFollow s).core = s.core := by
  simp only [State.alertFollow, eq_self, core_ite, ite_self, State.put_core]

theorem State.alertSet_core (s : State) (r : Nat) :
    (State.alertSet s r).core = s.core := by
  simp only [State.alertSet, eq_self, core_ite, ite_self, State.put_core, State.raiseViews_core]

theorem State.alarmBegin_core (s : State) (r : Nat) (unit : List Byte) :
    (State.alarmBegin s r unit).core = s.core := by
  simp only [State.alarmBegin, eq_self, core_ite, ite_self, State.alarmEmit_core, State.alertSet_core, State.putE_core, State.put_core, State.raiseViews_core]

theorem State.alarmEnd_core (s : State) (r kind : Nat) :
    (State.alarmEnd s r kind).core = s.core := by
  simp only [State.alarmEnd, eq_self, core_ite, ite_self, State.alarmEmit_core, State.alertFollow_core, State.putE_core, State.put_core, State.raiseViews_core]

theorem State.ruleRestart_core (s : State) (r : Nat) :
    (State.ruleRestart s r).core = s.core := by
  simp only [State.ruleRestart, ↓core_mk, eq_self, core_eta, State.alarmEnd_core, State.putE_core]

theorem State.ruleUnit_core (s : State) (r : Nat) (v : Verdict) (ty : Nat) (unit : List Byte) :
    (State.ruleUnit s r v ty unit).core = s.core := by
  simp only [State.ruleUnit]; (repeat' split) <;> simp only [↓core_mk, eq_self, core_eta, State.alarmBegin_core, State.alarmEnd_core, State.putE_core]

theorem State.rulesDo_core (s : State) (c : State → Nat → Bool) (g : State → Nat → State)
    (hg : ∀ t r, (g t r).core = t.core) : (s.rulesDo c g).core = s.core := by
  simp only [State.rulesDo, core_ite, hg, ite_self, foldl_core, implies_true]

theorem State.ruleCompare_core (s : State) (r ty : Nat) (typed : Bool) (unit : List Byte) :
    (State.ruleCompare s r ty typed unit).core = s.core := by
  simp only [State.ruleCompare, eq_self, core_ite, ite_self, State.ruleUnit_core]

theorem State.alarmRds_core (s : State) (n : Nat) (g : List (Nat × Nat × Nat)) :
    (State.alarmRds s n g).core = s.core := by
  simp only [State.alarmRds, eq_self, implies_true, core_ite, ite_self, State.ruleCompare_core, State.rulesDo_core]

theorem State.alarmAmss_core (s : State) (n : Nat) (group : List Byte) :
    (State.alarmAmss s n group).core = s.core := by
  simp only [State.alarmAmss, eq_self, implies_true, State.ruleCompare_core, State.rulesDo_core]

theorem State.alarmFib_core (s : State) (c : Nat) (al : Bool) (figs : List Fig) :
    (State.alarmFib s c al figs).core = s.core := by
  simp only [State.alarmFib, eq_self, implies_true, core_ite, ite_self, foldl_core, State.ruleCompare_core, State.ruleUnit_core, State.rulesDo_core]

theorem State.alarmFac_core (s : State) (d : Nat) (block : List Byte) :
    (State.alarmFac s d block).core = s.core := by
  simp only [State.alarmFac, eq_self, implies_true, State.ruleCompare_core, State.rulesDo_core]

theorem State.alarmSdc_core (s : State) (d : Nat) (es : List Entity) : (s.alarmSdc d es).core = s.core := by
  refine foldl_core _ (fun u e => ?_) _ _
  dsimp only
  split <;> simp only [State.rulesDo_core, State.ruleUnit_core, State.ruleCompare_core, implies_true]

theorem State.alarmSourceLost_core (s : State) (srcKind idx : Nat) :
    (State.alarmSourceLost s srcKind idx).core = s.core := by
  simp only [State.alarmSourceLost, eq_self, implies_true, State.ruleRestart_core, State.rulesDo_core]

theorem execAlarmEndTimeout_core (r : Fin 32) (s : State) :
    outCore s (execAlarmEndTimeout r s) = s.core := by
  simp only [execAlarmEndTimeout, eq_self, outCore_next, State.alarmEnd_core]

theorem State.ctxEmit_core (s : State) (c : Ctx) (x : Rec) :
    (State.ctxEmit s c x).core = s.core := by
  simp only [State.ctxEmit]; (repeat' split) <;> simp only [eq_self, State.deliver_core]

theorem State.figKeep_core (s : State) (c : Fin 48) (f : Fig) :
    (State.figKeep s c f).core = s.core := by
  simp only [State.figKeep, eq_self, State.setCtx_core]

theorem State.figDeliver_core (s : State) (c : Fin 48) (index : Nat) (figs : List Fig) :
    (s.figDeliver c index figs).core = s.core := by
  have h : ∀ (l : List Fig) (st : State × List Byte), (l.foldl (fun (st : State × List Byte) f =>
      if st.1.figPasses c f then (st.1.figKeep c f, st.2 ++ f.bytes)
      else (st.1.count F.SD_FIG_SUPP_COUNT 0 1, st.2)) st).1.core = st.1.core := by
    intro l
    induction l with
    | nil => intro st; rfl
    | cons f l ih =>
      intro st
      rw [List.foldl_cons, ih]
      split <;> simp only [State.figKeep_core, State.count_core]
  simp only [State.figDeliver, core_ite, State.ctxEmit_core, h, ite_self]

theorem ruleWrite_core (a : Accessor) (r reg major : Nat) (w : Word) (s : State) :
    exCore s (ruleWrite a r reg major w s) = s.core := by
  have h (x y : Nat) (z : Word) : exCore s (plainWrite .sidedata 0 x y z (s.ruleRestart r)) = s.core :=
    exCore_of (plainWrite_core ..) (State.ruleRestart_core ..)
  simp only [ruleWrite]
  (repeat' split) <;> first | rfl | exact h _ _ _

theorem patternWrite_core (a : Accessor) (p reg major : Nat) (w : Word) (s : State) :
    exCore s (patternWrite a p reg major w s) = s.core := by
  simp only [patternWrite, eq_self, implies_true, exCore_ite, exCore_ok, exCore_error, ite_self, onOk_core, State.putE_core, State.rulesDo_core, plainWrite_core]

theorem alertWrite_core (a : Accessor) (w : Word) (s : State) :
    exCore s (alertWrite a w s) = s.core := by
  simp only [alertWrite, eq_self, core_ite, exCore_ite, exCore_ok, exCore_error, ite_self, State.alertFollow_core, State.put_core]

theorem sideWrite_core (a : Accessor) (off major : Nat) (w : Word) (s : State) :
    exCore s (sideWrite a off major w s) = s.core := by
  simp only [sideWrite, eq_self, exCore_ite, exCore_ok, exCore_error, ite_self, State.put_core, alertWrite_core, patternWrite_core, plainWrite_core, ruleWrite_core]

theorem State.sideReset_core (s : State) :
    (State.sideReset s).core = s.core := by
  simp only [State.sideReset, eq_self, implies_true, foldl_core, State.resetRegs_core, State.ruleRestart_core, State.rulesDo_core]

theorem execRuleWrite_core (a : Accessor) (r : Fin 32) (reg : Fin 4) (w : Word) (s : State) :
    outCore s (execRuleWrite a r reg w s) = s.core := by
  simp only [execRuleWrite, eq_self, outCore_next, State.regWrite_core, sideWrite_core]

theorem execPatternWrite_core (a : Accessor) (p reg : Fin 16) (w : Word) (s : State) :
    outCore s (execPatternWrite a p reg w s) = s.core := by
  simp only [execPatternWrite, eq_self, outCore_next, State.regWrite_core, sideWrite_core]

theorem execAlertAck_core (a : Accessor) (w : Word) (s : State) :
    outCore s (execAlertAck a w s) = s.core := by
  simp only [execAlertAck, eq_self, outCore_next, State.regWrite_core, sideWrite_core]

theorem State.pilotDecide_core (s : State) (n level phaseErr : Nat) :
    (State.pilotDecide s n level phaseErr).core = s.core := by
  simp only [State.pilotDecide, eq_self, core_ite, ite_self, State.put_core, State.puts_core, State.raise_core, State.setLane_core]

theorem execPilotBlock_core (n : Fin 512) (valid : Bool) (level phaseErr : Nat) (s : State) :
    outCore s (execPilotBlock n valid level phaseErr s) = s.core := by
  simp only [execPilotBlock, eq_self, outCore_ite, outCore_next, ite_self, State.pilotDecide_core, State.put_core]

theorem execFmSnrUpdate_core (n : Fin 512) (valid : Bool) (nHi mp : Nat) (s : State) :
    outCore s (execFmSnrUpdate n valid nHi mp s) = s.core := by
  simp only [execFmSnrUpdate, eq_self, outCore_ite, outCore_next, ite_self, State.put_core]

theorem execOffsetUpdate_core (n : Fin 512) (valid : Bool) (mean : Int) (s : State) :
    outCore s (execOffsetUpdate n valid mean s) = s.core := by
  simp only [execOffsetUpdate, eq_self, outCore_ite, outCore_next, ite_self, State.put_core]

theorem execBlendUpdate_core (n : Fin 512) (s : State) :
    outCore s (execBlendUpdate n s) = s.core := by
  simp only [execBlendUpdate, eq_self, outCore_ite, outCore_next, ite_self, State.puts_core, State.setLane_core]

theorem State.rdsEnd_core (s : State) (n : Nat) :
    (State.rdsEnd s n).core = s.core := by
  simp only [State.rdsEnd, eq_self, State.alarmSourceLost_core, State.puts_core, State.setLane_core]

theorem State.rdsRestart_core (s : State) (n : Nat) :
    (State.rdsRestart s n).core = s.core := by
  simp only [State.rdsRestart, eq_self, core_ite, ite_self, State.raise_core, State.rdsEnd_core]

theorem State.piConfirm_core (s : State) (n pi : Nat) :
    (State.piConfirm s n pi).core = s.core := by
  simp only [State.piConfirm, eq_self, core_ite, ite_self, State.puts_core, State.raise_core]

theorem State.rdsGroup_core (s : State) (n c v st : Nat) :
    (State.rdsGroup s n c v st).core = s.core := by
  simp only [State.rdsGroup, eq_self, core_ite, ite_self, State.alarmRds_core, State.setLane_core, State.slotEmit_core]

theorem State.rdsBlock_core (s : State) (n c v st : Nat) :
    (State.rdsBlock s n c v st).core = s.core := by
  simp only [State.rdsBlock, eq_self, core_ite, ite_self, State.count_core, State.piConfirm_core, State.rdsGroup_core, State.rdsRestart_core, State.setLane_core]

theorem State.rdsSearch_core (s : State) (n w gap : Nat) :
    (State.rdsSearch s n w gap).core = s.core := by
  simp only [State.rdsSearch]; (repeat' split) <;> simp only [eq_self, State.put_core, State.raise_core, State.rdsBlock_core, State.setLane_core]

theorem State.rdsTake_core (s : State) (n w gap : Nat) (excluded : Bool) :
    (State.rdsTake s n w gap excluded).core = s.core := by
  simp only [State.rdsTake]; (repeat' split) <;> simp only [eq_self, State.rdsBlock_core, State.rdsSearch_core, State.setLane_core]

theorem execBlerWindowEnd_core (n : Fin 512) (s : State) :
    outCore s (execBlerWindowEnd n s) = s.core := by
  simp only [execBlerWindowEnd, eq_self, outCore_ite, outCore_next, ite_self, State.puts_core, State.setLane_core]

theorem State.blerStop_core (s : State) (n : Nat) :
    (State.blerStop s n).core = s.core := by
  simp only [State.blerStop, eq_self, State.put_core, State.setLane_core]

theorem State.showDet_core (s : State) (n : Nat) :
    (State.showDet s n).core = s.core := by
  simp only [State.showDet, eq_self, core_ite, ite_self, State.put_core, State.raise_core]

theorem execAmLockEval_core (n : Fin 512) (valid : Bool) (meanQ carrier : Nat) (s : State) :
    outCore s (execAmLockEval n valid meanQ carrier s) = s.core := by
  simp only [execAmLockEval, eq_self, outCore_ite, outCore_next, ite_self, State.put_core, State.puts_core, State.raise_core, State.showDet_core]

theorem execAmSnrUpdate_core (n : Fin 512) (valid : Bool) (pq : Nat) (levelCdb : Int) (s : State) :
    outCore s (execAmSnrUpdate n valid pq levelCdb s) = s.core := by
  simp only [execAmSnrUpdate, eq_self, outCore_ite, outCore_next, ite_self, State.put_core]

theorem execAmssGroup_core (n : Fin 512) (declared ok : Bool) (bitCount : Nat) (group : List Byte) (s : State) :
    outCore s (execAmssGroup n declared ok bitCount group s) = s.core := by
  simp only [execAmssGroup, eq_self, core_ite, outCore_ite, outCore_next, ite_self, State.alarmAmss_core, State.alarmSourceLost_core, State.count_core, State.put_core, State.raise_core, State.setLane_core, State.slotEmit_core]

theorem fmWritten_core (n off : Nat) (s t : State) :
    exCore t (fmWritten n off s t) = t.core := by
  simp only [fmWritten, eq_self, exCore_ite, exCore_ok, ite_self, State.blerStop_core, State.rdsEnd_core, State.rdsRestart_core, checked_core]

theorem amWritten_core (n off major : Nat) (w : Word) (s t : State) :
    exCore t (amWritten n off major w s t) = t.core := by
  simp only [amWritten, eq_self, exCore_ite, exCore_ok, exCore_error, ite_self, State.put_core, State.setLane_core, State.showDet_core]

theorem laneWrite_core (n off major : Nat) (w : Word) (s : State) :
    exCore s (laneWrite n off major w s) = s.core := by
  (simp only [laneWrite]; (repeat' split) <;> (try simp only [eq_self, implies_true, exCore_ok, exCore_error, onOk_core, amWritten_core, fmWritten_core, plainWrite_core]) <;> (refine onOk_core (by simp only [eq_self, implies_true, exCore_ok, exCore_error, onOk_core, amWritten_core, fmWritten_core, plainWrite_core]) (fun t => ?_); (repeat' split) <;> simp only [eq_self, implies_true, exCore_ok, exCore_error, onOk_core, amWritten_core, fmWritten_core, plainWrite_core]; done))

theorem execRdsSearchRestart_core (a : Accessor) (n : Fin 512) (w : Word) (s : State) :
    outCore s (execRdsSearchRestart a n w s) = s.core := by
  simp only [execRdsSearchRestart, eq_self, outCore_next, State.regWrite_core, laneWrite_core]

theorem execPcmBlockEnd_core (n : Fin 512) (count : Nat) (runs : List Run) (clipped : Bool) (data : List Byte) (s : State) :
    outCore s (execPcmBlockEnd n count runs clipped data s) = s.core := by
  simp only [execPcmBlockEnd, eq_self, core_ite, outCore_ite, outCore_next, ite_self, State.count_core, State.raise_core, State.slotEmit_core]

end Sys2Proof.Machine
end

