-- ==== Sys2Proof/Laws/CoreDigital.lean ====
section
/-! SUPPORT. What the operations over digital contexts, taps, running slots and following keep: the fields of `core`. -/

namespace Sys2Proof.Machine

set_option linter.unusedSimpArgs false
set_option linter.unreachableTactic false
set_option linter.unusedTactic false
set_option linter.unnecessarySeqFocus false

theorem State.putCtxState_core (s : State) (c : Ctx) (x : Nat) :
    (State.putCtxState s c x).core = s.core := by
  simp only [State.putCtxState, eq_self, State.put_core]

theorem State.putCtxBase_core (s : State) (c : Ctx) (x : Nat) :
    (State.putCtxBase s c x).core = s.core := by
  simp only [State.putCtxBase, eq_self, core_ite, ite_self, State.putCtxState_core, State.setCtx_core]

theorem State.tapPots_core (s : State) (t k : Nat) :
    opCore s (State.tapPots s t k) = s.core := by
  simp only [State.tapPots, eq_self, opCore_ite, opCore_some, ite_self, State.allocPots_core, State.trimPots_core]

theorem State.tapEmit_core (s : State) (t : Nat) (x : Rec) (ends : List Nat) (rate stop : Nat) :
    (State.tapEmit s t x ends rate stop).core = s.core := by
  simp only [State.tapEmit]; (repeat' split) <;> simp only [eq_self, implies_true, foldl_core, State.deliver_core, State.setTap_core]

theorem State.tapGap_core (s : State) (t reason : Nat) :
    (State.tapGap s t reason).core = s.core := by
  simp only [State.tapGap, eq_self, core_ite, ite_self, State.setTap_core]

theorem State.showPayload_core (s : State) (t : Nat) (c : TapCfg) :
    (State.showPayload s t c).core = s.core := by
  simp only [State.showPayload, eq_self, core_ite, ite_self, State.put_core, State.raise_core]

theorem State.tapRun_core (s : State) (t : Nat) (c : TapCfg) (cu vit : Nat) :
    (State.tapRun s t c cu vit).core = s.core := by
  simp only [State.tapRun, eq_self, State.puts_core, State.setTap_core, State.showPayload_core]

theorem State.tapWait_core (s : State) (t : Nat) :
    (State.tapWait s t).core = s.core := by
  simp only [State.tapWait]; (repeat' split) <;> simp only [eq_self, State.freePotsOf_core, State.puts_core, State.setTap_core, State.tapGap_core]

theorem State.tapSuspend_core (s : State) (t : Nat) :
    (State.tapSuspend s t).core = s.core := by
  simp only [State.tapSuspend, eq_self, State.puts_core, State.raiseViews_core, State.raise_core, State.setTap_core, State.tapGap_core]

theorem State.tapRaise_core (s : State) (t : Nat) (c : TapCfg) (n : Nat × Nat × Nat) :
    (State.tapRaise s t c n).core = s.core := by
  (simp only [State.tapRaise]; (repeat' split) <;> (try simp only [↓core_mk, eq_self, implies_true, core_ite, exCore_ite, opCore_ite, outCore_ite, exCore_ok, exCore_error, opCore_some, opCore_none, outCore_next, ite_self, core_eta, if_true, if_false, foldl_core, onOk_core, opCore_map, opCore_bind, getD_core, State.tapPots_core, State.tapRun_core, State.tapSuspend_core]) <;> first
      | (refine ok_core ?_ ‹_ = Except.ok _›; simp only [↓core_mk, eq_self, implies_true, core_ite, exCore_ite, opCore_ite, outCore_ite, exCore_ok, exCore_error, opCore_some, opCore_none, outCore_next, ite_self, core_eta, if_true, if_false, foldl_core, onOk_core, opCore_map, opCore_bind, getD_core, State.tapPots_core, State.tapRun_core, State.tapSuspend_core]; done)
      | (refine some_core ?_ ‹_ = some _›; simp only [↓core_mk, eq_self, implies_true, core_ite, exCore_ite, opCore_ite, outCore_ite, exCore_ok, exCore_error, opCore_some, opCore_none, outCore_next, ite_self, core_eta, if_true, if_false, foldl_core, onOk_core, opCore_map, opCore_bind, getD_core, State.tapPots_core, State.tapRun_core, State.tapSuspend_core]; done)
      | (refine pair_core ?_ ‹_ = (_, _)›; simp only [↓core_mk, eq_self, implies_true, core_ite, exCore_ite, opCore_ite, outCore_ite, exCore_ok, exCore_error, opCore_some, opCore_none, outCore_next, ite_self, core_eta, if_true, if_false, foldl_core, onOk_core, opCore_map, opCore_bind, getD_core, State.tapPots_core, State.tapRun_core, State.tapSuspend_core]; done))

theorem State.settleDown_core (s : State) (p : Nat × TapCfg) :
    (State.settleDown s p).core = s.core := by
  (simp only [State.settleDown]; (repeat' split) <;> (try simp only [↓core_mk, eq_self, implies_true, core_ite, exCore_ite, opCore_ite, outCore_ite, exCore_ok, exCore_error, opCore_some, opCore_none, outCore_next, ite_self, core_eta, if_true, if_false, foldl_core, onOk_core, opCore_map, opCore_bind, getD_core, State.raise_core, State.tapPots_core, State.tapRun_core, State.tapSuspend_core, State.tapWait_core]) <;> first
      | (refine ok_core ?_ ‹_ = Except.ok _›; simp only [↓core_mk, eq_self, implies_true, core_ite, exCore_ite, opCore_ite, outCore_ite, exCore_ok, exCore_error, opCore_some, opCore_none, outCore_next, ite_self, core_eta, if_true, if_false, foldl_core, onOk_core, opCore_map, opCore_bind, getD_core, State.raise_core, State.tapPots_core, State.tapRun_core, State.tapSuspend_core, State.tapWait_core]; done)
      | (refine some_core ?_ ‹_ = some _›; simp only [↓core_mk, eq_self, implies_true, core_ite, exCore_ite, opCore_ite, outCore_ite, exCore_ok, exCore_error, opCore_some, opCore_none, outCore_next, ite_self, core_eta, if_true, if_false, foldl_core, onOk_core, opCore_map, opCore_bind, getD_core, State.raise_core, State.tapPots_core, State.tapRun_core, State.tapSuspend_core, State.tapWait_core]; done)
      | (refine pair_core ?_ ‹_ = (_, _)›; simp only [↓core_mk, eq_self, implies_true, core_ite, exCore_ite, opCore_ite, outCore_ite, exCore_ok, exCore_error, opCore_some, opCore_none, outCore_next, ite_self, core_eta, if_true, if_false, foldl_core, onOk_core, opCore_map, opCore_bind, getD_core, State.raise_core, State.tapPots_core, State.tapRun_core, State.tapSuspend_core, State.tapWait_core]; done))

theorem State.settleUp_core (s : State) (p : Nat × TapCfg) :
    (State.settleUp s p).core = s.core := by
  simp only [State.settleUp]; (repeat' split) <;> simp only [eq_self, State.tapRaise_core]

theorem State.settleTaps_core (s : State) (c : Ctx) :
    (State.settleTaps s c).core = s.core := by
  simp only [State.settleTaps, eq_self, implies_true, core_ite, ite_self, foldl_core, State.settleDown_core, State.settleUp_core]

theorem execTapResume_core (t : Fin 1024) (s : State) : outCore s (execTapResume t s) = s.core := by
  simp only [execTapResume]
  split
  · rfl
  · refine foldl_core _ (fun u p => ?_) _ _
    (repeat' split) <;> try rfl
    simp only [State.raise_core, State.tapRun_core]
    exact some_core (State.tapPots_core ..) ‹_›

theorem State.ctxBlank_core (s : State) (c : Ctx) :
    (State.ctxBlank s c).core = s.core := by
  simp only [State.ctxBlank]; (repeat' split) <;> simp only [eq_self, State.puts_core]

theorem State.ctxForget_core (s : State) (c : Ctx) :
    (State.ctxForget s c).core = s.core := by
  simp only [State.ctxForget]; (repeat' split) <;> simp only [eq_self, State.resetFlds_core]

theorem State.ctxSearch_core (s : State) (c : Ctx) :
    (State.ctxSearch s c).core = s.core := by
  simp only [State.ctxSearch, eq_self, implies_true, core_ite, ite_self, foldl_core, State.alarmSourceLost_core, State.ctxBlank_core, State.putCtxState_core, State.setCtx_core, State.tapGap_core]

theorem State.ctxOff_core (s : State) (c : Ctx) :
    (State.ctxOff s c).core = s.core := by
  simp only [State.ctxOff, eq_self, implies_true, core_ite, ite_self, foldl_core, State.alarmSourceLost_core, State.ctxBlank_core, State.ctxForget_core, State.putCtxState_core, State.setCtx_core, State.tapWait_core]

theorem State.ctxRefresh_core (s : State) (c : Ctx) :
    (State.ctxRefresh s c).core = s.core := by
  simp only [State.ctxRefresh, eq_self, core_ite, ite_self, State.ctxOff_core, State.ctxSearch_core]

theorem ctxEnable_core (c : Ctx) (s : State) :
    exCore s (ctxEnable c s) = s.core := by
  (simp only [ctxEnable]; (repeat' split) <;> (try simp only [↓core_mk, eq_self, implies_true, core_ite, exCore_ite, opCore_ite, outCore_ite, exCore_ok, exCore_error, opCore_some, opCore_none, outCore_next, ite_self, core_eta, if_true, if_false, foldl_core, onOk_core, opCore_map, opCore_bind, getD_core, State.allocPots_core, State.ctxRefresh_core, State.put_core]) <;> first
      | (refine ok_core ?_ ‹_ = Except.ok _›; simp only [↓core_mk, eq_self, implies_true, core_ite, exCore_ite, opCore_ite, outCore_ite, exCore_ok, exCore_error, opCore_some, opCore_none, outCore_next, ite_self, core_eta, if_true, if_false, foldl_core, onOk_core, opCore_map, opCore_bind, getD_core, State.allocPots_core, State.ctxRefresh_core, State.put_core]; done)
      | (refine some_core ?_ ‹_ = some _›; simp only [↓core_mk, eq_self, implies_true, core_ite, exCore_ite, opCore_ite, outCore_ite, exCore_ok, exCore_error, opCore_some, opCore_none, outCore_next, ite_self, core_eta, if_true, if_false, foldl_core, onOk_core, opCore_map, opCore_bind, getD_core, State.allocPots_core, State.ctxRefresh_core, State.put_core]; done)
      | (refine pair_core ?_ ‹_ = (_, _)›; simp only [↓core_mk, eq_self, implies_true, core_ite, exCore_ite, opCore_ite, outCore_ite, exCore_ok, exCore_error, opCore_some, opCore_none, outCore_next, ite_self, core_eta, if_true, if_false, foldl_core, onOk_core, opCore_map, opCore_bind, getD_core, State.allocPots_core, State.ctxRefresh_core, State.put_core]; done))

theorem State.ctxDisable_core (s : State) (c : Ctx) :
    (State.ctxDisable s c).core = s.core := by
  simp only [State.ctxDisable]; (repeat' split) <;> simp only [eq_self, State.ctxOff_core, State.freePotsOf_core, State.put_core]

theorem State.ctxReset_core (s : State) (c : Ctx) :
    (State.ctxReset s c).core = s.core := by
  simp only [State.ctxReset, eq_self, State.ctxDisable_core, State.resetRegs_core, State.setCtx_core]

theorem dabCfgWritten_core (c : Fin 48) (s t : State) :
    exCore t (dabCfgWritten c s t) = t.core := by
  simp only [dabCfgWritten, eq_self, core_ite, exCore_ite, exCore_ok, exCore_error, ite_self, State.ctxSearch_core]

theorem drmCfgWritten_core (d : Fin 24) (s t : State) : exCore t (drmCfgWritten d s t) = t.core := by
  simp only [drmCfgWritten]
  generalize hu : (t.ctxTaps (.drm d)).foldl _ t = u
  have h : u.core = t.core := by
    rw [← hu]
    refine foldl_core _ (fun v p => ?_) _ _
    (repeat' split) <;> simp only [State.setTap_core]
  (repeat' split) <;> first
    | rfl
    | exact h
    | exact (State.ctxSearch_core ..).trans h

theorem ctxWrite_core (c : Ctx) (off major : Nat) (w : Word) (s : State) :
    exCore s (ctxWrite c off major w s) = s.core := by
  simp only [ctxWrite]; refine onOk_core (by simp only [eq_self, exCore_ok, dabCfgWritten_core, drmCfgWritten_core, plainWrite_core]) (fun t => ?_); (repeat' split) <;> simp only [eq_self, exCore_ok, dabCfgWritten_core, drmCfgWritten_core, plainWrite_core]

theorem execAcquisitionRestart_core (a : Accessor) (c : Ctx) (w : Word) (s : State) :
    outCore s (execAcquisitionRestart a c w s) = s.core := by
  simp only [execAcquisitionRestart, eq_self, outCore_next, State.regWrite_core, ctxWrite_core]

theorem tapCmdWrite_core (t : Nat) (w : Word) (s : State) :
    exCore s (tapCmdWrite t w s) = s.core := by
  simp only [tapCmdWrite]; (repeat' split) <;> simp only [eq_self, exCore_ok, exCore_error, State.setTap_core]

theorem tapEnableFor_core (f t : Nat) (s : State) : exCore s (tapEnableFor f t s) = s.core := by
  have key : ∀ (c : TapCfg) (u : State) (e : Bool) (o : Option (Nat × Nat × Nat)), u.core = s.core →
      exCore s (if e then .error .range
        else match o with
        | none => .ok (u.put F.TAP_RUN_STATE t 1)
        | some n =>
          if u.capFits t n.1 n.2.1 then
            match u.tapPots t n.2.2 with
            | some v => .ok (v.tapRun t c n.1 n.2.1)
            | none => .error .range
          else .error .range) = s.core := by
    intro c u e o hu
    (repeat' split) <;> try rfl
    · simp only [exCore_ok, State.put_core, hu]
    · simp only [exCore_ok, State.tapRun_core]
      exact (some_core (State.tapPots_core ..) ‹_›).trans hu
  simp only [tapEnableFor]
  split
  · rfl
  · rename_i c hc
    split
    · rfl
    · rename_i u hu
      refine key c _ _ _ ?_
      rw [State.setTap_core, State.put_core]
      split at hu
      · obtain ⟨k, -, rfl⟩ := Option.map_eq_some_iff.mp hu
        exact State.puts_core ..
      · cases hu; rfl

theorem tapEnable_core (t : Nat) (s : State) :
    exCore s (tapEnable t s) = s.core := by
  simp only [tapEnable, eq_self, exCore_ite, exCore_ok, ite_self, tapEnableFor_core]

theorem State.tapDisable_core (s : State) (t : Nat) :
    (State.tapDisable s t).core = s.core := by
  simp only [State.tapDisable, eq_self, State.freePotsOf_core, State.puts_core, State.setTap_core]

theorem State.tapReset_core (s : State) (t : Nat) :
    (State.tapReset s t).core = s.core := by
  simp only [State.tapReset, eq_self, State.resetRegs_core, State.setTap_core, State.tapDisable_core]

theorem execTapCommit_core (a : Accessor) (t : Fin 1024) (w : Word) (s : State) :
    outCore s (execTapCommit a t w s) = s.core := by
  simp only [execTapCommit, eq_self, outCore_next, State.cmdWrite_core, tapCmdWrite_core]

theorem execSuperframe_core (t : Fin 1024) (fire : Bool) (rsFail : Nat) (s : State) :
    outCore s (execSuperframe t fire rsFail s) = s.core := by
  simp only [execSuperframe, eq_self, outCore_ite, outCore_next, ite_self, State.count_core, State.setTap_core]

theorem State.labelEmit_core (s : State) (t : Nat) (c : TapCfg) (single toggle : Bool) (charset : Nat) (text dl : List Byte) :
    (State.labelEmit s t c single toggle charset text dl).core = s.core := by
  simp only [State.labelEmit, eq_self, State.tapEmit_core]

theorem State.padTake_core (s : State) (t : Nat) (c : TapCfg) (p : Pad) :
    (State.padTake s t c p).core = s.core := by
  simp only [State.padTake]; (repeat' split) <;> simp only [eq_self, State.labelEmit_core, State.setTap_core, State.tapEmit_core]

theorem execAccessUnit_core (t : Fin 1024) (ok data : Bool) (unit : List Byte) (pads : List Pad) (s : State) :
    outCore s (execAccessUnit t ok data unit pads s) = s.core := by
  simp only [execAccessUnit]; (repeat' split) <;> simp only [eq_self, implies_true, outCore_next, foldl_core, State.count_core, State.padTake_core, State.setTap_core, State.tapEmit_core]

theorem execAudioFrame_core (t : Fin 1024) (good : Bool) (count rate : Nat) (pcm : List Byte) (s : State) :
    outCore s (execAudioFrame t good count rate pcm s) = s.core := by
  simp only [execAudioFrame]; (repeat' split) <;> simp only [eq_self, outCore_next, State.countE_core, State.setTap_core, State.tapEmit_core]

theorem execDecodeStop_core (t : Fin 1024) (s : State) :
    outCore s (execDecodeStop t s) = s.core := by
  simp only [execDecodeStop, eq_self, outCore_ite, outCore_next, ite_self, State.setTap_core, State.tapGap_core]

theorem State.divDecide_core (s : State) (c : Ctx) (n window : Nat) (a b : Int) :
    (State.divDecide s c n window a b).core = s.core := by
  simp only [State.divDecide, eq_self, core_ite, ite_self, State.count_core, State.puts_core, State.setCtx_core]

theorem State.ctxMeasure_core (s : State) (c : Ctx) (ofs sco mer wmer : Int) :
    (State.ctxMeasure s c ofs sco mer wmer).core = s.core := by
  simp only [State.ctxMeasure]; (repeat' split) <;> simp only [eq_self, State.puts_core]

theorem State.ctxFound_core (s : State) (c : Ctx) (mode : Nat) :
    (State.ctxFound s c mode).core = s.core := by
  simp only [State.ctxFound, eq_self, core_ite, ite_self, State.putCtxState_core, State.put_core, State.raise_core, State.setCtx_core]

theorem State.ctxFrame_core (s : State) (c : Ctx) (miss twice : Bool) (mode : Nat) (ofs sco mer wmer : Int) :
    (State.ctxFrame s c miss twice mode ofs sco mer wmer).core = s.core := by
  simp only [State.ctxFrame, eq_self, core_ite, ite_self, State.count_core, State.ctxFound_core, State.ctxMeasure_core, State.ctxSearch_core, State.putCtxState_core, State.raise_core, State.setCtx_core]

theorem State.frameStart_core (s : State) (c : Ctx) (miss twice : Bool) (mode : Nat) (ofs sco mer wmer : Int) (snr : Option (Int × Int)) :
    (State.frameStart s c miss twice mode ofs sco mer wmer snr).core = s.core := by
  simp only [State.frameStart]; (repeat' split) <;> simp only [eq_self, State.burstFrame_core, State.ctxFrame_core, State.divDecide_core]

theorem execDabFrame_core (c : Fin 48) (found zeroed : Bool) (mode : Fin 5) (ofs sco mer wmer : Int) (snr : Option (Int × Int)) (s : State) :
    outCore s (execDabFrame c found zeroed mode ofs sco mer wmer snr s) = s.core := by
  simp only [execDabFrame, eq_self, outCore_next, State.frameStart_core]

theorem execDrmFrame_core (d : Fin 24) (found zeroed : Bool) (mode : Fin 6) (ofs sco mer wmer : Int) (snr : Option (Int × Int)) (s : State) :
    outCore s (execDrmFrame d found zeroed mode ofs sco mer wmer snr s) = s.core := by
  simp only [execDrmFrame, eq_self, outCore_next, State.frameStart_core]

theorem State.putSub_core (s : State) (c : Nat) (pay : List (Nat × Nat)) (x : SubOrg) :
    (State.putSub s c pay x).core = s.core := by
  simp only [State.putSub, eq_self, State.putE_core]

theorem State.putPay_core (s : State) (c : Nat) (pay : List (Nat × Nat)) :
    (State.putPay s c pay).core = s.core := by
  simp only [State.putPay, eq_self, implies_true, core_ite, ite_self, foldl_core, State.putE_core]

theorem State.figEnsemble_core (s : State) (c : Fin 48) (eid cif change occur : Nat) (al : Bool) :
    (State.figEnsemble s c eid cif change occur al).core = s.core := by
  simp only [State.figEnsemble, eq_self, core_ite, ite_self, State.put_core, State.puts_core, State.raise_core, State.setCtx_core]

theorem State.figTake_core (s : State) (c : Fin 48) (f : Fig) :
    (State.figTake s c f).core = s.core := by
  simp only [State.figTake]; (repeat' split) <;> simp only [eq_self, implies_true, foldl_core, State.figEnsemble_core, State.putPay_core, State.putSub_core, State.setCtx_core]

theorem State.applyNext_core (s : State) (c : Fin 48) :
    (State.applyNext s c).core = s.core := by
  simp only [State.applyNext, eq_self, implies_true, foldl_core, State.ctxForget_core, State.putSub_core, State.setCtx_core]

theorem State.dabProgress_core (s : State) (c : Fin 48) :
    (State.dabProgress s c).core = s.core := by
  simp only [State.dabProgress, eq_self, core_ite, ite_self, State.applyNext_core, State.putCtxBase_core, State.put_core, State.raise_core, State.settleTaps_core]

theorem execDabReconfig_core (c : Fin 48) (s : State) :
    outCore s (execDabReconfig c s) = s.core := by
  simp only [execDabReconfig, eq_self, outCore_ite, outCore_next, ite_self, State.applyNext_core, State.put_core, State.raise_core, State.settleTaps_core]

theorem State.facTake_core (s : State) (d : Fin 24) (f : Fac) :
    (State.facTake s d f).core = s.core := by
  simp only [State.facTake, eq_self, core_ite, ite_self, State.putCtxBase_core, State.puts_core, State.raise_core, State.setCtx_core, State.settleTaps_core]

theorem State.putStreams_core (s : State) (d : Fin 24) (xs : List StreamOrg) : (s.putStreams d xs).core = s.core := by
  refine (foldl_core _ (fun t i => ?_) _ _).trans (State.setCtx_core ..)
  split <;> simp only [State.putE_core]

theorem State.sdcTake_core (s : State) (d : Fin 24) (e : Entity) :
    (State.sdcTake s d e).core = s.core := by
  simp only [State.sdcTake]; (repeat' split) <;> simp only [eq_self, State.putCtxBase_core, State.putE_core, State.putStreams_core, State.raise_core, State.setCtx_core, State.settleTaps_core]

theorem execDrmReconfig_core (d : Fin 24) (s : State) :
    outCore s (execDrmReconfig d s) = s.core := by
  simp only [execDrmReconfig]; (repeat' split) <;> simp only [eq_self, outCore_next, State.putStreams_core, State.raise_core, State.settleTaps_core]

theorem execTiiReport_core (c : Fin 48) (more : Bool) (frames : Nat) (entries : List (Nat × Nat × Nat)) (s : State) :
    outCore s (execTiiReport c more frames entries s) = s.core := by
  simp only [execTiiReport, eq_self, outCore_ite, outCore_next, ite_self, State.ctxEmit_core]

theorem State.slotOn_core (s : State) (n : Nat) :
    (State.slotOn s n).core = s.core := by
  simp only [State.slotOn, eq_self, implies_true, foldl_core, State.put_core, State.setSlot_core]

theorem State.slotOff_core (s : State) (n : Nat) :
    (State.slotOff s n).core = s.core := by
  simp only [State.slotOff, eq_self, implies_true, foldl_core, State.put_core, State.setSlot_core]

theorem slotEnable_core (n : Nat) (s : State) :
    exCore s (slotEnable n s) = s.core := by
  simp only [slotEnable]; (repeat' split) <;> simp only [eq_self, exCore_ok, exCore_error, State.slotOn_core]

theorem slotDisable_core (n : Nat) (s : State) :
    exCore s (slotDisable n s) = s.core := by
  simp only [slotDisable, eq_self, exCore_ite, exCore_ok, exCore_error, ite_self, State.slotOff_core]

theorem State.slotStart_core (s : State) (n : Nat) :
    (State.slotStart s n).core = s.core := by
  simp only [State.slotStart]; (repeat' split) <;> simp only [eq_self, core_ite, ite_self, State.raise_core, State.blerStop_core, State.ctxRefresh_core, State.delayRest_core, State.put_core, State.setSlot_core, State.trimLine_core]

theorem State.slotStop_core (s : State) (n : Nat) :
    (State.slotStop s n).core = s.core := by
  simp only [State.slotStop]; (repeat' split) <;> simp only [eq_self, State.ctxRefresh_core, State.delayRest_core, State.put_core, State.rdsEnd_core, State.resetDetectors_core, State.setSlot_core]

theorem State.slotReset_core (s : State) (n : Nat) :
    (State.slotReset s n).core = s.core := by
  simp only [State.slotReset]; (repeat' split) <;> simp only [eq_self, implies_true, foldl_core, State.ctxRefresh_core, State.freePotsOf_core, State.releaseShadow_core, State.resetLane_core, State.resetRegs_core, State.setLane_core, State.setSlot_core, State.slotLeave_core, State.slotOff_core, State.slotStop_core]

theorem execSlotStart_core (n : Fin 512) (s : State) :
    outCore s (execSlotStart n s) = s.core := by
  simp only [execSlotStart, eq_self, outCore_ite, outCore_next, ite_self, State.slotStart_core]

theorem execSlotStop_core (n : Fin 512) (s : State) :
    outCore s (execSlotStop n s) = s.core := by
  simp only [execSlotStop, eq_self, outCore_ite, outCore_next, ite_self, State.slotStop_core]

theorem State.spanOut_core (s : State) (n ticks span : Nat) (zero : Bool) :
    (State.spanOut s n ticks span zero).core = s.core := by
  simp only [State.spanOut, eq_self, core_ite, ite_self, State.count_core, State.raise_core, State.setSlot_core]

theorem State.lineOut_core (s : State) (n ticks : Nat) (l : List (Nat × Nat × Bool)) :
    (s.lineOut n ticks l).core = s.core := by
  induction l generalizing s with
  | nil => simp only [State.lineOut, State.setSlot_core]
  | cons p l ih =>
    obtain ⟨due, span, zero⟩ := p
    simp only [State.lineOut, core_ite, ih, State.spanOut_core, State.setSlot_core, ite_self]

theorem State.slotFrame_core (s : State) (n : Nat) (b : Bind) (zero : Bool) :
    (State.slotFrame s n b zero).core = s.core := by
  simp only [State.slotFrame, eq_self, core_ite, ite_self, State.lineOut_core]

theorem State.frameEnds_core (s : State) (n : Nat) :
    (State.frameEnds s n).core = s.core := by
  simp only [State.frameEnds]; (repeat' split) <;> simp only [eq_self, implies_true, foldl_core, State.count_core, State.slotFrame_core]

theorem State.burstBoundary_core (s : State) (n : Nat) :
    (State.burstBoundary s n).core = s.core := by
  simp only [State.burstBoundary]; (repeat' split) <;> simp only [eq_self, State.burstEndIfDue_core, State.put_core, State.setFe_core]

theorem State.slotsBoundary_core (s : State) (n : Nat) :
    (State.slotsBoundary s n).core = s.core := by
  simp only [State.slotsBoundary, eq_self, implies_true, core_ite, ite_self, foldl_core, State.slotStart_core, State.slotStop_core]

theorem State.satSlots_core (s : State) (n : Nat) (l : List (Fin 512)) :
    (State.satSlots s n l).core = s.core := by
  simp only [State.satSlots, eq_self, implies_true, core_ite, ite_self, foldl_core, State.put_core, State.raise_core]

theorem execBankFrame_core (f : Fin 8) (fullScale : Nat) (sat : List (Fin 512)) (s : State) :
    outCore s (execBankFrame f fullScale sat s) = s.core := by
  simp only [execBankFrame]; (repeat' split) <;> simp only [eq_self, outCore_next, State.burstBoundary_core, State.frameEnds_core, State.gainFast_core, State.gainStepIfDue_core, State.latchFrame_core, State.puts_core, State.retuneStart1_core, State.rotationSwitchIfDue_core, State.satSlots_core, State.slotsBoundary_core, State.tunerBoundary_core]

theorem State.putCand_core (s : State) (e k : Nat) (c : Cand) :
    (State.putCand s e k c).core = s.core := by
  simp only [State.putCand, eq_self, State.setFol_core]

theorem State.folTake_core (s : State) (e cur inc : Nat) : opCore s (s.folTake e cur inc) = s.core := by
  refine opCore_map ?_ (fun t => State.setFol_core ..)
  split
  · exact State.allocPots_core ..
  · exact State.trimPots_core ..

theorem State.folEmit_core (s : State) (e event k : Nat) :
    (State.folEmit s e event k).core = s.core := by
  simp only [State.folEmit, eq_self, State.deliver_core]

theorem State.folRaise_core (s : State) (e ev : Nat) :
    (State.folRaise s e ev).core = s.core := by
  simp only [State.folRaise, eq_self, State.raiseViews_core]

theorem State.poolBind_core (s : State) (n : Nat) (b : Bind) :
    opCore s (State.poolBind s n b) = s.core := by
  simp only [State.poolBind, eq_self, implies_true, core_ite, opCore_ite, opCore_none, ite_self, opCore_map, State.applyBind_core, State.put_core, State.setSlot_core, State.slotOn_core]

theorem State.poolDigital_core (s : State) (f n t : Nat) (c : Ctx) (b : Bind) :
    opCore s (s.poolDigital f n t c b) = s.core := by
  refine opCore_bind (State.poolBind_core ..) (fun u => ?_)
  dsimp only
  split
  · rfl
  · rename_i v hv
    have h1 : v.core = u.core := ok_core (ctxEnable_core ..) hv
    split
    · rename_i x hx
      exact (ok_core (tapEnableFor_core ..) hx).trans ((State.setTap_core ..).trans h1)
    · rfl

theorem State.poolTake_core (s : State) (f : Nat) (c : Cand) (n : Nat) (x : State × Cand)
    (h : s.poolTake f c n = some x) : x.1.core = s.core := by
  simp only [State.poolTake] at h
  split at h
  · cases h
  · split at h
    · obtain ⟨u, hu, rfl⟩ := Option.map_eq_some_iff.mp h
      exact some_core (State.poolBind_core ..) hu
    · split at h
      · obtain ⟨u, hu, rfl⟩ := Option.map_eq_some_iff.mp h
        exact some_core (State.poolDigital_core ..) hu
      · cases h

theorem State.poolReturn_core (s : State) (u : PoolUse) :
    (State.poolReturn s u).core = s.core := by
  simp only [State.poolReturn]; (repeat' split) <;> simp only [eq_self, State.ctxDisable_core, State.freePotsOf_core, State.puts_core, State.resetLane_core, State.setSlot_core, State.setTap_core, State.slotOff_core, State.slotStop_core, State.tapDisable_core]

theorem State.folLookup_core (s : State) (e : Nat) (c : Cand) : (s.folLookup e c).1.core = s.core := by
  have h (f : Nat) : (State.folLookup.pool s f c).1.core = s.core := by
    simp only [State.folLookup.pool]
    split
    · rename_i t d ht
      obtain ⟨n, -, hn⟩ := List.exists_of_findSome?_eq_some ht
      exact State.poolTake_core s f c n (t, d) hn
    · rfl
  simp only [State.folLookup]
  (repeat' split) <;> first | rfl | exact h _

theorem State.candName_core (s : State) (e origin : Nat) (id : Ident) (band khz : Nat) :
    (State.candName s e origin id band khz).core = s.core := by
  simp only [State.candName]; (repeat' split) <;> simp only [eq_self, State.folEmit_core, State.folLookup_core, State.folRaise_core, State.putCand_core]

theorem State.lineDrop_core (s : State) (e : Nat) : (s.lineDrop e).core = s.core :=
  (getD_core (State.folTake_core ..)).trans (State.setFol_core ..)

theorem State.candDrop_core (s : State) (e k : Nat) :
    (State.candDrop s e k).core = s.core := by
  simp only [State.candDrop]; (repeat' split) <;> simp only [eq_self, State.folEmit_core, State.lineDrop_core, State.poolReturn_core, State.setFol_core]

theorem State.candRetry_core (s : State) : (s.candRetry).core = s.core := by
  unfold State.candRetry
  refine foldl_core _ (fun t e => ?_) _ _
  dsimp only
  split
  · refine foldl_core _ (fun u p => ?_) _ _
    (repeat' split) <;> simp only [State.putCand_core, State.folLookup_core]
  · rfl

theorem State.folSweep_core (s : State) :
    (State.folSweep s).core = s.core := by
  simp only [State.folSweep, eq_self, implies_true, core_ite, ite_self, foldl_core, State.candDrop_core]

theorem State.folSig_core (s : State) (e : Nat) (dab : Option Ctx) (x : Sig) :
    (State.folSig s e dab x).core = s.core := by
  simp only [State.folSig]; (repeat' split) <;> simp only [eq_self, State.candName_core, State.setFol_core]

theorem State.folSigs_core (s : State) (ids : List Ident) (dab : Option Ctx) (xs : List Sig) :
    (State.folSigs s ids dab xs).core = s.core := by
  simp only [State.folSigs, eq_self, implies_true, core_ite, ite_self, foldl_core, State.folSig_core]

theorem State.folSubs_core (s : State) (c : Ctx) : (s.folSubs c).core = s.core := by
  refine (State.settleTaps_core ..).trans (foldl_core _ (fun u e => foldl_core _ (fun v p => ?_) _ _) _ _)
  dsimp only
  (repeat' split) <;> simp only [State.setTap_core]

theorem State.linePoor_core (s : State) (e k : Nat) :
    (State.linePoor s e k).core = s.core := by
  simp only [State.linePoor]; (repeat' split) <;> simp only [eq_self, State.folRaise_core, State.putCand_core]

theorem State.lineTake_core (s t : State) (e k : Nat) (o : Option State) (ho : opCore t o = t.core) (ht : t.core = s.core) :
    (t.lineTake e k o).core = s.core := by
  cases o with
  | some u => exact (State.setFol_core ..).trans (ho.trans ht)
  | none => exact (State.linePoor_core ..).trans ht

theorem State.lineFor_core (s : State) (e k : Nat) : (s.lineFor e k).core = s.core := by
  unfold State.lineFor
  split
  · rfl
  · split
    · rfl
    · exact State.lineTake_core _ _ _ _ _ (State.folTake_core _ _ _ _) (State.lineDrop_core _ _)

theorem State.folGrow_core (s : State) (e k : Nat) :
    (State.folGrow s e k).core = s.core := by
  (simp only [State.folGrow]; (repeat' split) <;> (try simp only [↓core_mk, eq_self, implies_true, core_ite, exCore_ite, opCore_ite, outCore_ite, exCore_ok, exCore_error, opCore_some, opCore_none, outCore_next, ite_self, core_eta, if_true, if_false, foldl_core, onOk_core, opCore_map, opCore_bind, getD_core, State.folTake_core, State.linePoor_core, State.setFol_core]) <;> first
      | (refine ok_core ?_ ‹_ = Except.ok _›; simp only [↓core_mk, eq_self, implies_true, core_ite, exCore_ite, opCore_ite, outCore_ite, exCore_ok, exCore_error, opCore_some, opCore_none, outCore_next, ite_self, core_eta, if_true, if_false, foldl_core, onOk_core, opCore_map, opCore_bind, getD_core, State.folTake_core, State.linePoor_core, State.setFol_core]; done)
      | (refine some_core ?_ ‹_ = some _›; simp only [↓core_mk, eq_self, implies_true, core_ite, exCore_ite, opCore_ite, outCore_ite, exCore_ok, exCore_error, opCore_some, opCore_none, outCore_next, ite_self, core_eta, if_true, if_false, foldl_core, onOk_core, opCore_map, opCore_bind, getD_core, State.folTake_core, State.linePoor_core, State.setFol_core]; done)
      | (refine pair_core ?_ ‹_ = (_, _)›; simp only [↓core_mk, eq_self, implies_true, core_ite, exCore_ite, opCore_ite, outCore_ite, exCore_ok, exCore_error, opCore_some, opCore_none, outCore_next, ite_self, core_eta, if_true, if_false, foldl_core, onOk_core, opCore_map, opCore_bind, getD_core, State.folTake_core, State.linePoor_core, State.setFol_core]; done))

theorem State.scoutRelease_core (s : State) (e : Nat) :
    (State.scoutRelease s e).core = s.core := by
  simp only [State.scoutRelease]; (repeat' split) <;> simp only [eq_self, State.putCand_core, State.put_core, State.setFol_core]

theorem State.folEnd_core (s : State) (e : Nat) : (s.folEnd e).core = s.core := by
  simp only [State.folEnd]
  split
  · rw [State.candRetry_core, State.setFol_core, State.setGrp_core, State.freePotsOf_core]
    refine (foldl_core _ (fun u p => ?_) _ _).trans ((State.scoutRelease_core ..).trans (State.folEmit_core ..))
    split
    · exact State.poolReturn_core ..
    · rfl
  · rfl

theorem State.folEndAll_core (s : State) (f : Option Nat) :
    (State.folEndAll s f).core = s.core := by
  simp only [State.folEndAll, eq_self, implies_true, core_ite, ite_self, foldl_core, State.folEnd_core]

theorem folBegin_core (s t : State) (e : Nat) (o : Option State) (ho : opCore t o = t.core) (ht : t.core = s.core) :
    exCore s (folBegin e o) = s.core := by
  cases o with
  | some u => exact (State.folEmit_core ..).trans (ho.trans ht)
  | none => rfl

theorem folGo_core (e f : Nat) (s : State) : exCore s (folGo e f s) = s.core := by
  unfold folGo
  split
  · split
    · rfl
    · exact folBegin_core _ _ _ _ (State.folTake_core _ _ _ _) ((State.setFol_core _ _ _).trans (State.setGrp_core _ _ _))
  · rfl

theorem folRealign_core (e : Nat) (s : State) : exCore s (folRealign e s) = s.core := by
  simp only [folRealign]
  split
  · rfl
  · split
    · rename_i u hu
      rw [exCore_ok, some_core (State.folTake_core _ _ _ _) hu, State.setFol_core, State.lineDrop_core,
        State.scoutRelease_core]
    · rfl

theorem folCmdWrite_core (a : Accessor) (e : Nat) (w : Word) (s : State) : exCore s (folCmdWrite a e w s) = s.core := by
  have h : ∀ b : Bool, (if b then s.folEnd e else s).core = s.core := fun b => by
    simp only [core_ite, State.folEnd_core, ite_self]
  simp only [folCmdWrite]
  generalize ht : (if bit w.toNat 1 = true then s.folEnd e else s) = t
  have h1 : t.core = s.core := by rw [← ht]; exact h _
  (repeat' split) <;> first
    | exact exCore_of (folRealign_core ..) h1
    | exact exCore_of (folGo_core ..) h1
    | exact h1

theorem poolWrite_core (a : Accessor) (off major : Nat) (w : Word) (s : State) :
    exCore s (poolWrite a off major w s) = s.core := by
  simp only [poolWrite, eq_self, exCore_ite, exCore_error, ite_self, plainWrite_core]

theorem folWrite_core (a : Accessor) (off major : Nat) (w : Word) (s : State) :
    exCore s (folWrite a off major w s) = s.core := by
  simp only [folWrite, eq_self, exCore_ite, exCore_error, ite_self, folCmdWrite_core, plainWrite_core, poolWrite_core]

theorem State.folReset_core (s : State) :
    (State.folReset s).core = s.core := by
  simp only [State.folReset, eq_self, implies_true, foldl_core, State.folEndAll_core, State.resetRegs_core]

theorem execReservePoolWrite_core (a : Accessor) (which : Fin 3) (w : Word) (s : State) :
    outCore s (execReservePoolWrite a which w s) = s.core := by
  simp only [execReservePoolWrite, eq_self, outCore_next, State.regWrite_core, folWrite_core]

theorem execFolGo_core (a : Accessor) (e : Fin 32) (w : Word) (s : State) :
    outCore s (execFolGo a e w s) = s.core := by
  simp only [execFolGo, eq_self, core_ite, outCore_next, ite_self, State.raiseViews_core, State.regWrite_core, folWrite_core]

theorem execFolStop_core (a : Accessor) (e : Fin 32) (w : Word) (s : State) :
    outCore s (execFolStop a e w s) = s.core := by
  simp only [execFolStop, eq_self, outCore_next, State.regWrite_core, folWrite_core]

theorem execFolRealign_core (a : Accessor) (e : Fin 32) (w : Word) (s : State) :
    outCore s (execFolRealign a e w s) = s.core := by
  simp only [execFolRealign, eq_self, outCore_next, State.regWrite_core, folWrite_core]

theorem State.alignReport_core (s : State) (e k : Nat) (pass : Bool) :
    (State.alignReport s e k pass).core = s.core := by
  simp only [State.alignReport, eq_self, State.folEmit_core, State.folRaise_core]

theorem State.alignUse_core (s : State) (e k : Nat) :
    (State.alignUse s e k).core = s.core := by
  simp only [State.alignUse]; (repeat' split) <;> simp only [eq_self, State.folGrow_core, State.lineFor_core]

theorem execFolCoarseAlign_core (e : Fin 32) (k : Fin 16) (peak second lag : Int) (s : State) :
    outCore s (execFolCoarseAlign e k peak second lag s) = s.core := by
  simp only [execFolCoarseAlign]; (repeat' split) <;> simp only [eq_self, outCore_next, State.alignReport_core, State.putCand_core]

theorem execFolFineAlign_core (e : Fin 32) (k : Fin 16) (peak lag : Int) (s : State) :
    outCore s (execFolFineAlign e k peak lag s) = s.core := by
  simp only [execFolFineAlign]; (repeat' split) <;> simp only [eq_self, outCore_next, State.alignReport_core, State.alignUse_core, State.folEmit_core, State.putCand_core]

theorem execFolAlignTimer_core (e : Fin 32) (k : Fin 16) (s : State) :
    outCore s (execFolAlignTimer e k s) = s.core := by
  simp only [execFolAlignTimer]; (repeat' split) <;> simp only [eq_self, outCore_next, State.putCand_core]

theorem execCandExpire_core (e : Fin 32) (k : Fin 16) (s : State) :
    outCore s (execCandExpire e k s) = s.core := by
  simp only [execCandExpire, eq_self, outCore_ite, outCore_next, ite_self, State.candDrop_core, State.candRetry_core]

theorem State.folScores_core (s : State) (e : Nat) (aus : List (Nat × Nat)) :
    (State.folScores s e aus).core = s.core := by
  simp only [State.folScores, eq_self, implies_true, core_ite, ite_self, foldl_core, State.putCand_core]

theorem State.folDecide_core (s : State) (e k : Nat) :
    (State.folDecide s e k).core = s.core := by
  simp only [State.folDecide, eq_self, core_ite, ite_self, State.lineFor_core, State.setFol_core]

theorem State.folJudge_core (s : State) (e : Nat) :
    (State.folJudge s e).core = s.core := by
  simp only [State.folJudge]; (repeat' split) <;> simp only [eq_self, State.folDecide_core, State.folEmit_core, State.folRaise_core, State.lineFor_core, State.setFol_core]

theorem execFolScore_core (e : Fin 32) (aus : List (Nat × Nat)) (s : State) :
    outCore s (execFolScore e aus s) = s.core := by
  simp only [execFolScore, eq_self, outCore_ite, outCore_next, ite_self, State.folJudge_core, State.folScores_core]

theorem execSwitch_core (e : Fin 32) (cur inc : Int) (s : State) :
    outCore s (execSwitch e cur inc s) = s.core := by
  simp only [execSwitch]; (repeat' split) <;> simp only [eq_self, outCore_next, State.countE_core, State.folEmit_core, State.folRaise_core, State.scoutRelease_core, State.setFol_core]

theorem execFolCrossfadeEnd_core (e : Fin 32) (s : State) : outCore s (execFolCrossfadeEnd e s) = s.core := by
  simp only [execFolCrossfadeEnd]
  split
  · rfl
  · exact (getD_core (State.folTake_core ..)).trans (State.setFol_core ..)

theorem State.scoutTune_core (s : State) (n khz : Nat) :
    (State.scoutTune s n khz).core = s.core := by
  simp only [State.scoutTune, eq_self, State.applyWindow_core, State.partTarget_core, State.put_core]

theorem execFallback_core (e : Fin 32) (s : State) :
    outCore s (execFallback e s) = s.core := by
  simp only [execFallback]; (repeat' split) <;> simp only [eq_self, outCore_next, State.folEmit_core, State.folRaise_core, State.putCand_core, State.scoutTune_core, State.setFol_core]

theorem execRdsBlock_core (n : Fin 512) (word : BitVec 26) (gap : Nat) (excluded : Bool) (sigs : List Sig) (s : State) :
    outCore s (execRdsBlock n word gap excluded sigs s) = s.core := by
  simp only [execRdsBlock, eq_self, core_ite, outCore_ite, outCore_next, ite_self, State.folSigs_core, State.rdsTake_core]

theorem State.fibGood_core (s : State) (c : Fin 48) (index : Nat) (figs : List Fig) :
    (State.fibGood s c index figs).core = s.core := by
  simp only [State.fibGood, eq_self, implies_true, core_ite, ite_self, foldl_core, State.alarmFib_core, State.count_core, State.dabProgress_core, State.figDeliver_core, State.figTake_core, State.folSigs_core, State.folSubs_core, State.putCtxBase_core]

theorem execFibReceived_core (c : Fin 48) (index : Nat) (ok : Bool) (figs : List Fig) (raw : List Byte) (s : State) :
    outCore s (execFibReceived c index ok figs raw s) = s.core := by
  simp only [execFibReceived, eq_self, outCore_ite, outCore_next, ite_self, State.count_core, State.ctxEmit_core, State.fibGood_core]

theorem State.facDeliver_core (s : State) (d : Fin 24) (ok : Bool) (f : Nat) (block : List Byte) :
    (State.facDeliver s d ok f block).core = s.core := by
  simp only [State.facDeliver, eq_self, State.ctxEmit_core]

theorem execFacReceived_core (d : Fin 24) (ok : Bool) (fac : Fac) (block : List Byte) (s : State) :
    outCore s (execFacReceived d ok fac block s) = s.core := by
  simp only [execFacReceived, eq_self, core_ite, outCore_ite, outCore_next, ite_self, State.alarmFac_core, State.count_core, State.facDeliver_core, State.facTake_core, State.folSubs_core, State.setCtx_core]

theorem State.sdcDeliver_core (s : State) (d : Fin 24) (ok : Bool) (afs : Nat) (block : List Byte) :
    (State.sdcDeliver s d ok afs block).core = s.core := by
  simp only [State.sdcDeliver, eq_self, core_ite, ite_self, State.ctxEmit_core, State.setCtx_core]

theorem execSdcReceived_core (d : Fin 24) (ok : Bool) (afs : Nat) (entities : List Entity) (block : List Byte) (s : State) :
    outCore s (execSdcReceived d ok afs entities block s) = s.core := by
  simp only [execSdcReceived, eq_self, implies_true, core_ite, outCore_ite, outCore_next, ite_self, foldl_core, State.alarmSdc_core, State.count_core, State.folSigs_core, State.folSubs_core, State.sdcDeliver_core, State.sdcTake_core, State.setCtx_core]

end Sys2Proof.Machine
end

