-- ==== Sys2Proof/Laws/CoreClock.lean ====
section
/-! SUPPORT. What the operations over metrology, clocks, domains and boot keep: the fields of `core`. -/

namespace Sys2Proof.Machine

set_option linter.unusedSimpArgs false
set_option linter.unreachableTactic false
set_option linter.unusedTactic false
set_option linter.unnecessarySeqFocus false

theorem execFsWindowEnd_core (n : Fin 512) (valid total : Nat) (dbm k : Int) (stale clip : Bool) (nbw : Int) (s : State) :
    outCore s (execFsWindowEnd n valid total dbm k stale clip nbw s) = s.core := by
  simp only [execFsWindowEnd]; (repeat' split) <;> simp only [↓core_mk, eq_self, outCore_next, core_eta]

theorem execDevWindowEnd_core (n : Fin 512) (valid total peak : Nat) (hist : List Nat) (above : Nat) (s : State) :
    outCore s (execDevWindowEnd n valid total peak hist above s) = s.core := by
  simp only [execDevWindowEnd, ↓core_mk, eq_self, outCore_ite, outCore_next, ite_self, core_eta, State.raiseViews_core]

theorem execMpxWindowEnd_core (n : Fin 512) (valid total sumSq : Nat) (s : State) :
    outCore s (execMpxWindowEnd n valid total sumSq s) = s.core := by
  simp only [execMpxWindowEnd, ↓core_mk, eq_self, outCore_ite, outCore_next, ite_self, core_eta, State.raiseViews_core]

theorem execMpxRunUpdate_core (n : Fin 512) (valid total sumSq : Nat) (s : State) :
    outCore s (execMpxRunUpdate n valid total sumSq s) = s.core := by
  simp only [execMpxRunUpdate, ↓core_mk, eq_self, outCore_ite, outCore_next, ite_self, core_eta]

theorem execInjectionWindowEnd_core (n : Fin 512) (valid total pilot rdsSq : Nat) (s : State) :
    outCore s (execInjectionWindowEnd n valid total pilot rdsSq s) = s.core := by
  simp only [execInjectionWindowEnd, ↓core_mk, eq_self, outCore_ite, outCore_next, ite_self, core_eta]

theorem execAmDepthWindowEnd_core (n : Fin 512) (valid total : Nat) (hi lo : Int) (sumSq pinch : Nat) (s : State) :
    outCore s (execAmDepthWindowEnd n valid total hi lo sumSq pinch s) = s.core := by
  simp only [execAmDepthWindowEnd, ↓core_mk, eq_self, outCore_ite, outCore_next, ite_self, core_eta]

theorem State.refStart_core (s : State) :
    (State.refStart s).core = s.core := by
  simp only [State.refStart, ↓core_mk, eq_self, core_eta, State.put_core]

theorem refCmdWrite_core (a : Accessor) (w : Word) (s : State) :
    exCore s (refCmdWrite a w s) = s.core := by
  simp only [refCmdWrite, eq_self, exCore_ite, exCore_ok, exCore_error, ite_self, State.refStart_core]

theorem State.refAbort_core (s : State) :
    (State.refAbort s).core = s.core := by
  simp only [State.refAbort, eq_self, core_ite, ite_self, State.puts_core]

theorem execRefCheckDone_core (dev : Int) (s : State) :
    outCore s (execRefCheckDone dev s) = s.core := by
  simp only [execRefCheckDone, ↓core_mk, eq_self, outCore_ite, outCore_next, ite_self, core_eta, State.put_core, State.puts_core, State.raiseViews_core]

theorem State.refDueNow_core (s : State) :
    (State.refDueNow s).core = s.core := by
  simp only [State.refDueNow, ↓core_mk, eq_self, core_ite, ite_self, core_eta, State.refStart_core]

theorem State.refPending_core (s : State) :
    (State.refPending s).core = s.core := by
  simp only [State.refPending, eq_self, core_ite, ite_self, State.refStart_core]

theorem State.refFirst_core (s : State) :
    (State.refFirst s).core = s.core := by
  simp only [State.refFirst, ↓core_mk, eq_self, core_ite, ite_self, core_eta, State.refDueNow_core]

theorem execRefAgeDay_core (s : State) :
    outCore s (execRefAgeDay s) = s.core := by
  simp only [execRefAgeDay, ↓core_mk, eq_self, core_ite, outCore_ite, outCore_next, ite_self, core_eta, State.raiseViews_core, State.refDueNow_core]

theorem execPpsEdge_core (falling : Bool) (s : State) :
    outCore s (execPpsEdge falling s) = s.core := by
  simp only [execPpsEdge, ↓core_mk, eq_self, outCore_ite, outCore_next, ite_self, core_eta, State.count_core, State.puts_core]

theorem execPpsMissing_core (s : State) :
    outCore s (execPpsMissing s) = s.core := by
  simp only [execPpsMissing, ↓core_mk, eq_self, outCore_ite, outCore_next, ite_self, core_eta, State.raiseViews_core]

theorem State.gainTold_core (s : State) (n : Nat) :
    (State.gainTold s n).core = s.core := by
  simp only [State.gainTold, eq_self, State.setSlot_core]

theorem execMetricReport_core (src : MetSrc) (mers : List Nat) (s : State) :
    outCore s (execMetricReport src mers s) = s.core := by
  simp only [execMetricReport]; (repeat' split) <;> simp only [eq_self, outCore_next, State.ctxEmit_core, State.gainTold_core, State.slotEmit_core]

theorem State.lineTo_core (s : State) (n st : Nat) :
    (State.lineTo s n st).core = s.core := by
  simp only [State.lineTo, eq_self, core_ite, ite_self, State.putE_core, State.raise_core]

theorem State.lineRun_core (s : State) (n : Nat) :
    (State.lineRun s n).core = s.core := by
  simp only [State.lineRun, eq_self, core_ite, ite_self, State.lineTo_core]

theorem State.linesRun_core (s : State) :
    (State.linesRun s).core = s.core := by
  simp only [State.linesRun, eq_self, implies_true, foldl_core, State.lineRun_core]

theorem State.holdEnd_core (s : State) :
    (State.holdEnd s).core = s.core := by
  simp only [State.holdEnd, eq_self, core_ite, ite_self, State.put_core]

theorem State.pathStops_core (s : State) :
    (State.pathStops s).core = s.core := by
  simp only [State.pathStops, eq_self, implies_true, core_ite, ite_self, foldl_core, State.setFe_core, State.tapGap_core]

theorem State.startRelock_core (s : State) (ref : Nat) :
    (State.startRelock s ref).core = s.core := by
  simp only [State.startRelock, ↓core_mk, eq_self, core_ite, ite_self, core_eta, State.holdEnd_core, State.linesRun_core, State.pathStops_core, State.puts_core]

theorem State.pllStart_core (s : State) :
    (State.pllStart s).core = s.core := by
  simp only [State.pllStart, eq_self, State.startRelock_core]

theorem execPllCounterWindow_core (count : Nat) (s : State) :
    outCore s (execPllCounterWindow count s) = s.core := by
  simp only [execPllCounterWindow, ↓core_mk, eq_self, core_ite, outCore_ite, outCore_next, ite_self, core_eta, State.raise_core, State.startRelock_core]

theorem pllCmdWrite_core (w : Word) (s : State) :
    exCore s (pllCmdWrite w s) = s.core := by
  simp only [pllCmdWrite, eq_self, exCore_ite, exCore_ok, exCore_error, ite_self, State.startRelock_core]

theorem execPllApply_core (a : Accessor) (w : Word) (s : State) :
    outCore s (execPllApply a w s) = s.core := by
  simp only [execPllApply, eq_self, outCore_next, State.regWrite_core, pllCmdWrite_core]

theorem State.pllLocks_core (s : State) (start : Nat) : (s.pllLocks start).core = s.core := by
  have h (t : State) (c : ClkHid) : ({ t with clk := c } : State).core = t.core := rfl
  simp only [State.pllLocks, State.raise_core, State.linesRun_core, core_ite, State.lineTo_core, h, State.count_core,
    State.puts_core, ite_self]

theorem State.relockGap_core (s : State) (n start : Nat) (b : Bind) :
    (State.relockGap s n start b).core = s.core := by
  simp only [State.relockGap, eq_self, core_ite, ite_self, State.slotEmit_core]

theorem State.rawGap_core (s : State) (n start : Nat) :
    (State.rawGap s n start).core = s.core := by
  simp only [State.rawGap, eq_self, core_ite, ite_self, State.deliver_core]

theorem State.folGap_core (s : State) (n start : Nat) :
    (State.folGap s n start).core = s.core := by
  simp only [State.folGap, eq_self, implies_true, core_ite, ite_self, foldl_core, State.deliver_core]

theorem execWindowResume_core (f : Fin 8) (s : State) :
    outCore s (execWindowResume f s) = s.core := by
  simp only [execWindowResume]; (repeat' split) <;> simp only [eq_self, implies_true, core_ite, outCore_next, ite_self, foldl_core, State.folGap_core, State.latchFrame_core, State.rawGap_core, State.relockGap_core, State.setFe_core, State.slotStart_core]

theorem State.refGone_core (s : State) (ref : Nat) :
    (State.refGone s ref).core = s.core := by
  simp only [State.refGone, ↓core_mk, eq_self, core_ite, ite_self, core_eta, State.put_core, State.raise_core, State.startRelock_core]

theorem State.refBack_core (s : State) (ref : Nat) :
    (State.refBack s ref).core = s.core := by
  simp only [State.refBack, ↓core_mk, eq_self, core_ite, ite_self, core_eta, State.holdEnd_core, State.put_core, State.raise_core]

theorem State.syncCoast_core (s : State) :
    (State.syncCoast s).core = s.core := by
  simp only [State.syncCoast, eq_self, core_ite, ite_self, State.count_core, State.lineTo_core, State.raise_core]

theorem execRefPresent_core (sync : Bool) (ppm : Int) (s : State) :
    outCore s (execRefPresent sync ppm s) = s.core := by
  simp only [execRefPresent, eq_self, outCore_ite, outCore_next, ite_self, State.put_core, State.refBack_core]

theorem execRefLost_core (s : State) :
    outCore s (execRefLost s) = s.core := by
  simp only [execRefLost, eq_self, core_ite, outCore_ite, outCore_next, ite_self, State.put_core, State.refGone_core, State.syncCoast_core]

theorem execInactiveReferenceLost_core (sync : Bool) (s : State) :
    outCore s (execInactiveReferenceLost sync s) = s.core := by
  simp only [execInactiveReferenceLost, eq_self, core_ite, outCore_ite, outCore_next, ite_self, State.put_core, State.startRelock_core]

theorem execXoOk_core (frcKhz : Nat) (s : State) :
    outCore s (execXoOk frcKhz s) = s.core := by
  simp only [execXoOk, eq_self, core_ite, outCore_ite, outCore_next, ite_self, State.put_core]

theorem execXoLost_core (s : State) :
    outCore s (execXoLost s) = s.core := by
  simp only [execXoLost, eq_self, core_ite, outCore_ite, outCore_next, ite_self, State.put_core, State.raise_core, State.startRelock_core]

theorem execX32Ok_core (s : State) :
    outCore s (execX32Ok s) = s.core := by
  simp only [execX32Ok, eq_self, outCore_ite, outCore_next, ite_self, State.puts_core, State.raiseOn_core]

theorem execX32Lost_core (s : State) :
    outCore s (execX32Lost s) = s.core := by
  simp only [execX32Lost, eq_self, outCore_ite, outCore_next, ite_self, State.puts_core, State.raiseOn_core]

theorem x32CfgWrite_core (major : Nat) (w : Word) (s : State) :
    exCore s (x32CfgWrite major w s) = s.core := by
  simp only [x32CfgWrite, eq_self, implies_true, core_ite, exCore_ok, ite_self, onOk_core, State.puts_core, plainWrite_core]

theorem execX32DisWrite_core (a : Accessor) (w : Word) (s : State) :
    outCore s (execX32DisWrite a w s) = s.core := by
  simp only [execX32DisWrite, eq_self, outCore_next, State.regWrite_core, x32CfgWrite_core]

theorem execRcTrim_core (err : Int) (s : State) :
    outCore s (execRcTrim err s) = s.core := by
  simp only [execRcTrim, eq_self, outCore_ite, outCore_next, ite_self, State.put_core]

theorem audPllWrite_core (w : Word) (s : State) :
    exCore s (audPllWrite w s) = s.core := by
  simp only [audPllWrite, eq_self, core_ite, exCore_ite, exCore_ok, exCore_error, ite_self, State.put_core]

theorem execAudPllEnable_core (a : Accessor) (w : Word) (s : State) :
    outCore s (execAudPllEnable a w s) = s.core := by
  simp only [execAudPllEnable, eq_self, outCore_next, State.regWrite_core, audPllWrite_core]

theorem execAudPllLock_core (b : Bool) (s : State) :
    outCore s (execAudPllLock b s) = s.core := by
  simp only [execAudPllLock, eq_self, outCore_ite, outCore_next, ite_self, State.put_core]

theorem execAudUnlock_core (b : Bool) (s : State) :
    outCore s (execAudUnlock b s) = s.core := by
  simp only [execAudUnlock, eq_self, outCore_ite, outCore_next, ite_self, State.put_core, State.raise_core]

theorem execLineCounterWindow_core (n : Fin 9) (diff : Int) (s : State) :
    outCore s (execLineCounterWindow n diff s) = s.core := by
  simp only [execLineCounterWindow, eq_self, core_ite, outCore_ite, outCore_next, ite_self, State.lineTo_core, State.raise_core, State.refGone_core]

theorem execLineLock_core (n : Fin 9) (s : State) :
    outCore s (execLineLock n s) = s.core := by
  simp only [execLineLock, eq_self, core_ite, outCore_ite, outCore_next, ite_self, State.putE_core, State.raise_core, State.refBack_core]

theorem syncCfgWrite_core (major : Nat) (w : Word) (s : State) :
    exCore s (syncCfgWrite major w s) = s.core := by
  simp only [syncCfgWrite, eq_self, implies_true, exCore_ite, exCore_ok, exCore_error, ite_self, onOk_core, State.lineTo_core, plainWrite_core]

theorem execSyncReturn_core (err : Int) (s : State) :
    outCore s (execSyncReturn err s) = s.core := by
  simp only [execSyncReturn, ↓core_mk, eq_self, outCore_ite, outCore_next, ite_self, core_eta, State.count_core, State.putE_core, State.put_core, State.raise_core, State.startRelock_core]

theorem execSyncSlewDone_core (s : State) :
    outCore s (execSyncSlewDone s) = s.core := by
  simp only [execSyncSlewDone, eq_self, outCore_ite, outCore_next, ite_self, State.lineTo_core, State.put_core, State.raise_core]

theorem State.clockReset_core (s : State) :
    (State.clockReset s).core = s.core := by
  simp only [State.clockReset, eq_self, State.resetKeep_core]

theorem State.dllReset_core (s : State) :
    (State.dllReset s).core = s.core := by
  simp only [State.dllReset, eq_self, core_ite, ite_self, State.resetKeep_core]

theorem State.dropBlk_core (s : State) (b : Blk) :
    (State.dropBlk s b).core = s.core := by
  simp only [State.dropBlk, ↓core_mk, eq_self, core_eta]

theorem State.dropCtrl_core (s : State) : (s.dropCtrl).core = s.core := by
  refine (foldl_core _ (fun u a => State.put_core ..) _ _).trans (foldl_core _ (fun t b => ?_) _ _)
  split
  · exact State.resetKeep_core ..
  · exact State.dropBlk_core ..

theorem State.dropMembers_core (s : State) (p : Member → Bool) :
    (State.dropMembers s p).core = s.core := by
  simp only [State.dropMembers, ↓core_mk, eq_self, core_eta]

theorem State.dropPots_core (s : State) (d : Nat) :
    (State.dropPots s d).core = s.core := by
  simp only [State.dropPots, ↓core_mk, eq_self, core_eta]

theorem State.dropHidden_core (s : State) (d : Nat) : (s.dropHidden d).core = s.core := by
  have h1 (p : Member → Bool) (k : Nat) : ((s.dropMembers p).dropPots k).core = s.core :=
    (State.dropPots_core ..).trans (State.dropMembers_core ..)
  have h2 (k : Nat) : (s.dropPots k).core = s.core := State.dropPots_core ..
  simp only [State.dropHidden]
  split
  · rfl
  · split
    · refine (foldl_core _ (fun t n => ?_) _ _).trans ?_ <;> rfl
    · (repeat' split) <;> first
        | rfl
        | exact h1 _ _
        | exact h2 _
        | exact (State.puts_core ..).trans (h1 _ _)

theorem State.fadeRegs_core (s : State) (d : Nat) :
    (State.fadeRegs s d).core = s.core := by
  simp only [State.fadeRegs, eq_self, implies_true, core_ite, ite_self, foldl_core, State.dropBlk_core, State.put_core, State.resetKeep_core]

theorem State.freshRegs_core (s : State) (d : Nat) :
    (State.freshRegs s d).core = s.core := by
  simp only [State.freshRegs, eq_self, implies_true, core_ite, ite_self, foldl_core, State.dropBlk_core, State.dropCtrl_core, State.resetKeep_core]

theorem State.setLoaded_core (s : State) (g : Nat) (v : Bool) :
    (State.setLoaded s g v).core = s.core := by
  simp only [State.setLoaded, eq_self, State.put_core]

theorem State.hold_core (s : State) (g : Nat) :
    (State.hold s g).core = s.core := by
  simp only [State.hold, ↓core_mk, eq_self, core_ite, ite_self, core_eta, State.put_core]

theorem State.holdOff_core (s : State) (g : Nat) :
    (State.holdOff s g).core = s.core := by
  simp only [State.holdOff, ↓core_mk, eq_self, core_eta, State.put_core]

theorem State.release_core (s : State) (g : Nat) :
    (State.release s g).core = s.core := by
  simp only [State.release, ↓core_mk, eq_self, core_eta, State.put_core, State.setLoaded_core]

theorem State.holdDom_core (s : State) (d : Nat) :
    (State.holdDom s d).core = s.core := by
  simp only [State.holdDom, eq_self, implies_true, foldl_core, State.hold_core]

theorem State.unloadDom_core (s : State) (d : Nat) :
    (State.unloadDom s d).core = s.core := by
  simp only [State.unloadDom, ↓core_mk, eq_self, implies_true, core_ite, ite_self, core_eta, foldl_core, State.setLoaded_core]

theorem State.padWritten_core (s : State) (c : Nat) :
    (State.padWritten s c).core = s.core := by
  simp only [State.padWritten, ↓core_mk, eq_self, implies_true, core_ite, ite_self, core_eta, foldl_core, State.setLoaded_core]

theorem puntyReleaseWrite_core (a : Accessor) (w : Word) (s : State) :
    exCore s (puntyReleaseWrite a w s) = s.core := by
  simp only [puntyReleaseWrite, eq_self, implies_true, core_ite, exCore_ok, ite_self, foldl_core, State.logAccess_core, State.raise_core, State.release_core]

theorem execPuntyRelease_core (a : Accessor) (w : Word) (s : State) :
    outCore s (execPuntyRelease a w s) = s.core := by
  simp only [execPuntyRelease, eq_self, outCore_next, State.regWrite_core, puntyReleaseWrite_core]

theorem State.bootTo_core (s : State) (x : Nat) :
    (State.bootTo s x).core = s.core := by
  simp only [State.bootTo, eq_self, core_ite, ite_self, State.attnMark_core, State.put_core]

theorem State.noImage_core (s : State) :
    (State.noImage s).core = s.core := by
  simp only [State.noImage, eq_self, State.bootTo_core]

theorem State.bootRom_core (s : State) :
    (State.bootRom s).core = s.core := by
  simp only [State.bootRom, ↓core_mk, eq_self, core_ite, ite_self, core_eta, State.bootTo_core, State.release_core, State.setLoaded_core]

theorem State.imageStart_core (s : State) (src ver seq : Nat) :
    (State.imageStart s src ver seq).core = s.core := by
  simp only [State.imageStart, ↓core_mk, eq_self, core_eta, State.bootTo_core, State.puts_core]

theorem State.bootWake_core (s : State) :
    (State.bootWake s).core = s.core := by
  simp only [State.bootWake]; (repeat' split) <;> simp only [eq_self, State.bootRom_core, State.imageStart_core, State.put_core]

theorem State.ctrlOff_core (s : State) :
    (State.ctrlOff s).core = s.core := by
  simp only [State.ctrlOff, ↓core_mk, eq_self, core_ite, ite_self, core_eta]

theorem State.flashDone_core (s : State) (flash : List (List Byte)) (keyOk sigOk hashOk : Bool) :
    (State.flashDone s flash keyOk sigOk hashOk).core = s.core := by
  simp only [State.flashDone]; (repeat' split) <;> simp only [↓core_mk, eq_self, core_eta, State.imageStart_core, State.noImage_core, State.put_core]

theorem State.hostDone_core (s : State) (keyOk sigOk hashOk : Bool) :
    (State.hostDone s keyOk sigOk hashOk).core = s.core := by
  simp only [State.hostDone, ↓core_mk, eq_self, core_ite, ite_self, core_eta, State.bootTo_core, State.imageStart_core, State.put_core]

theorem execImageAuthDone_core (flash : List (List Byte)) (keyOk sigOk hashOk : Bool) (s : State) :
    outCore s (execImageAuthDone flash keyOk sigOk hashOk s) = s.core := by
  simp only [execImageAuthDone, eq_self, outCore_ite, outCore_next, ite_self, State.flashDone_core, State.hostDone_core]

theorem execBootWatchdog_core (s : State) :
    outCore s (execBootWatchdog s) = s.core := by
  simp only [execBootWatchdog, ↓core_mk, eq_self, outCore_ite, outCore_next, ite_self, core_eta, State.attnMark_core, State.bootTo_core, State.put_core, State.puts_core]

theorem State.bootAbort_core (s : State) :
    (State.bootAbort s).core = s.core := by
  simp only [State.bootAbort, eq_self, core_ite, ite_self, State.bootTo_core, State.put_core]

theorem mbxCmdWrite_core (a : Accessor) (w : Word) (s : State) :
    exCore s (mbxCmdWrite a w s) = s.core := by
  simp only [mbxCmdWrite, eq_self, exCore_ite, exCore_ok, exCore_error, ite_self, State.bootAbort_core, State.bootTo_core, State.put_core]

theorem mbxLenWrite_core (a : Accessor) (w : Word) (s : State) :
    exCore s (mbxLenWrite a w s) = s.core := by
  simp only [mbxLenWrite, eq_self, exCore_ite, exCore_ok, exCore_error, ite_self, State.put_core]

theorem execMbxGo_core (a : Accessor) (w : Word) (s : State) :
    outCore s (execMbxGo a w s) = s.core := by
  simp only [execMbxGo, eq_self, outCore_next, State.regWrite_core, mbxCmdWrite_core]

theorem execMbxAbort_core (a : Accessor) (w : Word) (s : State) :
    outCore s (execMbxAbort a w s) = s.core := by
  simp only [execMbxAbort, eq_self, outCore_next, State.regWrite_core, mbxCmdWrite_core]

end Sys2Proof.Machine
end

