-- ==== Sys2Proof/Laws/CorePower.lean ====
section
/-! SUPPORT. What the operations over sleep and wake, LEHR and the staged start keep: the fields of `core`. -/

namespace Sys2Proof.Machine

set_option linter.unusedSimpArgs false
set_option linter.unreachableTactic false
set_option linter.unusedTactic false
set_option linter.unnecessarySeqFocus false

theorem State.domStart_core (s : State) (d : Nat) (on : Bool) (o : Origin) :
    (State.domStart s d on o).core = s.core := by
  simp only [State.domStart, eq_self, core_ite, ite_self, State.holdDom_core, State.setDom_core]

theorem State.domRequest_core (s : State) (d : Nat) (on : Bool) (o : Origin) :
    exCore s (State.domRequest s d on o) = s.core := by
  simp only [State.domRequest]; (repeat' split) <;> simp only [eq_self, exCore_ok, exCore_error, State.domStart_core, State.setDom_core]

theorem State.pdRun_core (s : State) (l : List (Accessor × Nat × Bool)) : (s.pdRun l).core = s.core := by
  induction l generalizing s with
  | nil => simp only [State.pdRun, ↓core_mk, core_eta]
  | cons p l ih =>
    obtain ⟨a, d, on⟩ := p
    simp only [State.pdRun]
    split
    · simp only [↓core_mk, core_eta]
    · split
      · exact (ih _).trans (ok_core (s.domRequest_core d on .pdReq) ‹_›)
      · exact (ih _).trans (s.discard_core ..)

theorem State.pdNext_core (s : State) :
    (State.pdNext s).core = s.core := by
  simp only [State.pdNext, eq_self, State.pdRun_core]

theorem pdReqWrite_core (a : Accessor) (w : Word) (s : State) :
    exCore s (pdReqWrite a w s) = s.core := by
  simp only [pdReqWrite, eq_self, exCore_ite, exCore_ok, exCore_error, ite_self, State.pdRun_core]

theorem execPdReq_core (a : Accessor) (w : Word) (s : State) :
    outCore s (execPdReq a w s) = s.core := by
  simp only [execPdReq, eq_self, outCore_next, State.regWrite_core, pdReqWrite_core]

theorem State.raisePage_core (s : State) (p e : Nat) :
    (State.raisePage s p e).core = s.core := by
  simp only [State.raisePage]; (repeat' split) <;> simp only [eq_self, State.raiseViews_core, State.raise_core]

theorem State.pendStart_core (s : State) (d : Nat) (on : Bool) (o : Origin) :
    (State.pendStart s d on o).core = s.core := by
  simp only [State.pendStart]; (repeat' split) <;> simp only [eq_self, State.domStart_core, State.raisePage_core, State.raise_core]

theorem State.upNext_core (s : State) (d : Nat) :
    (State.upNext s d).core = s.core := by
  simp only [State.upNext, eq_self, core_ite, ite_self, State.bootWake_core, State.domStart_core, State.pllStart_core]

theorem State.allOff_core (s : State) (held : Bool) :
    (State.allOff s held).core = s.core := by
  simp only [State.allOff, ↓core_mk, eq_self, implies_true, core_ite, ite_self, core_eta, foldl_core, State.dropBlk_core, State.dropCtrl_core, State.dropHidden_core, State.holdOff_core, State.hold_core]

theorem State.exemptAll_core (s : State) :
    (State.exemptAll s).core = s.core := by
  simp only [State.exemptAll, ↓core_mk, eq_self, core_eta]

theorem sleepEnter_core (target : Nat) (s : State) :
    exCore s (sleepEnter target s) = s.core := by
  simp only [sleepEnter, ↓core_mk, eq_self, exCore_ite, exCore_ok, exCore_error, ite_self, core_eta]

theorem pwrCmdWrite_core (w : Word) (s : State) :
    exCore s (pwrCmdWrite w s) = s.core := by
  simp only [pwrCmdWrite, eq_self, sleepEnter_core]

theorem execSleepRequest_core (a : Accessor) (w : Word) (s : State) :
    outCore s (execSleepRequest a w s) = s.core := by
  simp only [execSleepRequest, eq_self, outCore_next, State.regWrite_core, pwrCmdWrite_core]

theorem State.wakeRecord_core (s : State) (aborted : Bool) :
    (State.wakeRecord s aborted).core = s.core := by
  simp only [State.wakeRecord, eq_self, State.count_core, State.puts_core]

theorem execWake_core (s : State) :
    outCore s (execWake s) = s.core := by
  simp only [execWake]; (repeat' split) <;> simp only [↓core_mk, eq_self, outCore_next, core_eta, State.bumpAll_core, State.raise_core, State.refPending_core, State.wakeRecord_core]

theorem State.putLehrNext_core (s : State) (t : Nat) :
    (State.putLehrNext s t).core = s.core := by
  simp only [State.putLehrNext, eq_self, State.puts_core]

theorem aonOtWrite_core (major : Nat) (w : Word) (s : State) :
    exCore s (aonOtWrite major w s) = s.core := by
  simp only [aonOtWrite, eq_self, exCore_ite, exCore_error, ite_self, plainWrite_core]

theorem aonWrite_core (a : Accessor) (off major : Nat) (w : Word) (s : State) :
    exCore s (aonWrite a off major w s) = s.core := by
  simp only [aonWrite, eq_self, implies_true, exCore_ite, exCore_ok, ite_self, onOk_core, State.padWritten_core, aonOtWrite_core, pdReqWrite_core, plainWrite_core, puntyReleaseWrite_core, pwrCmdWrite_core]

theorem State.aonReset_core (s : State) :
    (State.aonReset s).core = s.core := by
  simp only [State.aonReset, eq_self, State.resetKeep_core]

theorem watchWrite_core (e reg major : Nat) (w : Word) (s : State) :
    exCore s (watchWrite e reg major w s) = s.core := by
  simp only [watchWrite, eq_self, implies_true, exCore_ite, exCore_ok, exCore_error, ite_self, onOk_core, State.putE_core, plainWrite_core]

theorem execWatchEntryWrite_core (a : Accessor) (e : Fin 16) (reg : Fin 8) (w : Word) (s : State) :
    outCore s (execWatchEntryWrite a e reg w s) = s.core := by
  simp only [execWatchEntryWrite, eq_self, outCore_next, State.regWrite_core, watchWrite_core]

theorem State.dwellTune_core (s : State) (x : Watch) (af : Nat) :
    (State.dwellTune s x af).core = s.core := by
  simp only [State.dwellTune, eq_self, core_ite, ite_self, State.put_core, State.puts_core, State.scoutTune_core]

theorem State.lehrAlert_core (s : State) (e : Nat) :
    (State.lehrAlert s e).core = s.core := by
  simp only [State.lehrAlert, eq_self, State.attnMark_core, State.puts_core]

theorem State.lehrLog_core (s : State) (e : Nat) (x : Watch) (af value : Nat) :
    (State.lehrLog s e x af value).core = s.core := by
  simp only [State.lehrLog, eq_self, implies_true, core_ite, ite_self, foldl_core, State.count_core, State.putE_core, State.put_core, State.raise_core]

theorem lehrAlertWrite_core (w : Word) (s : State) :
    exCore s (lehrAlertWrite w s) = s.core := by
  simp only [lehrAlertWrite, eq_self, core_ite, exCore_ok, ite_self, State.put_core]

theorem execLehrAlertAck_core (a : Accessor) (w : Word) (s : State) :
    outCore s (execLehrAlertAck a w s) = s.core := by
  simp only [execLehrAlertAck, eq_self, outCore_next, State.regWrite_core, lehrAlertWrite_core]

theorem logClearWrite_core (w : Word) (s : State) :
    exCore s (logClearWrite w s) = s.core := by
  simp only [logClearWrite, eq_self, core_ite, exCore_ok, ite_self, State.puts_core]

theorem execLogClear_core (a : Accessor) (w : Word) (s : State) :
    outCore s (execLogClear a w s) = s.core := by
  simp only [execLogClear, eq_self, outCore_next, State.regWrite_core, logClearWrite_core]

theorem lehrWrite_core (off major : Nat) (w : Word) (s : State) :
    exCore s (lehrWrite off major w s) = s.core := by
  simp only [lehrWrite, eq_self, exCore_ite, ite_self, lehrAlertWrite_core, logClearWrite_core, plainWrite_core, watchWrite_core]

theorem State.lehrReset_core (s : State) :
    (State.lehrReset s).core = s.core := by
  simp only [State.lehrReset, eq_self, State.resetKeep_core]

theorem State.stageUp_core (s : State) :
    (State.stageUp s).core = s.core := by
  simp only [State.stageUp, eq_self, implies_true, foldl_core, State.put_core, State.raise_core]

theorem State.stage1Ready_core (s : State) :
    (State.stage1Ready s).core = s.core := by
  simp only [State.stage1Ready, ↓core_mk, eq_self, core_ite, ite_self, core_eta, State.stageUp_core]

theorem execStage1Timeout_core (s : State) :
    outCore s (execStage1Timeout s) = s.core := by
  simp only [execStage1Timeout, eq_self, outCore_ite, outCore_next, ite_self, State.stage1Ready_core]

theorem State.fgRead_core (s : State) : (s.fgRead).core = s.core := by
  unfold State.fgRead
  split
  · rw [State.stage1Ready_core, State.put_core]
  · dsimp only
    split
    · rw [State.stage1Ready_core, State.put_core, State.puts_core]
    · split
      · rw [State.stage1Ready_core, State.put_core, State.puts_core]
      · rw [core_mk, core_eta, State.puts_core, State.puts_core]

theorem State.fgPort_core (s : State) (p : Preset) :
    (State.fgPort s p).core = s.core := by
  simp only [State.fgPort, eq_self, State.putE_core, State.puts_core, State.release_core, State.setLoaded_core]

theorem State.fgTune_core (s : State) (p : Preset) :
    (State.fgTune s p).core = s.core := by
  simp only [State.fgTune, eq_self, core_ite, ite_self, State.putTun_core, State.put_core, State.puts_core, State.scoutTune_core, State.setFe_core, State.setTuner_core]

theorem State.fgDomain_core (s : State) (d : Nat) :
    (State.fgDomain s d).core = s.core := by
  simp only [State.fgDomain]; (repeat' split) <;> simp only [eq_self, State.domStart_core, State.fgPort_core, State.fgTune_core]

theorem execFgEstablished_core (s : State) :
    outCore s (execFgEstablished s) = s.core := by
  simp only [execFgEstablished]; (repeat' split) <;> simp only [eq_self, outCore_next, State.put_core, State.stage1Ready_core]

theorem State.fgActivate_core (s : State) (e : Nat) :
    (State.fgActivate s e).core = s.core := by
  simp only [State.fgActivate, eq_self, State.puts_core, State.raise_core]

theorem execFgWatchMatch_core (e : Fin 4) (unit : WatchUnit) (s : State) :
    outCore s (execFgWatchMatch e unit s) = s.core := by
  simp only [execFgWatchMatch]; (repeat' split) <;> simp only [↓core_mk, eq_self, outCore_next, core_eta, State.fgActivate_core]

theorem execFgWatchEnd_core (e : Fin 4) (s : State) :
    outCore s (execFgWatchEnd e s) = s.core := by
  simp only [execFgWatchEnd]; (repeat' split) <;> simp only [eq_self, outCore_next, State.put_core]

theorem State.hoLeave_core (s : State) (n : Nat) :
    (State.hoLeave s n).core = s.core := by
  simp only [State.hoLeave, ↓core_mk, eq_self, core_eta, State.put_core]

theorem State.hoFail_core (s : State) (reason : Nat) :
    (State.hoFail s reason).core = s.core := by
  simp only [State.hoFail]; (repeat' split) <;> simp only [eq_self, State.hoLeave_core, State.puts_core, State.raise_core]

theorem State.hoSweep_core (s : State) :
    (State.hoSweep s).core = s.core := by
  simp only [State.hoSweep]; (repeat' split) <;> simp only [eq_self, State.hoFail_core]

theorem handover_core (n : Nat) (keep : Bool) (s : State) :
    exCore s (handover n keep s) = s.core := by
  simp only [handover]; (repeat' split) <;> simp only [↓core_mk, eq_self, exCore_ok, exCore_error, core_eta, State.put_core, State.puts_core]

theorem execHoAttemptEnd_core (peak lag : Int) (s : State) :
    outCore s (execHoAttemptEnd peak lag s) = s.core := by
  simp only [execHoAttemptEnd]; (repeat' split) <;> simp only [↓core_mk, eq_self, outCore_next, core_eta, State.hoFail_core, State.put_core]

theorem State.fgRelease_core (s : State) :
    (State.fgRelease s).core = s.core := by
  simp only [State.fgRelease]; (repeat' split) <;> simp only [↓core_mk, eq_self, core_eta, State.putE_core, State.put_core, State.puts_core]

theorem execHoDone_core (s : State) :
    outCore s (execHoDone s) = s.core := by
  simp only [execHoDone]; (repeat' split) <;> simp only [eq_self, outCore_next, State.fgRelease_core, State.hoLeave_core, State.putE_core, State.put_core, State.puts_core, State.raise_core]

theorem State.fgStop_core (s : State) :
    (State.fgStop s).core = s.core := by
  simp only [State.fgStop]; (repeat' split) <;> simp only [↓core_mk, eq_self, core_eta, State.fgRelease_core, State.hoFail_core, State.raise_core]

theorem State.fgAck_core (s : State) :
    (State.fgAck s).core = s.core := by
  simp only [State.fgAck, eq_self, State.put_core]

theorem fgCmdWrite_core (w : Word) (s : State) :
    exCore s (fgCmdWrite w s) = s.core := by
  simp only [fgCmdWrite, eq_self, implies_true, core_ite, exCore_ite, exCore_ok, ite_self, onOk_core, State.fgAck_core, State.fgStop_core, handover_core]

theorem otpPageWrite_core (off major : Nat) (w : Word) (s : State) :
    exCore s (otpPageWrite off major w s) = s.core := by
  simp only [otpPageWrite, eq_self, exCore_ite, ite_self, fgCmdWrite_core, plainWrite_core]

theorem State.otpReset_core (s : State) :
    (State.otpReset s).core = s.core := by
  simp only [State.otpReset, eq_self, State.resetKeep_core]

theorem execFgStop_core (a : Accessor) (w : Word) (s : State) :
    outCore s (execFgStop a w s) = s.core := by
  simp only [execFgStop, eq_self, outCore_next, State.regWrite_core, fgCmdWrite_core]

theorem execFgAck_core (a : Accessor) (w : Word) (s : State) :
    outCore s (execFgAck a w s) = s.core := by
  simp only [execFgAck, eq_self, outCore_next, State.regWrite_core, fgCmdWrite_core]

theorem execFgHandover_core (a : Accessor) (w : Word) (s : State) :
    outCore s (execFgHandover a w s) = s.core := by
  simp only [execFgHandover, eq_self, outCore_next, State.regWrite_core, fgCmdWrite_core]

theorem execAonPowerUp_core (ma : Fin 8) (s : State) :
    outCore s (execAonPowerUp ma s) = s.core := by
  simp only [execAonPowerUp, ↓core_mk, eq_self, outCore_ite, outCore_next, ite_self, core_eta]

theorem execPwrGoodRise_core (straps ma : Fin 8) (s : State) :
    outCore s (execPwrGoodRise straps ma s) = s.core := by
  simp only [execPwrGoodRise, ↓core_mk, eq_self, implies_true, outCore_ite, outCore_next, ite_self, core_eta, foldl_core, State.domStart_core, State.holdOff_core]

end Sys2Proof.Machine
end

