-- ==== Sys2Proof/Laws/CoreRings.lean ====
section
/-! SUPPORT. What the operations over translation, rings, audio ports, functions and health keep: the fields of `core`. -/

namespace Sys2Proof.Machine

set_option linter.unusedSimpArgs false
set_option linter.unreachableTactic false
set_option linter.unusedTactic false
set_option linter.unnecessarySeqFocus false

theorem State.hit_core (s : State) (r : Nat) :
    (State.hit s r).core = s.core := by
  simp only [State.hit, eq_self, core_ite, ite_self, State.count_core, State.setRing_core]

theorem State.xdrop_core (s : State) (f addr : Nat) :
    (State.xdrop s f addr).core = s.core := by
  simp only [State.xdrop, ↓core_mk, eq_self, core_eta]

theorem State.xdropAll_core (s : State) (f : Nat) :
    (State.xdropAll s f).core = s.core := by
  simp only [State.xdropAll, ↓core_mk, eq_self, core_eta]

theorem State.xput_core (s : State) (e : XEntry) (addr : Nat) :
    (State.xput s e addr).core = s.core := by
  simp only [State.xput, ↓core_mk, eq_self, core_ite, ite_self, core_eta, State.freeUsed_core, State.xdrop_core]

theorem State.aerLog_core (s : State) (f r cause : Nat) :
    (State.aerLog s f r cause).core = s.core := by
  simp only [State.aerLog, eq_self, State.count_core, State.puts_core, State.raise_core]

theorem State.putFault_core (s : State) (f i : Nat) (e : FaultEntry) :
    (State.putFault s f i e).core = s.core := by
  simp only [State.putFault, ↓core_mk, eq_self, core_eta]

theorem State.editFault_core (s : State) (f : Nat) (i : Option Nat) (g : FaultEntry → FaultEntry) :
    (State.editFault s f i g).core = s.core := by
  simp only [State.editFault]; (repeat' split) <;> simp only [eq_self, State.putFault_core]

theorem State.faultNote_core (s : State) (f : Nat) (e : FaultEntry) :
    (State.faultNote s f e).core = s.core := by
  simp only [State.faultNote, eq_self, core_ite, ite_self, State.offer_core, State.raise_core]

theorem State.logFault_core (s : State) (f : Nat) (e : FaultEntry) :
    (State.logFault s f e).1.core = s.core := by
  simp only [State.logFault]; (repeat' split) <;> simp only [eq_self, State.count_core, State.faultNote_core, State.putFault_core, State.puts_core, State.raise_core]

theorem State.showAsked_core (s : State) (f : Nat) :
    (State.showAsked s f).core = s.core := by
  simp only [State.showAsked, eq_self, State.put_core]

theorem State.settleFault_core (s : State) (r state : Nat) :
    (State.settleFault s r state).core = s.core := by
  simp only [State.settleFault]; (repeat' split) <;> simp only [eq_self, State.editFault_core, State.setRing_core, State.showAsked_core]

theorem State.faultRing_core (s : State) (r acc cause addr : Nat) (ask : Bool) :
    (State.faultRing s r acc cause addr ask).core = s.core := by
  simp only [State.faultRing, eq_self, core_ite, ite_self, State.logFault_core, State.put_core, State.raise_core, State.send_core, State.setRing_core, State.showAsked_core]

theorem State.ringFinish_core (s : State) (r : Nat) (reset : Bool) :
    (State.ringFinish s r reset).core = s.core := by
  simp only [State.ringFinish, ↓core_mk, eq_self, core_ite, ite_self, core_eta, State.freePotsOf_core, State.puts_core, State.raise_core, State.resetKeep_core]

theorem State.failNeeded_core (s : State) (r acc cause addr : Nat) (ask : Bool) :
    (State.failNeeded s r acc cause addr ask).core = s.core := by
  simp only [State.failNeeded]; (repeat' split) <;> simp only [eq_self, State.faultRing_core, State.ringFinish_core, State.settleFault_core]

theorem State.translated_core (s : State) (r acc addr : Nat) (needed ask : Bool) (res : Except Nat XEntry) :
    (State.translated s r acc addr needed ask res).core = s.core := by
  simp only [State.translated]; (repeat' split) <;> simp only [eq_self, State.failNeeded_core, State.setRing_core, State.xdrop_core, State.xput_core]

theorem State.countWalk_core (s : State) (f : Nat) (needed : Bool) :
    (State.countWalk s f needed).core = s.core := by
  simp only [State.countWalk, eq_self, core_ite, ite_self, State.count_core]

theorem execLocalWalk_core (r : Fin 64) (reads : List (Nat × Nat)) (s : State) :
    outCore s (execLocalWalk r reads s) = s.core := by
  simp only [execLocalWalk]; (repeat' split) <;> simp only [↓core_mk, eq_self, implies_true, outCore_next, core_eta, foldl_core, State.aerLog_core, State.countWalk_core, State.send_core, State.translated_core]

theorem execAtsCompletion_core (r : Fin 64) (grant : Option Grant) (s : State) :
    outCore s (execAtsCompletion r grant s) = s.core := by
  simp only [execAtsCompletion]; (repeat' split) <;> simp only [eq_self, outCore_next, State.countWalk_core, State.send_core, State.translated_core]

theorem State.ringGoes_core (s : State) (r : Nat) :
    (State.ringGoes s r).core = s.core := by
  simp only [State.ringGoes, eq_self, core_ite, ite_self, State.put_core, State.starve_core]

theorem State.prgRetry_core (s : State) (r : Nat) (x : RingFault) (grant : Option Grant) :
    (State.prgRetry s r x grant).core = s.core := by
  simp only [State.prgRetry]; (repeat' split) <;> simp only [eq_self, State.count_core, State.raise_core, State.ringGoes_core, State.send_core, State.setRing_core, State.settleFault_core, State.xput_core]

theorem execPrgResponse_core (r : Fin 64) (code : Fin 3) (grant : Option Grant) (s : State) :
    outCore s (execPrgResponse r code grant s) = s.core := by
  simp only [execPrgResponse]; (repeat' split) <;> simp only [eq_self, outCore_next, State.editFault_core, State.prgRetry_core, State.put_core, State.raise_core, State.setRing_core, State.showAsked_core]

theorem xlatCfgWrite_core (f major : Nat) (w : Word) (s : State) :
    exCore s (xlatCfgWrite f major w s) = s.core := by
  simp only [xlatCfgWrite, eq_self, implies_true, core_ite, exCore_ite, exCore_ok, exCore_error, ite_self, onOk_core, State.xdropAll_core, plainWrite_core]

theorem execXlatCfgWrite_core (a : Accessor) (w : Word) (s : State) :
    outCore s (execXlatCfgWrite a w s) = s.core := by
  simp only [execXlatCfgWrite, eq_self, outCore_next, State.regWrite_core, xlatCfgWrite_core]

theorem xlatInvWrite_core (f : Nat) (w : Word) (s : State) :
    exCore s (xlatInvWrite f w s) = s.core := by
  simp only [xlatInvWrite, eq_self, core_ite, exCore_ite, exCore_ok, exCore_error, ite_self, State.put_core, State.xdropAll_core, State.xdrop_core]

theorem xlatWrite_core (f off major : Nat) (w : Word) (s : State) :
    exCore s (xlatWrite f off major w s) = s.core := by
  simp only [xlatWrite, eq_self, exCore_ite, exCore_error, ite_self, plainWrite_core, xlatCfgWrite_core, xlatInvWrite_core]

theorem execInvAll_core (a : Accessor) (w : Word) (s : State) :
    outCore s (execInvAll a w s) = s.core := by
  simp only [execInvAll, eq_self, outCore_next, State.regWrite_core, xlatInvWrite_core]

theorem execInvPage_core (a : Accessor) (w : Word) (s : State) :
    outCore s (execInvPage a w s) = s.core := by
  simp only [execInvPage, eq_self, outCore_next, State.regWrite_core, xlatInvWrite_core]

theorem execInvDone_core (f : Fin 4) (s : State) :
    outCore s (execInvDone f s) = s.core := by
  simp only [execInvDone, eq_self, outCore_ite, outCore_next, ite_self, State.put_core, State.raise_core]

theorem execAtsInvalidateRequest_core (f : Fin 4) (addr size : Nat) (s : State) :
    outCore s (execAtsInvalidateRequest f addr size s) = s.core := by
  simp only [execAtsInvalidateRequest, ↓core_mk, eq_self, outCore_ite, outCore_next, ite_self, core_eta, State.send_core]

theorem State.dropHeld_core (s : State) (r : Nat) (l : List Held) :
    (State.dropHeld s r l).core = s.core := by
  simp only [State.dropHeld, eq_self, State.count_core]

theorem State.dropWork_core (s : State) (r : Nat) (tracked : Bool) :
    (State.dropWork s r tracked).core = s.core := by
  simp only [State.dropWork]
  split <;> simp only [State.raise_core, State.put_core, State.count_core, State.dropHeld_core, State.setRing_core]

theorem State.haltRing_core (s : State) (r reason : Nat) :
    (State.haltRing s r reason).core = s.core := by
  simp only [State.haltRing, State.puts_core, State.raise_core]

theorem State.headCheck_core (s : State) (r : Nat) :
    (State.headCheck s r).core = s.core := by
  simp only [State.headCheck]; (repeat' split) <;> simp only [eq_self, State.haltRing_core, State.setRing_core]

theorem State.add64_core (s : State) (lo hi : Fld) (n k : Nat) :
    (State.add64 s lo hi n k).core = s.core := by
  simp only [State.add64, eq_self, State.put_core]

theorem State.moved_core (s : State) (r k : Nat) :
    (State.moved s r k).core = s.core := by
  simp only [State.moved, eq_self, State.add64_core]

theorem State.coalesce_core (s : State) (r : Nat) :
    (State.coalesce s r).core = s.core := by
  simp only [State.coalesce, eq_self, core_ite, ite_self, State.message_core, State.setRing_core]

theorem State.writeback_core (s : State) (r stat : Nat) :
    (State.writeback s r stat).core = s.core := by
  simp only [State.writeback]; (repeat' split) <;> simp only [eq_self, State.coalesce_core, State.headCheck_core, State.puts_core, State.ringFinish_core, State.send_core, State.setRing_core, State.starve_core]

theorem State.tryWriteback_core (s : State) (r : Nat) :
    (State.tryWriteback s r).core = s.core := by
  simp only [State.tryWriteback]; (repeat' split) <;> simp only [eq_self, State.hit_core, State.writeback_core]

theorem State.closeBuf_core (s : State) (r : Nat) (flushed trunc : Bool) :
    (State.closeBuf s r flushed trunc).core = s.core := by
  simp only [State.closeBuf, eq_self, State.setRing_core, State.tryWriteback_core]

theorem State.burstOut_core (s : State) (r : Nat) (d : Desc) (phys : Nat) (cut : Bool) :
    (State.burstOut s r d phys cut).core = s.core := by
  simp only [State.burstOut, eq_self, core_ite, ite_self, State.closeBuf_core, State.hit_core, State.moved_core, State.overflowGap_core, State.send_core, State.setRing_core, State.showFill_core]

theorem State.flushBuf_core (s : State) (r : Nat) :
    (State.flushBuf s r).core = s.core := by
  simp only [State.flushBuf, eq_self, core_ite, ite_self, State.closeBuf_core, State.setRing_core]

theorem State.consume_core (s : State) (r len : Nat) :
    (State.consume s r len).core = s.core := by
  simp only [State.consume, eq_self, State.setRing_core]

theorem State.skipTail_core (s : State) (r : Nat) :
    (State.skipTail s r).core = s.core := by
  simp only [State.skipTail, eq_self, State.setRing_core]

theorem State.closeFrom_core (s : State) (r : Nat) (d : Desc) :
    (State.closeFrom s r d).core = s.core := by
  simp only [State.closeFrom, eq_self, State.setRing_core, State.tryWriteback_core]

theorem State.feedPorts_core (s : State) (r m : Nat) : (s.feedPorts r m).core = s.core := by
  induction m generalizing s with
  | zero => rfl
  | succ m ih =>
    simp only [State.feedPorts]
    (repeat' split) <;> simp only [ih, State.closeFrom_core, State.skipTail_core, State.haltRing_core, State.consume_core,
      State.count_core, State.setAp_core, State.setRing_core, State.raise_core]

theorem State.feedRing_core (s : State) (r : Nat) :
    (State.feedRing s r).core = s.core := by
  simp only [State.feedRing, eq_self, State.feedPorts_core, State.showFill_core]

theorem State.burstIn_core (s : State) (r : Nat) (d : Desc) (phys : Nat) (cut : Bool) (data : List Byte) :
    (State.burstIn s r d phys cut data).core = s.core := by
  simp only [State.burstIn, eq_self, State.feedRing_core, State.hit_core, State.moved_core, State.send_core, State.setRing_core]

theorem execDmaBurst_core (r : Fin 64) (cut : Bool) (data : List Byte) (s : State) :
    outCore s (execDmaBurst r cut data s) = s.core := by
  simp only [execDmaBurst]; (repeat' split) <;> simp only [↓core_mk, eq_self, outCore_next, core_eta, State.burstIn_core, State.burstOut_core, State.feedRing_core, State.tryWriteback_core]

theorem execDescFetch_core (r : Fin 64) (addr len ctl cookie : Nat) (s : State) :
    outCore s (execDescFetch r addr len ctl cookie s) = s.core := by
  simp only [execDescFetch]; (repeat' split) <;> simp only [eq_self, outCore_next, State.headCheck_core, State.hit_core, State.send_core, State.setRing_core]

theorem execReadCompletionError_core (r : Fin 64) (cause : Fin 4) (s : State) :
    outCore s (execReadCompletionError r cause s) = s.core := by
  simp only [execReadCompletionError, eq_self, outCore_ite, outCore_next, ite_self, State.aerLog_core, State.haltRing_core]

theorem execFlushTimer_core (r : Fin 64) (s : State) :
    outCore s (execFlushTimer r s) = s.core := by
  simp only [execFlushTimer, eq_self, outCore_ite, outCore_next, ite_self, State.flushBuf_core]

theorem execCoalTimer_core (r : Fin 64) (s : State) :
    outCore s (execCoalTimer r s) = s.core := by
  simp only [execCoalTimer, eq_self, outCore_ite, outCore_next, ite_self, State.message_core, State.setRing_core]

theorem execRecordOffer_core (r : Fin 64) (rec : Rec) (s : State) :
    outCore s (execRecordOffer r rec s) = s.core := by
  simp only [execRecordOffer, eq_self, core_ite, outCore_ite, outCore_next, ite_self, State.countE_core, State.offer_core]

theorem execCullOverflowEnd_core (r : Fin 64) (s : State) :
    outCore s (execCullOverflowEnd r s) = s.core := by
  simp only [execCullOverflowEnd]; (repeat' split) <;> simp only [eq_self, outCore_next, State.overflowGap_core, State.setRing_core]

theorem ringEnable_core (r : Nat) (s : State) :
    exCore s (ringEnable r s) = s.core := by
  (simp only [ringEnable]; (repeat' split) <;> (try simp only [↓core_mk, eq_self, implies_true, core_ite, exCore_ite, opCore_ite, outCore_ite, exCore_ok, exCore_error, opCore_some, opCore_none, outCore_next, ite_self, core_eta, if_true, if_false, foldl_core, onOk_core, opCore_map, opCore_bind, getD_core, State.allocPots_core, State.put_core, State.puts_core]) <;> first
      | (refine ok_core ?_ ‹_ = Except.ok _›; simp only [↓core_mk, eq_self, implies_true, core_ite, exCore_ite, opCore_ite, outCore_ite, exCore_ok, exCore_error, opCore_some, opCore_none, outCore_next, ite_self, core_eta, if_true, if_false, foldl_core, onOk_core, opCore_map, opCore_bind, getD_core, State.allocPots_core, State.put_core, State.puts_core]; done)
      | (refine some_core ?_ ‹_ = some _›; simp only [↓core_mk, eq_self, implies_true, core_ite, exCore_ite, opCore_ite, outCore_ite, exCore_ok, exCore_error, opCore_some, opCore_none, outCore_next, ite_self, core_eta, if_true, if_false, foldl_core, onOk_core, opCore_map, opCore_bind, getD_core, State.allocPots_core, State.put_core, State.puts_core]; done)
      | (refine pair_core ?_ ‹_ = (_, _)›; simp only [↓core_mk, eq_self, implies_true, core_ite, exCore_ite, opCore_ite, outCore_ite, exCore_ok, exCore_error, opCore_some, opCore_none, outCore_next, ite_self, core_eta, if_true, if_false, foldl_core, onOk_core, opCore_map, opCore_bind, getD_core, State.allocPots_core, State.put_core, State.puts_core]; done))

theorem State.ringDisable_core (s : State) (r : Nat) :
    (State.ringDisable s r).core = s.core := by
  simp only [State.ringDisable, eq_self, core_ite, ite_self, State.put_core, State.setRing_core]

theorem State.ringEnd_core (s : State) (r : Nat) (reset : Bool) :
    (State.ringEnd s r reset).core = s.core := by
  simp only [State.ringEnd]; (repeat' split) <;> simp only [eq_self, State.closeBuf_core, State.dropWork_core, State.put_core, State.ringFinish_core, State.setRing_core, State.settleFault_core, State.tryWriteback_core]

theorem execDrainEnd_core (r : Fin 64) (s : State) :
    outCore s (execDrainEnd r s) = s.core := by
  simp only [execDrainEnd, eq_self, outCore_ite, outCore_next, ite_self, State.ringEnd_core]

theorem State.ringReset_core (s : State) (r : Nat) :
    (State.ringReset s r).core = s.core := by
  simp only [State.ringReset, eq_self, core_ite, ite_self, State.ringEnd_core, State.ringFinish_core]

theorem State.ringKill_core (s : State) (r : Nat) :
    (State.ringKill s r).core = s.core := by
  simp only [State.ringKill, eq_self, State.dropWork_core, State.ringFinish_core, State.settleFault_core]

theorem State.ringResetEnd_core (s : State) (r : Nat) :
    (State.ringResetEnd s r).core = s.core := by
  simp only [State.ringResetEnd, eq_self, core_ite, ite_self, State.ringFinish_core]

theorem ringTailWrite_core (r : Nat) (w : Word) (s : State) :
    exCore s (ringTailWrite r w s) = s.core := by
  simp only [ringTailWrite, eq_self, core_ite, exCore_ite, exCore_ok, exCore_error, ite_self, State.put_core]

theorem execRingTailWrite_core (a : Accessor) (r : Fin 64) (w : Word) (s : State) :
    outCore s (execRingTailWrite a r w s) = s.core := by
  simp only [execRingTailWrite, eq_self, outCore_next, State.regWrite_core, ringTailWrite_core]

theorem State.ringRestart_core (s : State) (r : Nat) :
    (State.ringRestart s r).core = s.core := by
  simp only [State.ringRestart, eq_self, core_ite, ite_self, State.put_core, State.ringGoes_core, State.setRing_core, State.showFill_core]

theorem ringCmdWrite_core (r : Nat) (w : Word) (s : State) :
    exCore s (ringCmdWrite r w s) = s.core := by
  simp only [ringCmdWrite, eq_self, core_ite, exCore_ok, ite_self, State.flushBuf_core, State.ringRestart_core, withEpoch_core]

theorem execRingRestart_core (a : Accessor) (r : Fin 64) (w : Word) (s : State) :
    outCore s (execRingRestart a r w s) = s.core := by
  simp only [execRingRestart, eq_self, outCore_next, State.regWrite_core, ringCmdWrite_core]

theorem execRingFlush_core (a : Accessor) (r : Fin 64) (w : Word) (s : State) :
    outCore s (execRingFlush a r w s) = s.core := by
  simp only [execRingFlush, eq_self, outCore_next, State.regWrite_core, ringCmdWrite_core]

theorem ringWrite_core (r off major : Nat) (w : Word) (s : State) :
    exCore s (ringWrite r off major w s) = s.core := by
  simp only [ringWrite, eq_self, exCore_ite, exCore_error, ite_self, plainWrite_core, ringCmdWrite_core, ringTailWrite_core]

theorem State.skipOut_core (s : State) (r : Nat) :
    (State.skipOut s r).core = s.core := by
  simp only [State.skipOut]; (repeat' split) <;> simp only [eq_self, State.dropHeld_core, State.put_core, State.raise_core, State.setRing_core]

theorem State.skipIn_core (s : State) (r : Nat) :
    (State.skipIn s r).core = s.core := by
  simp only [State.skipIn, eq_self, State.setRing_core]

theorem State.ringAbort_core (s : State) (r : Nat) :
    (State.ringAbort s r).core = s.core := by
  simp only [State.ringAbort, eq_self, State.dropWork_core, State.haltRing_core, State.setRing_core, State.settleFault_core, State.showFill_core]

theorem faultResume_core (f : Nat) (w : Word) (s : State) : exCore s (faultResume f w s) = s.core := by
  simp only [faultResume]
  refine withEpoch_core _ _ _ _ ?_
  split
  · rfl
  · simp only [exCore_ite, exCore_error, exCore_ok, core_ite, State.ringAbort_core, State.feedRing_core,
      State.tryWriteback_core, State.ringGoes_core, State.skipOut_core, State.skipIn_core, State.settleFault_core, ite_self]

theorem execRetry_core (a : Accessor) (w : Word) (s : State) :
    outCore s (execRetry a w s) = s.core := by
  simp only [execRetry, eq_self, outCore_next, State.regWrite_core, faultResume_core]

theorem execSkipRecord_core (a : Accessor) (w : Word) (s : State) :
    outCore s (execSkipRecord a w s) = s.core := by
  simp only [execSkipRecord, eq_self, outCore_next, State.regWrite_core, faultResume_core]

theorem execAbortRing_core (a : Accessor) (w : Word) (s : State) :
    outCore s (execAbortRing a w s) = s.core := by
  simp only [execAbortRing, eq_self, outCore_next, State.regWrite_core, faultResume_core]

theorem faultLogWrite_core (f : Nat) (w : Word) (s : State) :
    exCore s (faultLogWrite f w s) = s.core := by
  simp only [faultLogWrite, ↓core_mk, eq_self, implies_true, exCore_ite, exCore_ok, exCore_error, ite_self, core_eta, foldl_core, State.puts_core, State.setRing_core]

theorem execFaultLogFree_core (a : Accessor) (w : Word) (s : State) :
    outCore s (execFaultLogFree a w s) = s.core := by
  simp only [execFaultLogFree, eq_self, outCore_next, State.regWrite_core, faultLogWrite_core]

theorem State.faultsDrop_core (s : State) (f : Nat) :
    (State.faultsDrop s f).core = s.core := by
  simp only [State.faultsDrop, ↓core_mk, eq_self, core_eta]

theorem State.faultReset_core (s : State) (f : Nat) :
    (State.faultReset s f).core = s.core := by
  simp only [State.faultReset, eq_self, implies_true, core_ite, ite_self, foldl_core, State.put_core, State.faultsDrop_core, State.resetRegs_core, State.ringAbort_core]

theorem State.xlatReset_core (s : State) (f : Nat) :
    (State.xlatReset s f).core = s.core := by
  simp only [State.xlatReset, eq_self, implies_true, foldl_core, State.resetRegs_core, State.ringReset_core, State.xdropAll_core]

theorem State.inClose_core (s : State) (p k : Nat) :
    (State.inClose s p k).core = s.core := by
  simp only [State.inClose, eq_self, core_ite, ite_self, State.setAp_core]

theorem State.inPush_core (s : State) (p k at' : Nat) (x : Nat × Nat × Nat) :
    (State.inPush s p k at' x).core = s.core := by
  simp only [State.inPush, eq_self, core_ite, ite_self, State.inClose_core, State.setAp_core]

theorem State.inGap_core (s : State) (p k start n : Nat) :
    (State.inGap s p k start n).core = s.core := by
  simp only [State.inGap, eq_self, State.inClose_core, State.setAp_core]

theorem State.inZeros_core (s : State) (p k at' flag m : Nat) : (s.inZeros p k at' flag m).core = s.core := by
  induction m generalizing s with
  | zero => rfl
  | succ m ih => exact (ih _).trans (s.inPush_core ..)

theorem State.inTake_core (s : State) (p k : Nat) (x : Nat × Nat × Nat) :
    (State.inTake s p k x).core = s.core := by
  simp only [State.inTake, eq_self, core_ite, ite_self, State.count_core, State.inGap_core, State.inPush_core, State.inZeros_core, State.raise_core, State.setAp_core]

theorem State.inOffer_core (s : State) (p k : Nat) :
    (State.inOffer s p k).core = s.core := by
  simp only [State.inOffer]; (repeat' split) <;> simp only [eq_self, State.offer_core, State.setAp_core]

theorem execPortInputOffer_core (p : Fin 8) (k : Fin 16) (s : State) :
    outCore s (execPortInputOffer p k s) = s.core := by
  simp only [execPortInputOffer, eq_self, outCore_next, State.inOffer_core]

theorem State.outApply_core (s : State) (p k : Nat) :
    (State.outApply s p k).core = s.core := by
  simp only [State.outApply, eq_self, core_ite, ite_self, State.setAp_core]

theorem State.underrun_core (s : State) (p k : Nat) :
    (State.underrun s p k).core = s.core := by
  simp only [State.underrun, eq_self, core_ite, ite_self, State.count_core, State.raise_core, State.setAp_core]

theorem State.outRing_core (s : State) (p k : Nat) :
    (State.outRing s p k).core = s.core := by
  simp only [State.outRing]; (repeat' split) <;> simp only [eq_self, State.feedRing_core, State.setAp_core, State.underrun_core]

theorem State.outFrame_core (s : State) (p k : Nat) :
    (State.outFrame s p k).core = s.core := by
  simp only [State.outFrame, eq_self, core_ite, ite_self, State.count_core, State.outApply_core, State.outRing_core, State.setAp_core, State.underrun_core]

theorem State.lateCull_core (s : State) (p : Nat) (l : List (Fin 16 × Nat)) :
    (State.lateCull s p l).core = s.core := by
  simp only [State.lateCull, eq_self, implies_true, core_ite, ite_self, foldl_core, State.count_core, State.raise_core]

theorem State.showPairs_core (s : State) (p : Nat) :
    (State.showPairs s p).core = s.core := by
  simp only [State.showPairs, eq_self, State.puts_core]

theorem State.portJoin_core (s : State) (g ref : Nat) (m : Member) :
    (State.portJoin s g ref m).core = s.core := by
  simp only [State.portJoin, eq_self, State.setGrp_core]

theorem State.outLeave_core (s : State) (p k : Nat) :
    (State.outLeave s p k).core = s.core := by
  simp only [State.outLeave, eq_self, core_ite, ite_self, State.groupLeave_core, State.putE_core]

theorem State.inLeave_core (s : State) (p k : Nat) :
    (State.inLeave s p k).core = s.core := by
  simp only [State.inLeave, eq_self, core_ite, ite_self, State.groupLeave_core, State.putE_core]

theorem outAgWrite_core (p k : Nat) (w : Word) (s : State) :
    exCore s (outAgWrite p k w s) = s.core := by
  simp only [outAgWrite, eq_self, exCore_ite, exCore_ok, exCore_error, ite_self, State.outLeave_core, State.portJoin_core, State.putE_core]

theorem inAgWrite_core (p k : Nat) (w : Word) (s : State) :
    exCore s (inAgWrite p k w s) = s.core := by
  simp only [inAgWrite, eq_self, exCore_ite, exCore_ok, exCore_error, ite_self, State.inLeave_core, State.portJoin_core, State.putE_core]

theorem apCfgWrite_core (p major : Nat) (w : Word) (s : State) :
    exCore s (apCfgWrite p major w s) = s.core := by
  simp only [apCfgWrite, eq_self, implies_true, exCore_ite, exCore_ok, exCore_error, ite_self, onOk_core, State.padWritten_core, plainWrite_core]

theorem outSrcWrite_core (p k : Nat) (w : Word) (s : State) :
    exCore s (outSrcWrite p k w s) = s.core := by
  simp only [outSrcWrite, eq_self, exCore_ite, exCore_ok, exCore_error, ite_self, State.putE_core]

theorem inCfgWrite_core (p k major : Nat) (w : Word) (s : State) : exCore s (inCfgWrite p k major w s) = s.core := by
  simp only [inCfgWrite]
  split
  · rfl
  · exact exCore_of (onOk_core (plainWrite_core ..) (fun t => State.setAp_core ..)) (State.inClose_core ..)

theorem apCmdWrite_core (p : Nat) (w : Word) (s : State) :
    exCore s (apCmdWrite p w s) = s.core := by
  simp only [apCmdWrite, eq_self, exCore_ite, exCore_ok, exCore_error, ite_self, State.puts_core, State.setAp_core, withEpoch_core]

theorem apWrite_core (p off major : Nat) (w : Word) (s : State) :
    exCore s (apWrite p off major w s) = s.core := by
  simp only [apWrite, eq_self, exCore_ite, exCore_error, ite_self, apCfgWrite_core, apCmdWrite_core, inAgWrite_core, inCfgWrite_core, outAgWrite_core, outSrcWrite_core, plainWrite_core]

theorem execRateAck_core (a : Accessor) (p : Fin 8) (w : Word) (s : State) :
    outCore s (execRateAck a p w s) = s.core := by
  simp only [execRateAck, eq_self, outCore_next, State.regWrite_core, apWrite_core]

theorem execOutSrcWrite_core (a : Accessor) (p : Fin 8) (k : Fin 16) (w : Word) (s : State) :
    outCore s (execOutSrcWrite a p k w s) = s.core := by
  simp only [execOutSrcWrite, eq_self, outCore_next, State.regWrite_core, apWrite_core]

theorem execPortAgJoin_core (a : Accessor) (p : Fin 8) (k : Fin 16) (input : Bool) (w : Word) (s : State) :
    outCore s (execPortAgJoin a p k input w s) = s.core := by
  simp only [execPortAgJoin, eq_self, outCore_next, State.regWrite_core, apWrite_core]

theorem execPortAgLeave_core (a : Accessor) (p : Fin 8) (k : Fin 16) (input : Bool) (w : Word) (s : State) :
    outCore s (execPortAgLeave a p k input w s) = s.core := by
  simp only [execPortAgLeave, eq_self, outCore_next, State.regWrite_core, apWrite_core]

theorem execInCfgWrite_core (a : Accessor) (p : Fin 8) (k : Fin 16) (w : Word) (s : State) :
    outCore s (execInCfgWrite a p k w s) = s.core := by
  simp only [execInCfgWrite, eq_self, outCore_next, State.regWrite_core, apWrite_core]

theorem apEnable_core (p : Nat) (s : State) :
    exCore s (apEnable p s) = s.core := by
  (simp only [apEnable]; (repeat' split) <;> (try simp only [↓core_mk, eq_self, implies_true, core_ite, exCore_ite, opCore_ite, outCore_ite, exCore_ok, exCore_error, opCore_some, opCore_none, outCore_next, ite_self, core_eta, if_true, if_false, foldl_core, onOk_core, opCore_map, opCore_bind, getD_core, State.allocPots_core, State.puts_core, State.setAp_core]) <;> first
      | (refine ok_core ?_ ‹_ = Except.ok _›; simp only [↓core_mk, eq_self, implies_true, core_ite, exCore_ite, opCore_ite, outCore_ite, exCore_ok, exCore_error, opCore_some, opCore_none, outCore_next, ite_self, core_eta, if_true, if_false, foldl_core, onOk_core, opCore_map, opCore_bind, getD_core, State.allocPots_core, State.puts_core, State.setAp_core]; done)
      | (refine some_core ?_ ‹_ = some _›; simp only [↓core_mk, eq_self, implies_true, core_ite, exCore_ite, opCore_ite, outCore_ite, exCore_ok, exCore_error, opCore_some, opCore_none, outCore_next, ite_self, core_eta, if_true, if_false, foldl_core, onOk_core, opCore_map, opCore_bind, getD_core, State.allocPots_core, State.puts_core, State.setAp_core]; done)
      | (refine pair_core ?_ ‹_ = (_, _)›; simp only [↓core_mk, eq_self, implies_true, core_ite, exCore_ite, opCore_ite, outCore_ite, exCore_ok, exCore_error, opCore_some, opCore_none, outCore_next, ite_self, core_eta, if_true, if_false, foldl_core, onOk_core, opCore_map, opCore_bind, getD_core, State.allocPots_core, State.puts_core, State.setAp_core]; done))

theorem State.inFlush_core (s : State) (p : Nat) :
    (State.inFlush s p).core = s.core := by
  simp only [State.inFlush, eq_self, implies_true, foldl_core, State.inOffer_core]

theorem State.apStop_core (s : State) (p : Nat) :
    (State.apStop s p).core = s.core := by
  simp only [State.apStop, eq_self, State.freePotsOf_core, State.inFlush_core, State.puts_core, State.setAp_core, State.showPairs_core]

theorem State.apDisable_core (s : State) (p : Nat) :
    (State.apDisable s p).core = s.core := by
  simp only [State.apDisable, eq_self, core_ite, ite_self, State.apStop_core, State.put_core, State.setAp_core]

theorem State.apReset_core (s : State) (p : Nat) :
    (State.apReset s p).core = s.core := by
  simp only [State.apReset, ↓core_mk, eq_self, implies_true, core_ite, ite_self, core_eta, foldl_core, State.apStop_core, State.groupLeave_core, State.inLeave_core, State.outLeave_core, State.resetRegs_core]

theorem State.apDetach_core (s : State) (p : Nat) :
    (State.apDetach s p).core = s.core := by
  simp only [State.apDetach, eq_self, State.setAp_core]

theorem State.breakIn_core (s : State) (p k flag : Nat) :
    (State.breakIn s p k flag).core = s.core := by
  simp only [State.breakIn, eq_self, core_ite, ite_self, State.count_core, State.inPush_core, State.setAp_core]

theorem State.breakPeriod_core (s : State) (p flag : Nat) :
    (State.breakPeriod s p flag).core = s.core := by
  simp only [State.breakPeriod, eq_self, implies_true, core_ite, ite_self, foldl_core, State.breakIn_core, State.count_core, State.raise_core]

theorem State.breakEnd_core (s : State) (p : Nat) :
    (State.breakEnd s p).core = s.core := by
  simp only [State.breakEnd, eq_self, implies_true, core_ite, ite_self, foldl_core, State.inGap_core, State.setAp_core]

theorem execClkLost_core (p : Fin 8) (s : State) :
    outCore s (execClkLost p s) = s.core := by
  simp only [execClkLost, eq_self, implies_true, outCore_ite, outCore_next, ite_self, foldl_core, State.breakPeriod_core, State.put_core, State.raise_core]

theorem execReferenceRatePeriod_core (p : Fin 8) (s : State) :
    outCore s (execReferenceRatePeriod p s) = s.core := by
  simp only [execReferenceRatePeriod, eq_self, outCore_ite, outCore_next, ite_self, State.breakPeriod_core]

theorem execClkBack_core (p : Fin 8) (rate : Nat) (s : State) :
    outCore s (execClkBack p rate s) = s.core := by
  simp only [execClkBack, eq_self, outCore_ite, outCore_next, ite_self, State.breakEnd_core, State.put_core, State.raise_core]

theorem State.rateJudge_core (s : State) (p rate last : Nat) :
    (State.rateJudge s p rate last).core = s.core := by
  simp only [State.rateJudge, eq_self, core_ite, ite_self, State.put_core, State.raise_core, State.setAp_core]

theorem execRateWindow_core (p : Fin 8) (valid : Bool) (rate : Nat) (s : State) :
    outCore s (execRateWindow p valid rate s) = s.core := by
  simp only [execRateWindow, eq_self, outCore_ite, outCore_next, ite_self, State.puts_core, State.rateJudge_core, State.setAp_core]

theorem State.apRun_core (s : State) (p bclk : Nat) (ins : List (List (Nat × Nat))) (late : List (Fin 16 × Nat)) :
    (State.apRun s p bclk ins late).core = s.core := by
  simp only [State.apRun, eq_self, implies_true, core_ite, ite_self, foldl_core, State.count_core, State.inTake_core, State.lateCull_core, State.outFrame_core, State.raise_core, State.showPairs_core]

theorem execApFrame_core (p : Fin 8) (bclk rate : Nat) (ins : List (List (Nat × Nat))) (late : List (Fin 16 × Nat)) (s : State) :
    outCore s (execApFrame p bclk rate ins late s) = s.core := by
  simp only [execApFrame, eq_self, outCore_ite, outCore_next, ite_self, State.apRun_core, State.apStop_core, State.breakEnd_core, State.put_core, State.setAp_core]

theorem State.setFc_core (s : State) (e : Nat) (h : FcHid) :
    (State.setFc s e h).core = s.core := by
  simp only [State.setFc, ↓core_mk, eq_self, core_eta]

theorem State.fcEmit_core (s : State) (e event : Nat) :
    (State.fcEmit s e event).core = s.core := by
  simp only [State.fcEmit, eq_self, State.deliver_core]

theorem State.fcRaise_core (s : State) (e ev : Nat) :
    (State.fcRaise s e ev).core = s.core := by
  simp only [State.fcRaise, eq_self, State.raiseViews_core]

theorem fcGo_core (e f : Nat) (s : State) :
    exCore s (fcGo e f s) = s.core := by
  (simp only [fcGo]; (repeat' split) <;> (try simp only [↓core_mk, eq_self, implies_true, core_ite, exCore_ite, opCore_ite, outCore_ite, exCore_ok, exCore_error, opCore_some, opCore_none, outCore_next, ite_self, core_eta, if_true, if_false, foldl_core, onOk_core, opCore_map, opCore_bind, getD_core, State.allocPots_core, State.putE_core, State.setFc_core, State.setGrp_core]) <;> first
      | (refine ok_core ?_ ‹_ = Except.ok _›; simp only [↓core_mk, eq_self, implies_true, core_ite, exCore_ite, opCore_ite, outCore_ite, exCore_ok, exCore_error, opCore_some, opCore_none, outCore_next, ite_self, core_eta, if_true, if_false, foldl_core, onOk_core, opCore_map, opCore_bind, getD_core, State.allocPots_core, State.putE_core, State.setFc_core, State.setGrp_core]; done)
      | (refine some_core ?_ ‹_ = some _›; simp only [↓core_mk, eq_self, implies_true, core_ite, exCore_ite, opCore_ite, outCore_ite, exCore_ok, exCore_error, opCore_some, opCore_none, outCore_next, ite_self, core_eta, if_true, if_false, foldl_core, onOk_core, opCore_map, opCore_bind, getD_core, State.allocPots_core, State.putE_core, State.setFc_core, State.setGrp_core]; done)
      | (refine pair_core ?_ ‹_ = (_, _)›; simp only [↓core_mk, eq_self, implies_true, core_ite, exCore_ite, opCore_ite, outCore_ite, exCore_ok, exCore_error, opCore_some, opCore_none, outCore_next, ite_self, core_eta, if_true, if_false, foldl_core, onOk_core, opCore_map, opCore_bind, getD_core, State.allocPots_core, State.putE_core, State.setFc_core, State.setGrp_core]; done))

theorem State.fcEnd_core (s : State) (e : Nat) :
    (State.fcEnd s e).core = s.core := by
  simp only [State.fcEnd, ↓core_mk, eq_self, implies_true, core_ite, ite_self, core_eta, foldl_core, State.fcEmit_core, State.freePotsOf_core, State.groupLeave_core, State.putE_core, State.setGrp_core]

theorem State.fcEndAll_core (s : State) (f : Option Nat) :
    (State.fcEndAll s f).core = s.core := by
  simp only [State.fcEndAll, eq_self, implies_true, core_ite, ite_self, foldl_core, State.fcEnd_core]

theorem State.fcSweep_core (s : State) :
    (State.fcSweep s).core = s.core := by
  simp only [State.fcSweep, eq_self, implies_true, core_ite, ite_self, foldl_core, State.fcEnd_core]

theorem State.fcRealign_core (s : State) (e : Nat) :
    (State.fcRealign s e).core = s.core := by
  simp only [State.fcRealign, eq_self, core_ite, ite_self, State.putE_core, State.setFc_core]

theorem fcCmdWrite_core (e f : Nat) (w : Word) (s : State) : exCore s (fcCmdWrite e f w s) = s.core := by
  simp only [fcCmdWrite]
  generalize ht : (if bit w.toNat 1 = true then s.fcEnd e else s) = t
  have h1 : t.core = s.core := by rw [← ht]; simp only [core_ite, State.fcEnd_core, ite_self]
  (repeat' split) <;> first
    | exact exCore_of (fcGo_core ..) h1
    | exact (State.fcRealign_core ..).trans h1
    | exact h1

theorem metroWrite_core (a : Accessor) (off major : Nat) (w : Word) (s : State) :
    exCore s (metroWrite a off major w s) = s.core := by
  simp only [metroWrite, eq_self, exCore_ite, exCore_error, ite_self, fcCmdWrite_core, plainWrite_core, refCmdWrite_core]

theorem State.metroReset_core (s : State) :
    (State.metroReset s).core = s.core := by
  simp only [State.metroReset, ↓core_mk, eq_self, implies_true, core_eta, foldl_core, State.fcEndAll_core, State.puts_core, State.refAbort_core, State.resetRegs_core]

theorem State.metroAccess_core (s : State) (a : Accessor) (off : Nat) (w : Word) :
    (State.metroAccess s a off w).core = s.core := by
  simp only [State.metroAccess, eq_self, State.regWrite_core, metroWrite_core]

theorem execRefCheckGo_core (a : Accessor) (w : Word) (s : State) :
    outCore s (execRefCheckGo a w s) = s.core := by
  simp only [execRefCheckGo, eq_self, outCore_next, State.metroAccess_core]

theorem execFcGo_core (a : Accessor) (e : Fin 32) (w : Word) (s : State) :
    outCore s (execFcGo a e w s) = s.core := by
  simp only [execFcGo, eq_self, outCore_next, State.metroAccess_core]

theorem execFcStop_core (a : Accessor) (e : Fin 32) (w : Word) (s : State) :
    outCore s (execFcStop a e w s) = s.core := by
  simp only [execFcStop, eq_self, outCore_next, State.metroAccess_core]

theorem execFcRealign_core (a : Accessor) (e : Fin 32) (w : Word) (s : State) :
    outCore s (execFcRealign a e w s) = s.core := by
  simp only [execFcRealign, eq_self, outCore_next, State.metroAccess_core]

theorem State.fcAlarm_core (s : State) (e : Nat) (f : Fld) (ev : Nat) (on : Bool) :
    (State.fcAlarm s e f ev on).core = s.core := by
  simp only [State.fcAlarm, eq_self, core_ite, ite_self, State.fcEmit_core, State.fcRaise_core, State.putE_core]

theorem State.fcCoarse_core (s : State) (e : Nat) (peak second lag : Int) :
    (State.fcCoarse s e peak second lag).core = s.core := by
  simp only [State.fcCoarse, eq_self, core_ite, ite_self, State.fcAlarm_core, State.setFc_core]

theorem State.fcFine_core (s : State) (e : Nat) (peak lag : Int) :
    (State.fcFine s e peak lag).core = s.core := by
  simp only [State.fcFine, eq_self, core_ite, ite_self, State.fcRaise_core, State.putE_core, State.setFc_core]

theorem execFcAlignAttempt_core (e : Fin 32) (peak second lag : Int) (s : State) :
    outCore s (execFcAlignAttempt e peak second lag s) = s.core := by
  simp only [execFcAlignAttempt, eq_self, outCore_ite, outCore_next, ite_self, State.fcCoarse_core, State.fcFine_core]

theorem State.fcJudge_core (s : State) (e : Nat) (src feed rho : Int) :
    (State.fcJudge s e src feed rho).core = s.core := by
  simp only [State.fcJudge, eq_self, core_ite, ite_self, State.fcAlarm_core, State.putE_core, State.setFc_core]

theorem execFcSecond_core (e : Fin 32) (valid : Nat) (src feed rho : Int) (s : State) :
    outCore s (execFcSecond e valid src feed rho s) = s.core := by
  simp only [execFcSecond, eq_self, core_ite, outCore_ite, outCore_next, ite_self, State.fcJudge_core, State.fcRaise_core, State.fcRealign_core, State.putE_core, State.setFc_core]

theorem execFcReport_core (e : Fin 32) (s : State) :
    outCore s (execFcReport e s) = s.core := by
  simp only [execFcReport, eq_self, outCore_ite, outCore_next, ite_self, State.fcEmit_core]

theorem State.sweeps_core (s : State) :
    (State.sweeps s).core = s.core := by
  simp only [State.sweeps, eq_self, State.fcSweep_core, State.folSweep_core, State.hoSweep_core]

theorem State.eachOwned_core (s : State) (b : Blk) (k f : Nat) (g : State → Nat → State) (hg : ∀ t n, (g t n).core = t.core) :
    (State.eachOwned s b k f g).core = s.core := by
  simp only [State.eachOwned, eq_self, implies_true, core_ite, ite_self, foldl_core, hg]

theorem State.scopeDone_core (s : State) (b : Blk) (n : Nat) : (State.scopeDone s b n).core = s.core := by
  simp only [State.scopeDone, core_ite, ite_self, State.raise_core]

theorem State.flrResources_core (s : State) (f : Nat) :
    (State.flrResources s f).core = s.core := by
  simp only [State.flrResources, eq_self, implies_true, core_ite, ite_self, State.apDetach_core, State.apReset_core, State.ctxReset_core, State.eachOwned_core, State.scopeDone_core, State.setSlot_core, State.setTap_core, State.slotReset_core,
    State.tapReset_core]

theorem State.rulesOff_core (s : State) (f : Nat) :
    (State.rulesOff s f).core = s.core := by
  simp only [State.rulesOff, eq_self, implies_true, State.putE_core, State.ruleRestart_core, State.rulesDo_core]

theorem State.flrZero_core (s : State) :
    (State.flrZero s).core = s.core := by
  simp only [State.flrZero, eq_self, implies_true, foldl_core, State.bootAbort_core, State.cancelProbe_core, State.put_core]

theorem execFlrDone_core (f : Fin 4) (s : State) :
    outCore s (execFlrDone f s) = s.core := by
  simp only [execFlrDone, eq_self, outCore_ite, outCore_next, ite_self, State.bumpEpoch_core, State.bumpList_core, State.count_core, State.put_core, State.raise_core, State.sweeps_core]

theorem State.raiseHosts_core (s : State) (e : Nat) :
    (State.raiseHosts s e).core = s.core := by
  simp only [State.raiseHosts, eq_self, implies_true, foldl_core, State.raiseOn_core]

theorem State.trainStart_core (s : State) :
    (State.trainStart s).core = s.core := by
  simp only [State.trainStart, eq_self, core_ite, ite_self, State.release_core]

theorem execPerstDeassert_core (s : State) :
    outCore s (execPerstDeassert s) = s.core := by
  simp only [execPerstDeassert, ↓core_mk, eq_self, outCore_next, core_eta, State.trainStart_core]

theorem execLinkUp_core (speed lanes : Nat) (s : State) :
    outCore s (execLinkUp speed lanes s) = s.core := by
  simp only [execLinkUp, ↓core_mk, eq_self, outCore_ite, outCore_next, ite_self, core_eta, State.raiseHosts_core, State.trainStart_core]

theorem State.ringsFollow_core (s : State) (f : Nat) :
    (State.ringsFollow s f).core = s.core := by
  simp only [State.ringsFollow, eq_self, implies_true, core_ite, ite_self, foldl_core, State.put_core, State.ringGoes_core]

theorem State.cfgWrite_core (s : State) (f : Nat) (c : CfgWrite) :
    (State.cfgWrite s f c).core = s.core := by
  simp only [State.cfgWrite]; (repeat' split) <;> simp only [eq_self, State.flushPending_core, State.put_core, State.ringsFollow_core, State.setCfg_core, State.xdropAll_core]

theorem execConfigWrite_core (f : Fin 4) (c : CfgWrite) (s : State) :
    outCore s (execConfigWrite f c s) = s.core := by
  simp only [execConfigWrite, eq_self, outCore_ite, outCore_next, ite_self, State.cfgWrite_core]

theorem State.w2Bytes_core (s : State) (a m : Nat) : (s.w2Bytes a m).1.core = s.core := by
  induction m generalizing s a with
  | zero => rfl
  | succ m ih =>
    simp only [State.w2Bytes]
    (repeat' split) <;> simp only [ih, State.freeUsed_core]

theorem hostWrite_core (f off major : Nat) (w : Word) (s : State) :
    exCore s (hostWrite f off major w s) = s.core := by
  simp only [hostWrite, eq_self, implies_true, core_ite, exCore_ite, exCore_ok, exCore_error, ite_self, onOk_core, State.flushPending_core, plainWrite_core]

theorem State.hostReset_core (s : State) (f : Nat) :
    (State.hostReset s f).core = s.core := by
  simp only [State.hostReset, eq_self, State.resetKeep_core]

theorem ownWrite_core (row : OwnRow) (e : Nat) (w : Word) (s : State) :
    exCore s (ownWrite row e w s) = s.core := by
  simp only [ownWrite, eq_self, exCore_ite, exCore_ok, exCore_error, ite_self, State.bumpList_core, State.putE_core, State.raise_core]

theorem potsWrite_core (n : Nat) (w : Word) (s : State) :
    exCore s (potsWrite n w s) = s.core := by
  simp only [potsWrite, eq_self, exCore_ite, exCore_ok, exCore_error, ite_self, State.putE_core]

theorem ceilWrite_core (n off major : Nat) (w : Word) (s : State) :
    exCore s (ceilWrite n off major w s) = s.core := by
  simp only [ceilWrite, eq_self, exCore_ite, exCore_error, ite_self, plainWrite_core]

theorem funcWrite_core (off major : Nat) (w : Word) (s : State) :
    exCore s (funcWrite off major w s) = s.core := by
  simp only [funcWrite]; (repeat' split) <;> simp only [eq_self, ceilWrite_core, ownWrite_core, plainWrite_core, potsWrite_core]

theorem execOwnershipWrite_core (a : Accessor) (off : Nat) (w : Word) (s : State) :
    outCore s (execOwnershipWrite a off w s) = s.core := by
  simp only [execOwnershipWrite, eq_self, outCore_next, State.regWrite_core, State.sweeps_core, funcWrite_core]

theorem State.funcPageReset_core (s : State) :
    (State.funcPageReset s).core = s.core := by
  simp only [State.funcPageReset, eq_self, State.resetFlds_core]

theorem State.histAdd_core (s : State) (k : Nat) :
    (State.histAdd s k).core = s.core := by
  simp only [State.histAdd, ↓core_mk, eq_self, core_ite, ite_self, core_eta, State.countE_core]

theorem execHistSecond_core (temps : List Int) (s : State) :
    outCore s (execHistSecond temps s) = s.core := by
  simp only [execHistSecond]; (repeat' split) <;> simp only [↓core_mk, eq_self, implies_true, outCore_next, core_eta, foldl_core, State.histAdd_core, State.putE_core]

theorem execLifeUpdate_core (s : State) : outCore s (execLifeUpdate s) = s.core := by
  have h (t : State) (x : HealthHid) : ({ t with health := x } : State).core = t.core := rfl
  simp only [execLifeUpdate, outCore_ite, outCore_next, State.raise_core, h, State.put_core, ite_self]

theorem State.ageStart_core (s : State) :
    (State.ageStart s).core = s.core := by
  simp only [State.ageStart, eq_self, State.put_core]

theorem ageCmdWrite_core (w : Word) (s : State) :
    exCore s (ageCmdWrite w s) = s.core := by
  simp only [ageCmdWrite, eq_self, exCore_ite, exCore_ok, exCore_error, ite_self, State.ageStart_core]

theorem execAgeMeasureGo_core (a : Accessor) (w : Word) (s : State) :
    outCore s (execAgeMeasureGo a w s) = s.core := by
  simp only [execAgeMeasureGo, eq_self, outCore_next, State.regWrite_core, ageCmdWrite_core]

theorem execAgeMeasureTimer_core (s : State) :
    outCore s (execAgeMeasureTimer s) = s.core := by
  simp only [execAgeMeasureTimer, eq_self, outCore_ite, outCore_next, ite_self, State.ageStart_core]

theorem execAgeMeasureDone_core (slow : List Nat) (s : State) :
    outCore s (execAgeMeasureDone slow s) = s.core := by
  simp only [execAgeMeasureDone, ↓core_mk, eq_self, implies_true, outCore_ite, outCore_next, ite_self, core_eta, foldl_core, State.putE_core, State.put_core, State.raise_core]

theorem healthWrite_core (off major : Nat) (w : Word) (s : State) :
    exCore s (healthWrite off major w s) = s.core := by
  simp only [healthWrite, ↓core_mk, eq_self, exCore_ite, exCore_ok, ite_self, core_eta, State.putE_core, ageCmdWrite_core, plainWrite_core]

theorem State.healthReset_core (s : State) :
    (State.healthReset s).core = s.core := by
  simp only [State.healthReset, eq_self, State.resetKeep_core]

end Sys2Proof.Machine
end

