-- ==== Sys2Proof/Laws/CorePages.lean ====
section
/-! SUPPORT. What the operations over page writes, register reads and the management bus keep: the fields of `core`. -/

namespace Sys2Proof.Machine

set_option linter.unusedSimpArgs false
set_option linter.unreachableTactic false
set_option linter.unusedTactic false
set_option linter.unnecessarySeqFocus false

theorem feWrite_core (a : Accessor) (n off major : Nat) (w : Word) (s : State) :
    exCore s (feWrite a n off major w s) = s.core := by
  simp only [feWrite, eq_self, implies_true, exCore_ite, exCore_ok, ite_self, onOk_core, checked_core, feBurstWrite_core, feCalWritten_core, feCtrlWrite_core, feGainWritten_core, feProbeWrite_core, feRoleWrite_core, feTuneWrite_core, plainWrite_core]

theorem calWrite_core (off major : Nat) (w : Word) (s : State) :
    exCore s (calWrite off major w s) = s.core := by
  simp only [calWrite, eq_self, exCore_ite, ite_self, calRotWrite_core, plainWrite_core]

theorem aerialWrite_core (a : Accessor) (off major : Nat) (w : Word) (s : State) :
    exCore s (aerialWrite a off major w s) = s.core := by
  simp only [aerialWrite, eq_self, implies_true, exCore_ite, exCore_ok, ite_self, onOk_core, State.padWritten_core, aerBiasWritten_core, aerLearn_core, aerSweepWrite_core, aerTunWrite_core, aerVhfWritten_core, checked_core, plainWrite_core]

theorem detCfgWritten_core (n off : Nat) (t : State) :
    exCore t (detCfgWritten n off t) = t.core := by
  simp only [detCfgWritten, eq_self, implies_true, exCore_ite, exCore_ok, ite_self, onOk_core, State.setSlot_core, checked_core]

theorem slotWrite_core (n off major : Nat) (w : Word) (s : State) :
    exCore s (slotWrite n off major w s) = s.core := by
  simp only [slotWrite, eq_self, implies_true, exCore_ite, exCore_error, ite_self, onOk_core, detCfgWritten_core, detCmdWrite_core, laneWrite_core, plainWrite_core, slotAgWrite_core, slotCommitWrite_core, slotDlyWrite_core]

theorem bankWrite_core (n off major : Nat) (w : Word) (s : State) :
    exCore s (bankWrite n off major w s) = s.core := by
  simp only [bankWrite, eq_self, implies_true, exCore_ite, exCore_ok, ite_self, onOk_core, bankRawWritten_core, bankSnapWrite_core, plainWrite_core, profCommitWrite_core, profDataWrite_core]

theorem auddecWrite_core (a : Accessor) (off major : Nat) (w : Word) (s : State) :
    exCore s (auddecWrite a off major w s) = s.core := by
  simp only [auddecWrite, eq_self, exCore_ite, exCore_ok, exCore_error, ite_self, plainWrite_core]

theorem clockWrite_core (off major : Nat) (w : Word) (s : State) :
    exCore s (clockWrite off major w s) = s.core := by
  simp only [clockWrite, eq_self, exCore_ite, exCore_error, ite_self, audPllWrite_core, plainWrite_core, pllCmdWrite_core, x32CfgWrite_core]

theorem dllWrite_core (off major : Nat) (w : Word) (s : State) :
    exCore s (dllWrite off major w s) = s.core := by
  simp only [dllWrite, eq_self, implies_true, exCore_ite, exCore_ok, ite_self, onOk_core, State.padWritten_core, plainWrite_core, syncCfgWrite_core]

theorem mgmtPageWrite_core (off major : Nat) (w : Word) (s : State) :
    exCore s (mgmtPageWrite off major w s) = s.core := by
  simp only [mgmtPageWrite, ↓core_mk, eq_self, implies_true, exCore_ok, core_eta, onOk_core, State.attnKick_core, plainWrite_core]

theorem faultWrite_core (a : Accessor) (f off major : Nat) (w : Word) (s : State) :
    exCore s (faultWrite a f off major w s) = s.core := by
  simp only [faultWrite, eq_self, exCore_ite, ite_self, faultLogWrite_core, faultResume_core, plainWrite_core]

theorem State.globalReset_core (s : State) (v : Nat) :
    (State.globalReset s v).core = s.core := by
  simp only [State.globalReset, eq_self, State.resetFlds_core]

theorem State.mgmtReset_core (s : State) :
    (State.mgmtReset s).core = s.core := by
  simp only [State.mgmtReset, ↓core_mk, eq_self, core_eta, State.attnKick_core, State.resetKeep_core]

theorem State.resetNow_core (s : State) (b : Blk) (n : Nat) :
    (State.resetNow s b n).core = s.core := by
  simp only [State.resetNow]; (repeat' split) <;> simp only [eq_self, implies_true, foldl_core, State.aerialReset_core, State.aonReset_core, State.apReset_core, State.bankReset_core, State.calReset_core, State.clockReset_core, State.ctxReset_core, State.dllReset_core, State.faultReset_core, State.feReset_core, State.folReset_core, State.funcPageReset_core, State.globalReset_core, State.healthReset_core, State.hostReset_core, State.lehrReset_core, State.metroReset_core, State.mgmtReset_core, State.otpReset_core, State.puts_core, State.resetRegs_core, State.ringReset_core, State.sideReset_core, State.slotReset_core, State.tapReset_core, State.xlatReset_core]

theorem State.resetStart_core (s : State) (b : Blk) (n : Nat) :
    (State.resetStart s b n).core = s.core := by
  simp only [State.resetStart, eq_self, State.puts_core, State.resetNow_core]

theorem State.resetEnd1_core (s : State) (b : Blk) (n : Nat) :
    (State.resetEnd1 s b n).core = s.core := by
  simp only [State.resetEnd1]; (repeat' split) <;> simp only [eq_self, State.bumpEpoch_core, State.put_core, State.raiseViews_core, State.raise_core, State.ringResetEnd_core]

theorem State.resetEnd_core (s : State) (b : Blk) (n : Nat) :
    (State.resetEnd s b n).core = s.core := by
  simp only [State.resetEnd, eq_self, implies_true, core_ite, ite_self, foldl_core, State.resetEnd1_core, State.sweeps_core]

theorem powerField_core (b : Blk) (n pw : Nat) (s : State) :
    exCore s (powerField b n pw s) = s.core := by
  simp only [powerField, eq_self, exCore_ite, exCore_ok, exCore_error, ite_self, State.domRequest_core]

theorem enableField_core (b : Blk) (n : Nat) (on : Bool) (s : State) :
    exCore s (enableField b n on s) = s.core := by
  simp only [enableField]; (repeat' split) <;> simp only [eq_self, exCore_ok, State.apDisable_core, State.ctxDisable_core, State.put_core, State.ringDisable_core, State.tapDisable_core, apEnable_core, ctxEnable_core, ringEnable_core, slotDisable_core, slotEnable_core, tapEnable_core]

theorem ctrlField_core (a : Accessor) (b : Blk) (n : Nat) (w : Word) (s : State) :
    exCore s (ctrlField a b n w s) = s.core := by
  simp only [ctrlField, eq_self, implies_true, core_ite, exCore_ite, exCore_ok, exCore_error, ite_self, onOk_core, State.put_core, State.resetStart_core, enableField_core, powerField_core]

theorem State.ctrlWrite_core (s : State) (a : Accessor) (b : Blk) (n : Nat) (w : Word) :
    (State.ctrlWrite s a b n w).core = s.core := by
  simp only [State.ctrlWrite, eq_self, State.hdrWrite_core, State.sweeps_core, ctrlField_core]

theorem State.raiseWord_core (s : State) (b : Blk) (n w : Nat) :
    (State.raiseWord s b n w).core = s.core := by
  simp only [State.raiseWord, eq_self, implies_true, core_ite, ite_self, foldl_core, State.raise_core]

theorem State.evtClear_core (s : State) (b : Blk) (n : Nat) (again : Bool) (v same : Nat) :
    (State.evtClear s b n again v same).core = s.core := by
  simp only [State.evtClear, eq_self, core_ite, ite_self, State.put_core, State.raiseWord_core]

theorem State.evtEnable_core (s : State) (b : Blk) (n v : Nat) :
    (State.evtEnable s b n v).core = s.core := by
  simp only [State.evtEnable, eq_self, State.put_core, State.withRise_core]

theorem State.tapEvt_core (s : State) (n v same : Nat) :
    (State.tapEvt s n v same).core = s.core := by
  simp only [State.tapEvt, eq_self, State.evtClear_core, State.evtEnable_core]

theorem evtField_core (a : Accessor) (b : Blk) (n off v same : Nat) (s : State) :
    exCore s (evtField a b n off v same s) = s.core := by
  simp only [evtField, eq_self, exCore_ite, exCore_ok, ite_self, State.evtClear_core, State.evtEnable_core, State.tapEvt_core]

theorem State.evtWrite_core (s : State) (a : Accessor) (b : Blk) (n off : Nat) (w : Word) (same : Nat) :
    (State.evtWrite s a b n off w same).core = s.core := by
  simp only [State.evtWrite, eq_self, State.hdrWrite_core, evtField_core]

theorem State.roWrite_core (s : State) (a : Accessor) (b : Blk) (n off : Nat) : (State.roWrite s a b n off).core = s.core := by
  simp only [State.roWrite]; (repeat' split) <;> simp only [State.discard_core, State.unreached_core]

theorem State.badWidth_core (s : State) (a : Accessor) (addr : Nat) :
    (State.badWidth s a addr).core = s.core := by
  simp only [State.badWidth]; (repeat' split) <;> simp only [State.discard_core, State.unreached_core, State.logAccess_core]

theorem State.onPage_core (s : State) (a : Accessor) (p i : Nat) (g : Blk → Nat → State)
    (hg : ∀ b n, (g b n).core = s.core) : (s.onPage a p i g).core = s.core := by
  simp only [State.onPage]
  split
  · exact hg _ _
  · simp only [core_ite, State.unreached_core, ite_self]

theorem execPageReset_core (a : Accessor) (page : Fin 256) (inst : Fin 128) (w : Word) (s : State) :
    outCore s (execPageReset a page inst w s) = s.core := by
  simp only [execPageReset, eq_self, implies_true, outCore_next, State.ctrlWrite_core, State.onPage_core]

theorem execResetDone_core (page : Fin 256) (inst : Fin 128) (func : Fin 4) (s : State) :
    outCore s (execResetDone page inst func s) = s.core := by
  simp only [execResetDone]; (repeat' split) <;> simp only [eq_self, outCore_next, State.resetEnd_core]

theorem execLock_core (a : Accessor) (page : Fin 256) (inst : Fin 128) (w : Word) (s : State) :
    outCore s (execLock a page inst w s) = s.core := by
  simp only [execLock, eq_self, implies_true, outCore_next, State.ctrlWrite_core, State.onPage_core]

theorem execEvtClear_core (a : Accessor) (page : Fin 256) (inst : Fin 128) (again : Bool) (w same : Word) (s : State) :
    outCore s (execEvtClear a page inst again w same s) = s.core := by
  simp only [execEvtClear, eq_self, implies_true, outCore_next, State.evtWrite_core, State.onPage_core]

theorem execPowerRequest_core (a : Accessor) (page : Fin 256) (inst : Fin 128) (w : Word) (s : State) :
    outCore s (execPowerRequest a page inst w s) = s.core := by
  simp only [execPowerRequest, eq_self, implies_true, outCore_next, State.ctrlWrite_core, State.onPage_core]

theorem execFePageReset_core (a : Accessor) (f : Fin 8) (w : Word) (s : State) :
    outCore s (execFePageReset a f w s) = s.core := by
  simp only [execFePageReset, eq_self, outCore_next, State.ctrlWrite_core]

theorem execSlotEnable_core (a : Accessor) (n : Fin 512) (w : Word) (s : State) :
    outCore s (execSlotEnable a n w s) = s.core := by
  simp only [execSlotEnable, eq_self, outCore_next, State.ctrlWrite_core]

theorem execSlotDisable_core (a : Accessor) (n : Fin 512) (w : Word) (s : State) :
    outCore s (execSlotDisable a n w s) = s.core := by
  simp only [execSlotDisable, eq_self, outCore_next, State.ctrlWrite_core]

theorem execSlotReset_core (a : Accessor) (n : Fin 512) (w : Word) (s : State) :
    outCore s (execSlotReset a n w s) = s.core := by
  simp only [execSlotReset, eq_self, outCore_next, State.ctrlWrite_core]

theorem execContextEnable_core (a : Accessor) (c : Ctx) (w : Word) (s : State) :
    outCore s (execContextEnable a c w s) = s.core := by
  simp only [execContextEnable, eq_self, outCore_next, State.ctrlWrite_core]

theorem execContextDisable_core (a : Accessor) (c : Ctx) (w : Word) (s : State) :
    outCore s (execContextDisable a c w s) = s.core := by
  simp only [execContextDisable, eq_self, outCore_next, State.ctrlWrite_core]

theorem execContextReset_core (a : Accessor) (c : Ctx) (w : Word) (s : State) :
    outCore s (execContextReset a c w s) = s.core := by
  simp only [execContextReset, eq_self, outCore_next, State.ctrlWrite_core]

theorem execTapEnable_core (a : Accessor) (t : Fin 1024) (w : Word) (s : State) :
    outCore s (execTapEnable a t w s) = s.core := by
  simp only [execTapEnable, eq_self, outCore_next, State.ctrlWrite_core]

theorem execTapDisable_core (a : Accessor) (t : Fin 1024) (w : Word) (s : State) :
    outCore s (execTapDisable a t w s) = s.core := by
  simp only [execTapDisable, eq_self, outCore_next, State.ctrlWrite_core]

theorem execTapReset_core (a : Accessor) (t : Fin 1024) (w : Word) (s : State) :
    outCore s (execTapReset a t w s) = s.core := by
  simp only [execTapReset, eq_self, outCore_next, State.ctrlWrite_core]

theorem execRingEnable_core (a : Accessor) (r : Fin 64) (w : Word) (s : State) :
    outCore s (execRingEnable a r w s) = s.core := by
  simp only [execRingEnable, eq_self, outCore_next, State.ctrlWrite_core]

theorem execRingDisable_core (a : Accessor) (r : Fin 64) (w : Word) (s : State) :
    outCore s (execRingDisable a r w s) = s.core := by
  simp only [execRingDisable, eq_self, outCore_next, State.ctrlWrite_core]

theorem execRingReset_core (a : Accessor) (r : Fin 64) (w : Word) (s : State) :
    outCore s (execRingReset a r w s) = s.core := by
  simp only [execRingReset, eq_self, outCore_next, State.ctrlWrite_core]

theorem execApEnable_core (a : Accessor) (p : Fin 8) (w : Word) (s : State) :
    outCore s (execApEnable a p w s) = s.core := by
  simp only [execApEnable, eq_self, outCore_next, State.ctrlWrite_core]

theorem execApDisable_core (a : Accessor) (p : Fin 8) (w : Word) (s : State) :
    outCore s (execApDisable a p w s) = s.core := by
  simp only [execApDisable, eq_self, outCore_next, State.ctrlWrite_core]

theorem execApReset_core (a : Accessor) (p : Fin 8) (w : Word) (s : State) :
    outCore s (execApReset a p w s) = s.core := by
  simp only [execApReset, eq_self, outCore_next, State.ctrlWrite_core]

theorem State.wordRead_core (s : State) (a : Accessor) (addr : Nat) :
    (State.wordRead s a addr).1.core = s.core := by
  simp only [State.wordRead]; (repeat' split) <;> simp only [eq_self, State.freeUsed_core, State.setLatch_core, State.unreached_core]

theorem State.wordsRead_core (s : State) (a : Accessor) (addr m : Nat) : (s.wordsRead a addr m).1.core = s.core := by
  induction m generalizing s addr with
  | zero => rfl
  | succ m ih => simp only [State.wordsRead, ih, State.wordRead_core]

theorem execUpperLatchRead_core (a : Accessor) (addr : Nat) (s : State) :
    outCore s (execUpperLatchRead a addr s) = s.core := by
  simp only [execUpperLatchRead, ↓core_mk, eq_self, outCore_next, core_eta, State.wordRead_core]

theorem execFaultEntryRead_core (a : Accessor) (s : State) :
    outCore s (execFaultEntryRead a s) = s.core := by
  simp only [execFaultEntryRead, ↓core_mk, eq_self, outCore_next, core_eta, State.wordRead_core]

theorem State.busResult_core (s : State) (cmd : Option Nat) (code : Nat) :
    (State.busResult s cmd code).core = s.core := by
  simp only [State.busResult]; (repeat' split) <;> simp only [eq_self, State.put_core]

theorem State.busReads_core (s : State) (l : List Nat) : (s.busReads l).1.core = s.core := by
  induction l generalizing s with
  | nil => rfl
  | cons x l ih => simp only [State.busReads, ih, State.wordRead_core]

theorem State.zwData_core (s : State) (cmd : Nat) (ps : List Byte) : (s.zwData cmd ps).1.core = s.core := by
  have h (a b : State × List Byte) (c : Prop) [Decidable c] : (if c then a else b).1.core = if c then a.1.core else b.1.core :=
    apply_ite (fun x : State × List Byte => x.1.core) c a b
  simp only [State.zwData, h, State.busReads_core, ite_self]

theorem State.attnCleared_core (s : State) (count : Nat) :
    (State.attnCleared s count).core = s.core := by
  simp only [State.attnCleared, ↓core_mk, eq_self, core_ite, ite_self, core_eta, State.attnKick_core, State.put_core, State.raise_core]

theorem State.zwHold_core (s : State) (cmd : Nat) (ps : List Byte) (read : Option Nat) :
    (State.zwHold s cmd ps read).core = s.core := by
  simp only [State.zwHold, ↓core_mk, eq_self, core_eta, State.busResult_core]

theorem State.busTimeout_core (s : State) (cmd : Option Byte) :
    (State.busTimeout s cmd).core = s.core := by
  simp only [State.busTimeout, eq_self, core_ite, ite_self, State.busResult_core, State.count_core, State.raise_core]

theorem execMgmtTimeout_core (cmd : Option Byte) (s : State) :
    outCore s (execMgmtTimeout cmd s) = s.core := by
  simp only [execMgmtTimeout, eq_self, outCore_next, State.busTimeout_core]

theorem execSclLowTimeout_core (cmd : Option Byte) (s : State) :
    outCore s (execSclLowTimeout cmd s) = s.core := by
  simp only [execSclLowTimeout, eq_self, outCore_next, State.busTimeout_core]

theorem execAttnSignal_core (s : State) :
    outCore s (execAttnSignal s) = s.core := by
  simp only [execAttnSignal, ↓core_mk, eq_self, outCore_ite, outCore_next, ite_self, core_eta, State.count_core, State.send_core]

theorem execAttnRepeat_core (s : State) :
    outCore s (execAttnRepeat s) = s.core := by
  simp only [execAttnRepeat, ↓core_mk, eq_self, outCore_ite, outCore_next, ite_self, core_eta]

end Sys2Proof.Machine
end

