-- ==== Sys2Proof/Laws/Fields.lean ====
section
/-! SUPPORT. The laws of register fields: a field just written reads the bits it has room for, every other field reads as
before, whichever updates lie between. -/

namespace Sys2Proof.Machine

/-- The part of a key that a field has whatever its instance and element. -/
def Fld.low (f : Fld) : Nat := (f.off / 4 * 32 + f.lo) % 32768

theorem Fld.key_mod (f : Fld) (n e : Nat) : f.key n e % 32768 = f.low := by
  unfold Fld.key Fld.low
  omega

/-- Fields at different places of their blocks have different keys. -/
theorem Fld.key_ne_of_low {f g : Fld} (h : f.low ≠ g.low) (n e m i : Nat) : f.key n e ≠ g.key m i := by
  intro hk
  exact h (by rw [← Fld.key_mod f n e, ← Fld.key_mod g m i, hk])

/-- A field's instances have different keys. -/
theorem Fld.key_ne_of_inst (f : Fld) {n m e i : Nat} (h : n ≠ m) (he : e < 128) (hi : i < 128) : f.key n e ≠ f.key m i := by
  unfold Fld.key
  omega

/-- A field's elements have different keys. -/
theorem Fld.key_ne_of_elem (f : Fld) {n e i : Nat} (h : e ≠ i) : f.key n e ≠ f.key n i := by
  unfold Fld.key
  omega

/-- Fields of different blocks have different keys. -/
theorem Fld.key_ne_of_blk {f g : Fld} {n e m i : Nat} (h : f.blk.code ≠ g.blk.code) (hn : n < 1024) (hm : m < 1024)
    (he : e < 128) (hi : i < 128) (hf : f.off < 4096) (hg : g.off < 4096) (hfl : f.lo < 32) (hgl : g.lo < 32) :
    f.key n e ≠ g.key m i := by
  unfold Fld.key
  omega

/-- A field that does not depend on its instance for its reset value, at one key, reads alike through every field there. -/
@[simp] theorem State.getE_putE_same (s : State) (f : Fld) (n e v : Nat) : (s.putE f n e v).getE f n e = v % 2 ^ f.width :=
  Tbl.get_set_same _ _ _ _

@[simp] theorem State.get_put_same (s : State) (f : Fld) (n v : Nat) : (s.put f n v).get f n = v % 2 ^ f.width :=
  Tbl.get_set_same _ _ _ _

@[simp] theorem State.get_putE_same (s : State) (f : Fld) (n v : Nat) : (s.putE f n 0 v).get f n = v % 2 ^ f.width :=
  Tbl.get_set_same _ _ _ _

theorem State.getE_putE_ne (s : State) (f g : Fld) (n e m i v : Nat) (h : g.key m i ≠ f.key n e) :
    (s.putE f n e v).getE g m i = s.getE g m i := Tbl.get_set_ne _ _ _ _ h

theorem State.get_put_ne (s : State) (f g : Fld) (n m v : Nat) (h : g.key m 0 ≠ f.key n 0) :
    (s.put f n v).get g m = s.get g m := Tbl.get_set_ne _ _ _ _ h

theorem State.get_put_low (s : State) (f g : Fld) (n m v : Nat) (h : g.low ≠ f.low) : (s.put f n v).get g m = s.get g m :=
  State.get_put_ne s f g n m v (Fld.key_ne_of_low h m 0 n 0)

theorem State.on_put_low (s : State) (f g : Fld) (n m v : Nat) (h : g.low ≠ f.low) : (s.put f n v).on g m = s.on g m := by
  unfold State.on
  rw [State.get_put_low s f g n m v h]

theorem State.getE_put_low (s : State) (f g : Fld) (n m i v : Nat) (h : g.low ≠ f.low) :
    (s.put f n v).getE g m i = s.getE g m i :=
  State.getE_putE_ne s f g n 0 m i v (Fld.key_ne_of_low h m i n 0)

theorem State.get_putE_low (s : State) (f g : Fld) (n e m v : Nat) (h : g.low ≠ f.low) :
    (s.putE f n e v).get g m = s.get g m :=
  State.getE_putE_ne s f g n e m 0 v (Fld.key_ne_of_low h m 0 n e)

theorem State.getE_putE_low (s : State) (f g : Fld) (n e m i v : Nat) (h : g.low ≠ f.low) :
    (s.putE f n e v).getE g m i = s.getE g m i :=
  State.getE_putE_ne s f g n e m i v (Fld.key_ne_of_low h m i n e)

theorem State.get_put_inst (s : State) (f : Fld) (n m v : Nat) (h : m ≠ n) : (s.put f n v).get f m = s.get f m :=
  State.get_put_ne s f f n m v (Fld.key_ne_of_inst f h (by omega) (by omega))

theorem State.getE_putE_elem (s : State) (f : Fld) (n e i v : Nat) (h : i ≠ e) :
    (s.putE f n e v).getE f n i = s.getE f n i :=
  State.getE_putE_ne s f f n e n i v (Fld.key_ne_of_elem f h)

@[simp] theorem State.on_put_same (s : State) (f : Fld) (n v : Nat) : (s.put f n v).on f n = (v % 2 ^ f.width == 1) := by
  unfold State.on
  rw [State.get_put_same]

/-- A counter reads one more, or all ones. -/
theorem State.get_count_same (s : State) (f : Fld) (n k : Nat) :
    (s.count f n k).get f n = min (s.get f n + k) (2 ^ f.width - 1) := by
  unfold State.count
  rw [State.get_put_same, Nat.mod_eq_of_lt]
  have : 0 < 2 ^ f.width := Nat.two_pow_pos _
  omega

theorem State.get_count_low (s : State) (f g : Fld) (n m k : Nat) (h : g.low ≠ f.low) :
    (s.count f n k).get g m = s.get g m := State.get_put_low _ _ _ _ _ _ h

end Sys2Proof.Machine
end

