-- ==== Sys2Proof/Laws/Events.lean ====
section
/-! SUPPORT. What raising an event can do: it changes registers, what has been sent and the attention series, and of the
registers only the event bits of the instance, pending MSI-X bits, and the attention bits of the management port. -/

namespace Sys2Proof.Machine

/-- Only the register table, what has been sent and the attention series differ. -/
def State.OnlyEvents (s t : State) : Prop :=
  ∃ (F : Tbl Nat) (O : List Out) (A : AttnHid), t = { s with fields := F, out := O, attn := A }

theorem State.OnlyEvents.refl (s : State) : s.OnlyEvents s := ⟨s.fields, s.out, s.attn, rfl⟩

theorem State.OnlyEvents.trans {s t u : State} (h : s.OnlyEvents t) (k : t.OnlyEvents u) : s.OnlyEvents u := by
  obtain ⟨F, O, A, rfl⟩ := h
  obtain ⟨F', O', A', rfl⟩ := k
  exact ⟨F', O', A', rfl⟩

theorem State.OnlyEvents.putE (s : State) (f : Fld) (n e v : Nat) : s.OnlyEvents (s.putE f n e v) := ⟨_, s.out, s.attn, rfl⟩

theorem State.OnlyEvents.put (s : State) (f : Fld) (n v : Nat) : s.OnlyEvents (s.put f n v) := ⟨_, s.out, s.attn, rfl⟩

theorem State.message_only (s : State) (f v : Nat) : s.OnlyEvents (s.message f v) := by
  unfold State.message
  extract_lets c
  split
  · exact .refl s
  · split
    · exact ⟨s.fields, _, s.attn, rfl⟩
    · exact .putE _ _ _ _ _

theorem State.pageMessage_only (s : State) (f p : Nat) : s.OnlyEvents (s.pageMessage f p) := by
  unfold State.pageMessage
  split
  · exact State.message_only _ _ _
  · exact .refl s

theorem State.setEvt_only (s : State) (b : Blk) (n e : Nat) : s.OnlyEvents (s.setEvt b n e) := by
  unfold State.setEvt
  split <;> exact .put _ _ _ _

theorem State.withRise_only (s : State) (b : Blk) (n f : Nat) (g : State → State) (h : s.OnlyEvents (g s)) :
    s.OnlyEvents (s.withRise b n f g) := by
  unfold State.withRise
  extract_lets t
  split
  · exact h.trans (State.pageMessage_only _ _ _)
  · exact h

theorem State.attnKick_only (s : State) : s.OnlyEvents s.attnKick := by
  unfold State.attnKick
  split
  · split
    · exact .refl s
    · exact ⟨_, s.out, _, rfl⟩
  · exact ⟨_, s.out, _, rfl⟩

theorem State.attnMark_only (s : State) (k : Nat) : s.OnlyEvents (s.attnMark k) := by
  unfold State.attnMark
  split
  · extract_lets p
    split
    · exact .refl s
    · exact State.OnlyEvents.trans ⟨_, s.out, _, rfl⟩ (State.attnKick_only _)
  · exact .refl s

/-- Raising an event changes only registers, what has been sent and the attention series (R46 to R48, R485). -/
theorem State.raise_only (s : State) (b : Blk) (n e : Nat) : s.OnlyEvents (s.raise b n e) := by
  unfold State.raise
  extract_lets t
  have h : s.OnlyEvents t := State.withRise_only _ _ _ _ _ (State.setEvt_only _ _ _ _)
  split
  · exact h.trans (State.attnMark_only _ _)
  · exact h

theorem State.raiseOn_only (s : State) (b : Blk) (n e : Nat) : s.OnlyEvents (s.raiseOn b n e) := by
  unfold State.raiseOn
  split
  · exact State.raise_only _ _ _ _
  · exact .refl s

theorem State.OnlyEvents.foldl {α : Type} (g : State → α → State) (hg : ∀ (u : State) (x : α), u.OnlyEvents (g u x)) (l : List α) :
    ∀ s : State, s.OnlyEvents (l.foldl g s) := by
  induction l with
  | nil => exact fun s => .refl s
  | cons x l ih => exact fun s => (hg s x).trans (ih _)

theorem State.raiseViews_only (s : State) (b : Blk) (e : Nat) (vs : List Nat) : s.OnlyEvents (s.raiseViews b e vs) := by
  unfold State.raiseViews
  extract_lets t
  have h : s.OnlyEvents t := by
    refine State.OnlyEvents.foldl _ ?_ vs s
    intro u v
    split
    · exact State.withRise_only _ _ _ _ _ (State.setEvt_only _ _ _ _)
    · exact State.setEvt_only _ _ _ _
  split
  · exact h.trans (State.attnMark_only _ _)
  · exact h

theorem State.logAccess_only (s : State) (a : Accessor) (p off : Nat) (r : Reason) : s.OnlyEvents (s.logAccess a p off r) :=
  ⟨_, s.out, s.attn, rfl⟩

/-- A write that is turned away changes only registers, what has been sent and the attention series (R52). -/
theorem State.discard_only (s : State) (a : Accessor) (b : Blk) (n off : Nat) (r : Reason) :
    s.OnlyEvents (s.discard a b n off r) :=
  (State.logAccess_only s a _ _ r).trans (State.raise_only _ _ _ _)

/-! ### What `raise` leaves as it was -/

@[simp] theorem State.raise_pending (s : State) (b : Blk) (n e : Nat) : (s.raise b n e).pending = s.pending := by
  obtain ⟨_, _, _, h⟩ := State.raise_only s b n e; rw [h]
@[simp] theorem State.raise_speak (s : State) (b : Blk) (n e : Nat) : (s.raise b n e).speak = s.speak := by
  obtain ⟨_, _, _, h⟩ := State.raise_only s b n e; rw [h]
@[simp] theorem State.raise_epochBase (s : State) (b : Blk) (n e : Nat) : (s.raise b n e).epochBase = s.epochBase := by
  obtain ⟨_, _, _, h⟩ := State.raise_only s b n e; rw [h]
@[simp] theorem State.raise_epochs (s : State) (b : Blk) (n e : Nat) : (s.raise b n e).epochs = s.epochs := by
  obtain ⟨_, _, _, h⟩ := State.raise_only s b n e; rw [h]
@[simp] theorem State.raise_latches (s : State) (b : Blk) (n e : Nat) : (s.raise b n e).latches = s.latches := by
  obtain ⟨_, _, _, h⟩ := State.raise_only s b n e; rw [h]
@[simp] theorem State.raise_time (s : State) (b : Blk) (n e : Nat) : (s.raise b n e).time = s.time := by
  obtain ⟨_, _, _, h⟩ := State.raise_only s b n e; rw [h]
@[simp] theorem State.raise_aonTime (s : State) (b : Blk) (n e : Nat) : (s.raise b n e).aonTime = s.aonTime := by
  obtain ⟨_, _, _, h⟩ := State.raise_only s b n e; rw [h]
@[simp] theorem State.raise_aonPhase (s : State) (b : Blk) (n e : Nat) : (s.raise b n e).aonPhase = s.aonPhase := by
  obtain ⟨_, _, _, h⟩ := State.raise_only s b n e; rw [h]
@[simp] theorem State.raise_freeCount (s : State) (b : Blk) (n e : Nat) : (s.raise b n e).freeCount = s.freeCount := by
  obtain ⟨_, _, _, h⟩ := State.raise_only s b n e; rw [h]
@[simp] theorem State.raise_resp (s : State) (b : Blk) (n e : Nat) : (s.raise b n e).resp = s.resp := by
  obtain ⟨_, _, _, h⟩ := State.raise_only s b n e; rw [h]
@[simp] theorem State.raise_mode (s : State) (b : Blk) (n e : Nat) : (s.raise b n e).mode = s.mode := by
  obtain ⟨_, _, _, h⟩ := State.raise_only s b n e; rw [h]
@[simp] theorem State.raise_doms (s : State) (b : Blk) (n e : Nat) : (s.raise b n e).doms = s.doms := by
  obtain ⟨_, _, _, h⟩ := State.raise_only s b n e; rw [h]
@[simp] theorem State.raise_pdQueue (s : State) (b : Blk) (n e : Nat) : (s.raise b n e).pdQueue = s.pdQueue := by
  obtain ⟨_, _, _, h⟩ := State.raise_only s b n e; rw [h]
@[simp] theorem State.raise_banks (s : State) (b : Blk) (n e : Nat) : (s.raise b n e).banks = s.banks := by
  obtain ⟨_, _, _, h⟩ := State.raise_only s b n e; rw [h]
@[simp] theorem State.raise_pots (s : State) (b : Blk) (n e : Nat) : (s.raise b n e).pots = s.pots := by
  obtain ⟨_, _, _, h⟩ := State.raise_only s b n e; rw [h]
@[simp] theorem State.raise_crucible (s : State) (b : Blk) (n e : Nat) : (s.raise b n e).crucible = s.crucible := by
  obtain ⟨_, _, _, h⟩ := State.raise_only s b n e; rw [h]
@[simp] theorem State.raise_fes (s : State) (b : Blk) (n e : Nat) : (s.raise b n e).fes = s.fes := by
  obtain ⟨_, _, _, h⟩ := State.raise_only s b n e; rw [h]
@[simp] theorem State.raise_hws (s : State) (b : Blk) (n e : Nat) : (s.raise b n e).hws = s.hws := by
  obtain ⟨_, _, _, h⟩ := State.raise_only s b n e; rw [h]
@[simp] theorem State.raise_hands (s : State) (b : Blk) (n e : Nat) : (s.raise b n e).hands = s.hands := by
  obtain ⟨_, _, _, h⟩ := State.raise_only s b n e; rw [h]
@[simp] theorem State.raise_aerials (s : State) (b : Blk) (n e : Nat) : (s.raise b n e).aerials = s.aerials := by
  obtain ⟨_, _, _, h⟩ := State.raise_only s b n e; rw [h]
@[simp] theorem State.raise_tuners (s : State) (b : Blk) (n e : Nat) : (s.raise b n e).tuners = s.tuners := by
  obtain ⟨_, _, _, h⟩ := State.raise_only s b n e; rw [h]
@[simp] theorem State.raise_gainLog (s : State) (b : Blk) (n e : Nat) : (s.raise b n e).gainLog = s.gainLog := by
  obtain ⟨_, _, _, h⟩ := State.raise_only s b n e; rw [h]
@[simp] theorem State.raise_slots (s : State) (b : Blk) (n e : Nat) : (s.raise b n e).slots = s.slots := by
  obtain ⟨_, _, _, h⟩ := State.raise_only s b n e; rw [h]
@[simp] theorem State.raise_groups (s : State) (b : Blk) (n e : Nat) : (s.raise b n e).groups = s.groups := by
  obtain ⟨_, _, _, h⟩ := State.raise_only s b n e; rw [h]
@[simp] theorem State.raise_profiles (s : State) (b : Blk) (n e : Nat) : (s.raise b n e).profiles = s.profiles := by
  obtain ⟨_, _, _, h⟩ := State.raise_only s b n e; rw [h]
@[simp] theorem State.raise_loader (s : State) (b : Blk) (n e : Nat) : (s.raise b n e).loader = s.loader := by
  obtain ⟨_, _, _, h⟩ := State.raise_only s b n e; rw [h]
@[simp] theorem State.raise_snaps (s : State) (b : Blk) (n e : Nat) : (s.raise b n e).snaps = s.snaps := by
  obtain ⟨_, _, _, h⟩ := State.raise_only s b n e; rw [h]
@[simp] theorem State.raise_lanes (s : State) (b : Blk) (n e : Nat) : (s.raise b n e).lanes = s.lanes := by
  obtain ⟨_, _, _, h⟩ := State.raise_only s b n e; rw [h]
@[simp] theorem State.raise_ctxs (s : State) (b : Blk) (n e : Nat) : (s.raise b n e).ctxs = s.ctxs := by
  obtain ⟨_, _, _, h⟩ := State.raise_only s b n e; rw [h]
@[simp] theorem State.raise_taps (s : State) (b : Blk) (n e : Nat) : (s.raise b n e).taps = s.taps := by
  obtain ⟨_, _, _, h⟩ := State.raise_only s b n e; rw [h]
@[simp] theorem State.raise_ruleType (s : State) (b : Blk) (n e : Nat) : (s.raise b n e).ruleType = s.ruleType := by
  obtain ⟨_, _, _, h⟩ := State.raise_only s b n e; rw [h]
@[simp] theorem State.raise_fols (s : State) (b : Blk) (n e : Nat) : (s.raise b n e).fols = s.fols := by
  obtain ⟨_, _, _, h⟩ := State.raise_only s b n e; rw [h]
@[simp] theorem State.raise_mets (s : State) (b : Blk) (n e : Nat) : (s.raise b n e).mets = s.mets := by
  obtain ⟨_, _, _, h⟩ := State.raise_only s b n e; rw [h]
@[simp] theorem State.raise_ref (s : State) (b : Blk) (n e : Nat) : (s.raise b n e).ref = s.ref := by
  obtain ⟨_, _, _, h⟩ := State.raise_only s b n e; rw [h]
@[simp] theorem State.raise_pps (s : State) (b : Blk) (n e : Nat) : (s.raise b n e).pps = s.pps := by
  obtain ⟨_, _, _, h⟩ := State.raise_only s b n e; rw [h]
@[simp] theorem State.raise_fcs (s : State) (b : Blk) (n e : Nat) : (s.raise b n e).fcs = s.fcs := by
  obtain ⟨_, _, _, h⟩ := State.raise_only s b n e; rw [h]
@[simp] theorem State.raise_clk (s : State) (b : Blk) (n e : Nat) : (s.raise b n e).clk = s.clk := by
  obtain ⟨_, _, _, h⟩ := State.raise_only s b n e; rw [h]
@[simp] theorem State.raise_wakeHid (s : State) (b : Blk) (n e : Nat) : (s.raise b n e).wakeHid = s.wakeHid := by
  obtain ⟨_, _, _, h⟩ := State.raise_only s b n e; rw [h]
@[simp] theorem State.raise_punty (s : State) (b : Blk) (n e : Nat) : (s.raise b n e).punty = s.punty := by
  obtain ⟨_, _, _, h⟩ := State.raise_only s b n e; rw [h]
@[simp] theorem State.raise_lehr (s : State) (b : Blk) (n e : Nat) : (s.raise b n e).lehr = s.lehr := by
  obtain ⟨_, _, _, h⟩ := State.raise_only s b n e; rw [h]
@[simp] theorem State.raise_start (s : State) (b : Blk) (n e : Nat) : (s.raise b n e).start = s.start := by
  obtain ⟨_, _, _, h⟩ := State.raise_only s b n e; rw [h]
@[simp] theorem State.raise_fg (s : State) (b : Blk) (n e : Nat) : (s.raise b n e).fg = s.fg := by
  obtain ⟨_, _, _, h⟩ := State.raise_only s b n e; rw [h]
@[simp] theorem State.raise_otp (s : State) (b : Blk) (n e : Nat) : (s.raise b n e).otp = s.otp := by
  obtain ⟨_, _, _, h⟩ := State.raise_only s b n e; rw [h]
@[simp] theorem State.raise_otpSpares (s : State) (b : Blk) (n e : Nat) : (s.raise b n e).otpSpares = s.otpSpares := by
  obtain ⟨_, _, _, h⟩ := State.raise_only s b n e; rw [h]
@[simp] theorem State.raise_link (s : State) (b : Blk) (n e : Nat) : (s.raise b n e).link = s.link := by
  obtain ⟨_, _, _, h⟩ := State.raise_only s b n e; rw [h]
@[simp] theorem State.raise_cfgs (s : State) (b : Blk) (n e : Nat) : (s.raise b n e).cfgs = s.cfgs := by
  obtain ⟨_, _, _, h⟩ := State.raise_only s b n e; rw [h]
@[simp] theorem State.raise_rings (s : State) (b : Blk) (n e : Nat) : (s.raise b n e).rings = s.rings := by
  obtain ⟨_, _, _, h⟩ := State.raise_only s b n e; rw [h]
@[simp] theorem State.raise_dmaTurn (s : State) (b : Blk) (n e : Nat) : (s.raise b n e).dmaTurn = s.dmaTurn := by
  obtain ⟨_, _, _, h⟩ := State.raise_only s b n e; rw [h]
@[simp] theorem State.raise_walkTurn (s : State) (b : Blk) (n e : Nat) : (s.raise b n e).walkTurn = s.walkTurn := by
  obtain ⟨_, _, _, h⟩ := State.raise_only s b n e; rw [h]
@[simp] theorem State.raise_xcache (s : State) (b : Blk) (n e : Nat) : (s.raise b n e).xcache = s.xcache := by
  obtain ⟨_, _, _, h⟩ := State.raise_only s b n e; rw [h]
@[simp] theorem State.raise_faults (s : State) (b : Blk) (n e : Nat) : (s.raise b n e).faults = s.faults := by
  obtain ⟨_, _, _, h⟩ := State.raise_only s b n e; rw [h]
@[simp] theorem State.raise_aps (s : State) (b : Blk) (n e : Nat) : (s.raise b n e).aps = s.aps := by
  obtain ⟨_, _, _, h⟩ := State.raise_only s b n e; rw [h]
@[simp] theorem State.raise_mgmt (s : State) (b : Blk) (n e : Nat) : (s.raise b n e).mgmt = s.mgmt := by
  obtain ⟨_, _, _, h⟩ := State.raise_only s b n e; rw [h]
@[simp] theorem State.raise_health (s : State) (b : Blk) (n e : Nat) : (s.raise b n e).health = s.health := by
  obtain ⟨_, _, _, h⟩ := State.raise_only s b n e; rw [h]

@[simp] theorem State.raise_fe (s : State) (b : Blk) (n e : Nat) (j : Nat) : (s.raise b n e).fe j = s.fe j := by
  unfold State.fe; rw [State.raise_fes]
@[simp] theorem State.raise_hw (s : State) (b : Blk) (n e : Nat) (j : Nat) : (s.raise b n e).hw j = s.hw j := by
  unfold State.hw; rw [State.raise_hws]
@[simp] theorem State.raise_hand (s : State) (b : Blk) (n e : Nat) (j : Nat) : (s.raise b n e).hand j = s.hand j := by
  unfold State.hand; rw [State.raise_hands]
@[simp] theorem State.raise_aerial (s : State) (b : Blk) (n e : Nat) (j : Nat) : (s.raise b n e).aerial j = s.aerial j := by
  unfold State.aerial; rw [State.raise_aerials]
@[simp] theorem State.raise_tuner (s : State) (b : Blk) (n e : Nat) (j : Nat) : (s.raise b n e).tuner j = s.tuner j := by
  unfold State.tuner; rw [State.raise_tuners]
@[simp] theorem State.raise_dom (s : State) (b : Blk) (n e : Nat) (j : Nat) : (s.raise b n e).dom j = s.dom j := by
  unfold State.dom; rw [State.raise_doms]
@[simp] theorem State.raise_bank (s : State) (b : Blk) (n e : Nat) (j : Nat) : (s.raise b n e).bank j = s.bank j := by
  unfold State.bank; rw [State.raise_banks]
@[simp] theorem State.raise_cfg (s : State) (b : Blk) (n e : Nat) (j : Nat) : (s.raise b n e).cfg j = s.cfg j := by
  unfold State.cfg; rw [State.raise_cfgs]
@[simp] theorem State.raise_ring (s : State) (b : Blk) (n e : Nat) (j : Nat) : (s.raise b n e).ring j = s.ring j := by
  unfold State.ring; rw [State.raise_rings]
@[simp] theorem State.raise_slot (s : State) (b : Blk) (n e : Nat) (j : Nat) : (s.raise b n e).slot j = s.slot j := by
  unfold State.slot; rw [State.raise_slots]
@[simp] theorem State.raise_grp (s : State) (b : Blk) (n e : Nat) (j : Nat) : (s.raise b n e).grp j = s.grp j := by
  unfold State.grp; rw [State.raise_groups]
@[simp] theorem State.raise_lane (s : State) (b : Blk) (n e : Nat) (j : Nat) : (s.raise b n e).lane j = s.lane j := by
  unfold State.lane; rw [State.raise_lanes]
@[simp] theorem State.raise_tap (s : State) (b : Blk) (n e : Nat) (j : Nat) : (s.raise b n e).tap j = s.tap j := by
  unfold State.tap; rw [State.raise_taps]
@[simp] theorem State.raise_fol (s : State) (b : Blk) (n e : Nat) (j : Nat) : (s.raise b n e).fol j = s.fol j := by
  unfold State.fol; rw [State.raise_fols]
@[simp] theorem State.raise_ap (s : State) (b : Blk) (n e : Nat) (j : Nat) : (s.raise b n e).ap j = s.ap j := by
  unfold State.ap; rw [State.raise_aps]

/-! ### What `raiseViews` leaves as it was -/

@[simp] theorem State.raiseViews_pending (s : State) (b : Blk) (e : Nat) (vs : List Nat) : (s.raiseViews b e vs).pending = s.pending := by
  obtain ⟨_, _, _, h⟩ := State.raiseViews_only s b e vs; rw [h]
@[simp] theorem State.raiseViews_speak (s : State) (b : Blk) (e : Nat) (vs : List Nat) : (s.raiseViews b e vs).speak = s.speak := by
  obtain ⟨_, _, _, h⟩ := State.raiseViews_only s b e vs; rw [h]
@[simp] theorem State.raiseViews_epochBase (s : State) (b : Blk) (e : Nat) (vs : List Nat) : (s.raiseViews b e vs).epochBase = s.epochBase := by
  obtain ⟨_, _, _, h⟩ := State.raiseViews_only s b e vs; rw [h]
@[simp] theorem State.raiseViews_epochs (s : State) (b : Blk) (e : Nat) (vs : List Nat) : (s.raiseViews b e vs).epochs = s.epochs := by
  obtain ⟨_, _, _, h⟩ := State.raiseViews_only s b e vs; rw [h]
@[simp] theorem State.raiseViews_latches (s : State) (b : Blk) (e : Nat) (vs : List Nat) : (s.raiseViews b e vs).latches = s.latches := by
  obtain ⟨_, _, _, h⟩ := State.raiseViews_only s b e vs; rw [h]
@[simp] theorem State.raiseViews_time (s : State) (b : Blk) (e : Nat) (vs : List Nat) : (s.raiseViews b e vs).time = s.time := by
  obtain ⟨_, _, _, h⟩ := State.raiseViews_only s b e vs; rw [h]
@[simp] theorem State.raiseViews_aonTime (s : State) (b : Blk) (e : Nat) (vs : List Nat) : (s.raiseViews b e vs).aonTime = s.aonTime := by
  obtain ⟨_, _, _, h⟩ := State.raiseViews_only s b e vs; rw [h]
@[simp] theorem State.raiseViews_aonPhase (s : State) (b : Blk) (e : Nat) (vs : List Nat) : (s.raiseViews b e vs).aonPhase = s.aonPhase := by
  obtain ⟨_, _, _, h⟩ := State.raiseViews_only s b e vs; rw [h]
@[simp] theorem State.raiseViews_freeCount (s : State) (b : Blk) (e : Nat) (vs : List Nat) : (s.raiseViews b e vs).freeCount = s.freeCount := by
  obtain ⟨_, _, _, h⟩ := State.raiseViews_only s b e vs; rw [h]
@[simp] theorem State.raiseViews_resp (s : State) (b : Blk) (e : Nat) (vs : List Nat) : (s.raiseViews b e vs).resp = s.resp := by
  obtain ⟨_, _, _, h⟩ := State.raiseViews_only s b e vs; rw [h]
@[simp] theorem State.raiseViews_mode (s : State) (b : Blk) (e : Nat) (vs : List Nat) : (s.raiseViews b e vs).mode = s.mode := by
  obtain ⟨_, _, _, h⟩ := State.raiseViews_only s b e vs; rw [h]
@[simp] theorem State.raiseViews_doms (s : State) (b : Blk) (e : Nat) (vs : List Nat) : (s.raiseViews b e vs).doms = s.doms := by
  obtain ⟨_, _, _, h⟩ := State.raiseViews_only s b e vs; rw [h]
@[simp] theorem State.raiseViews_pdQueue (s : State) (b : Blk) (e : Nat) (vs : List Nat) : (s.raiseViews b e vs).pdQueue = s.pdQueue := by
  obtain ⟨_, _, _, h⟩ := State.raiseViews_only s b e vs; rw [h]
@[simp] theorem State.raiseViews_banks (s : State) (b : Blk) (e : Nat) (vs : List Nat) : (s.raiseViews b e vs).banks = s.banks := by
  obtain ⟨_, _, _, h⟩ := State.raiseViews_only s b e vs; rw [h]
@[simp] theorem State.raiseViews_pots (s : State) (b : Blk) (e : Nat) (vs : List Nat) : (s.raiseViews b e vs).pots = s.pots := by
  obtain ⟨_, _, _, h⟩ := State.raiseViews_only s b e vs; rw [h]
@[simp] theorem State.raiseViews_crucible (s : State) (b : Blk) (e : Nat) (vs : List Nat) : (s.raiseViews b e vs).crucible = s.crucible := by
  obtain ⟨_, _, _, h⟩ := State.raiseViews_only s b e vs; rw [h]
@[simp] theorem State.raiseViews_fes (s : State) (b : Blk) (e : Nat) (vs : List Nat) : (s.raiseViews b e vs).fes = s.fes := by
  obtain ⟨_, _, _, h⟩ := State.raiseViews_only s b e vs; rw [h]
@[simp] theorem State.raiseViews_hws (s : State) (b : Blk) (e : Nat) (vs : List Nat) : (s.raiseViews b e vs).hws = s.hws := by
  obtain ⟨_, _, _, h⟩ := State.raiseViews_only s b e vs; rw [h]
@[simp] theorem State.raiseViews_hands (s : State) (b : Blk) (e : Nat) (vs : List Nat) : (s.raiseViews b e vs).hands = s.hands := by
  obtain ⟨_, _, _, h⟩ := State.raiseViews_only s b e vs; rw [h]
@[simp] theorem State.raiseViews_aerials (s : State) (b : Blk) (e : Nat) (vs : List Nat) : (s.raiseViews b e vs).aerials = s.aerials := by
  obtain ⟨_, _, _, h⟩ := State.raiseViews_only s b e vs; rw [h]
@[simp] theorem State.raiseViews_tuners (s : State) (b : Blk) (e : Nat) (vs : List Nat) : (s.raiseViews b e vs).tuners = s.tuners := by
  obtain ⟨_, _, _, h⟩ := State.raiseViews_only s b e vs; rw [h]
@[simp] theorem State.raiseViews_gainLog (s : State) (b : Blk) (e : Nat) (vs : List Nat) : (s.raiseViews b e vs).gainLog = s.gainLog := by
  obtain ⟨_, _, _, h⟩ := State.raiseViews_only s b e vs; rw [h]
@[simp] theorem State.raiseViews_slots (s : State) (b : Blk) (e : Nat) (vs : List Nat) : (s.raiseViews b e vs).slots = s.slots := by
  obtain ⟨_, _, _, h⟩ := State.raiseViews_only s b e vs; rw [h]
@[simp] theorem State.raiseViews_groups (s : State) (b : Blk) (e : Nat) (vs : List Nat) : (s.raiseViews b e vs).groups = s.groups := by
  obtain ⟨_, _, _, h⟩ := State.raiseViews_only s b e vs; rw [h]
@[simp] theorem State.raiseViews_profiles (s : State) (b : Blk) (e : Nat) (vs : List Nat) : (s.raiseViews b e vs).profiles = s.profiles := by
  obtain ⟨_, _, _, h⟩ := State.raiseViews_only s b e vs; rw [h]
@[simp] theorem State.raiseViews_loader (s : State) (b : Blk) (e : Nat) (vs : List Nat) : (s.raiseViews b e vs).loader = s.loader := by
  obtain ⟨_, _, _, h⟩ := State.raiseViews_only s b e vs; rw [h]
@[simp] theorem State.raiseViews_snaps (s : State) (b : Blk) (e : Nat) (vs : List Nat) : (s.raiseViews b e vs).snaps = s.snaps := by
  obtain ⟨_, _, _, h⟩ := State.raiseViews_only s b e vs; rw [h]
@[simp] theorem State.raiseViews_lanes (s : State) (b : Blk) (e : Nat) (vs : List Nat) : (s.raiseViews b e vs).lanes = s.lanes := by
  obtain ⟨_, _, _, h⟩ := State.raiseViews_only s b e vs; rw [h]
@[simp] theorem State.raiseViews_ctxs (s : State) (b : Blk) (e : Nat) (vs : List Nat) : (s.raiseViews b e vs).ctxs = s.ctxs := by
  obtain ⟨_, _, _, h⟩ := State.raiseViews_only s b e vs; rw [h]
@[simp] theorem State.raiseViews_taps (s : State) (b : Blk) (e : Nat) (vs : List Nat) : (s.raiseViews b e vs).taps = s.taps := by
  obtain ⟨_, _, _, h⟩ := State.raiseViews_only s b e vs; rw [h]
@[simp] theorem State.raiseViews_ruleType (s : State) (b : Blk) (e : Nat) (vs : List Nat) : (s.raiseViews b e vs).ruleType = s.ruleType := by
  obtain ⟨_, _, _, h⟩ := State.raiseViews_only s b e vs; rw [h]
@[simp] theorem State.raiseViews_fols (s : State) (b : Blk) (e : Nat) (vs : List Nat) : (s.raiseViews b e vs).fols = s.fols := by
  obtain ⟨_, _, _, h⟩ := State.raiseViews_only s b e vs; rw [h]
@[simp] theorem State.raiseViews_mets (s : State) (b : Blk) (e : Nat) (vs : List Nat) : (s.raiseViews b e vs).mets = s.mets := by
  obtain ⟨_, _, _, h⟩ := State.raiseViews_only s b e vs; rw [h]
@[simp] theorem State.raiseViews_ref (s : State) (b : Blk) (e : Nat) (vs : List Nat) : (s.raiseViews b e vs).ref = s.ref := by
  obtain ⟨_, _, _, h⟩ := State.raiseViews_only s b e vs; rw [h]
@[simp] theorem State.raiseViews_pps (s : State) (b : Blk) (e : Nat) (vs : List Nat) : (s.raiseViews b e vs).pps = s.pps := by
  obtain ⟨_, _, _, h⟩ := State.raiseViews_only s b e vs; rw [h]
@[simp] theorem State.raiseViews_fcs (s : State) (b : Blk) (e : Nat) (vs : List Nat) : (s.raiseViews b e vs).fcs = s.fcs := by
  obtain ⟨_, _, _, h⟩ := State.raiseViews_only s b e vs; rw [h]
@[simp] theorem State.raiseViews_clk (s : State) (b : Blk) (e : Nat) (vs : List Nat) : (s.raiseViews b e vs).clk = s.clk := by
  obtain ⟨_, _, _, h⟩ := State.raiseViews_only s b e vs; rw [h]
@[simp] theorem State.raiseViews_wakeHid (s : State) (b : Blk) (e : Nat) (vs : List Nat) : (s.raiseViews b e vs).wakeHid = s.wakeHid := by
  obtain ⟨_, _, _, h⟩ := State.raiseViews_only s b e vs; rw [h]
@[simp] theorem State.raiseViews_punty (s : State) (b : Blk) (e : Nat) (vs : List Nat) : (s.raiseViews b e vs).punty = s.punty := by
  obtain ⟨_, _, _, h⟩ := State.raiseViews_only s b e vs; rw [h]
@[simp] theorem State.raiseViews_lehr (s : State) (b : Blk) (e : Nat) (vs : List Nat) : (s.raiseViews b e vs).lehr = s.lehr := by
  obtain ⟨_, _, _, h⟩ := State.raiseViews_only s b e vs; rw [h]
@[simp] theorem State.raiseViews_start (s : State) (b : Blk) (e : Nat) (vs : List Nat) : (s.raiseViews b e vs).start = s.start := by
  obtain ⟨_, _, _, h⟩ := State.raiseViews_only s b e vs; rw [h]
@[simp] theorem State.raiseViews_fg (s : State) (b : Blk) (e : Nat) (vs : List Nat) : (s.raiseViews b e vs).fg = s.fg := by
  obtain ⟨_, _, _, h⟩ := State.raiseViews_only s b e vs; rw [h]
@[simp] theorem State.raiseViews_otp (s : State) (b : Blk) (e : Nat) (vs : List Nat) : (s.raiseViews b e vs).otp = s.otp := by
  obtain ⟨_, _, _, h⟩ := State.raiseViews_only s b e vs; rw [h]
@[simp] theorem State.raiseViews_otpSpares (s : State) (b : Blk) (e : Nat) (vs : List Nat) : (s.raiseViews b e vs).otpSpares = s.otpSpares := by
  obtain ⟨_, _, _, h⟩ := State.raiseViews_only s b e vs; rw [h]
@[simp] theorem State.raiseViews_link (s : State) (b : Blk) (e : Nat) (vs : List Nat) : (s.raiseViews b e vs).link = s.link := by
  obtain ⟨_, _, _, h⟩ := State.raiseViews_only s b e vs; rw [h]
@[simp] theorem State.raiseViews_cfgs (s : State) (b : Blk) (e : Nat) (vs : List Nat) : (s.raiseViews b e vs).cfgs = s.cfgs := by
  obtain ⟨_, _, _, h⟩ := State.raiseViews_only s b e vs; rw [h]
@[simp] theorem State.raiseViews_rings (s : State) (b : Blk) (e : Nat) (vs : List Nat) : (s.raiseViews b e vs).rings = s.rings := by
  obtain ⟨_, _, _, h⟩ := State.raiseViews_only s b e vs; rw [h]
@[simp] theorem State.raiseViews_dmaTurn (s : State) (b : Blk) (e : Nat) (vs : List Nat) : (s.raiseViews b e vs).dmaTurn = s.dmaTurn := by
  obtain ⟨_, _, _, h⟩ := State.raiseViews_only s b e vs; rw [h]
@[simp] theorem State.raiseViews_walkTurn (s : State) (b : Blk) (e : Nat) (vs : List Nat) : (s.raiseViews b e vs).walkTurn = s.walkTurn := by
  obtain ⟨_, _, _, h⟩ := State.raiseViews_only s b e vs; rw [h]
@[simp] theorem State.raiseViews_xcache (s : State) (b : Blk) (e : Nat) (vs : List Nat) : (s.raiseViews b e vs).xcache = s.xcache := by
  obtain ⟨_, _, _, h⟩ := State.raiseViews_only s b e vs; rw [h]
@[simp] theorem State.raiseViews_faults (s : State) (b : Blk) (e : Nat) (vs : List Nat) : (s.raiseViews b e vs).faults = s.faults := by
  obtain ⟨_, _, _, h⟩ := State.raiseViews_only s b e vs; rw [h]
@[simp] theorem State.raiseViews_aps (s : State) (b : Blk) (e : Nat) (vs : List Nat) : (s.raiseViews b e vs).aps = s.aps := by
  obtain ⟨_, _, _, h⟩ := State.raiseViews_only s b e vs; rw [h]
@[simp] theorem State.raiseViews_mgmt (s : State) (b : Blk) (e : Nat) (vs : List Nat) : (s.raiseViews b e vs).mgmt = s.mgmt := by
  obtain ⟨_, _, _, h⟩ := State.raiseViews_only s b e vs; rw [h]
@[simp] theorem State.raiseViews_health (s : State) (b : Blk) (e : Nat) (vs : List Nat) : (s.raiseViews b e vs).health = s.health := by
  obtain ⟨_, _, _, h⟩ := State.raiseViews_only s b e vs; rw [h]

@[simp] theorem State.raiseViews_fe (s : State) (b : Blk) (e : Nat) (vs : List Nat) (j : Nat) : (s.raiseViews b e vs).fe j = s.fe j := by
  unfold State.fe; rw [State.raiseViews_fes]
@[simp] theorem State.raiseViews_hw (s : State) (b : Blk) (e : Nat) (vs : List Nat) (j : Nat) : (s.raiseViews b e vs).hw j = s.hw j := by
  unfold State.hw; rw [State.raiseViews_hws]
@[simp] theorem State.raiseViews_hand (s : State) (b : Blk) (e : Nat) (vs : List Nat) (j : Nat) : (s.raiseViews b e vs).hand j = s.hand j := by
  unfold State.hand; rw [State.raiseViews_hands]
@[simp] theorem State.raiseViews_aerial (s : State) (b : Blk) (e : Nat) (vs : List Nat) (j : Nat) : (s.raiseViews b e vs).aerial j = s.aerial j := by
  unfold State.aerial; rw [State.raiseViews_aerials]
@[simp] theorem State.raiseViews_tuner (s : State) (b : Blk) (e : Nat) (vs : List Nat) (j : Nat) : (s.raiseViews b e vs).tuner j = s.tuner j := by
  unfold State.tuner; rw [State.raiseViews_tuners]
@[simp] theorem State.raiseViews_dom (s : State) (b : Blk) (e : Nat) (vs : List Nat) (j : Nat) : (s.raiseViews b e vs).dom j = s.dom j := by
  unfold State.dom; rw [State.raiseViews_doms]
@[simp] theorem State.raiseViews_bank (s : State) (b : Blk) (e : Nat) (vs : List Nat) (j : Nat) : (s.raiseViews b e vs).bank j = s.bank j := by
  unfold State.bank; rw [State.raiseViews_banks]
@[simp] theorem State.raiseViews_cfg (s : State) (b : Blk) (e : Nat) (vs : List Nat) (j : Nat) : (s.raiseViews b e vs).cfg j = s.cfg j := by
  unfold State.cfg; rw [State.raiseViews_cfgs]
@[simp] theorem State.raiseViews_ring (s : State) (b : Blk) (e : Nat) (vs : List Nat) (j : Nat) : (s.raiseViews b e vs).ring j = s.ring j := by
  unfold State.ring; rw [State.raiseViews_rings]
@[simp] theorem State.raiseViews_slot (s : State) (b : Blk) (e : Nat) (vs : List Nat) (j : Nat) : (s.raiseViews b e vs).slot j = s.slot j := by
  unfold State.slot; rw [State.raiseViews_slots]
@[simp] theorem State.raiseViews_grp (s : State) (b : Blk) (e : Nat) (vs : List Nat) (j : Nat) : (s.raiseViews b e vs).grp j = s.grp j := by
  unfold State.grp; rw [State.raiseViews_groups]
@[simp] theorem State.raiseViews_lane (s : State) (b : Blk) (e : Nat) (vs : List Nat) (j : Nat) : (s.raiseViews b e vs).lane j = s.lane j := by
  unfold State.lane; rw [State.raiseViews_lanes]
@[simp] theorem State.raiseViews_tap (s : State) (b : Blk) (e : Nat) (vs : List Nat) (j : Nat) : (s.raiseViews b e vs).tap j = s.tap j := by
  unfold State.tap; rw [State.raiseViews_taps]
@[simp] theorem State.raiseViews_fol (s : State) (b : Blk) (e : Nat) (vs : List Nat) (j : Nat) : (s.raiseViews b e vs).fol j = s.fol j := by
  unfold State.fol; rw [State.raiseViews_fols]
@[simp] theorem State.raiseViews_ap (s : State) (b : Blk) (e : Nat) (vs : List Nat) (j : Nat) : (s.raiseViews b e vs).ap j = s.ap j := by
  unfold State.ap; rw [State.raiseViews_aps]

/-! ### What `discard` leaves as it was -/

@[simp] theorem State.discard_pending (s : State) (a : Accessor) (b : Blk) (n off : Nat) (r : Reason) : (s.discard a b n off r).pending = s.pending := by
  obtain ⟨_, _, _, h⟩ := State.discard_only s a b n off r; rw [h]
@[simp] theorem State.discard_speak (s : State) (a : Accessor) (b : Blk) (n off : Nat) (r : Reason) : (s.discard a b n off r).speak = s.speak := by
  obtain ⟨_, _, _, h⟩ := State.discard_only s a b n off r; rw [h]
@[simp] theorem State.discard_epochBase (s : State) (a : Accessor) (b : Blk) (n off : Nat) (r : Reason) : (s.discard a b n off r).epochBase = s.epochBase := by
  obtain ⟨_, _, _, h⟩ := State.discard_only s a b n off r; rw [h]
@[simp] theorem State.discard_epochs (s : State) (a : Accessor) (b : Blk) (n off : Nat) (r : Reason) : (s.discard a b n off r).epochs = s.epochs := by
  obtain ⟨_, _, _, h⟩ := State.discard_only s a b n off r; rw [h]
@[simp] theorem State.discard_latches (s : State) (a : Accessor) (b : Blk) (n off : Nat) (r : Reason) : (s.discard a b n off r).latches = s.latches := by
  obtain ⟨_, _, _, h⟩ := State.discard_only s a b n off r; rw [h]
@[simp] theorem State.discard_time (s : State) (a : Accessor) (b : Blk) (n off : Nat) (r : Reason) : (s.discard a b n off r).time = s.time := by
  obtain ⟨_, _, _, h⟩ := State.discard_only s a b n off r; rw [h]
@[simp] theorem State.discard_aonTime (s : State) (a : Accessor) (b : Blk) (n off : Nat) (r : Reason) : (s.discard a b n off r).aonTime = s.aonTime := by
  obtain ⟨_, _, _, h⟩ := State.discard_only s a b n off r; rw [h]
@[simp] theorem State.discard_aonPhase (s : State) (a : Accessor) (b : Blk) (n off : Nat) (r : Reason) : (s.discard a b n off r).aonPhase = s.aonPhase := by
  obtain ⟨_, _, _, h⟩ := State.discard_only s a b n off r; rw [h]
@[simp] theorem State.discard_freeCount (s : State) (a : Accessor) (b : Blk) (n off : Nat) (r : Reason) : (s.discard a b n off r).freeCount = s.freeCount := by
  obtain ⟨_, _, _, h⟩ := State.discard_only s a b n off r; rw [h]
@[simp] theorem State.discard_resp (s : State) (a : Accessor) (b : Blk) (n off : Nat) (r : Reason) : (s.discard a b n off r).resp = s.resp := by
  obtain ⟨_, _, _, h⟩ := State.discard_only s a b n off r; rw [h]
@[simp] theorem State.discard_mode (s : State) (a : Accessor) (b : Blk) (n off : Nat) (r : Reason) : (s.discard a b n off r).mode = s.mode := by
  obtain ⟨_, _, _, h⟩ := State.discard_only s a b n off r; rw [h]
@[simp] theorem State.discard_doms (s : State) (a : Accessor) (b : Blk) (n off : Nat) (r : Reason) : (s.discard a b n off r).doms = s.doms := by
  obtain ⟨_, _, _, h⟩ := State.discard_only s a b n off r; rw [h]
@[simp] theorem State.discard_pdQueue (s : State) (a : Accessor) (b : Blk) (n off : Nat) (r : Reason) : (s.discard a b n off r).pdQueue = s.pdQueue := by
  obtain ⟨_, _, _, h⟩ := State.discard_only s a b n off r; rw [h]
@[simp] theorem State.discard_banks (s : State) (a : Accessor) (b : Blk) (n off : Nat) (r : Reason) : (s.discard a b n off r).banks = s.banks := by
  obtain ⟨_, _, _, h⟩ := State.discard_only s a b n off r; rw [h]
@[simp] theorem State.discard_pots (s : State) (a : Accessor) (b : Blk) (n off : Nat) (r : Reason) : (s.discard a b n off r).pots = s.pots := by
  obtain ⟨_, _, _, h⟩ := State.discard_only s a b n off r; rw [h]
@[simp] theorem State.discard_crucible (s : State) (a : Accessor) (b : Blk) (n off : Nat) (r : Reason) : (s.discard a b n off r).crucible = s.crucible := by
  obtain ⟨_, _, _, h⟩ := State.discard_only s a b n off r; rw [h]
@[simp] theorem State.discard_fes (s : State) (a : Accessor) (b : Blk) (n off : Nat) (r : Reason) : (s.discard a b n off r).fes = s.fes := by
  obtain ⟨_, _, _, h⟩ := State.discard_only s a b n off r; rw [h]
@[simp] theorem State.discard_hws (s : State) (a : Accessor) (b : Blk) (n off : Nat) (r : Reason) : (s.discard a b n off r).hws = s.hws := by
  obtain ⟨_, _, _, h⟩ := State.discard_only s a b n off r; rw [h]
@[simp] theorem State.discard_hands (s : State) (a : Accessor) (b : Blk) (n off : Nat) (r : Reason) : (s.discard a b n off r).hands = s.hands := by
  obtain ⟨_, _, _, h⟩ := State.discard_only s a b n off r; rw [h]
@[simp] theorem State.discard_aerials (s : State) (a : Accessor) (b : Blk) (n off : Nat) (r : Reason) : (s.discard a b n off r).aerials = s.aerials := by
  obtain ⟨_, _, _, h⟩ := State.discard_only s a b n off r; rw [h]
@[simp] theorem State.discard_tuners (s : State) (a : Accessor) (b : Blk) (n off : Nat) (r : Reason) : (s.discard a b n off r).tuners = s.tuners := by
  obtain ⟨_, _, _, h⟩ := State.discard_only s a b n off r; rw [h]
@[simp] theorem State.discard_gainLog (s : State) (a : Accessor) (b : Blk) (n off : Nat) (r : Reason) : (s.discard a b n off r).gainLog = s.gainLog := by
  obtain ⟨_, _, _, h⟩ := State.discard_only s a b n off r; rw [h]
@[simp] theorem State.discard_slots (s : State) (a : Accessor) (b : Blk) (n off : Nat) (r : Reason) : (s.discard a b n off r).slots = s.slots := by
  obtain ⟨_, _, _, h⟩ := State.discard_only s a b n off r; rw [h]
@[simp] theorem State.discard_groups (s : State) (a : Accessor) (b : Blk) (n off : Nat) (r : Reason) : (s.discard a b n off r).groups = s.groups := by
  obtain ⟨_, _, _, h⟩ := State.discard_only s a b n off r; rw [h]
@[simp] theorem State.discard_profiles (s : State) (a : Accessor) (b : Blk) (n off : Nat) (r : Reason) : (s.discard a b n off r).profiles = s.profiles := by
  obtain ⟨_, _, _, h⟩ := State.discard_only s a b n off r; rw [h]
@[simp] theorem State.discard_loader (s : State) (a : Accessor) (b : Blk) (n off : Nat) (r : Reason) : (s.discard a b n off r).loader = s.loader := by
  obtain ⟨_, _, _, h⟩ := State.discard_only s a b n off r; rw [h]
@[simp] theorem State.discard_snaps (s : State) (a : Accessor) (b : Blk) (n off : Nat) (r : Reason) : (s.discard a b n off r).snaps = s.snaps := by
  obtain ⟨_, _, _, h⟩ := State.discard_only s a b n off r; rw [h]
@[simp] theorem State.discard_lanes (s : State) (a : Accessor) (b : Blk) (n off : Nat) (r : Reason) : (s.discard a b n off r).lanes = s.lanes := by
  obtain ⟨_, _, _, h⟩ := State.discard_only s a b n off r; rw [h]
@[simp] theorem State.discard_ctxs (s : State) (a : Accessor) (b : Blk) (n off : Nat) (r : Reason) : (s.discard a b n off r).ctxs = s.ctxs := by
  obtain ⟨_, _, _, h⟩ := State.discard_only s a b n off r; rw [h]
@[simp] theorem State.discard_taps (s : State) (a : Accessor) (b : Blk) (n off : Nat) (r : Reason) : (s.discard a b n off r).taps = s.taps := by
  obtain ⟨_, _, _, h⟩ := State.discard_only s a b n off r; rw [h]
@[simp] theorem State.discard_ruleType (s : State) (a : Accessor) (b : Blk) (n off : Nat) (r : Reason) : (s.discard a b n off r).ruleType = s.ruleType := by
  obtain ⟨_, _, _, h⟩ := State.discard_only s a b n off r; rw [h]
@[simp] theorem State.discard_fols (s : State) (a : Accessor) (b : Blk) (n off : Nat) (r : Reason) : (s.discard a b n off r).fols = s.fols := by
  obtain ⟨_, _, _, h⟩ := State.discard_only s a b n off r; rw [h]
@[simp] theorem State.discard_mets (s : State) (a : Accessor) (b : Blk) (n off : Nat) (r : Reason) : (s.discard a b n off r).mets = s.mets := by
  obtain ⟨_, _, _, h⟩ := State.discard_only s a b n off r; rw [h]
@[simp] theorem State.discard_ref (s : State) (a : Accessor) (b : Blk) (n off : Nat) (r : Reason) : (s.discard a b n off r).ref = s.ref := by
  obtain ⟨_, _, _, h⟩ := State.discard_only s a b n off r; rw [h]
@[simp] theorem State.discard_pps (s : State) (a : Accessor) (b : Blk) (n off : Nat) (r : Reason) : (s.discard a b n off r).pps = s.pps := by
  obtain ⟨_, _, _, h⟩ := State.discard_only s a b n off r; rw [h]
@[simp] theorem State.discard_fcs (s : State) (a : Accessor) (b : Blk) (n off : Nat) (r : Reason) : (s.discard a b n off r).fcs = s.fcs := by
  obtain ⟨_, _, _, h⟩ := State.discard_only s a b n off r; rw [h]
@[simp] theorem State.discard_clk (s : State) (a : Accessor) (b : Blk) (n off : Nat) (r : Reason) : (s.discard a b n off r).clk = s.clk := by
  obtain ⟨_, _, _, h⟩ := State.discard_only s a b n off r; rw [h]
@[simp] theorem State.discard_wakeHid (s : State) (a : Accessor) (b : Blk) (n off : Nat) (r : Reason) : (s.discard a b n off r).wakeHid = s.wakeHid := by
  obtain ⟨_, _, _, h⟩ := State.discard_only s a b n off r; rw [h]
@[simp] theorem State.discard_punty (s : State) (a : Accessor) (b : Blk) (n off : Nat) (r : Reason) : (s.discard a b n off r).punty = s.punty := by
  obtain ⟨_, _, _, h⟩ := State.discard_only s a b n off r; rw [h]
@[simp] theorem State.discard_lehr (s : State) (a : Accessor) (b : Blk) (n off : Nat) (r : Reason) : (s.discard a b n off r).lehr = s.lehr := by
  obtain ⟨_, _, _, h⟩ := State.discard_only s a b n off r; rw [h]
@[simp] theorem State.discard_start (s : State) (a : Accessor) (b : Blk) (n off : Nat) (r : Reason) : (s.discard a b n off r).start = s.start := by
  obtain ⟨_, _, _, h⟩ := State.discard_only s a b n off r; rw [h]
@[simp] theorem State.discard_fg (s : State) (a : Accessor) (b : Blk) (n off : Nat) (r : Reason) : (s.discard a b n off r).fg = s.fg := by
  obtain ⟨_, _, _, h⟩ := State.discard_only s a b n off r; rw [h]
@[simp] theorem State.discard_otp (s : State) (a : Accessor) (b : Blk) (n off : Nat) (r : Reason) : (s.discard a b n off r).otp = s.otp := by
  obtain ⟨_, _, _, h⟩ := State.discard_only s a b n off r; rw [h]
@[simp] theorem State.discard_otpSpares (s : State) (a : Accessor) (b : Blk) (n off : Nat) (r : Reason) : (s.discard a b n off r).otpSpares = s.otpSpares := by
  obtain ⟨_, _, _, h⟩ := State.discard_only s a b n off r; rw [h]
@[simp] theorem State.discard_link (s : State) (a : Accessor) (b : Blk) (n off : Nat) (r : Reason) : (s.discard a b n off r).link = s.link := by
  obtain ⟨_, _, _, h⟩ := State.discard_only s a b n off r; rw [h]
@[simp] theorem State.discard_cfgs (s : State) (a : Accessor) (b : Blk) (n off : Nat) (r : Reason) : (s.discard a b n off r).cfgs = s.cfgs := by
  obtain ⟨_, _, _, h⟩ := State.discard_only s a b n off r; rw [h]
@[simp] theorem State.discard_rings (s : State) (a : Accessor) (b : Blk) (n off : Nat) (r : Reason) : (s.discard a b n off r).rings = s.rings := by
  obtain ⟨_, _, _, h⟩ := State.discard_only s a b n off r; rw [h]
@[simp] theorem State.discard_dmaTurn (s : State) (a : Accessor) (b : Blk) (n off : Nat) (r : Reason) : (s.discard a b n off r).dmaTurn = s.dmaTurn := by
  obtain ⟨_, _, _, h⟩ := State.discard_only s a b n off r; rw [h]
@[simp] theorem State.discard_walkTurn (s : State) (a : Accessor) (b : Blk) (n off : Nat) (r : Reason) : (s.discard a b n off r).walkTurn = s.walkTurn := by
  obtain ⟨_, _, _, h⟩ := State.discard_only s a b n off r; rw [h]
@[simp] theorem State.discard_xcache (s : State) (a : Accessor) (b : Blk) (n off : Nat) (r : Reason) : (s.discard a b n off r).xcache = s.xcache := by
  obtain ⟨_, _, _, h⟩ := State.discard_only s a b n off r; rw [h]
@[simp] theorem State.discard_faults (s : State) (a : Accessor) (b : Blk) (n off : Nat) (r : Reason) : (s.discard a b n off r).faults = s.faults := by
  obtain ⟨_, _, _, h⟩ := State.discard_only s a b n off r; rw [h]
@[simp] theorem State.discard_aps (s : State) (a : Accessor) (b : Blk) (n off : Nat) (r : Reason) : (s.discard a b n off r).aps = s.aps := by
  obtain ⟨_, _, _, h⟩ := State.discard_only s a b n off r; rw [h]
@[simp] theorem State.discard_mgmt (s : State) (a : Accessor) (b : Blk) (n off : Nat) (r : Reason) : (s.discard a b n off r).mgmt = s.mgmt := by
  obtain ⟨_, _, _, h⟩ := State.discard_only s a b n off r; rw [h]
@[simp] theorem State.discard_health (s : State) (a : Accessor) (b : Blk) (n off : Nat) (r : Reason) : (s.discard a b n off r).health = s.health := by
  obtain ⟨_, _, _, h⟩ := State.discard_only s a b n off r; rw [h]

@[simp] theorem State.discard_fe (s : State) (a : Accessor) (b : Blk) (n off : Nat) (r : Reason) (j : Nat) : (s.discard a b n off r).fe j = s.fe j := by
  unfold State.fe; rw [State.discard_fes]
@[simp] theorem State.discard_hw (s : State) (a : Accessor) (b : Blk) (n off : Nat) (r : Reason) (j : Nat) : (s.discard a b n off r).hw j = s.hw j := by
  unfold State.hw; rw [State.discard_hws]
@[simp] theorem State.discard_hand (s : State) (a : Accessor) (b : Blk) (n off : Nat) (r : Reason) (j : Nat) : (s.discard a b n off r).hand j = s.hand j := by
  unfold State.hand; rw [State.discard_hands]
@[simp] theorem State.discard_aerial (s : State) (a : Accessor) (b : Blk) (n off : Nat) (r : Reason) (j : Nat) : (s.discard a b n off r).aerial j = s.aerial j := by
  unfold State.aerial; rw [State.discard_aerials]
@[simp] theorem State.discard_tuner (s : State) (a : Accessor) (b : Blk) (n off : Nat) (r : Reason) (j : Nat) : (s.discard a b n off r).tuner j = s.tuner j := by
  unfold State.tuner; rw [State.discard_tuners]
@[simp] theorem State.discard_dom (s : State) (a : Accessor) (b : Blk) (n off : Nat) (r : Reason) (j : Nat) : (s.discard a b n off r).dom j = s.dom j := by
  unfold State.dom; rw [State.discard_doms]
@[simp] theorem State.discard_bank (s : State) (a : Accessor) (b : Blk) (n off : Nat) (r : Reason) (j : Nat) : (s.discard a b n off r).bank j = s.bank j := by
  unfold State.bank; rw [State.discard_banks]
@[simp] theorem State.discard_cfg (s : State) (a : Accessor) (b : Blk) (n off : Nat) (r : Reason) (j : Nat) : (s.discard a b n off r).cfg j = s.cfg j := by
  unfold State.cfg; rw [State.discard_cfgs]
@[simp] theorem State.discard_ring (s : State) (a : Accessor) (b : Blk) (n off : Nat) (r : Reason) (j : Nat) : (s.discard a b n off r).ring j = s.ring j := by
  unfold State.ring; rw [State.discard_rings]
@[simp] theorem State.discard_slot (s : State) (a : Accessor) (b : Blk) (n off : Nat) (r : Reason) (j : Nat) : (s.discard a b n off r).slot j = s.slot j := by
  unfold State.slot; rw [State.discard_slots]
@[simp] theorem State.discard_grp (s : State) (a : Accessor) (b : Blk) (n off : Nat) (r : Reason) (j : Nat) : (s.discard a b n off r).grp j = s.grp j := by
  unfold State.grp; rw [State.discard_groups]
@[simp] theorem State.discard_lane (s : State) (a : Accessor) (b : Blk) (n off : Nat) (r : Reason) (j : Nat) : (s.discard a b n off r).lane j = s.lane j := by
  unfold State.lane; rw [State.discard_lanes]
@[simp] theorem State.discard_tap (s : State) (a : Accessor) (b : Blk) (n off : Nat) (r : Reason) (j : Nat) : (s.discard a b n off r).tap j = s.tap j := by
  unfold State.tap; rw [State.discard_taps]
@[simp] theorem State.discard_fol (s : State) (a : Accessor) (b : Blk) (n off : Nat) (r : Reason) (j : Nat) : (s.discard a b n off r).fol j = s.fol j := by
  unfold State.fol; rw [State.discard_fols]
@[simp] theorem State.discard_ap (s : State) (a : Accessor) (b : Blk) (n off : Nat) (r : Reason) (j : Nat) : (s.discard a b n off r).ap j = s.ap j := by
  unfold State.ap; rw [State.discard_aps]

/-! ### The registers that raising an event leaves as they were -/

/-- The field is none that an event of block `b` may change. -/
def Fld.quiet (g : Fld) (b : Blk) : Bool :=
  decide (g.blk.code ≠ 6 ∧ g.off < 4096 ∧ g.lo < 32 ∧ g.low ≠ F.PBA_PEND.low ∧ g.low ≠ (H.EVT b).low ∧
    g.low ≠ (H.EVT_AGAIN b).low)

theorem State.message_getE (s : State) (f v : Nat) {g : Fld} (m i : Nat) (h : g.low ≠ F.PBA_PEND.low) :
    (s.message f v).getE g m i = s.getE g m i := by
  unfold State.message
  extract_lets c
  split
  · rfl
  · split
    · rfl
    · exact State.getE_putE_low _ _ _ _ _ _ _ _ h

theorem State.pageMessage_getE (s : State) (f p : Nat) {g : Fld} (m i : Nat) (h : g.low ≠ F.PBA_PEND.low) :
    (s.pageMessage f p).getE g m i = s.getE g m i := by
  unfold State.pageMessage
  split
  · exact State.message_getE _ _ _ _ _ h
  · rfl

theorem State.setEvt_getE (s : State) (b : Blk) (n e : Nat) {g : Fld} (m i : Nat) (h : g.low ≠ (H.EVT b).low)
    (h' : g.low ≠ (H.EVT_AGAIN b).low) : (s.setEvt b n e).getE g m i = s.getE g m i := by
  unfold State.setEvt
  split
  · exact State.getE_put_low _ _ _ _ _ _ _ h'
  · exact State.getE_put_low _ _ _ _ _ _ _ h

theorem mgmt_key_ne {f g : Fld} (hf : f.blk = .mgmt) (hg : g.blk.code ≠ 6) (ho : f.off < 4096) (hg' : g.off < 4096)
    (hl : f.lo < 32) (hl' : g.lo < 32) {m i : Nat} (hm : m < 1024) (hi : i < 128) : g.key m i ≠ f.key 0 0 :=
  Fld.key_ne_of_blk (by rw [hf]; exact hg) hm (by omega) hi (by omega) hg' ho hl' hl

theorem State.attnKick_getE (s : State) {g : Fld} {m i : Nat} (hb : g.blk.code ≠ 6) (ho : g.off < 4096) (hl : g.lo < 32)
    (hm : m < 1024) (hi : i < 128) : s.attnKick.getE g m i = s.getE g m i := by
  have h := mgmt_key_ne (f := F.MGMT_STAT_ATTN_ACTIVE) rfl hb (by decide) ho (by decide) hl hm hi
  unfold State.attnKick
  split
  · split
    · rfl
    · exact State.getE_putE_ne _ _ _ _ _ _ _ _ h
  · exact State.getE_putE_ne _ _ _ _ _ _ _ _ h

theorem State.attnMark_getE (s : State) (k : Nat) {g : Fld} {m i : Nat} (hb : g.blk.code ≠ 6) (ho : g.off < 4096)
    (hl : g.lo < 32) (hm : m < 1024) (hi : i < 128) : (s.attnMark k).getE g m i = s.getE g m i := by
  have h := mgmt_key_ne (f := F.MGMT_ATTN_PEND_PEND) rfl hb (by decide) ho (by decide) hl hm hi
  unfold State.attnMark
  split
  · extract_lets p
    split
    · rfl
    · rw [State.attnKick_getE _ hb ho hl hm hi]
      exact State.getE_putE_ne _ _ _ _ _ _ _ _ h
  · rfl

/-- Raising an event leaves every register but those that `Fld.quiet` shuts out. -/
theorem State.raise_getE (s : State) (b : Blk) (n e : Nat) {g : Fld} {m i : Nat} (hq : g.quiet b = true) (hm : m < 1024)
    (hi : i < 128) : (s.raise b n e).getE g m i = s.getE g m i := by
  obtain ⟨hb, ho, hl, hp, h1, h2⟩ := of_decide_eq_true hq
  have h : (s.withRise b n (s.owner b n) (fun u => u.setEvt b n e)).getE g m i = s.getE g m i := by
    unfold State.withRise
    extract_lets t
    split
    · rw [State.pageMessage_getE _ _ _ _ _ hp]
      exact State.setEvt_getE _ _ _ _ _ _ h1 h2
    · exact State.setEvt_getE _ _ _ _ _ _ h1 h2
  unfold State.raise
  extract_lets t
  split
  · rw [State.attnMark_getE _ _ hb ho hl hm hi]
    exact h
  · exact h

theorem State.raise_get (s : State) (b : Blk) (n e : Nat) {g : Fld} {m : Nat} (hq : g.quiet b = true) (hm : m < 1024) :
    (s.raise b n e).get g m = s.get g m := State.raise_getE s b n e hq hm (by omega)

theorem State.raise_on (s : State) (b : Blk) (n e : Nat) {g : Fld} {m : Nat} (hq : g.quiet b = true) (hm : m < 1024) :
    (s.raise b n e).on g m = s.on g m := by
  unfold State.on
  rw [State.raise_get s b n e hq hm]

end Sys2Proof.Machine
end

