-- ==== Sys2Proof/Laws/Memory.lean ====
section
/-! SUPPORT. The laws of the crucible's memory: what a read sees after each operation, and that every operation keeps the canonical
form. -/

namespace Sys2Proof.Machine

theorem Memory.read_eq (m : List Host.Cell) (a : Nat) : (Memory.read m a).getD 0 = Tbl.get m 0 a := by
  induction m with
  | nil => rfl
  | cons c r ih =>
    obtain ⟨k, v⟩ := c
    simp only [Memory.read, Tbl.get_cons]
    split
    · rfl
    · exact ih

theorem Memory.read_none (m : List Host.Cell) (a : Nat) : Memory.read m a = none ↔ ∀ c ∈ m, c.1 ≠ a := by
  induction m with
  | nil => simp [Memory.read]
  | cons c r ih =>
    simp only [Memory.read, List.forall_mem_cons]
    split
    · next h => simp [h]
    · next h => simp [h, ih]

/-- A read through a filter that keeps the address. -/
theorem Memory.read_filter (m : List Host.Cell) (a : Nat) (p : Host.Cell → Bool) (h : ∀ c ∈ m, c.1 = a → p c = true) :
    Memory.read (m.filter p) a = Memory.read m a := by
  induction m with
  | nil => rfl
  | cons c r ih =>
    have ih := ih fun d hd => h d (by simp [hd])
    by_cases hc : c.1 = a
    · have := h c (by simp) hc
      simp [this, Memory.read, hc]
    · by_cases hp : p c = true
      · simp [hp, Memory.read, hc, ih]
      · simp [hp, Memory.read, hc, ih]

@[simp] theorem Memory.read_clear_same (m : List Host.Cell) (a : Nat) : Memory.read (Memory.clear m a) a = none := by
  simp [Memory.read_none, Memory.clear]

theorem Memory.read_clear_ne (m : List Host.Cell) {a j : Nat} (h : j ≠ a) :
    Memory.read (Memory.clear m a) j = Memory.read m j := by
  apply Memory.read_filter
  intro c _ hc
  simp [hc, h]

theorem Memory.read_lose (m : List Host.Cell) (k a : Nat) :
    Memory.read (Memory.lose m k) a = if a / 8388608 = k then none else Memory.read m a := by
  split
  · next h =>
    rw [Memory.read_none]
    intro c hc e
    have := (List.mem_filter.mp hc).2
    simp [e, h] at this
  · next h =>
    apply Memory.read_filter
    intro c _ hc
    simp [hc, h]

theorem Memory.read_insert_same (m : List Host.Cell) (a : Nat) (b : Byte) (h : ∀ c ∈ m, c.1 ≠ a) :
    Memory.read (Tbl.insert m a b) a = some b := by
  induction m with
  | nil => simp [Tbl.insert, Memory.read]
  | cons c r ih =>
    obtain ⟨k, v⟩ := c
    have hk : k ≠ a := h (k, v) (by simp)
    unfold Tbl.insert
    split
    · simp [Memory.read]
    · simp [Memory.read, hk, ih fun d hd => h d (by simp [hd])]

theorem Memory.read_insert_ne (m : List Host.Cell) {a j : Nat} (b : Byte) (h : j ≠ a) :
    Memory.read (Tbl.insert m a b) j = Memory.read m j := by
  induction m with
  | nil => simp [Tbl.insert, Memory.read, Ne.symm h]
  | cons c r ih =>
    obtain ⟨k, v⟩ := c
    unfold Tbl.insert
    split
    · simp [Memory.read, Ne.symm h]
    · simp [Memory.read, ih]

/-- A read after a write to the same address gives the byte written. -/
theorem Memory.read_write_same (m : List Host.Cell) {a : Nat} (b : Byte) (h : a < Memory.size) :
    Memory.read (Memory.write m a b) a = some b := by
  simp only [Memory.write, h, if_true]
  exact Memory.read_insert_same _ _ _ (Tbl.erase_keys m a)

/-- A write leaves every other address as it was. -/
theorem Memory.read_write_ne (m : List Host.Cell) {a j : Nat} (b : Byte) (h : j ≠ a) :
    Memory.read (Memory.write m a b) j = Memory.read m j := by
  unfold Memory.write
  split
  · rw [Memory.read_insert_ne _ _ h]
    exact Memory.read_clear_ne m h
  · rfl

/-! ### The canonical form -/

theorem Memory.wf_iff (zero : Nat → Bool) (m : List Host.Cell) : Memory.wf zero m = true ↔
    Tbl.Sorted m ∧ ∀ c ∈ m, c.1 < Memory.size ∧ ¬ (zero (c.1 / 8388608) = true ∧ c.2 = 0) := by
  simp only [Memory.wf, Tbl.Sorted, Bool.and_eq_true, decide_eq_true_eq, List.all_eq_true, Bool.not_eq_true', Bool.and_eq_false_iff,
    beq_eq_false_iff_ne, not_and, ne_eq]
  refine and_congr_right fun _ => forall_congr' fun c => forall_congr' fun _ => and_congr_right fun _ => ?_
  cases zero (c.1 / 8388608) <;> simp

theorem Memory.wf_filter {zero : Nat → Bool} {m : List Host.Cell} (h : Memory.wf zero m = true) (p : Host.Cell → Bool) :
    Memory.wf zero (m.filter p) = true := by
  rw [Memory.wf_iff] at *
  exact ⟨h.1.filter _, fun c hc => h.2 c (List.mem_filter.mp hc).1⟩

theorem Memory.wf_clear {zero : Nat → Bool} {m : List Host.Cell} (h : Memory.wf zero m = true) (a : Nat) :
    Memory.wf zero (Memory.clear m a) = true := Memory.wf_filter h _

/-- A write keeps the canonical form, but for a zero in a cleared bank. -/
theorem Memory.wf_write {zero : Nat → Bool} {m : List Host.Cell} (h : Memory.wf zero m = true) (a : Nat) (b : Byte)
    (hb : ¬ (zero (a / 8388608) = true ∧ b = 0)) : Memory.wf zero (Memory.write m a b) = true := by
  unfold Memory.write
  split
  · next ha =>
    rw [Memory.wf_iff] at *
    refine ⟨Tbl.sorted_insert (Tbl.sorted_erase h.1 a) b (Tbl.erase_keys m a), ?_⟩
    intro c hc
    rcases Tbl.insert_keys c hc with e | hc'
    · by_cases hm : c ∈ Tbl.erase m a
      · exact h.2 c (List.mem_filter.mp hm).1
      · have hread := Memory.read_insert_same (Tbl.erase m a) a b (Tbl.erase_keys m a)
        have hval : c.2 = b := by
          have hs := Tbl.sorted_insert (Tbl.sorted_erase h.1 a) b (Tbl.erase_keys m a)
          clear h hm
          generalize Tbl.insert (Tbl.erase m a) a b = l at hread hs hc
          induction l with
          | nil => cases hc
          | cons d r ih =>
            simp only [Memory.read] at hread
            rcases List.mem_cons.mp hc with rfl | hc
            · simpa [e] using hread
            · have hlt := (List.pairwise_cons.mp hs).1 c hc
              have hd : d.1 ≠ a := by omega
              simp only [hd, if_false] at hread
              exact ih hread (List.pairwise_cons.mp hs).2 hc
        rw [e, hval]
        exact ⟨ha, hb⟩
    · exact h.2 c (List.mem_filter.mp hc').1
  · exact h

/-- Forgetting a bank keeps the canonical form, whatever its addresses then read as. -/
theorem Memory.wf_lose {zero zero' : Nat → Bool} {m : List Host.Cell} (h : Memory.wf zero m = true) (k : Nat)
    (hz : ∀ j, j ≠ k → zero' j = zero j) : Memory.wf zero' (Memory.lose m k) = true := by
  rw [Memory.wf_iff] at *
  refine ⟨h.1.filter _, ?_⟩
  intro c hc
  have hk := (List.mem_filter.mp hc).2
  have hk : c.1 / 8388608 ≠ k := by simpa using hk
  rw [hz _ hk]
  exact h.2 c (List.mem_filter.mp hc).1

/-- Every write of a byte of the crucible keeps the canonical form. -/
theorem State.memoryOk_cbWrite {s : State} (h : s.memoryOk) (a : Nat) (b : Byte) : (s.cbWrite a b).memoryOk := by
  unfold State.memoryOk State.cbWrite at *
  split
  · exact Memory.wf_clear h a
  · next hb =>
    refine Memory.wf_write h a b ?_
    rintro ⟨h1, h2⟩
    apply hb
    have h1 : (s.bank (bankOf a)).cleared = true := h1
    simp [h1, h2]

/-- So does clearing a bank to zero. -/
theorem State.memoryOk_cbClear {s : State} (h : s.memoryOk) (k : Nat) : (s.cbClear k).memoryOk := by
  unfold State.memoryOk at *
  refine Memory.wf_lose (zero := fun j => (s.bank j).cleared) h k ?_
  intro j hj
  simp [State.cbClear, State.bank, State.setBank, Tbl.get_set_ne _ _ _ _ hj]

theorem State.reset_memoryOk : State.reset.memoryOk := rfl

/-- A defined byte of the crucible reads as written, and a write leaves every other byte as it was. -/
theorem State.cbRead_cbWrite (s : State) (a j : Nat) (b : Byte) (h : a < Memory.size) :
    (s.cbWrite a b).cbRead j = if j = a then some b else s.cbRead j := by
  have key : ∀ m, State.cbRead { s with crucible := m } j = match Memory.read m j with
      | some b => some b
      | none => if (s.bank (bankOf j)).cleared && decide (j < Memory.size) then some 0 else none := fun _ => rfl
  rw [State.cbWrite, key]
  by_cases hj : j = a
  · subst hj
    rw [if_pos rfl]
    by_cases hb : ((s.bank (bankOf j)).cleared && b == 0) = true
    · rw [if_pos hb, Memory.read_clear_same]
      have hb : (s.bank (bankOf j)).cleared = true ∧ b = 0 := by simpa using hb
      simp only [hb.1, h, hb.2, decide_true, Bool.and_self, if_true]
    · rw [if_neg hb, Memory.read_write_same _ _ h]
  · have hm : Memory.read (if (s.bank (bankOf a)).cleared && b == 0 then Memory.clear s.crucible a
        else Memory.write s.crucible a b) j = Memory.read s.crucible j := by
      split_ifs
      · exact Memory.read_clear_ne _ hj
      · exact Memory.read_write_ne _ _ hj
    rw [hm, if_neg hj]
    rfl

end Sys2Proof.Machine
end

