-- ==== Sys2Proof/Laws/Writes.lean ====
section
/-! SUPPORT. What a write of a register comes to: it is lost, or turned away by a condition of R41, or the register decides. -/

namespace Sys2Proof.Machine

@[simp] theorem State.settle_ok (s t : State) (a : Accessor) (b : Blk) (n off : Nat) : s.settle a b n off (.ok t) = t := rfl

@[simp] theorem State.settle_error (s : State) (a : Accessor) (b : Blk) (n off : Nat) (e : Reason) :
    s.settle a b n off (.error e) = s.discard a b n off e := rfl

@[simp] theorem onOk_ok (s : State) (g : State → Except Reason State) : onOk (.ok s) g = g s := rfl

@[simp] theorem onOk_error (e : Reason) (g : State → Except Reason State) : onOk (.error e) g = .error e := rfl

/-- A write that reaches its register and acts there is the register's to settle. -/
theorem State.regWrite_acts {s : State} {a : Accessor} {b : Blk} {n off : Nat} (h : s.Acts a b n off)
    (g : State → Except Reason State) : s.regWrite a b n off g = s.settle a b n off (g s) := by
  obtain ⟨h1, h2, h3⟩ := h
  simp [State.regWrite, h1, h2, h3]

theorem State.hdrWrite_acts {s : State} {a : Accessor} {b : Blk} {n off : Nat} {r c : Bool} (h : s.HeadActs a b n off r c)
    (g : State → Except Reason State) : s.hdrWrite a b n off r c g = s.settle a b n off (g s) := by
  obtain ⟨h1, h2, h3⟩ := h
  simp [State.hdrWrite, h1, h2, h3]

theorem State.cmdWrite_acts {s : State} {a : Accessor} {b : Blk} {n off : Nat} {w : Word} (h : s.ActsNow a b n off w)
    (g : State → Except Reason State) : s.cmdWrite a b n off w g = s.settle a b n off (g s) := by
  unfold State.cmdWrite
  rw [State.regWrite_acts h.1]
  simp only [withEpoch, h.2, if_true]

/-- A command write with another epoch than the resource's is refused with reason STALE (R56). -/
theorem State.cmdWrite_stale {s : State} {a : Accessor} {b : Blk} {n off : Nat} {w : Word} (h : s.Acts a b n off)
    (he : bits w.toNat 31 24 ≠ s.epochOf b n) (g : State → Except Reason State) :
    s.cmdWrite a b n off w g = s.discard a b n off .stale := by
  unfold State.cmdWrite
  rw [State.regWrite_acts h]
  simp only [withEpoch, he, if_false, State.settle_error]

/-- A write of a register is lost, or turned away with a reason, or what the register makes of it. -/
theorem State.regWrite_cases (s : State) (a : Accessor) (b : Blk) (n off : Nat) (g : State → Except Reason State) :
    s.regWrite a b n off g = s.unreached a ∨ s.regWrite a b n off g = s ∨
    (∃ r, s.regWrite a b n off g = s.discard a b n off r) ∨ (∃ t, g s = .ok t ∧ s.regWrite a b n off g = t) := by
  unfold State.regWrite
  split
  · exact .inl rfl
  · split
    · exact .inr (.inl rfl)
    · split
      · next r _ => exact .inr (.inr (.inl ⟨r, rfl⟩))
      · cases h : g s with
        | ok t => exact .inr (.inr (.inr ⟨t, rfl, rfl⟩))
        | error e => exact .inr (.inr (.inl ⟨e, rfl⟩))

theorem State.hdrWrite_cases (s : State) (a : Accessor) (b : Blk) (n off : Nat) (r c : Bool)
    (g : State → Except Reason State) :
    s.hdrWrite a b n off r c g = s.unreached a ∨ s.hdrWrite a b n off r c g = s ∨
    (∃ e, s.hdrWrite a b n off r c g = s.discard a b n off e) ∨ (∃ t, g s = .ok t ∧ s.hdrWrite a b n off r c g = t) := by
  unfold State.hdrWrite
  split
  · exact .inl rfl
  · split
    · exact .inr (.inl rfl)
    · split
      · next e _ => exact .inr (.inr (.inl ⟨e, rfl⟩))
      · cases h : g s with
        | ok t => exact .inr (.inr (.inr ⟨t, rfl, rfl⟩))
        | error e => exact .inr (.inr (.inl ⟨e, rfl⟩))

end Sys2Proof.Machine
end

