-- ==== Sys2Proof/Laws/Keeps.lean ====
section
/-! SUPPORT. What every operation keeps, the few that write the crucible, the OTP or the dialects among them: the queue, device
time, the invariant, and every bit of OTP that is 1. -/

namespace Sys2Proof.Machine

/-- What an operation keeps. -/
structure State.Keeps (s t : State) : Prop where
  queue : t.pending = s.pending
  clock : t.time = s.time
  good : s.Inv → t.Inv
  once : ∀ w b, bit (s.otpWord w) b = true → bit (t.otpWord w) b = true

theorem State.Keeps.refl (s : State) : s.Keeps s := ⟨rfl, rfl, id, fun _ _ h => h⟩

theorem State.Keeps.trans {s t u : State} (h : s.Keeps t) (k : t.Keeps u) : s.Keeps u :=
  ⟨k.queue.trans h.queue, k.clock.trans h.clock, fun x => k.good (h.good x), fun w b x => k.once w b (h.once w b x)⟩

theorem State.otpWord_congr {s t : State} (h : t.otp = s.otp) (w : Nat) : t.otpWord w = s.otpWord w := by
  simp only [State.otpWord, h]

theorem State.Keeps.of_core {s t : State} (h : t.core = s.core) : s.Keeps t := by
  simp only [State.core, Prod.mk.injEq] at h
  obtain ⟨h1, h2, h3, h4, h5, h6, h7⟩ := h
  refine ⟨h1, h7, ?_, fun w b x => by rw [State.otpWord_congr h4]; exact x⟩
  intro hi
  simp only [State.Inv, State.memoryOk, State.otpOk, State.dialectsOk, State.bank] at *
  rw [h2, h3, h4, h5, h6]; exact hi

theorem State.Keeps.core {s t u : State} (h : s.Keeps t) (k : u.core = t.core) : s.Keeps u := h.trans (.of_core k)

theorem State.Keeps.ite {s t u : State} (c : Prop) [Decidable c] (h : s.Keeps t) (k : s.Keeps u) :
    s.Keeps (if c then t else u) := by split <;> assumption

theorem State.Keeps.foldl {α : Type} (g : State → α → State) (hg : ∀ (u : State) (x : α), u.Keeps (g u x)) (l : List α) (s : State) :
    s.Keeps (l.foldl g s) := by
  induction l generalizing s with
  | nil => exact .refl s
  | cons a l ih => exact (hg s a).trans (ih _)

theorem Tbl.insert_mem {α : Type} {t : Tbl α} {k : Nat} {v : α} : ∀ p ∈ Tbl.insert t k v, p = (k, v) ∨ p ∈ t := by
  induction t with
  | nil => intro p hp; simp [Tbl.insert] at hp; simp [hp]
  | cons q r ih =>
    intro p hp
    unfold Tbl.insert at hp
    split at hp
    · rcases List.mem_cons.mp hp with h | h
      · exact .inl h
      · exact .inr h
    · rcases List.mem_cons.mp hp with h | h
      · exact .inr (h ▸ List.mem_cons_self ..)
      · exact (ih p h).imp id (List.mem_cons_of_mem _)

/-- An answer keeps what its state keeps. -/
def exKeeps (s : State) : Except Reason State → Prop
  | .ok t => s.Keeps t
  | .error _ => True

theorem exKeeps_of_core {s : State} {e : Except Reason State} (h : exCore s e = s.core) : exKeeps s e := by
  cases e with
  | ok t => exact .of_core h
  | error r => trivial

theorem State.discard_keeps (s : State) (a : Accessor) (b : Blk) (n off : Nat) (r : Reason) : s.Keeps (s.discard a b n off r) :=
  .of_core (State.discard_core ..)

theorem State.settle_keeps (s : State) (a : Accessor) (b : Blk) (n off : Nat) {e : Except Reason State} (h : exKeeps s e) :
    s.Keeps (s.settle a b n off e) := by
  cases e with
  | ok t => exact h
  | error r => exact State.discard_keeps ..

theorem State.regWrite_keeps (s : State) (a : Accessor) (b : Blk) (n off : Nat) {g : State → Except Reason State}
    (h : exKeeps s (g s)) : s.Keeps (s.regWrite a b n off g) := by
  rcases State.regWrite_cases s a b n off g with k | k | ⟨r, k⟩ | ⟨t, k, k'⟩
  · rw [k]; exact .of_core (State.unreached_core ..)
  · rw [k]; exact .refl s
  · rw [k]; exact State.discard_keeps ..
  · rw [k']; rw [k] at h; exact h

theorem State.cmdWrite_keeps (s : State) (a : Accessor) (b : Blk) (n off : Nat) (w : Word) {g : State → Except Reason State}
    (h : exKeeps s (g s)) : s.Keeps (s.cmdWrite a b n off w g) := by
  refine State.regWrite_keeps s a b n off ?_
  unfold withEpoch; split
  · exact h
  · trivial

/-! ### The crucible -/

theorem State.setBank_keeps (s : State) (k : Nat) (h : CBank) (hc : h.cleared = (s.bank k).cleared) : s.Keeps (s.setBank k h) := by
  refine ⟨rfl, rfl, fun ⟨hm, ho, hd⟩ => ⟨?_, ho, hd⟩, fun _ _ x => x⟩
  have : (fun j => ((s.setBank k h).bank j).cleared) = fun j => (s.bank j).cleared := by
    funext j
    simp only [State.setBank, State.bank, Tbl.get_set]
    split
    · subst j; exact hc
    · rfl
  unfold State.memoryOk
  rw [this]; exact hm

theorem State.bankLost_keeps (s : State) (k : Nat) (h : CBank) :
    s.Keeps { s.setBank k h with crucible := Memory.lose s.crucible k } := by
  refine ⟨rfl, rfl, fun ⟨hm, ho, hd⟩ => ⟨?_, ho, hd⟩, fun _ _ x => x⟩
  refine Memory.wf_lose hm k ?_
  intro j hj
  simp only [State.setBank, State.bank, Tbl.get_set, if_neg hj]

theorem State.cbWrite_keeps (s : State) (a : Nat) (b : Byte) : s.Keeps (s.cbWrite a b) :=
  ⟨rfl, rfl, fun ⟨hm, ho, hd⟩ => ⟨State.memoryOk_cbWrite hm a b, ho, hd⟩, fun _ _ x => x⟩

theorem State.cbClear_keeps (s : State) (k : Nat) : s.Keeps (s.cbClear k) :=
  ⟨rfl, rfl, fun ⟨hm, ho, hd⟩ => ⟨State.memoryOk_cbClear hm k, ho, hd⟩, fun _ _ x => x⟩

theorem State.banksFresh_keeps (s : State) : s.Keeps s.banksFresh := by
  refine ⟨rfl, rfl, fun ⟨_, ho, hd⟩ => ⟨?_, ho, hd⟩, fun _ _ x => x⟩
  rfl

theorem State.banksOff_keeps (s : State) : s.Keeps s.banksOff := by
  refine State.Keeps.foldl _ (fun u k => ?_) _ s
  simp only
  split
  · split
    · exact State.setBank_keeps u k _ rfl
    · exact State.bankLost_keeps u k _
  · exact State.setBank_keeps u k _ rfl

theorem State.banksOn_keeps (s : State) : s.Keeps s.banksOn := by
  refine State.Keeps.foldl _ (fun u k => ?_) _ s
  split
  · exact State.setBank_keeps u k _ rfl
  · exact .refl u

theorem State.w2Write_keeps (s : State) (a : Nat) (l : List Byte) : s.Keeps (s.w2Write a l) := by
  induction l generalizing s a with
  | nil => exact .refl s
  | cons b r ih =>
    refine State.Keeps.trans ?_ (ih _ _)
    unfold State.w2Byte; split
    · exact .refl s
    · exact State.cbWrite_keeps ..

/-! ### The dialects -/

theorem State.setSpeak_keeps (s : State) (a : Accessor) (p : Nat) {v : Nat} (hv : v = 0 ∨ v = 1 ∨ v = 2) :
    s.Keeps (s.setSpeak a p v) := by
  refine ⟨rfl, rfl, fun ⟨hm, ho, hd⟩ => ⟨hm, ho, ?_⟩, fun _ _ x => x⟩
  intro q hq
  simp only [State.setSpeak, Tbl.set] at hq
  split at hq
  · exact hd q (List.mem_of_mem_filter hq)
  · rcases Tbl.insert_mem q hq with h | h
    · rw [h]; simp only; rcases hv with h0 | h1 | h2
      · contradiction
      · exact .inl h1
      · exact .inr h2
    · exact hd q (List.mem_of_mem_filter h)

theorem speakAll_keeps (a : Accessor) (w : Word) (s : State) : s.Keeps (speakAll a w s) := by
  unfold speakAll
  extract_lets v ok pages t0 t1
  have hv : (if ok = true then v else 0) = 0 ∨ (if ok = true then v else 0) = 1 ∨ (if ok = true then v else 0) = 2 := by
    split
    · rename_i hc; simp only [ok, Bool.or_eq_true, decide_eq_true_eq] at hc; exact .inr hc
    · exact .inl rfl
  have h0 : s.Keeps t0 := State.Keeps.foldl _ (fun u p => State.setSpeak_keeps u a p hv) pages s
  have h1 : s.Keeps t1 := h0.core ((State.put_core ..).trans (State.put_core ..))
  exact State.Keeps.ite _ h1 (h1.core (State.discard_core ..))

theorem State.speakWrite_keeps (s : State) (a : Accessor) (b : Blk) (n : Nat) (w : Word) : s.Keeps (s.speakWrite a b n w) := by
  unfold State.speakWrite
  simp only
  split
  · exact .of_core (State.unreached_core ..)
  split
  · exact .refl s
  split
  · exact State.discard_keeps ..
  split
  · exact State.discard_keeps ..
  split
  · rename_i h; exact State.setSpeak_keeps s a _ (.inr h)
  · exact (State.setSpeak_keeps s a _ (.inl rfl)).core (State.discard_core ..)

/-! ### Writes of registers -/

theorem cbStateWrite_keeps (w : Word) (s : State) : exKeeps s (cbStateWrite w s) := by
  unfold cbStateWrite
  extract_lets want changed
  split
  · trivial
  split
  · trivial
  split
  · trivial
  · exact State.Keeps.foldl (fun t k => t.setBank k { t.bank k with moving := some (want k) })
      (fun u k => State.setBank_keeps u k _ rfl) _ s

theorem globalWrite_keeps (a : Accessor) (off : Nat) (w : Word) (s : State) : exKeeps s (globalWrite a off w s) := by
  unfold globalWrite
  split
  · exact speakAll_keeps a w s
  split
  · exact exKeeps_of_core (mbxLenWrite_core ..)
  split
  · exact exKeeps_of_core (mbxCmdWrite_core ..)
  split
  · split
    · exact .refl s
    · trivial
  · exact exKeeps_of_core (plainWrite_core ..)

theorem blkWrite_keeps (a : Accessor) (b : Blk) (n off major : Nat) (w : Word) (s : State) :
    exKeeps s (blkWrite a b n off major w s) := by
  cases b with
  | global => exact globalWrite_keeps a off w s
  | crucible =>
    simp only [blkWrite]; split
    · exact cbStateWrite_keeps w s
    · exact State.Keeps.refl s
  | tap =>
    simp only [blkWrite]; split
    · exact exKeeps_of_core (tapCmdWrite_core ..)
    · exact exKeeps_of_core (plainWrite_core ..)
  | aon => exact exKeeps_of_core (aonWrite_core ..)
  | clock => exact exKeeps_of_core (clockWrite_core ..)
  | dll => exact exKeeps_of_core (dllWrite_core ..)
  | health => exact exKeeps_of_core (healthWrite_core ..)
  | otp => exact exKeeps_of_core (otpPageWrite_core ..)
  | mgmt => exact exKeeps_of_core (mgmtPageWrite_core ..)
  | fe => exact exKeeps_of_core (feWrite_core ..)
  | bank => exact exKeeps_of_core (bankWrite_core ..)
  | cal => exact exKeeps_of_core (calWrite_core ..)
  | aerial => exact exKeeps_of_core (aerialWrite_core ..)
  | slot => exact exKeeps_of_core (slotWrite_core ..)
  | dab => exact exKeeps_of_core (ctxWrite_core ..)
  | drm => exact exKeeps_of_core (ctxWrite_core ..)
  | auddec => exact exKeeps_of_core (auddecWrite_core ..)
  | follow => exact exKeeps_of_core (folWrite_core ..)
  | metro => exact exKeeps_of_core (metroWrite_core ..)
  | sidedata => exact exKeeps_of_core (sideWrite_core ..)
  | lehr => exact exKeeps_of_core (lehrWrite_core ..)
  | ap => exact exKeeps_of_core (apWrite_core ..)
  | host => exact exKeeps_of_core (hostWrite_core ..)
  | xlat => exact exKeeps_of_core (xlatWrite_core ..)
  | fault => exact exKeeps_of_core (faultWrite_core ..)
  | ring => exact exKeeps_of_core (ringWrite_core ..)
  | function => exact exKeeps_of_core (funcWrite_core ..)
  | fm => exact State.Keeps.refl s
  | am => exact State.Keeps.refl s
  | an => exact State.Keeps.refl s
  | dig => exact State.Keeps.refl s

theorem State.blockWrite_keeps (s : State) (a : Accessor) (b : Blk) (n off : Nat) (w : Word) :
    s.Keeps (s.blockWrite a b n off w) := by
  unfold State.blockWrite
  extract_lets h
  have k : exKeeps s (h s) := blkWrite_keeps a b n off _ w s
  refine State.Keeps.core ?_ (State.sweeps_core _)
  exact State.Keeps.ite _ (State.cmdWrite_keeps s a b n off w k) (State.regWrite_keeps s a b n off k)

theorem State.headWrite_keeps (s : State) (a : Accessor) (b : Blk) (n off : Nat) (w : Word) :
    s.Keeps (s.headWrite a b n off w) := by
  unfold State.headWrite
  split
  · exact .of_core (State.ctrlWrite_core ..)
  split
  · exact .of_core (State.evtWrite_core ..)
  split
  · exact State.speakWrite_keeps ..
  split
  · exact .of_core (State.evtWrite_core ..)
  · exact .of_core (State.roWrite_core ..)

theorem State.wordWrite_keeps (s : State) (a : Accessor) (addr : Nat) (w : Word) : s.Keeps (s.wordWrite a addr w) := by
  unfold State.wordWrite
  split
  · refine State.Keeps.ite _ (.refl s) (.of_core (State.unreached_core ..))
  · exact State.Keeps.ite _ (State.headWrite_keeps ..) (State.blockWrite_keeps ..)

theorem State.busWrites_keeps (s : State) (l : List (Nat × Word)) : s.Keeps (s.busWrites l).1 := by
  induction l generalizing s with
  | nil => exact .refl s
  | cons p r ih => exact (State.wordWrite_keeps s .mgmt p.1 p.2).trans (ih _)

/-! ### Domains, wakes and resets -/

theorem State.domUp_keeps (s : State) (d : Nat) : s.Keeps (s.domUp d) := by
  unfold State.domUp
  extract_lets _ t0 t1 t2
  have h0 : s.Keeps t0 := .of_core (State.freshRegs_core _ d)
  have h1 : s.Keeps t1 := State.Keeps.ite _ h0 (h0.core (State.bumpList_core ..))
  have h2 : s.Keeps t2 := h1.core (State.unloadDom_core ..)
  clear_value t2
  exact State.Keeps.ite _ (h2.trans (State.banksOn_keeps t2)) (State.Keeps.ite _ (h2.core (State.linesRun_core t2)) h2)

theorem State.domDown_keeps (s : State) (d : Nat) : s.Keeps (s.domDown d) := by
  unfold State.domDown
  extract_lets _ t0
  have h0 : s.Keeps t0 := .of_core ((State.fadeRegs_core _ d).trans (State.dropHidden_core _ d))
  clear_value t0
  exact State.Keeps.ite _ (h0.trans (State.banksOff_keeps t0)) (State.Keeps.ite _ (h0.core (State.linesRun_core t0)) h0)

theorem State.powerDone_keeps (s : State) (d : Nat) (on : Bool) (o : Origin) : s.Keeps (s.powerDone d on o) := by
  unfold State.powerDone
  extract_lets h t0 t1 t2 t3 t4
  have h0 : s.Keeps t0 := .of_core (State.setDom_core ..)
  have h1 : s.Keeps t1 := h0.trans (State.Keeps.ite _ (State.domUp_keeps t0 d) (State.domDown_keeps t0 d))
  have h2 : s.Keeps t2 := by
    simp only [t2]; split
    · exact h1.core (State.raisePage_core ..)
    · exact h1
  have h3 : s.Keeps t3 := State.Keeps.ite _ (h2.core (State.raise_core ..)) h2
  have h4 : s.Keeps t4 := by
    simp only [t4]; split
    · exact h3.core (State.pendStart_core ..)
    · exact h3
  exact State.Keeps.core (State.Keeps.ite _ (h4.core (State.upNext_core t4 d)) h4) (State.pdNext_core _)

theorem State.downs_keeps (s : State) (l : List Nat) :
    s.Keeps (l.foldl (fun u d => if u.domOn d then u.domDown d else u) s) :=
  State.Keeps.foldl _ (fun u d => State.Keeps.ite _ (State.domDown_keeps u d) (.refl u)) l s

theorem State.cycleAbandon_keeps (s : State) : s.Keeps s.cycleAbandon := by
  unfold State.cycleAbandon
  split
  · extract_lets t0
    have h0 : s.Keeps t0 := State.downs_keeps s [2, 3, 8]
    have h1 : s.Keeps (t0.puts 0 [(F.LEHR_STAT_IN_CYCLE, 0), (F.LEHR_STAT_ENTRY, 0)]) := h0.core (State.puts_core ..)
    exact h1.trans (.of_core rfl)
  · exact .refl s

theorem State.wakeStart_keeps (s : State) (lehr : Bool) : s.Keeps (s.wakeStart lehr) := by
  unfold State.wakeStart
  extract_lets t0 _ _ t1 u
  have h0 : s.Keeps (t0.puts 0 [(F.AON_STAT_SERVE, 0), (F.LEHR_STAT_RUNNING, 0)]) :=
    (State.cycleAbandon_keeps s).core (State.puts_core ..)
  have h1 : s.Keeps t1 := h0.trans (.of_core rfl)
  have hu : s.Keeps u := h1.core (State.bootWake_core ..)
  clear_value u t1
  refine State.Keeps.ite _ ?_ (h1.core ((State.domStart_core ..).trans (State.exemptAll_core _)))
  exact State.Keeps.core (State.Keeps.ite _ hu (hu.core (State.pllStart_core u)))
    ((State.domStart_core ..).trans (State.exemptAll_core _))

theorem State.wakeFire_keeps (s : State) (srcs entry : Nat) : s.Keeps (s.wakeFire srcs entry) := by
  unfold State.wakeFire
  extract_lets f watched t0 h t1
  split
  · exact .refl s
  · have h0 : s.Keeps t0 := .of_core (State.put_core ..)
    have h1 : s.Keeps t1 :=
      State.Keeps.ite _ (h0.trans (.of_core rfl)) (State.Keeps.ite _ (h0.trans (.of_core rfl)) h0)
    clear_value t1
    split
    · have g : s.Keeps (t1.wakeRecord true) := h1.core (State.wakeRecord_core ..)
      exact (g.trans (.of_core rfl)).core (State.raise_core ..)
    · exact h1.trans (State.wakeStart_keeps ..)
    · exact h1.trans (State.wakeStart_keeps ..)
    · exact h1

theorem State.deviceReset_keeps (s : State) : s.Keeps s.deviceReset := by
  unfold State.deviceReset
  extract_lets t0 t1 t2
  have h0 : s.Keeps t0 := ((State.Keeps.of_core (State.allOff_core s false)).trans (State.banksFresh_keeps _)).core
    ((State.exemptAll_core _).trans (State.bumpAll_core _))
  have h1 : s.Keeps t1 := h0.trans (State.Keeps.foldl _ (fun u a => .of_core (State.put_core ..)) _ t0)
  have h2 : s.Keeps t2 := h1.core (State.puts_core ..)
  clear_value t2
  refine h2.trans ⟨rfl, rfl, fun ⟨hm, ho, _⟩ => ⟨hm, ho, ?_⟩, fun _ _ x => x⟩
  intro p hp; simp at hp

theorem State.flrSettings_keeps (s : State) (f : Nat) : s.Keeps (s.flrSettings f) := by
  unfold State.flrSettings
  have h : s.Keeps { s with cfgs := Tbl.erase s.cfgs f, speak := Tbl.dropRange s.speak (256 * f) (256 * f + 256) } := by
    refine ⟨rfl, rfl, fun ⟨hm, ho, hd⟩ => ⟨hm, ho, ?_⟩, fun _ _ x => x⟩
    intro p hp
    simp only [Tbl.dropRange] at hp
    exact hd p (List.mem_of_mem_filter hp)
  exact h.core (by simp only [State.put_core, State.resetRegs_core])

theorem State.flr_keeps (s : State) (f : Nat) : s.Keeps (s.flr f) := by
  unfold State.flr
  split
  · exact .refl s
  · extract_lets t0 t1 t2 t3 t4
    have h0 : s.Keeps t0 := .of_core (State.put_core ..)
    have h1 : s.Keeps t1 := h0.trans (State.Keeps.foldl _ (fun u r => .of_core (State.ringKill_core ..)) _ t0)
    have h2 : s.Keeps t2 := h1.core ((State.faultsDrop_core ..).trans (State.xdropAll_core ..))
    have h3 : s.Keeps t3 := h2.core ((State.rulesOff_core ..).trans ((State.fcEndAll_core ..).trans
      ((State.folEndAll_core ..).trans (State.flrResources_core ..))))
    have h4 : s.Keeps t4 := State.Keeps.ite _ (h3.core (State.flrZero_core t3)) h3
    exact (h4.trans (State.flrSettings_keeps t4 f)).core (State.sweeps_core _)

theorem State.linkReset_keeps (s : State) : s.Keeps s.linkReset := by
  unfold State.linkReset
  extract_lets _ t0
  have h0 : s.Keeps t0 := .of_core rfl
  clear_value t0
  exact State.Keeps.ite _ (h0.trans (State.Keeps.foldl _
    (fun u f => (State.flr_keeps u f).trans (State.flrSettings_keeps _ f)) _ t0)) h0

/-! ### LEHR and serve visits -/

theorem State.Keeps.lehr {s t : State} (h : s.Keeps t) (x : LehrHid) : s.Keeps { t with lehr := x } := h.trans (.of_core rfl)

theorem State.cycleStart_keeps (s : State) : s.Keeps s.cycleStart := by
  unfold State.cycleStart
  extract_lets t0 t1
  have h0 : s.Keeps t0 := .of_core ((State.count_core ..).trans (State.put_core ..))
  have h1 : s.Keeps t1 := h0.trans (.of_core rfl)
  clear_value t1
  exact State.Keeps.core (State.Keeps.ite _ h1 (h1.trans (State.domUp_keeps t1 1))) (State.pllStart_core _)

theorem State.scoutUp_keeps (s : State) (n : Nat) : s.Keeps (s.scoutUp n) := by
  unfold State.scoutUp
  extract_lets t0
  have h0 : s.Keeps t0 := State.Keeps.ite _ (.refl s) (State.domUp_keeps ..)
  exact State.Keeps.ite _ h0 (h0.trans (State.domUp_keeps t0 2))

theorem State.entryStart_keeps (s : State) (e : Nat) : s.Keeps (s.entryStart e) := by
  unfold State.entryStart
  extract_lets x order af t0 u
  have h0 : s.Keeps t0 := (State.scoutUp_keeps s _).core (State.put_core ..)
  have h1 : s.Keeps u := h0.core (State.dwellTune_core ..)
  clear_value u t0 af
  exact h1.lehr _

theorem State.cycleEnd_keeps (s : State) : s.Keeps s.cycleEnd := by
  unfold State.cycleEnd
  extract_lets us t0 t1 t2
  have h0 : s.Keeps t0 := State.downs_keeps s [2, 3, 8]
  have h1 : s.Keeps t1 := State.Keeps.ite _ h0 ((h0.trans (State.domDown_keeps t0 1)).core (State.dropCtrl_core _))
  have h2 : s.Keeps t2 := h1.core (State.puts_core ..)
  clear_value t2
  exact h2.lehr _

theorem State.cycleNext_keeps (s : State) (e : Nat) : s.Keeps (s.cycleNext e) := by
  unfold State.cycleNext
  split
  · exact State.entryStart_keeps ..
  · exact State.cycleEnd_keeps ..

theorem State.outcome_keeps (s : State) (d : Dwell) (valid ok : Bool) (af : Option Nat) (value : Int) :
    s.Keeps (s.outcome d valid ok af value) := by
  unfold State.outcome
  extract_lets e v hist t0 t1 t2 t3 t4 t5
  have h0 : s.Keeps t0 := .of_core ((State.putE_core ..).trans ((State.putE_core ..).trans ((State.putE_core ..).trans
    (State.putE_core ..))))
  have h1 : s.Keeps t1 := by
    simp only [t1]; split
    · exact h0.core (State.putE_core ..)
    · exact h0
  have h2 : s.Keeps t2 := h1.core ((State.raise_core ..).trans (State.putE_core ..))
  have h3 : s.Keeps t3 := State.Keeps.ite _ (h2.core (State.lehrAlert_core ..)) h2
  have h4 : s.Keeps t4 := State.Keeps.ite _ (h3.core (State.lehrLog_core ..)) h3
  have h5 : s.Keeps t5 := State.Keeps.ite _ (h4.trans (State.wakeFire_keeps ..)) h4
  exact State.Keeps.ite _ (State.Keeps.ite _ (h5.trans (State.cycleNext_keeps ..)) h5) (h1.trans (State.cycleNext_keeps ..))

theorem State.serveStart_keeps (s : State) : s.Keeps s.serveStart := by
  unfold State.serveStart
  extract_lets t0
  have h0 : s.Keeps t0 := State.Keeps.ite _ (.refl s) ((State.domUp_keeps s 1).core (State.put_core ..))
  exact h0.core ((State.count_core ..).trans (State.put_core ..))

theorem State.addressMatch_keeps (s : State) : s.Keeps s.addressMatch := by
  unfold State.addressMatch
  refine State.Keeps.ite _ ?_ (State.Keeps.ite _ (State.wakeFire_keeps ..) (.refl s))
  exact State.Keeps.ite _ (.refl s) (State.Keeps.ite _ (State.serveStart_keeps s) (State.wakeFire_keeps ..))

theorem State.serveEnd_keeps (s : State) : s.Keeps s.serveEnd := by
  unfold State.serveEnd
  extract_lets t0 t1
  have h0 : s.Keeps t0 := .of_core (State.put_core ..)
  have h1 : s.Keeps t1 := State.Keeps.ite _ h0 ((h0.trans (State.domDown_keeps t0 1)).core (State.dropCtrl_core _))
  clear_value t1
  have h3 : t1.Keeps { t1 with lehr := { t1.lehr with due := false } } := .of_core rfl
  exact State.Keeps.ite _ ((h1.trans h3).trans (State.cycleStart_keeps _)) h1

/-! ### The management port -/

theorem State.busReach_keeps (s : State) : s.Keeps s.busReach := by
  unfold State.busReach
  extract_lets t0
  have h0 : s.Keeps t0 := State.addressMatch_keeps s
  clear_value t0
  split
  · exact State.Keeps.ite _ (h0.trans (State.powerDone_keeps ..)) h0
  · exact h0

theorem State.visitWake_keeps (s : State) : s.Keeps s.visitWake := by
  unfold State.visitWake
  extract_lets t0
  have h0 : s.Keeps t0 := .of_core (State.put_core ..)
  clear_value t0
  have h1 : t0.Keeps { t0 with wakeHid := { srcs := 2, when_ := t0.aonTime.toNat, entry := 0 } } := .of_core rfl
  exact (h0.trans h1).trans (State.wakeStart_keeps ..)

theorem State.visitSleep_keeps (s : State) (lehr : Bool) : s.Keeps (s.visitSleep lehr).1 := by
  unfold State.visitSleep
  split
  · exact .refl s
  · extract_lets t0 u
    have h0 : s.Keeps t0 := (State.cycleAbandon_keeps s).core (State.puts_core ..)
    have h1 : s.Keeps u := (h0.trans (State.domDown_keeps t0 1)).core (State.dropCtrl_core _)
    clear_value u
    have h2 (m : Mode) (a : WakeHid) (b : LehrHid) : s.Keeps { u with mode := m, wakeHid := a, lehr := b } := h1.trans (.of_core rfl)
    exact h2 _ _ _

theorem State.otpSet_keeps (s : State) (w v x : Nat) (hw : otpWritable w = true) (hx : x ≤ Config.otpSpareRows ∨ x = s.otpSpares)
    (hv : ∀ b, bit (s.otpWord w) b = true → bit v b = true) :
    s.Keeps { s with otp := Tbl.set s.otp 0 w v, otpSpares := x } := by
  refine ⟨rfl, rfl, fun ⟨hm, ho, hd⟩ => ⟨hm, ⟨?_, ?_⟩, hd⟩, ?_⟩
  · intro p hp
    simp only [Tbl.set] at hp
    split at hp
    · exact ho.1 p (List.mem_of_mem_filter hp)
    · rcases Tbl.insert_mem p hp with h | h
      · rw [h]; exact hw
      · exact ho.1 p (List.mem_of_mem_filter h)
  · rcases hx with h | h
    · exact h
    · simp only [h]; exact ho.2
  · intro j b hb
    simp only [State.otpWord, Tbl.get_set] at *
    split
    · rename_i hj; rw [if_pos hj] at hb
      split
      · rename_i he; subst he; exact hv b (by rw [if_pos hw]; exact hb)
      · exact hb
    · rename_i hj; rw [if_neg hj] at hb; exact hb

theorem State.otpProgram_keeps (s : State) (bad : List Nat) (w i : Nat) (l : List Nat)
    (h : ∀ j, j < l.length → s.otpTakes (w + i + j) (l.getD j 0) = true) : s.Keeps (s.otpProgram bad w i l).1 := by
  induction l generalizing s i with
  | nil => exact .refl s
  | cons v r ih =>
    have h0 : s.otpTakes (w + i) v = true := by simpa using h 0 (by simp)
    simp only [State.otpTakes, Bool.and_eq_true, beq_iff_eq] at h0
    obtain ⟨⟨⟨hw, hv⟩, _⟩, _⟩ := h0
    have hb : ∀ b, bit (s.otpWord (w + i)) b = true → bit v b = true := by
      intro b hb
      rw [← hv] at hb
      simp only [bit, Nat.testBit_and, Bool.and_eq_true] at hb
      exact hb.2
    -- the words after this one stand as they were
    have hr (x : Nat) (j : Nat) (hj : j < r.length) :
        ({ s with otp := Tbl.set s.otp 0 (w + i) v, otpSpares := x } : State).otpTakes (w + (i + 1) + j) (r.getD j 0) = true := by
      have hn := h (j + 1) (by simpa using hj)
      have he : w + i + (j + 1) = w + (i + 1) + j := by omega
      rw [he] at hn
      have ho : ({ s with otp := Tbl.set s.otp 0 (w + i) v, otpSpares := x } : State).otpWord (w + (i + 1) + j) =
          s.otpWord (w + (i + 1) + j) := by
        simp only [State.otpWord]
        rw [Tbl.get_set_ne _ _ _ _ (by omega)]
      simp only [State.otpTakes, ho]
      simpa [State.otpTakes] using hn
    unfold State.otpProgram
    split
    · exact (State.otpSet_keeps s _ v s.otpSpares hw (.inr rfl) hb).trans (ih _ _ (hr s.otpSpares))
    split
    · rename_i hs
      exact (State.otpSet_keeps s _ v (s.otpSpares + 1) hw (.inl hs) hb).trans (ih _ _ (hr (s.otpSpares + 1)))
    · have h1 : s.Keeps s.freeUsed := .of_core rfl
      refine h1.trans (State.otpSet_keeps s.freeUsed _ _ s.otpSpares hw (.inr rfl) ?_)
      intro b hb'
      have hb2 : bit (s.otpWord (w + i)) b = true := hb'
      simp only [bit] at hb2
      simp only [bit, Nat.testBit_or, hb2, Bool.true_or]

theorem exKeeps_sleepEnter (target : Nat) (s : State) : exKeeps s (sleepEnter target s) := exKeeps_of_core (sleepEnter_core ..)

theorem State.zwDo_keeps (s : State) (cmd : Nat) (ps : List Byte) (bad : List Nat) : s.Keeps (s.zwDo cmd ps bad).1 := by
  unfold State.zwDo
  extract_lets first n w vs e n2 a t
  split
  · exact State.Keeps.ite _ (.refl s) (.of_core (State.put_core ..))
  split
  · split
    · exact State.visitSleep_keeps ..
    · have h := exKeeps_sleepEnter first s
      cases hr : sleepEnter first s with
      | ok t => rw [hr] at h; exact h
      | error e => exact .refl s
  split
  · split
    · rename_i ht
      refine State.otpProgram_keeps s bad w 0 vs ?_
      intro j hj
      have hl : vs.length = n := by simp [vs, zwWords]
      exact List.all_eq_true.mp ht j (List.mem_range.mpr (hl ▸ hj))
    · exact .refl s
  split
  · split
    · exact State.busWrites_keeps ..
    split
    · exact State.busWrites_keeps ..
    · exact .refl s
  split
  · exact State.busWrites_keeps ..
  split
  · have h : s.Keeps t := State.Keeps.ite _ (.of_core (State.fgAck_core s)) (.refl s)
    exact State.Keeps.ite _ (h.core (State.fgStop_core t)) h
  split
  · exact State.flr_keeps ..
  split
  · exact State.deviceReset_keeps s
  · exact .refl s

theorem State.zwRun_keeps (s : State) (cmd : Nat) (wr ps : List Byte) (read : Option Nat) (bad : List Nat) :
    s.Keeps (s.zwRun cmd wr ps read bad) := by
  unfold State.zwRun
  extract_lets p t q src
  have h0 : s.Keeps p.1 := State.zwDo_keeps ..
  have h1 : s.Keeps t := State.Keeps.ite _ (h0.core (State.count_core ..)) h0
  have h2 : s.Keeps src := h1.core (State.zwData_core ..)
  clear_value src
  split
  · exact h1.core (State.busResult_core ..)
  · extract_lets u v
    have h3 : s.Keeps u := h2.trans (.of_core rfl)
    have h4 : s.Keeps v := State.Keeps.ite _ (h3.core (State.attnCleared_core ..)) h3
    exact h4.core (State.busResult_core ..)

theorem State.zwPhase_keeps (s : State) (cmd : Nat) (bytes : List Byte) (read : Option Nat) (bad : List Nat) (hold : Bool) :
    s.Keeps (s.zwPhase cmd bytes read bad hold) := by
  unfold State.zwPhase
  extract_lets pre
  split
  · extract_lets t
    have h : s.Keeps t := State.Keeps.ite _ (.of_core ((State.raise_core ..).trans (State.count_core ..))) (.refl s)
    exact h.core (State.busResult_core ..)
  · have hb (c : Nat) : s.Keeps (s.busResult (some cmd) c) := .of_core (State.busResult_core ..)
    refine State.Keeps.ite _ (hb _) (State.Keeps.ite _ (hb _) (State.Keeps.ite _ (hb _) (State.Keeps.ite _ (hb _) ?_)))
    exact State.Keeps.ite _ (.of_core (State.zwHold_core ..)) (State.zwRun_keeps ..)

theorem State.zwikiur_keeps (s : State) (cmd : Nat) (bytes : List Byte) (read : Option Nat) (bad : List Nat) :
    s.Keeps (s.zwikiur cmd bytes read bad) := by
  unfold State.zwikiur
  extract_lets t v away hold
  have h0 : s.Keeps { s with resp := [] } := .of_core rfl
  have h1 : s.Keeps t := h0.trans (State.busReach_keeps _)
  clear_value t
  refine State.Keeps.ite _ h1 (State.Keeps.ite _ (h1.core (State.busResult_core ..)) ?_)
  exact (State.Keeps.ite _ (h1.trans (State.visitWake_keeps t)) h1).trans (State.zwPhase_keeps ..)

theorem State.heldRun_keeps (s : State) : s.Keeps s.heldRun := by
  unfold State.heldRun
  extract_lets t
  have h : s.Keeps t := .of_core rfl
  clear_value t
  split
  · exact h.trans (State.zwRun_keeps ..)
  · exact h

theorem State.stage3_keeps (s : State) : s.Keeps s.stage3 := by
  unfold State.stage3
  extract_lets t u
  have h : s.Keeps t := .of_core (State.bootTo_core ..)
  have h1 : s.Keeps u := State.Keeps.ite _ (h.trans (State.cbClear_keeps t 0)) h
  exact (h1.core ((State.ageStart_core _).trans ((State.refFirst_core _).trans (State.stageUp_core _)))).trans
    (State.heldRun_keeps _)

end Sys2Proof.Machine
end

