-- ==== Sys2Proof/WellFormed.lean ====
section
/-! DEFINITION. Which commands exist: the ranges of the operands that their types leave wider than the hardware. A meaning is
total on every command; a command that is not well-formed is one that nothing outside the part can send. -/

namespace Sys2Proof

open Machine

/-- The longest record or transfer that one command carries. -/
def maxBytes : Nat := 2 ^ 24

/-- Whether an integer fits a signed field. -/
def fitsI (w : Nat) (i : Int) : Bool := decide (-(2 ^ (w - 1)) ≤ i) && decide (i < 2 ^ (w - 1))

/-- Whether a command is well-formed. -/
def Instr.wf : Instr → Bool
  | .registerWrite _ addr bytes value => decide (addr < 2 ^ 20) && decide (1 ≤ bytes) && decide (bytes ≤ 8) && decide (value < 2 ^ (8 * bytes))
  | .upperLatchRead _ addr => decide (addr < 2 ^ 20)
  | .faultEntryRead .. => true
  | .pageSpeak .. => true
  | .speak .. => true
  | .pageReset .. => true
  | .resetDone .. => true
  | .lock .. => true
  | .evtClear .. => true
  | .powerRequest .. => true
  | .pdReq .. => true
  | .powerDone .. => true
  | .cbStateWrite .. => true
  | .cbDone .. => true
  | .bankFrame _ _ sat => decide sat.Nodup
  | .tuneCommit .. => true
  | .retuneStart .. => true
  | .retuneDone .. => true
  | .feStateWrite .. => true
  | .feStepDone .. => true
  | .qcalDone .. => true
  | .lockLost .. => true
  | .feRelockDone .. => true
  | .probeCommand .. => true
  | .probeStart .. => true
  | .probeDone .. => true
  | .burstGo .. => true
  | .burstStop .. => true
  | .burstEnd .. => true
  | .burstTimeout .. => true
  | .gainBlockEnd .. => true
  | .gainStep .. => true
  | .diversityPairForm .. => true
  | .pairDissolve .. => true
  | .spareDesignate .. => true
  | .fePageReset .. => true
  | .feSleepStale .. => true
  | .feTempSample _ deg => fitsI 16 deg
  | .calStepStart .. => true
  | .calStepEnd .. => true
  | .scheduledCal .. => true
  | .rotationPeriod .. => true
  | .calRotCmd .. => true
  | .matchAttemptEnd .. => true
  | .rotationSwitch .. => true
  | .fullCalDone .. => true
  | .tunerWrite .. => true
  | .sweepGo .. => true
  | .sweepDone .. => true
  | .biasSample .. => true
  | .noiseFloorUpdate .. => true
  | .learn .. => true
  | .slotCommit .. => true
  | .slotEnable .. => true
  | .slotStart .. => true
  | .slotDisable .. => true
  | .slotStop .. => true
  | .slotReset .. => true
  | .delayCommand .. => true
  | .delayStep .. => true
  | .dlyZcTimeout .. => true
  | .dlyReached .. => true
  | .agJoin .. => true
  | .agLeave .. => true
  | .pkRst .. => true
  | .rmsRst .. => true
  | .envRst .. => true
  | .rmsBlockEnd .. => true
  | .detectorReport .. => true
  | .profDataWrite .. => true
  | .profCommit .. => true
  | .rawCapture .. => true
  | .snapGo .. => true
  | .snapAbort .. => true
  | .snapDone _ vals => vals.all (fitsI 16)
  | .snapTimeout .. => true
  | .pilotBlock .. => true
  | .blendUpdate .. => true
  | .fmSnrUpdate .. => true
  | .offsetUpdate .. => true
  | .rdsSearchRestart .. => true
  | .rdsBlock _ _ gap _ _ => decide (1 ≤ gap)
  | .blerWindowEnd .. => true
  | .amLockEval .. => true
  | .amSnrUpdate .. => true
  | .amssGroup _ _ _ bitCount group => decide (bitCount ≤ 48) && decide (group.length ≤ 6)
  | .pcmBlockEnd _ _ _ _ data => decide (data.length ≤ maxBytes)
  | .metricReport .. => true
  | .contextEnable .. => true
  | .contextDisable .. => true
  | .contextReset .. => true
  | .acquisitionRestart .. => true
  | .dabFrame .. => true
  | .fibReceived .. => true
  | .dabReconfig .. => true
  | .tapResume .. => true
  | .drmFrame .. => true
  | .facReceived .. => true
  | .sdcReceived .. => true
  | .drmReconfig .. => true
  | .superframe .. => true
  | .accessUnit .. => true
  | .audioFrame .. => true
  | .decodeStop .. => true
  | .tapCommit .. => true
  | .tapEnable .. => true
  | .tapDisable .. => true
  | .tapReset .. => true
  | .tiiReport _ _ _ entries => decide (entries.length ≤ 255)
  | .alarmEndTimeout .. => true
  | .ruleWrite .. => true
  | .patternWrite .. => true
  | .alertAck .. => true
  | .reservePoolWrite .. => true
  | .folGo .. => true
  | .folStop .. => true
  | .folRealign .. => true
  | .folCoarseAlign _ _ peak second _ => decide (second ≤ peak)
  | .folFineAlign .. => true
  | .folAlignTimer .. => true
  | .candExpire .. => true
  | .folScore .. => true
  | .switch .. => true
  | .folCrossfadeEnd .. => true
  | .fallback .. => true
  | .fsWindowEnd _ valid total _ _ _ _ _ => decide (valid ≤ total)
  | .devWindowEnd _ valid total _ _ _ => decide (valid ≤ total)
  | .mpxWindowEnd _ valid total _ => decide (valid ≤ total)
  | .mpxRunUpdate _ valid total _ => decide (valid ≤ total)
  | .injectionWindowEnd _ valid total _ _ => decide (valid ≤ total)
  | .amDepthWindowEnd _ valid total hi lo _ _ => decide (valid ≤ total) && decide (lo ≤ hi)
  | .refCheckGo .. => true
  | .refCheckDone .. => true
  | .refAgeDay => true
  | .ppsEdge .. => true
  | .ppsMissing => true
  | .fcGo .. => true
  | .fcStop .. => true
  | .fcRealign .. => true
  | .fcAlignAttempt _ peak second _ => decide (second ≤ peak)
  | .fcSecond .. => true
  | .fcReport .. => true
  | .refPresent .. => true
  | .xoOk .. => true
  | .refLost => true
  | .xoLost => true
  | .x32Ok => true
  | .x32Lost => true
  | .x32DisWrite .. => true
  | .rcTrim .. => true
  | .pllCounterWindow .. => true
  | .pllApply .. => true
  | .pllLock => true
  | .windowResume .. => true
  | .audPllEnable .. => true
  | .audPllLock .. => true
  | .lineCounterWindow .. => true
  | .lineLock .. => true
  | .syncReturn .. => true
  | .syncSlewDone => true
  | .sleepRequest .. => true
  | .sleepCommit .. => true
  | .sleepDeclared => true
  | .wakeEvent .. => true
  | .aonTimerMatch => true
  | .aonSample deg vio => fitsI 16 deg && decide (vio < 65536)
  | .wake => true
  | .serveVisit => true
  | .serveVisitEnd => true
  | .puntyRelease .. => true
  | .watchEntryWrite .. => true
  | .lehrCycleStart => true
  | .lehrUnitMatch .. => true
  | .lehrDwellEnd .. => true
  | .lehrAlertAck .. => true
  | .logClear .. => true
  | .aonPowerUp .. => true
  | .pwrGoodRise .. => true
  | .pwrGoodFall => true
  | .sysRstNLow => true
  | .stageChg => true
  | .stage1Timeout => true
  | .fgEstablished => true
  | .fgWatchMatch .. => true
  | .fgWatchEnd .. => true
  | .fgStop .. => true
  | .fgAck .. => true
  | .fgHandover .. => true
  | .hoAttemptEnd .. => true
  | .hoDone => true
  | .imageAuthDone flash _ _ _ => decide (flash.length ≤ 2) && flash.all fun h => h.length == 512
  | .bootWatchdog => true
  | .mbxGo .. => true
  | .mbxAbort .. => true
  | .perstAssert => true
  | .perstDeassert => true
  | .hotReset => true
  | .linkDown => true
  | .linkUp speed lanes => decide (1 ≤ speed) && decide (speed ≤ 4) && (lanes == 1 || lanes == 2 || lanes == 4)
  | .configWrite .. => true
  | .w2Access write addr count data => decide (addr + count ≤ 2 ^ 26) && (!write || data.length == count)
  | .ringEnable .. => true
  | .ringDisable .. => true
  | .drainEnd .. => true
  | .ringReset .. => true
  | .ringTailWrite .. => true
  | .descFetch _ addr len ctl cookie => decide (addr < 2 ^ 64) && decide (len < 2 ^ 32) && decide (ctl < 2 ^ 32) && decide (cookie < 2 ^ 64)
  | .ringRestart .. => true
  | .ringFlush .. => true
  | .flushTimer .. => true
  | .dmaBurst _ _ data => decide (data.length ≤ maxBytes)
  | .coalTimer .. => true
  | .readCompletionError .. => true
  | .recordOffer _ x => decide (x.length 2 ≤ maxBytes)
  | .cullOverflowEnd .. => true
  | .xlatCfgWrite .. => true
  | .localWalk _ reads => reads.all fun x => decide (x.1 < 2 ^ 64) && decide (x.2 < 2 ^ 64)
  | .atsCompletion .. => true
  | .prgResponse .. => true
  | .invAll .. => true
  | .invPage .. => true
  | .invDone .. => true
  | .atsInvalidateRequest _ addr size => decide (addr < 2 ^ 64) && decide (1 ≤ size)
  | .retry .. => true
  | .skipRecord .. => true
  | .abortRing .. => true
  | .faultLogFree .. => true
  | .ownershipWrite _ off _ => decide (off < 4096) && off % 4 == 0
  | .flr .. => true
  | .flrDone .. => true
  | .apEnable .. => true
  | .apDisable .. => true
  | .apReset .. => true
  | .apFrame _ _ _ ins late => decide (ins.length ≤ 16) && decide (late.length ≤ 16)
  | .portInputOffer .. => true
  | .rateWindow .. => true
  | .rateAck .. => true
  | .clkLost .. => true
  | .clkBack .. => true
  | .outSrcWrite .. => true
  | .portAgJoin .. => true
  | .portAgLeave .. => true
  | .inCfgWrite .. => true
  | .mgmtAddress .. => true
  | .mgmtAbort .. => true
  | .mgmtTimeout .. => true
  | .sclLowTimeout .. => true
  | .quickRead .. => true
  | .dialect bytes _ => decide (bytes.length < 512)
  | .ident bytes _ => decide (bytes.length < 512)
  | .status bytes _ => decide (bytes.length < 512)
  | .attnStatus bytes _ => decide (bytes.length < 512)
  | .wakeLast bytes _ => decide (bytes.length < 512)
  | .sleep bytes _ => decide (bytes.length < 512)
  | .temp bytes _ => decide (bytes.length < 512)
  | .otpRead bytes _ => decide (bytes.length < 512)
  | .otpWrite bytes _ bad => decide (bytes.length < 512) && decide bad.Nodup && bad.all fun i => decide (i < 8)
  | .lehrCfg bytes _ => decide (bytes.length < 512)
  | .lehrLog bytes _ => decide (bytes.length < 512)
  | .pageRead bytes _ => decide (bytes.length < 512)
  | .pageWrite bytes _ => decide (bytes.length < 512)
  | .fgCtrl bytes _ => decide (bytes.length < 512)
  | .funcReset bytes _ => decide (bytes.length < 512)
  | .deviceReset bytes _ => decide (bytes.length < 512)
  | .attnSignal => true
  | .attnRepeat => true
  | .histSecond temps => decide (temps.length ≤ 12) && temps.all (fitsI 16)
  | .lifeUpdate => true
  | .ageMeasureGo .. => true
  | .ageMeasureTimer => true
  | .ageMeasureDone slow => decide (slow.length ≤ 4)
  | .vioAonRemoval => true
  | .inactiveReferenceLost .. => true
  | .audUnlock .. => true
  | .referenceRatePeriod .. => true

end Sys2Proof
end

