-- ==== Sys2Proof/Tests/Slice0.lean ====
section
/-! SUPPORT. Tests of the model, and for every statement a state and operands that meet its hypotheses. -/

open Sys2Proof Sys2Proof.Machine

namespace Sys2Proof.Tests

set_option Elab.async false

/-! ### States for the tests -/

/-- The part awake with every domain on, the link up, stage 3, the PLL locked and dialect 2 selected on PF_0's pages. -/
def live : State :=
  ({ mode := .awake, doms := (List.range 15).map fun d => (d + 1, { on := true }), link := { up := true },
     cfgs := (List.range 4).map fun n => (n, { mse := true, bme := true }),
     speak := (List.range 256).map fun p => (p, 2) } : State).puts 0
    [(F.GLOBAL_STAT_STAGE, 3), (F.CLK_STAT_PLL_STATE, 2), (F.CLK_STAT_XO_OK, 1), (F.SPEAK_MAJOR, 2)]

/-- An entry of a fault log. -/
def sampleFault : FaultEntry := { ring := 3, access := 1, cause := 2, desc := 5, off := 16, addr := 0x1000, time := 77 }

/-- Front-end 0 in RECEIVE with lock, its window set fresh, a window from 88 to 108 MHz applied. -/
def receiving : State :=
  live.puts 0 [(F.FE_CTRL_STATE, 3), (F.FE_STAT_STATE, 3), (F.FE_STAT_LOCKED, 1), (F.FE_STAT_STALE, 0),
    (F.FE_APPLIED_START_START, 88000), (F.FE_APPLIED_SPAN_SPAN, 20000), (F.FE_LO_HZ_LO, (loOf 0 88000 20000 0).toNat)]

/-- A burst of 9 transmission frames that counts. -/
def sampleBurst : Burst := { after := 1, frames := true, drm := false, idx := 0, len := 9, counting := true }

/-- The applied settings of an FM slot of window 0. -/
def sampleBind : Bind :=
  { window := 0, subband := 70, word := 0, kind := 1, ctx := 0, iqRate := 0, profile := 0, ring := 0, iqFmt := 0, iqBlock := 0,
    div := false }

/-- Front-end 0 in RECEIVE beside a spare of its kind. -/
def withSpare : State := (receiving.put F.FE_CAL_POLICY 0 0).put F.FE_ROLE_ROLE 1 2

/-- A handover from window 0 to the spare on page 1 whose last attempt passed. -/
def handing : State := withSpare.setHand 0 { run := some (0, 1), passed := true }

/-- Slot 3 staged for FM in window 0, which is in RECEIVE; slot 4 bound and running. -/
def slotted : State :=
  ((receiving.puts 3 [(F.SLOT_SRC_SUBBAND, 70), (F.SLOT_BIND_KIND, 1)]).setSlot 4 { applied := some sampleBind }).puts 4
    [(H.ENABLE .slot, 1), (F.SLOT_STAT_RUNNING, 1)]

/-- A snapshot that runs. -/
def sampleSnap : Snap := { fine := false, order := 0, first := 66, last := 75, avg := 1, ring := 0 }

/-- Slot 4 running for AM. -/
def amSlot : State := slotted.setSlot 4 { applied := some { sampleBind with kind := 2 } }

/-- Slot 4 running for FM with RDS on. -/
def rdsSlot : State := slotted.put F.FM_RDS_EN 4 1

/-- DAB context 0 enabled, in MULTIPLEX, with subchannel 5 of 84 capacity units. -/
def dabOn : State :=
  (((live.put (H.ENABLE .dab) 0 1).putCtxState (.dab 0) 4).putE F.DAB_SUBCH_VALID 0 5 1).putE F.DAB_SUBCH_SIZE 0 5 84

/-- The applied settings of a tap on that subchannel. -/
def sampleTap : TapCfg :=
  { drm := false, ctx := 0, sub := 5, au := false, pcm := false, pad := false, rate48 := true, pack := 0, ring := 0 }

/-- Tap 0 set for it. -/
def dabTap : State := dabOn.setTap 0 { applied := some sampleTap }

/-- The same part with dialect 2 selected on the pages of function 1. -/
def pf1 : State :=
  { live with speak := (List.range 256).map fun p => (256 + p, 2) }.puts 1 [(F.SPEAK_MAJOR, 2)]

/-- A candidate of a follower entry that nothing reaches. -/
def sampleCand : Cand := { band := 0, origin := 0, khz := 98500, id := { kind := .pi, id := 0 } }

/-- Follower entry 31 set to start from slot 4. -/
def folSlot : State := slotted.putE F.FOL_START_INDEX 0 31 4

/-- The candidate that it starts from. -/
def startCand : Cand := (folSlot.folStart 31 0).getD sampleCand

/-- Ring 0 enabled and RUNNING, with descriptors at 0x1000. -/
def ringOn : State := live.puts 0 [(H.ENABLE .ring, 1), (F.RING_STAT_STATE, 1), (F.RING_BASE_LO_ADDR, 0x1000)]

/-- A descriptor of a buffer at 0x2000, a record, and the record as a ring holds it. -/
def sampleDesc : Desc := { index := 0, addr := 0x2000, len := 4096, int := true, cookie := 7 }

@[inherit_doc sampleDesc]
def sampleRec : Rec := { kind := .rule, source := 5, time := 77, epoch := 1, payload := .alarm 1 0 0 5 [] }

@[inherit_doc sampleDesc]
def sampleHeld : Held := { body := sampleRec, seq := 0, ver := 2, crc := false, len := 64 }

/-- A dwell for the PI code 0x1234, with one alternative frequency left to try, and dwells of the other rules. -/
def sampleDwell : Dwell :=
  { entry := 15, set := { mode := 0, rule := 3, input := 0, n := 1, m := 1, wake := true, alert := true, log := true,
                          freqs := [98500, 1], p0 := 0x211234, p1 := 0 }, af := 0, rest := [1] }

@[inherit_doc sampleDwell]
def ruleDwell (rule : Nat) : Dwell := { sampleDwell with set := { sampleDwell.set with rule := rule } }

/-- The part in LEHR with a dwell that runs. -/
def dwellOn (d : Dwell) : State := { receiving with mode := .lehr, lehr := { dwell := some d } }

/-- An FM preset with a watch for the PI code 0x1234. -/
def samplePreset : Preset :=
  { audio := true, follow := false, mode := 0, input := 0, khz := 97520, profile := 0, anOpt := 0, amBw := 0, gain := 0, level := 0,
    apFmt := 0, apSlot := 31, bclk := 0, tuner := 0, rules := [(3, 1, 0, 0x211234, 0)] }

/-- First gather acquiring, then playing beside a slot of the same programme, and a handover that runs. -/
def fgOn : State :=
  { slotted with fg := { preset := some samplePreset } }.puts 0 [(F.GLOBAL_STAT_FG_ACTIVE, 1), (F.FG_STAT_STATE, 1)]

@[inherit_doc fgOn]
def fgPlays : State := fgOn.put F.FG_STAT_STATE 0 2

@[inherit_doc fgOn]
def sampleHo : Ho := { slot := 4, epoch := 1, keep := true, d := 0 }

@[inherit_doc fgOn]
def hoOn (h : Ho) : State :=
  { fgPlays with fg := { preset := some samplePreset, ho := some h } }.put F.FG_STAT_STATE 0 4

/-- The header of an image of 4 bytes. -/
def sampleHeader : List Byte := [0x45, 0x56, 0x46, 0x57, 1, 0, 0, 0, 4, 0, 0, 0] ++ List.replicate 500 0

/-- Ring 0 with a record to send and a descriptor to fetch, under a translation mode. -/
def walking (mode : Nat) : State :=
  ((ringOn.setRing 0 { buf := [sampleHeld] }).put F.RING_TAIL_TAIL 0 1).put F.XLAT_CFG_MODE 0 mode

/-- A fault of an access, and ring 0 in FAULTED with it. -/
def ringFault (access : Nat) : RingFault := { access := access, cause := 1, desc := 0, off := 0, addr := 0x1000 }

@[inherit_doc ringFault]
def faulted (access : Nat) : State :=
  (ringOn.setRing 0 { fault := some (ringFault access) }).put F.RING_STAT_STATE 0 5

/-- Port 0 enabled and running, as it does at reset values. -/
def portOn : State := live.puts 0 [(H.ENABLE .ap, 1), (F.AP_STAT_STATE, 2)]

/-- The part with dialect 2 spoken on the management bus. -/
def spoken2 : State := live.put F.MGMT_STAT_DIALECT 0 2

/-! ### Witnesses -/

theorem witness_EmptyQueueTicks :
    (∃ (s : State), s.pending = [] ∧ s.mode = .off) ∧
    (∃ (s : State), s.pending = [] ∧ s.mode ≠ .off ∧ s.pllLocked = true ∧ s.clk.resume = false ∧ s.aonPhase < 7499) ∧
    (∃ (s : State), s.pending = [] ∧ s.mode ≠ .off ∧ s.pllLocked = true ∧ s.clk.resume = false ∧ 7499 ≤ s.aonPhase) ∧
    (∃ (s : State), s.pending = [] ∧ s.mode ≠ .off ∧ s.pllLocked = false) ∧
    (∃ (s : State), s.pending = [] ∧ s.mode ≠ .off ∧ s.clk.resume = true) :=
  ⟨⟨{}, by decide⟩,
    ⟨live, by decide⟩,
    ⟨{ live with aonPhase := 7499 }, by decide⟩,
    ⟨State.reset, by decide⟩,
    ⟨{ live with clk := { resume := true } }, by decide⟩⟩

theorem witness_RegisterWriteWidths :
    (∃ (a : Accessor) (s : State), s.Acts a .global (accIdx a) 0x68) ∧
    (∃ (a : Accessor) (addr v : Nat) (s t u : State), addr % 8 = 0 ∧ exec (.registerWrite a addr 4 (v % 2 ^ 32)) s = .next t ∧ exec (.registerWrite a (addr + 4) 4 (v / 2 ^ 32 % 2 ^ 32)) t = .next u) ∧
    (∃ (a : Accessor) (addr bytes : Nat) (b : Blk) (i off : Nat) (s : State), ¬ (bytes = 4 ∧ addr % 4 = 0) ∧ ¬ (bytes = 8 ∧ addr % 8 = 0) ∧ locate addr = some (b, i, off) ∧ s.reaches a = true ∧ s.present a b (viewInst a b i) = true) :=
  ⟨⟨.pf 0, live, by decide⟩,
    ⟨.pf 0, 0x68, 0x0000000100000002, live, _, _, by decide, rfl, rfl⟩,
    ⟨.pf 0, 0x6C, 8, .global, 0, 0x6C, live, by decide⟩⟩

theorem witness_UpperLatchCoherent :
    (∃ (a : Accessor) (s : State), s.reaches a = true) ∧
    (∃ (a : Accessor) (addr : Nat) (b : Blk) (i off : Nat) (s : State), addr % 4 = 0 ∧ locate addr = some (b, i, off) ∧ pairLow b off = true ∧ s.reaches a = true ∧ s.flrBusy a = false) :=
  ⟨⟨.pf 3, live, by decide⟩,
    ⟨.pf 0, 0x60, .global, 0, 0x60, live, by decide⟩⟩

theorem witness_FaultEntryLatches :
    ∃ (a : Accessor) (s : State) (e : FaultEntry), s.reaches a = true ∧ s.flrBusy a = false ∧ s.present a .fault (accView a) = true ∧ s.shows a .fault (accView a) 0x4C = true ∧ Tbl.get s.faults none (faultKey (accView a) (s.get F.FAULT_SEL_INDEX (accIdx a))) = some e ∧ (s.latch a).upper.find? (fun p => p.1 == 0x7204C) = none :=
  ⟨.pf 0, { live with faults := [(0, some sampleFault)] }, sampleFault, by decide⟩

theorem witness_PageSpeakSelects :
    (∃ (a : Accessor) (page : Fin 256) (inst : Fin 128) (w : Word) (b : Blk) (n : Nat) (s : State), pageInst page.val inst.val = some (b, n) ∧ b ≠ .tap ∧ s.reaches a = true ∧ s.present a b (viewInst a b n) = true ∧ s.flrBusy a = false ∧ (partitioned b && s.owner b (viewInst a b n) != accView a) = false ∧ (bits w.toNat 7 0 = 1 ∨ bits w.toNat 7 0 = 2)) ∧
    (∃ (a : Accessor) (page : Fin 256) (inst : Fin 128) (w : Word) (b : Blk) (n : Nat) (s : State), pageInst page.val inst.val = some (b, n) ∧ b ≠ .tap ∧ s.reaches a = true ∧ s.present a b (viewInst a b n) = true ∧ s.flrBusy a = false ∧ (partitioned b && s.owner b (viewInst a b n) != accView a) = false ∧ ¬ (bits w.toNat 7 0 = 1 ∨ bits w.toNat 7 0 = 2)) :=
  ⟨⟨.pf 0, 0, 0, 2, .global, 0, live, by decide⟩,
    ⟨.pf 0, 0, 0, 3, .global, 0, live, by decide⟩⟩

theorem witness_SpeakSelectsAll :
    ∃ (a : Accessor) (w : Word) (s : State) (p : Nat), s.Acts a .global (accIdx a) 0x48 ∧ (bits w.toNat 7 0 = 1 ∨ bits w.toNat 7 0 = 2) ∧ p < 256 ∧ s.speaks a p = true :=
  ⟨.pf 0, 1, live, 0, by decide⟩

theorem witness_ResetStarts :
    (∃ (a : Accessor) (b : Blk) (n : Nat) (w : Word) (s : State) (page : Fin 256) (inst : Fin 128) (m : Nat), bits w.toNat 3 2 = 0 ∧ bit w.toNat 1 = true ∧ s.HeadActs a b n (hdrCtrl b) true true ∧ s.powered b n = true ∧ s.on (H.RESET b) n = false ∧ s.resetRefused b n = false ∧ pageInst page.val inst.val = some (b, m) ∧ viewInst a b m = n) ∧
    (∃ (a : Accessor) (b : Blk) (n : Nat) (w : Word) (s : State) (f : Fin 8), bits w.toNat 3 2 = 0 ∧ bit w.toNat 1 = true ∧ s.HeadActs a b n (hdrCtrl b) true true ∧ s.powered b n = true ∧ s.on (H.RESET b) n = false ∧ s.resetRefused b n = false ∧ b = .fe ∧ f.val = n) ∧
    (∃ (a : Accessor) (b : Blk) (n : Nat) (w : Word) (s : State) (k : Fin 512), bits w.toNat 3 2 = 0 ∧ bit w.toNat 1 = true ∧ s.HeadActs a b n (hdrCtrl b) true true ∧ s.powered b n = true ∧ s.on (H.RESET b) n = false ∧ s.resetRefused b n = false ∧ b = .slot ∧ k.val = n) ∧
    (∃ (a : Accessor) (b : Blk) (n : Nat) (w : Word) (s : State) (c : Ctx), bits w.toNat 3 2 = 0 ∧ bit w.toNat 1 = true ∧ s.HeadActs a b n (hdrCtrl b) true true ∧ s.powered b n = true ∧ s.on (H.RESET b) n = false ∧ s.resetRefused b n = false ∧ b = c.blk ∧ c.num = n) ∧
    (∃ (a : Accessor) (b : Blk) (n : Nat) (w : Word) (s : State) (k : Fin 1024), bits w.toNat 3 2 = 0 ∧ bit w.toNat 1 = true ∧ s.HeadActs a b n (hdrCtrl b) true true ∧ s.powered b n = true ∧ s.on (H.RESET b) n = false ∧ s.resetRefused b n = false ∧ b = .tap ∧ k.val = n) ∧
    (∃ (a : Accessor) (b : Blk) (n : Nat) (w : Word) (s : State) (k : Fin 64), bits w.toNat 3 2 = 0 ∧ bit w.toNat 1 = true ∧ s.HeadActs a b n (hdrCtrl b) true true ∧ s.powered b n = true ∧ s.on (H.RESET b) n = false ∧ s.resetRefused b n = false ∧ b = .ring ∧ k.val = n) ∧
    (∃ (a : Accessor) (b : Blk) (n : Nat) (w : Word) (s : State) (k : Fin 8), bits w.toNat 3 2 = 0 ∧ bit w.toNat 1 = true ∧ s.HeadActs a b n (hdrCtrl b) true true ∧ s.powered b n = true ∧ s.on (H.RESET b) n = false ∧ s.resetRefused b n = false ∧ b = .ap ∧ k.val = n) :=
  ⟨⟨.pf 0, .cal, 0, 2, live, 0x18, 0, 0, by decide⟩,
    ⟨.pf 0, .fe, 4, 2, live, 4, by decide⟩,
    ⟨.pf 0, .slot, 511, 2, live, 511, by decide⟩,
    ⟨.pf 0, .drm, 23, 2, live, .drm 23, by decide⟩,
    ⟨.pf 0, .tap, 1023, 2, live, 1023, by decide⟩,
    ⟨.pf 0, .ring, 63, 2, live, 63, by decide⟩,
    ⟨.pf 0, .ap, 7, 2, live, 7, by decide⟩⟩

theorem witness_ResetEnds :
    ∃ (page : Fin 256) (inst : Fin 128) (b : Blk) (n : Nat) (r : Res) (s : State), pageInst page.val inst.val = some (b, n) ∧ ownRes b n = some r ∧ b ≠ .ring ∧ s.on (H.RESET b) n = true :=
  ⟨0x08, 0, .fe, 0, .fe 0, live.put (H.RESET .fe) 0 1, by decide⟩

theorem witness_LockAndPower :
    (∃ (a : Accessor) (page : Fin 256) (inst : Fin 128) (w : Word) (n m : Nat) (s : State), pageInst page.val inst.val = some (.cal, m) ∧ viewInst a .cal m = n ∧ bits w.toNat 4 1 = 8 ∧ s.HeadActs a .cal n 0x10 false true ∧ s.powered .cal n = true ∧ s.on (H.RESET .cal) n = false) ∧
    (∃ (a : Accessor) (page : Fin 256) (inst : Fin 128) (w : Word) (f : Nat) (s : State), pageInst page.val inst.val = some (.fe, f) ∧ w.toNat = 4 ∧ isManager a = true ∧ s.HeadActs a .fe f 0x10 false true ∧ s.powered .fe f = false ∧ s.devMoves = false ∧ (s.dom (s.domainOf .fe f)).run = none ∧ (s.dom (s.domainOf .fe f)).on = false ∧ s.prereqOk (s.domainOf .fe f) = true) :=
  ⟨⟨.pf 0, 0x18, 0, 0x10, 0, 0, live, by decide⟩,
    ⟨.pf 0, 0x08, 0, 4, 0, live.setDom (live.domainOf .fe 0) {}, by decide⟩⟩

theorem witness_EventClear :
    (∃ (a : Accessor) (page : Fin 256) (inst : Fin 128) (b : Blk) (m n : Nat) (s : State), pageInst page.val inst.val = some (b, m) ∧ viewInst a b m = n ∧ b ≠ .tap ∧ b ≠ .slot ∧ s.HeadActs a b n 0x18 false false) ∧
    (∃ (a : Accessor) (page : Fin 256) (inst : Fin 128) (b : Blk) (m n : Nat) (s : State), pageInst page.val inst.val = some (b, m) ∧ viewInst a b m = n ∧ b ≠ .tap ∧ s.HeadActs a b n 0x20 false false) ∧
    (∃ (a : Accessor) (page : Fin 256) (inst : Fin 128) (w same : Word) (b : Blk) (m n e : Nat) (s : State), pageInst page.val inst.val = some (b, m) ∧ viewInst a b m = n ∧ b ≠ .tap ∧ e < 32 ∧ bit w.toNat e = true ∧ bit same.toNat e = true ∧ s.HeadActs a b n 0x18 false false ∧ bit (s.get (H.EVT b) (evtInst a b n)) e = true) ∧
    (∃ (a : Accessor) (page : Fin 256) (inst : Fin 128) (w same : Word) (b : Blk) (m n e : Nat) (s : State), pageInst page.val inst.val = some (b, m) ∧ viewInst a b m = n ∧ b ≠ .tap ∧ e < 32 ∧ bit w.toNat e = true ∧ bit same.toNat e = true ∧ s.HeadActs a b n 0x20 false false ∧ bit (s.get (H.EVT_AGAIN b) (evtInst a b n)) e = true) ∧
    (∃ (b : Blk) (n e : Nat) (u : State), e < 32 ∧ bit (u.get (H.EVT b) n) e = true) :=
  ⟨⟨.pf 0, 0x10, 0, .bank, 0, 0, live, by decide⟩,
    ⟨.pf 0, 0x10, 0, .bank, 0, 0, live, by decide⟩,
    ⟨.pf 0, 0x08, 0, 0x80000000, 0x80000000, .fe, 0, 0, 31, live.put (H.EVT .fe) 0 (2 ^ 31), by decide⟩,
    ⟨.pf 0, 0x08, 0, 1, 1, .fe, 0, 0, 0, live.put (H.EVT_AGAIN .fe) 0 1, by decide⟩,
    ⟨.fe, 7, 31, live.put (H.EVT .fe) 7 (2 ^ 31), by decide⟩⟩

theorem witness_TurnedAwayWrites :
    (∃ (a : Accessor) (b : Blk) (n off : Nat) (r : Reason) (s : State), s.reaches a = true ∧ s.present a b n = true ∧ s.gateReg a b n off = some r) ∧
    (∃ (a : Accessor) (b : Blk) (n off : Nat) (h : State → Except Reason State) (r : Reason) (s : State), s.Acts a b n off ∧ h s = .error r) :=
  ⟨⟨.pf 0, .fe, 0, 0x40, .busy, live.put (H.RESET .fe) 0 1, by decide⟩,
    ⟨.pf 0, .global, 0, 0x68, fun _ => .error .range, .range, live, by decide, rfl⟩⟩

theorem witness_Tuning :
    (∃ (a : Accessor) (f : Fin 8) (w : Word) (s : State), s.ActsNow a .fe f.val 0x54 w ∧ bit w.toNat 0 = true ∧ s.isPaired f.val = false ∧ s.isSpare f.val = false ∧ s.get F.FE_STAT_STATE f.val ≠ 4 ∧ (s.fe f.val).probe = none ∧ (s.fe f.val).queued = none ∧ s.on F.FE_STAT_HANDOVER f.val = false ∧ s.on F.FE_STAT_SCOUT_USE f.val = false ∧ windowOk f.val (s.get F.FE_WIN_START_START f.val) (s.get F.FE_WIN_SPAN_SPAN f.val) (s.get F.FE_IF_POLARITY f.val) = true ∧ (∀ p ∈ s.enabledSlots f.val, sbInWindow f.val p.2.subband (s.get F.FE_WIN_START_START f.val) (s.get F.FE_WIN_SPAN_SPAN f.val) (s.get F.FE_IF_POLARITY f.val) = true) ∧ 2 ≤ s.get F.FE_STAT_STATE f.val) ∧
    (∃ (a : Accessor) (f : Fin 8) (w : Word) (s : State), s.ActsNow a .fe f.val 0x54 w ∧ bit w.toNat 0 = true ∧ s.isPaired f.val = false ∧ s.isSpare f.val = false ∧ s.get F.FE_STAT_STATE f.val = 4) ∧
    (∃ (a : Accessor) (f : Fin 8) (w : Word) (s : State), s.ActsNow a .fe f.val 0x54 w ∧ bit w.toNat 0 = true ∧ s.isPaired f.val = false ∧ s.isSpare f.val = false ∧ (s.fe f.val).queued ≠ none) ∧
    (∃ (f : Fin 8) (s : State), s.isPaired f.val = false ∧ (s.fe f.val).retuneDue = true) ∧
    (∃ (f : Fin 8) (s : State), s.isPaired f.val = false ∧ (s.fe f.val).retuneDue = false ∧ s.on F.FE_STAT_RETUNING f.val = true) :=
  ⟨⟨.pf 0, 0, 0x01000001, receiving.puts 0 [(F.FE_WIN_START_START, 88000), (F.FE_WIN_SPAN_SPAN, 20000)], by decide⟩,
    ⟨.pf 0, 0, 0x01000001, receiving.put F.FE_STAT_STATE 0 4, by decide⟩,
    ⟨.pf 0, 0, 0x01000001, receiving.setFe 0 { queued := some {} }, by decide⟩,
    ⟨0, receiving.setFe 0 { retuneDue := true }, by decide⟩,
    ⟨0, receiving.put F.FE_STAT_RETUNING 0 1, by decide⟩⟩

theorem witness_FeStates :
    (∃ (a : Accessor) (f : Fin 8) (w : Word) (s : State), s.Acts a .fe f.val 0x40 ∧ bits w.toNat 2 0 < 4 ∧ bits w.toNat 5 4 = s.get F.FE_CTRL_INPUT f.val ∧ bits w.toNat 5 4 < 2 ∧ f.val < 5 ∧ s.isSpare f.val = false ∧ s.isPaired f.val = false ∧ s.on F.FE_STAT_SCOUT_USE f.val = false ∧ bits w.toNat 2 0 ≠ s.get F.FE_CTRL_STATE f.val) ∧
    (∃ (n : Nat) (s : State), (s.fe n).step = none ∧ (s.fe n).probe = none ∧ (s.fe n).calStep = none ∧ s.get F.FE_STAT_STATE n ≠ s.get F.FE_CTRL_STATE n) ∧
    (∃ (f : Fin 8) (x : Nat) (s : State), (s.fe f.val).step = some x ∧ (s.fe f.val).qcal = false ∧ s.isPaired f.val = false ∧ (x = 3 → s.lineLocked (s.hwOf f.val) = true)) ∧
    (∃ (f : Fin 8) (x : Nat) (s : State), (s.fe f.val).step = some x ∧ (s.fe f.val).qcal = false ∧ s.isPaired f.val = false ∧ x = 3 ∧ s.lineLocked (s.hwOf f.val) = true) ∧
    (∃ (n : Nat) (s : State), s.get F.FE_STAT_STATE n = 2 ∧ s.get F.FE_CTRL_STATE n = 3 ∧ (s.fe n).probe = none) :=
  ⟨⟨.pf 0, 4, 3, live, by decide⟩,
    ⟨0, live.put F.FE_CTRL_STATE 0 3, by decide⟩,
    ⟨0, 2, live.setFe 0 { step := some 2 }, by decide⟩,
    ⟨0, 3, (live.setFe 0 { step := some 3 }).put F.LINE_STAT_STATE 0 3, by decide⟩,
    ⟨0, live.puts 0 [(F.FE_STAT_STATE, 2), (F.FE_CTRL_STATE, 3)], by decide⟩⟩

theorem witness_FeConditions :
    (∃ (f : Fin 8) (s : State), (s.fe f.val).qcal = true) ∧
    (∃ (f : Fin 8) (s : State), 2 ≤ s.get F.FE_STAT_STATE f.val ∧ s.on F.FE_STAT_LOCKED f.val = true ∧ s.on F.FE_STAT_RETUNING f.val = false ∧ (s.fe f.val).probe = none) ∧
    (∃ (f : Fin 8) (s : State), (s.fe f.val).relock = true ∧ s.get F.CLK_STAT_REF_ACT 0 ≠ 0 ∧ s.pllLocked = true) ∧
    (∃ (f : Fin 8) (s : State), s.get F.FE_STAT_STATE f.val = 0) ∧
    (∃ (f : Fin 8) (temp : Int) (s : State), s.powered .fe f.val = true ∧ s.on F.FE_STAT_STALE f.val = false ∧ 8 < temp - sgn 10 (s.getE F.CAL_WIN_TEMP 0 f.val)) ∧
    (∃ (f : Fin 8) (temp : Int) (s : State), s.powered .fe f.val = true ∧ s.on F.FE_STAT_STALE f.val = false ∧ -8 ≤ temp - sgn 10 (s.getE F.CAL_WIN_TEMP 0 f.val) ∧ temp - sgn 10 (s.getE F.CAL_WIN_TEMP 0 f.val) ≤ 8) :=
  ⟨⟨7, live.setFe 7 { qcal := true }, by decide⟩,
    ⟨0, receiving, by decide⟩,
    ⟨0, (live.setFe 0 { relock := true }).put F.CLK_STAT_REF_ACT 0 1, by decide⟩,
    ⟨0, live, by decide⟩,
    ⟨0, 9, live.put F.FE_STAT_STALE 0 0, by decide⟩,
    ⟨0, 8, live.put F.FE_STAT_STALE 0 0, by decide⟩⟩

theorem witness_Probes :
    (∃ (a : Accessor) (f : Fin 8) (w : Word) (s : State), s.ActsNow a .fe f.val 0x6C w ∧ bit w.toNat 0 = true ∧ s.isSpare f.val = false ∧ s.on F.FE_STAT_SCOUT_USE f.val = false ∧ s.get F.FE_PROBE_CFG_TONE_KHZ f.val ≤ s.get F.FE_APPLIED_SPAN_SPAN f.val ∧ 2 ≤ s.get F.FE_CTRL_STATE f.val ∧ s.probeReady f.val = true ∧ (s.fe f.val).queued = none) ∧
    (∃ (a : Accessor) (f : Fin 8) (w : Word) (s : State), s.ActsNow a .fe f.val 0x6C w ∧ bit w.toNat 0 = true ∧ s.isSpare f.val = false ∧ s.on F.FE_STAT_SCOUT_USE f.val = false ∧ s.get F.FE_PROBE_CFG_TONE_KHZ f.val ≤ s.get F.FE_APPLIED_SPAN_SPAN f.val ∧ 2 ≤ s.get F.FE_CTRL_STATE f.val ∧ s.probeReady f.val = false ∧ s.on F.FE_PROBE_CFG_PROBE_NOWAIT f.val = false ∧ (s.fe f.val).queued = none) ∧
    (∃ (a : Accessor) (f : Fin 8) (w : Word) (s : State), s.ActsNow a .fe f.val 0x6C w ∧ bit w.toNat 0 = true ∧ s.isSpare f.val = false ∧ s.on F.FE_STAT_SCOUT_USE f.val = false ∧ s.get F.FE_PROBE_CFG_TONE_KHZ f.val ≤ s.get F.FE_APPLIED_SPAN_SPAN f.val ∧ s.get F.FE_CTRL_STATE f.val < 2) ∧
    (∃ (f : Fin 8) (p : Probe) (s : State), (s.fe f.val).queued = some p ∧ s.probeReady f.val = true) ∧
    (∃ (f : Fin 8) (p : Probe) (s : State), (s.fe f.val).probe = some p ∧ p.sweep = none ∧ s.get F.FE_STAT_STATE f.val = 4 ∧ f.val < 5) ∧
    (∃ (n : Nat) (s : State), n < 8 ∧ s.get F.FE_CTRL_STATE n = 2) :=
  ⟨⟨.pf 0, 0, 0x01000001, receiving, by decide⟩,
    ⟨.pf 0, 0, 0x01000001, receiving.put F.FE_STAT_LOCKED 0 0, by decide⟩,
    ⟨.pf 0, 0, 0x01000001, live, by decide⟩,
    ⟨0, {}, receiving.setFe 0 { queued := some {} }, by decide⟩,
    ⟨4, {}, (live.setFe 4 { probe := some {} }).put F.FE_STAT_STATE 4 4, by decide⟩,
    ⟨7, live.put F.FE_CTRL_STATE 7 2, by decide⟩⟩

theorem witness_Bursts :
    (∃ (a : Accessor) (f : Fin 8) (w : Word) (s : State), s.ActsNow a .fe f.val 0x88 w ∧ s.isSpare f.val = false ∧ s.on F.FE_STAT_SCOUT_USE f.val = false ∧ bits w.toNat 0 0 = 1 ∧ bits w.toNat 1 1 = 0 ∧ s.on F.FE_BURST_UNIT f.val = false) ∧
    (∃ (a : Accessor) (f : Fin 8) (w : Word) (s : State) (b : Burst), s.ActsNow a .fe f.val 0x88 w ∧ s.isSpare f.val = false ∧ s.on F.FE_STAT_SCOUT_USE f.val = false ∧ bits w.toNat 0 0 = 0 ∧ bits w.toNat 1 1 = 1 ∧ (s.fe f.val).burst = some b) ∧
    (∃ (a : Accessor) (f : Fin 8) (w : Word) (s : State), s.ActsNow a .fe f.val 0x88 w ∧ s.isSpare f.val = false ∧ s.on F.FE_STAT_SCOUT_USE f.val = false ∧ bits w.toNat 0 0 = 1 ∧ bits w.toNat 1 1 = 1) ∧
    (∃ (f : Fin 8) (b : Burst) (s : State), (s.fe f.val).burst = some b ∧ b.counting = true ∧ b.len ≤ s.get F.FE_BURST_DONE_COUNT f.val) ∧
    (∃ (f : Fin 8) (b : Burst) (s : State), (s.fe f.val).burst = some b ∧ b.counting = true ∧ b.frames = true) :=
  ⟨⟨.pf 0, 0, 0x01000001, live, by decide⟩,
    ⟨.pf 0, 0, 0x01000002, live.setFe 0 { burst := some sampleBurst }, sampleBurst, by decide⟩,
    ⟨.pf 0, 0, 0x01000003, live, by decide⟩,
    ⟨0, sampleBurst, (live.setFe 0 { burst := some sampleBurst }).put F.FE_BURST_DONE_COUNT 0 9, by decide⟩,
    ⟨0, sampleBurst, live.setFe 0 { burst := some sampleBurst }, by decide⟩⟩

theorem witness_GainControl :
    (∃ (f : Fin 8) (peak : Int) (s : State), s.get F.FE_STAT_STATE f.val = 3 ∧ s.get F.FE_GAIN_MODE f.val = 0 ∧ -50 * (s.get F.FE_AGC_HI f.val : Int) < peak) ∧
    (∃ (f : Fin 8) (peak : Int) (s : State), s.get F.FE_STAT_STATE f.val = 3 ∧ s.get F.FE_GAIN_MODE f.val = 0 ∧ peak ≤ -50 * (s.get F.FE_AGC_HI f.val : Int) ∧ peak < -50 * (s.get F.FE_AGC_LO f.val : Int) ∧ (s.fe f.val).upCount + 1 = s.get F.FE_AGC_UP_HOLD f.val) ∧
    (∃ (f : Fin 8) (peak : Int) (s : State), s.get F.FE_STAT_STATE f.val = 3 ∧ s.get F.FE_GAIN_MODE f.val = 0 ∧ peak ≤ -50 * (s.get F.FE_AGC_HI f.val : Int) ∧ -50 * (s.get F.FE_AGC_LO f.val : Int) ≤ peak) ∧
    (∃ (f : Fin 8) (s : State), s.get F.FE_STAT_STATE f.val = 3 ∧ s.get F.FE_GAIN_MODE f.val ≠ 0) ∧
    (∃ (f : Fin 8) (i : Nat) (s : State), (s.fe f.val).gainNext = some i ∧ i ≠ s.get F.FE_GAIN_STAT_INDEX f.val ∧ 0 < i ∧ i < maxGain f.val ∧ (s.hand (kindOf f.val)).run = none) :=
  ⟨⟨0, -499, receiving.puts 0 [(F.FE_AGC_HI, 10), (F.FE_AGC_LO, 40), (F.FE_AGC_UP_HOLD, 1)], by decide⟩,
    ⟨0, -2001, receiving.puts 0 [(F.FE_AGC_HI, 10), (F.FE_AGC_LO, 40), (F.FE_AGC_UP_HOLD, 1)], by decide⟩,
    ⟨0, -500, receiving.puts 0 [(F.FE_AGC_HI, 10), (F.FE_AGC_LO, 40), (F.FE_AGC_UP_HOLD, 1)], by decide⟩,
    ⟨0, receiving.put F.FE_GAIN_MODE 0 1, by decide⟩,
    ⟨0, 1, (live.setFe 0 { gainNext := some 1 }).put F.FE_GAIN_STAT_INDEX 0 2, by decide⟩⟩

theorem witness_PairsAndSpares :
    (∃ (a : Accessor) (f : Fin 8) (w : Word) (s : State) (g : Nat), s.Acts a .fe f.val 0x90 ∧ s.on F.FE_STAT_SCOUT_USE f.val = false ∧ bits w.toNat 1 0 = 1 ∧ s.get F.FE_ROLE_ROLE f.val = 0 ∧ s.pairRefused f.val (bits w.toNat 6 4) = false ∧ s.freeGroup = some g) ∧
    (∃ (a : Accessor) (f : Fin 8) (w : Word) (s : State), s.Acts a .fe f.val 0x90 ∧ s.on F.FE_STAT_SCOUT_USE f.val = false ∧ bits w.toNat 1 0 = 0 ∧ s.get F.FE_ROLE_ROLE f.val = 1 ∧ s.diversityOn f.val = false) ∧
    (∃ (a : Accessor) (f : Fin 8) (w : Word) (s : State), s.Acts a .fe f.val 0x90 ∧ s.on F.FE_STAT_SCOUT_USE f.val = false ∧ bits w.toNat 1 0 = 0 ∧ s.get F.FE_ROLE_ROLE f.val = 1 ∧ s.diversityOn f.val = true) ∧
    (∃ (a : Accessor) (f : Fin 8) (w : Word) (s : State), s.Acts a .fe f.val 0x90 ∧ s.on F.FE_STAT_SCOUT_USE f.val = false ∧ bits w.toNat 1 0 = 2 ∧ s.get F.FE_ROLE_ROLE f.val = 0 ∧ s.spareRefused f.val = false) ∧
    (∃ (a : Accessor) (f : Fin 8) (w : Word) (s : State), s.Acts a .fe f.val 0x90 ∧ s.on F.FE_STAT_SCOUT_USE f.val = false ∧ bits w.toNat 1 0 = 2 ∧ s.get F.FE_ROLE_ROLE f.val = 0 ∧ (s.sparePage (kindOf f.val)).isSome = true) ∧
    (∃ (n p g : Nat), n < p ∧ p < 5 ∧ g < 64) ∧
    (∃ (n p g : Nat) (s : State), n < 8 ∧ p < 8 ∧ n ≠ p ∧ s.partner n = p ∧ s.get F.FE_ROLE_AG n = g) :=
  ⟨⟨.pf 0, 0, 0x11, live, 0, by decide⟩,
    ⟨.pf 0, 0, 0, live.formPair 0 1 5, by decide⟩,
    ⟨.pf 0, 0, 0, ((live.formPair 0 1 5).setSlot 3 { applied := some { sampleBind with div := true } }).put (H.ENABLE .slot) 3 1, by decide⟩,
    ⟨.pf 0, 0, 2, live, by decide⟩,
    ⟨.pf 0, 0, 2, live.put F.FE_ROLE_ROLE 1 2, by decide⟩,
    ⟨0, 4, 63, by decide⟩,
    ⟨0, 1, 5, live.formPair 0 1 5, by decide⟩⟩

theorem witness_CalibrationSteps :
    (∃ (f : Fin 8) (s : State), s.effective f.val = 1 ∧ s.get F.FE_STAT_STATE f.val = 2 ∧ s.get F.FE_CTRL_STATE f.val = 2 ∧ (s.fe f.val).step = none ∧ (s.fe f.val).queued = none ∧ (s.fe f.val).probe = none ∧ (s.fe f.val).calStep = none ∧ s.on F.FE_STAT_RETUNING f.val = false ∧ s.on F.FE_STAT_LOCKED f.val = true) ∧
    (∃ (f : Fin 8) (s : State), s.effective f.val = 2 ∧ s.get F.FE_STAT_STATE f.val = 3 ∧ (s.fe f.val).step = none ∧ (s.fe f.val).queued = none ∧ (s.fe f.val).probe = none ∧ (s.fe f.val).calStep = none ∧ s.on F.FE_STAT_RETUNING f.val = false ∧ (s.fe f.val).relock = false) ∧
    (∃ (f : Fin 8) (i : Nat) (s : State), (s.fe f.val).calStep = some i) ∧
    (∃ (n i : Nat) (s : State), n < 8 ∧ i < 40 ∧ (s.hw (s.hwOf n)).failed = []) :=
  ⟨⟨0, live.puts 0 [(F.FE_STAT_STATE, 2), (F.FE_CTRL_STATE, 2), (F.FE_STAT_LOCKED, 1)], by decide⟩,
    ⟨0, receiving.put F.FE_CAL_POLICY 0 2, by decide⟩,
    ⟨7, 39, live.setFe 7 { calStep := some 39 }, by decide⟩,
    ⟨7, 39, live, by decide⟩⟩

theorem witness_Rotation :
    (∃ (lmh : Bool) (n sp : Nat) (s : State), s.sparePage (b2n lmh) = some sp ∧ (s.hand (b2n lmh)).run = none ∧ (s.hand (b2n lmh)).fullCal = false ∧ s.nextWindow (b2n lmh) = some n) ∧
    (∃ (a : Accessor) (w : Word) (sp : Nat) (s : State), s.Acts a .cal 0 0x48 ∧ bit w.toNat 3 = true ∧ s.eligible (bits w.toNat 2 0) = true ∧ s.sparePage (kindOf (bits w.toNat 2 0)) = some sp ∧ (s.hand (kindOf (bits w.toNat 2 0))).run = none ∧ (s.hand (kindOf (bits w.toNat 2 0))).fullCal = false) ∧
    (∃ (a : Accessor) (w : Word) (s : State), s.Acts a .cal 0 0x48 ∧ bit w.toNat 3 = true ∧ s.eligible (bits w.toNat 2 0) = false) ∧
    (∃ (lmh : Bool) (gain phase delay : Int) (w sp : Nat) (s : State), (s.hand (b2n lmh)).run = some (w, sp) ∧ (s.hand (b2n lmh)).passed = false ∧ (-20 ≤ gain ∧ gain ≤ 20 ∧ -20 ≤ phase ∧ phase ≤ 20 ∧ -16 ≤ delay ∧ delay ≤ 16)) ∧
    (∃ (lmh : Bool) (gain phase delay : Int) (w sp : Nat) (s : State), (s.hand (b2n lmh)).run = some (w, sp) ∧ (s.hand (b2n lmh)).passed = false ∧ ¬ (-20 ≤ gain ∧ gain ≤ 20 ∧ -20 ≤ phase ∧ phase ≤ 20 ∧ -16 ≤ delay ∧ delay ≤ 16)) ∧
    (∃ (lmh : Bool) (w sp : Nat) (s : State), (s.hand (b2n lmh)).run = some (w, sp) ∧ (s.hand (b2n lmh)).passed = true ∧ w < 8 ∧ sp < 8 ∧ w ≠ sp ∧ s.hwOf sp < 8 ∧ s.hwOf w < 8) ∧
    (∃ (lmh : Bool) (sp : Nat) (s : State), (s.hand (b2n lmh)).fullCal = true ∧ (s.hand (b2n lmh)).due = none ∧ s.sparePage (b2n lmh) = some sp) :=
  ⟨⟨false, 0, 1, withSpare, by decide⟩,
    ⟨.pf 0, 8, 1, withSpare, by decide⟩,
    ⟨.pf 0, 15, withSpare, by decide⟩,
    ⟨false, 20, -20, 16, 0, 1, withSpare.setHand 0 { run := some (0, 1) }, by decide⟩,
    ⟨false, 21, 0, 0, 0, 1, withSpare.setHand 0 { run := some (0, 1) }, by decide⟩,
    ⟨false, 0, 1, handing, by decide⟩,
    ⟨false, 1, withSpare.setHand 0 { fullCal := true }, by decide⟩⟩

theorem witness_TunersAndSweeps :
    (∃ (a : Accessor) (p : Fin 3) (s : State), s.Acts a .aerial 0 (0x90 + 4 * p.val) ∧ (s.tuner p.val).sweeping = none ∧ s.portWindow p.val = none) ∧
    (∃ (a : Accessor) (p : Fin 3) (s : State) (n : Nat), s.Acts a .aerial 0 (0x90 + 4 * p.val) ∧ (s.tuner p.val).sweeping = none ∧ s.portWindow p.val = some n) ∧
    (∃ (a : Accessor) (p : Fin 3) (s : State), s.Acts a .aerial 0 (0x90 + 4 * p.val) ∧ (s.tuner p.val).sweeping ≠ none) ∧
    (∃ (a : Accessor) (w : Word) (n : Nat) (s : State), s.Acts a .aerial 0 0xB8 ∧ bit w.toNat 2 = true ∧ bits w.toNat 1 0 < 3 ∧ s.portWindow (bits w.toNat 1 0) = some n ∧ s.getE F.AER_SWEEP_CFG_L_MASK 0 (bits w.toNat 1 0) ≠ 0 ∧ s.on F.FE_STAT_SCOUT_USE n = false ∧ s.tuned n = true ∧ s.get F.FE_APPLIED_START_START n ≤ s.getE F.AER_SWEEP_CFG_FREQ 0 (bits w.toNat 1 0) ∧ s.getE F.AER_SWEEP_CFG_FREQ 0 (bits w.toNat 1 0) ≤ s.get F.FE_APPLIED_START_START n + s.get F.FE_APPLIED_SPAN_SPAN n ∧ 2 ≤ s.get F.FE_CTRL_STATE n ∧ s.on F.FE_PROBE_CFG_PROBE_NOWAIT n = false ∧ (s.tuner (bits w.toNat 1 0)).sweeping = none) ∧
    (∃ (p : Fin 3) (n : Nat) (q : Probe) (s : State), (s.tuner p.val).sweeping = some n ∧ (s.fe n).probe = some q ∧ q.sweep = some p.val ∧ s.get F.FE_STAT_STATE n = 4) :=
  ⟨⟨.pf 0, 2, live.put F.FE_CTRL_INPUT 7 0, by decide⟩,
    ⟨.pf 0, 0, live, 5, by decide⟩,
    ⟨.pf 0, 0, live.setTuner 0 { sweeping := some 5 }, by decide⟩,
    ⟨.pf 0, 4, 5, (live.puts 5 [(F.FE_LO_HZ_LO, 1000000), (F.FE_CTRL_STATE, 2), (F.FE_APPLIED_START_START, 1000), (F.FE_APPLIED_SPAN_SPAN, 500)]).puts 0 [(F.AER_SWEEP_CFG_L_MASK, 1), (F.AER_SWEEP_CFG_FREQ, 1500)], by decide⟩,
    ⟨2, 5, { sweep := some 2 }, ((live.setTuner 2 { sweeping := some 5 }).setFe 5 { probe := some { sweep := some 2 } }).put F.FE_STAT_STATE 5 4, by decide⟩⟩

theorem witness_AerialMonitors :
    (∃ (p : Fin 5) (current : Fin 65536) (s : State), bit (s.get F.AER_BIAS_EN 0) p.val = true ∧ s.getE F.AER_BIAS_MEAS_CUT 0 p.val = 0 ∧ s.domOn 1 = true ∧ s.getE F.AER_BIAS_LIM_OPEN 0 p.val ≤ current.val ∧ current.val ≤ s.getE F.AER_BIAS_LIM_SHORT 0 p.val) ∧
    (∃ (p : Fin 5) (current : Fin 65536) (s : State), bit (s.get F.AER_BIAS_EN 0) p.val = true ∧ s.getE F.AER_BIAS_MEAS_CUT 0 p.val = 0 ∧ s.domOn 1 = true ∧ s.getE F.AER_BIAS_LIM_OPEN 0 p.val ≤ current.val ∧ s.getE F.AER_BIAS_LIM_SHORT 0 p.val < current.val ∧ (s.aerial p.val).high = 1) ∧
    (∃ (p : Fin 5) (floor : Int) (s : State), s.domOn 1 = true ∧ -32767 ≤ floor ∧ floor ≤ 32767 ∧ s.portServed p.val = false) ∧
    (∃ (p : Fin 5) (floor : Int) (s : State), s.domOn 1 = true ∧ -32767 ≤ floor ∧ floor ≤ 32767 ∧ s.portServed p.val = true ∧ s.getE F.AER_NF_REF 0 p.val = 0x8000) ∧
    (∃ (p : Fin 5) (floor : Int) (s : State), s.domOn 1 = true ∧ -32767 ≤ floor ∧ floor ≤ 32767 ∧ s.portServed p.val = true ∧ s.getE F.AER_NF_REF 0 p.val ≠ 0x8000 ∧ (s.aerial p.val).dropped = false ∧ 5 * (s.get F.AER_NF_CFG_DROP 0 : Int) < sgn 16 (s.getE F.AER_NF_REF 0 p.val) - floor) ∧
    (∃ (a : Accessor) (w : Word) (s : State), s.Acts a .aerial 0 0x88 ∧ (plainWrite .aerial 0 0x88 (s.major a 0x19) w s).isOk = true) :=
  ⟨⟨4, 100, ((live.puts 0 [(F.AER_BIAS_EN, 31)]).putE F.AER_BIAS_LIM_OPEN 0 4 100).putE F.AER_BIAS_LIM_SHORT 0 4 100, by decide⟩,
    ⟨4, 101, (((live.puts 0 [(F.AER_BIAS_EN, 31)]).putE F.AER_BIAS_LIM_OPEN 0 4 100).putE F.AER_BIAS_LIM_SHORT 0 4 100).setAerial 4 { high := 1 }, by decide⟩,
    ⟨4, -32767, live, by decide⟩,
    ⟨0, 32767, receiving.putE F.AER_NF_REF 0 0 0x8000, by decide⟩,
    ⟨0, -32767, receiving.putE F.AER_NF_REF 0 0 0, by decide⟩,
    ⟨.pf 0, 0x10C, live, by decide⟩⟩

theorem witness_SlotCommits :
    (∃ (a : Accessor) (n : Fin 512) (w : Word) (s : State), s.ActsNow a .slot n.val 0x54 w ∧ bit w.toNat 0 = true ∧ s.on F.SLOT_STAT_SHADOW n.val = false ∧ s.enabled .slot n.val = false ∧ (s.staged n.val).kind ≠ 0 ∧ (s.staged n.val).div = false ∧ s.commitOk n.val (s.staged n.val) = true ∧ ((s.releaseShadow n.val).applyBind n.val (s.staged n.val)).isSome = true) ∧
    (∃ (a : Accessor) (n : Fin 512) (w : Word) (s : State), s.ActsNow a .slot n.val 0x54 w ∧ bit w.toNat 0 = true ∧ s.on F.SLOT_STAT_SHADOW n.val = false ∧ s.enabled .slot n.val = false ∧ (s.staged n.val).kind ≠ 0 ∧ (s.staged n.val).div = false ∧ s.commitOk n.val (s.staged n.val) = false) ∧
    (∃ (n : Nat) (s : State), s.slotGroup n = none ∧ (s.slot n).target + 0 ≤ maxDelay ∧ linePots (s.slot n).target ≤ (s.potsOf (.slotLine n)).length) ∧
    (∃ (a : Accessor) (n : Fin 512) (w : Word) (s : State), s.ActsNow a .slot n.val 0x54 w ∧ bit w.toNat 0 = true ∧ s.on F.SLOT_STAT_SHADOW n.val = false ∧ s.enabled .slot n.val = false ∧ (s.staged n.val).kind = 0 ∧ s.slotGroup n.val = none ∧ s.shadowOf n.val = none) ∧
    (∃ (b : Bind), b.kind = 1 ∧ b.window < 5) :=
  ⟨⟨.pf 0, 3, 0x01000001, slotted, by decide +kernel⟩,
    ⟨.pf 0, 511, 0x01000001, slotted.put F.SLOT_BIND_KIND 511 1, by decide⟩,
    ⟨3, slotted.setSlot 3 { target := 255 * 1024 + 1023 }, by decide⟩,
    ⟨.pf 0, 0, 0x01000001, slotted, by decide⟩,
    ⟨{ sampleBind with window := 4 }, by decide⟩⟩

theorem witness_SlotRuns :
    (∃ (a : Accessor) (n : Fin 512) (w : Word) (s : State) (b : Bind), s.HeadActs a .slot n.val 0x10 false true ∧ bits w.toNat 4 1 = 0 ∧ s.powered .slot n.val = true ∧ s.on (H.RESET .slot) n.val = false ∧ s.on F.SLOT_STAT_SHADOW n.val = false ∧ s.shadowOf n.val = none ∧ bit w.toNat 0 = true ∧ s.enabled .slot n.val = false ∧ (s.slot n.val).applied = some b ∧ b.kind ≠ 0) ∧
    (∃ (a : Accessor) (n : Fin 512) (w : Word) (s : State), s.HeadActs a .slot n.val 0x10 false true ∧ bits w.toNat 4 1 = 0 ∧ s.powered .slot n.val = true ∧ s.on (H.RESET .slot) n.val = false ∧ s.on F.SLOT_STAT_SHADOW n.val = false ∧ s.shadowOf n.val = none ∧ bit w.toNat 0 = true ∧ s.enabled .slot n.val = false ∧ (s.slot n.val).applied = none) ∧
    (∃ (a : Accessor) (n : Fin 512) (w : Word) (s : State), s.HeadActs a .slot n.val 0x10 false true ∧ bits w.toNat 4 1 = 0 ∧ s.powered .slot n.val = true ∧ s.on (H.RESET .slot) n.val = false ∧ s.on F.SLOT_STAT_SHADOW n.val = false ∧ s.shadowOf n.val = none ∧ bit w.toNat 0 = false ∧ s.enabled .slot n.val = true) ∧
    (∃ (n : Fin 512) (s : State), (s.slot n.val).startDue = true) ∧
    (∃ (n : Fin 512) (s : State), (s.slot n.val).stopDue = true) ∧
    (∃ (n : Nat) (b : Bind) (s : State), (s.slot n).applied = some b ∧ b.context = none ∧ n < 512) :=
  ⟨⟨.pf 0, 511, 1, slotted.setSlot 511 { applied := some sampleBind }, sampleBind, by decide⟩,
    ⟨.pf 0, 3, 1, slotted, by decide⟩,
    ⟨.pf 0, 4, 0, slotted, by decide⟩,
    ⟨511, slotted.setSlot 511 { startDue := true }, by decide⟩,
    ⟨0, slotted.setSlot 0 { stopDue := true }, by decide⟩,
    ⟨4, sampleBind, slotted, by decide⟩⟩

theorem witness_Delays :
    (∃ (a : Accessor) (n : Fin 512) (w : Word) (s : State), s.ActsNow a .slot n.val 0x60 w ∧ bit w.toNat 0 = true ∧ s.on F.SLOT_STAT_SHADOW n.val = false ∧ s.shadowOf n.val = none ∧ maxDelay < s.get F.SLOT_DLY_INT n.val * 1024 + s.get F.SLOT_DLY_FRAC n.val + s.eqOf n.val) ∧
    (∃ (a : Accessor) (n : Fin 512) (w : Word) (s : State), s.ActsNow a .slot n.val 0x60 w ∧ bit w.toNat 0 = true ∧ s.on F.SLOT_STAT_SHADOW n.val = false ∧ s.shadowOf n.val = none ∧ s.get F.SLOT_DLY_INT n.val * 1024 + s.get F.SLOT_DLY_FRAC n.val + s.eqOf n.val ≤ maxDelay ∧ (if s.major a (0x20 + n.val / 16) = 1 then 0 else s.get F.SLOT_DLY_MODE n.val) ≠ 1 ∧ linePots (s.get F.SLOT_DLY_INT n.val * 1024 + s.get F.SLOT_DLY_FRAC n.val + s.eqOf n.val) ≤ (s.potsOf (.slotLine n.val)).length) ∧
    (∃ (n : Fin 512) (s : State), s.on F.SLOT_DLY_ACT_ZC_PENDING n.val = true) ∧
    (∃ (n : Fin 512) (s : State), (s.slot n.val).stepNow = true) ∧
    (∃ (n : Fin 512) (s : State), s.on F.SLOT_DLY_ACT_MOVING n.val = true) ∧
    (∃ (n : Nat) (s : State), (s.slot n).slewFrom ≤ (s.slot n).target) ∧
    (∃ (n : Nat) (s : State), (s.slot n).target < (s.slot n).slewFrom) :=
  ⟨⟨.pf 0, 4, 0x01000001, slotted.puts 4 [(F.SLOT_DLY_INT, 65535), (F.SLOT_DLY_FRAC, 1023), (F.SLOT_EQ_FRAC, 1)], by decide⟩,
    ⟨.pf 0, 4, 0x01000001, slotted.puts 4 [(F.SLOT_DLY_INT, 255), (F.SLOT_DLY_FRAC, 1023), (F.SLOT_DLY_MODE, 2)], by decide⟩,
    ⟨4, slotted.put F.SLOT_DLY_ACT_ZC_PENDING 4 1, by decide⟩,
    ⟨4, slotted.setSlot 4 { stepNow := true }, by decide⟩,
    ⟨4, slotted.put F.SLOT_DLY_ACT_MOVING 4 1, by decide⟩,
    ⟨4, slotted, by decide⟩,
    ⟨4, slotted.setSlot 4 { slewFrom := 1 }, by decide⟩⟩

theorem witness_AlignmentGroups :
    (∃ (a : Accessor) (n : Fin 512) (w : Word) (b : Bind) (s : State), s.Acts a .slot n.val 0x6C ∧ bit w.toNat 8 = true ∧ s.on F.SLOT_STAT_SHADOW n.val = false ∧ (s.slot n.val).applied = some b ∧ b.kind ≠ 0 ∧ s.enabled .slot n.val = false ∧ s.slotGroup n.val = none ∧ s.joinRefused (bits w.toNat 5 0) (s.get F.SLOT_AG_REF_REF n.val) (s.get F.SLOT_LAT_LAT n.val) (s.owner .slot n.val) = true) ∧
    (∃ (a : Accessor) (n : Fin 512) (w : Word) (b : Bind) (s : State), s.Acts a .slot n.val 0x6C ∧ bit w.toNat 8 = true ∧ s.on F.SLOT_STAT_SHADOW n.val = false ∧ (s.slot n.val).applied = some b ∧ b.kind ≠ 0 ∧ s.enabled .slot n.val = false ∧ s.slotGroup n.val = none ∧ s.joinRefused (bits w.toNat 5 0) (s.get F.SLOT_AG_REF_REF n.val) (s.get F.SLOT_LAT_LAT n.val) (s.owner .slot n.val) = false ∧ (s.slot n.val).target + eqDelay (if (s.grp (bits w.toNat 5 0)).hasSlot then (s.grp (bits w.toNat 5 0)).ref else s.get F.SLOT_AG_REF_REF n.val) (s.get F.SLOT_LAT_LAT n.val) b.ticks ≤ maxDelay ∧ (s.growLine n.val (linePots ((s.slot n.val).target + eqDelay (if (s.grp (bits w.toNat 5 0)).hasSlot then (s.grp (bits w.toNat 5 0)).ref else s.get F.SLOT_AG_REF_REF n.val) (s.get F.SLOT_LAT_LAT n.val) b.ticks))).isSome = true) ∧
    (∃ (g : Nat), 61 ≤ g) ∧
    (∃ (g : Nat) (s : State), (s.grp g).holder ≠ none) ∧
    (∃ (g : Nat) (s : State), 32 ≤ (s.grp g).members.length) ∧
    (∃ (a : Accessor) (n : Fin 512) (w : Word) (s : State), s.Acts a .slot n.val 0x6C ∧ bit w.toNat 8 = false ∧ s.on F.SLOT_STAT_SHADOW n.val = false) ∧
    (∃ (n g : Nat) (s : State), s.slotGroup n = some g ∧ n < 512) :=
  ⟨⟨.pf 0, 4, 0x100 + 61, sampleBind, slotted.put (H.ENABLE .slot) 4 0, by decide⟩,
    ⟨.pf 0, 4, 0x100 + 60, sampleBind, slotted.put (H.ENABLE .slot) 4 0, by decide⟩,
    ⟨61, by decide⟩,
    ⟨60, live.setGrp 60 { holder := some (.pair 0) }, by decide⟩,
    ⟨0, live.setGrp 0 { members := (List.range 32).map .slot }, by decide⟩,
    ⟨.pf 0, 4, 0, slotted, by decide⟩,
    ⟨4, 60, slotted.puts 4 [(F.SLOT_AG_MEMBER, 1), (F.SLOT_AG_GROUP, 60)], by decide⟩⟩

theorem witness_Detectors :
    (∃ (a : Accessor) (n : Fin 512) (w : Word) (s : State) (c : Instr), s.Acts a .slot n.val 0x90 ∧ s.on F.SLOT_STAT_SHADOW n.val = false ∧ c ∈ [Instr.pkRst a n w, .rmsRst a n w, .envRst a n w]) ∧
    (∃ (n : Fin 512) (s : State), s.on F.SLOT_STAT_RUNNING n.val = true ∧ s.on F.DET_RMS_CFG_EXP n.val = false) ∧
    (∃ (n : Fin 512) (s : State), s.on F.SLOT_STAT_RUNNING n.val = true ∧ s.get F.DET_REPORT_INTERVAL n.val = 0) ∧
    (∃ (n : Fin 512) (s : State), s.on F.SLOT_STAT_RUNNING n.val = true ∧ s.get F.DET_REPORT_INTERVAL n.val ≠ 0) :=
  ⟨⟨.pf 0, 4, 7, slotted, .rmsRst (.pf 0) 4 7, by decide⟩,
    ⟨4, slotted, by decide⟩,
    ⟨4, slotted, by decide⟩,
    ⟨4, slotted.put F.DET_REPORT_INTERVAL 4 1, by decide⟩⟩

theorem witness_ProfilesAndRaw :
    (∃ (a : Accessor) (s : State), s.Acts a .bank 0 0x88 ∧ s.get F.PROF_ADDR_INDEX 0 < (s.get F.PROF_SEL_TAPS 0 + 1) / 2) ∧
    (∃ (a : Accessor) (s : State), s.Acts a .bank 0 0x88 ∧ (s.get F.PROF_SEL_TAPS 0 + 1) / 2 ≤ s.get F.PROF_ADDR_INDEX 0) ∧
    (∃ (a : Accessor) (w : Word) (s : State), s.Acts a .bank 0 0x8C ∧ bit w.toNat 0 = true ∧ s.get F.PROF_ADDR_INDEX 0 = (s.get F.PROF_SEL_TAPS 0 + 1) / 2 ∧ s.profileUsed (s.get F.PROF_SEL_PROFILE 0) = false) ∧
    (∃ (a : Accessor) (w : Word) (s : State), s.Acts a .bank 0 0x8C ∧ bit w.toNat 0 = true ∧ (s.get F.PROF_ADDR_INDEX 0 ≠ (s.get F.PROF_SEL_TAPS 0 + 1) / 2 ∨ s.profileUsed (s.get F.PROF_SEL_PROFILE 0) = true)) ∧
    (∃ (a : Accessor) (f : Fin 8) (w : Word) (s : State), s.Acts a .bank f.val 0x58 ∧ (match plainWrite .bank f.val 0x58 (s.major a (0x10 + f.val)) w s with | .ok t => !t.on F.BANK_RAW_EN f.val | .error _ => false) = true) ∧
    (∃ (a : Accessor) (f : Fin 8) (w : Word) (s : State), s.Acts a .bank f.val 0x58 ∧ (match plainWrite .bank f.val 0x58 (s.major a (0x10 + f.val)) w s with | .ok t => t.on F.BANK_RAW_EN f.val && t.owner .ring (t.get F.BANK_RAW_RING f.val) != 0 | .error _ => false) = true) ∧
    (∃ (a : Accessor) (f : Fin 8) (w : Word) (s : State), s.Acts a .bank f.val 0x58 ∧ f.val < 5 ∧ (match plainWrite .bank f.val 0x58 (s.major a (0x10 + f.val)) w s with | .ok t => t.on F.BANK_RAW_EN f.val && t.owner .ring (t.get F.BANK_RAW_RING f.val) == 0 && decide (([0, 1, 2, 3, 4].filter fun m => t.on F.BANK_RAW_EN m).length ≤ 4) | .error _ => false) = true) :=
  ⟨⟨.pf 0, live.puts 0 [(F.PROF_SEL_TAPS, 21), (F.PROF_ADDR_INDEX, 10)], by decide⟩,
    ⟨.pf 0, live.puts 0 [(F.PROF_SEL_TAPS, 21), (F.PROF_ADDR_INDEX, 11)], by decide⟩,
    ⟨.pf 0, 1, live.puts 0 [(F.PROF_SEL_PROFILE, 16), (F.PROF_SEL_TAPS, 21), (F.PROF_ADDR_INDEX, 11)], by decide⟩,
    ⟨.pf 0, 1, live.puts 0 [(F.PROF_SEL_PROFILE, 16), (F.PROF_SEL_TAPS, 21), (F.PROF_ADDR_INDEX, 12)], by decide⟩,
    ⟨.pf 0, 7, 0, live, by decide⟩,
    ⟨.pf 0, 7, 1, live.putE F.OWN_RING_OWNER 0 0 1, by decide⟩,
    ⟨.pf 0, 4, 1, live, by decide⟩⟩

theorem witness_Snapshots :
    (∃ (a : Accessor) (f : Fin 8) (w : Word) (s : State), s.Acts a .bank f.val 0x64 ∧ bits w.toNat 0 0 = 1 ∧ bits w.toNat 1 1 = 0 ∧ s.snap f.val = none ∧ (s.on F.BANK_SNAP_CFG_MODE f.val && s.major a (0x10 + f.val) != 1) = false ∧ s.get F.BANK_SNAP_CFG_FIRST f.val ≤ s.get F.BANK_SNAP_CFG_LAST f.val ∧ s.sbApplied f.val (s.get F.BANK_SNAP_CFG_FIRST f.val) = true ∧ s.sbApplied f.val (s.get F.BANK_SNAP_CFG_LAST f.val) = true ∧ (Snap.bins { fine := false, order := s.get F.BANK_SNAP_CFG_ORDER f.val, first := s.get F.BANK_SNAP_CFG_FIRST f.val, last := s.get F.BANK_SNAP_CFG_LAST f.val, avg := s.get F.BANK_SNAP_AVG_AVG f.val, ring := s.get F.BANK_SNAP_AVG_RING f.val }) ≤ 262144 ∧ s.owner .ring (s.get F.BANK_SNAP_AVG_RING f.val) = 0 ∧ (s.allocPots 0 (.snap f.val) 0).isSome = true) ∧
    (∃ (a : Accessor) (f : Fin 8) (w : Word) (s : State), s.Acts a .bank f.val 0x64 ∧ bits w.toNat 0 0 = 1 ∧ bits w.toNat 1 1 = 0 ∧ s.snap f.val = none ∧ (s.on F.BANK_SNAP_CFG_MODE f.val && s.major a (0x10 + f.val) != 1) = true ∧ s.get F.BANK_SNAP_CFG_FIRST f.val ≤ s.get F.BANK_SNAP_CFG_LAST f.val ∧ s.sbApplied f.val (s.get F.BANK_SNAP_CFG_FIRST f.val) = true ∧ s.sbApplied f.val (s.get F.BANK_SNAP_CFG_LAST f.val) = true ∧ (Snap.bins { fine := true, order := s.get F.BANK_SNAP_CFG_ORDER f.val, first := s.get F.BANK_SNAP_CFG_FIRST f.val, last := s.get F.BANK_SNAP_CFG_LAST f.val, avg := s.get F.BANK_SNAP_AVG_AVG f.val, ring := s.get F.BANK_SNAP_AVG_RING f.val }) ≤ 262144 ∧ s.owner .ring (s.get F.BANK_SNAP_AVG_RING f.val) = 0 ∧ (s.allocPots 0 (.snap f.val) ((4 * (Snap.bins { fine := true, order := s.get F.BANK_SNAP_CFG_ORDER f.val, first := s.get F.BANK_SNAP_CFG_FIRST f.val, last := s.get F.BANK_SNAP_CFG_LAST f.val, avg := s.get F.BANK_SNAP_AVG_AVG f.val, ring := s.get F.BANK_SNAP_AVG_RING f.val }) + 65535) / 65536)).isSome = false) ∧
    (∃ (a : Accessor) (f : Fin 8) (w : Word) (s : State), s.Acts a .bank f.val 0x64 ∧ bits w.toNat 0 0 = 0 ∧ bits w.toNat 1 1 = 1 ∧ (s.snap f.val).isSome = true) ∧
    (∃ (f : Fin 8) (x : Snap) (s : State), s.snap f.val = some x) :=
  ⟨⟨.pf 0, 0, 1, receiving.puts 0 [(F.BANK_SNAP_CFG_FIRST, 66), (F.BANK_SNAP_CFG_LAST, 75)], by decide⟩,
    ⟨.pf 0, 0, 1, ((receiving.puts 0 [(F.BANK_SNAP_CFG_FIRST, 66), (F.BANK_SNAP_CFG_LAST, 75)]).puts 0 [(F.BANK_SNAP_CFG_MODE, 1), (F.BANK_SNAP_CFG_ORDER, 2)]).putE F.FUNC_POTS_QUOTA 0 1 1024, by decide⟩,
    ⟨.pf 0, 7, 2, live.setSnap 7 (some sampleSnap), by decide⟩,
    ⟨7, sampleSnap, live.setSnap 7 (some sampleSnap), by decide⟩⟩

theorem witness_BankFrames :
    (∃ (f : Fin 8) (full : Nat) (sat : List (Fin 512)) (s : State) (sp : Nat), s.domOn 11 = true ∧ s.pllLocked = true ∧ (s.fe f.val).stopped = none ∧ ((((((s.frameEnds f.val).satSlots f.val sat).gainFast f.val full).puts f.val [(F.BANK_FRAME_LO_TIME, s.now % 2 ^ 32), (F.BANK_FRAME_HI_TIME, s.now / 2 ^ 32)]).retuneStart1 f.val).hand (kindOf f.val)).run = some (f.val, sp)) ∧
    (∃ (f : Fin 8) (full : Nat) (sat : List (Fin 512)) (s : State), s.domOn 11 = true ∧ s.pllLocked = true ∧ (s.fe f.val).stopped = none ∧ ((((((s.frameEnds f.val).satSlots f.val sat).gainFast f.val full).puts f.val [(F.BANK_FRAME_LO_TIME, s.now % 2 ^ 32), (F.BANK_FRAME_HI_TIME, s.now / 2 ^ 32)]).retuneStart1 f.val).hand (kindOf f.val)).run = none) ∧
    (∃ (s : State), s.domOn 11 = false) ∧
    (∃ (s : State), s.pllLocked = false) ∧
    (∃ (n : Nat) (s : State), s.get F.FE_STAT_STATE n ≠ 3) ∧
    (∃ (n : Nat) (s : State), s.get F.FE_STAT_STATE n = 3 ∧ (s.fe n).step = none ∧ (s.fe n).probe = none ∧ s.on F.FE_STAT_RETUNING n = true) ∧
    (∃ (n : Nat) (s : State), s.get F.FE_STAT_STATE n = 3 ∧ (s.fe n).step = none ∧ (s.fe n).probe = none ∧ s.on F.FE_STAT_RETUNING n = false ∧ (s.fe n).relock = false ∧ s.lineLocked (s.hwOf n) = true) :=
  ⟨⟨0, 0, [], handing, 1, by decide⟩,
    ⟨0, 1, [4], slotted, by decide⟩,
    ⟨live.setDom 11 {}, by decide⟩,
    ⟨live.put F.CLK_STAT_PLL_STATE 0 1, by decide⟩,
    ⟨0, live, by decide⟩,
    ⟨0, receiving.put F.FE_STAT_RETUNING 0 1, by decide⟩,
    ⟨0, receiving.put F.LINE_STAT_STATE 0 3, by decide⟩⟩

theorem witness_PilotBlocks :
    (∃ (n : Fin 512) (s : State), s.laneRuns n.val 1 = true) ∧
    (∃ (n level err : Nat) (s : State), s.on F.AN_STAT_LOCK n = false ∧ s.get F.FM_CFG_PILOT_ON n * 100 ≤ level ∧ err < 1000 ∧ (s.lane n).pilotUp = 2) ∧
    (∃ (n level err : Nat) (s : State), s.on F.AN_STAT_LOCK n = true ∧ level < s.get F.FM_CFG_PILOT_OFF n * 100 ∧ (s.lane n).pilotDn = 4) ∧
    (∃ (n err : Nat) (s : State), s.on F.AN_STAT_LOCK n = true ∧ 3000 < err) ∧
    (∃ (n level err : Nat) (s : State), s.on F.AN_STAT_LOCK n = true ∧ s.get F.FM_CFG_PILOT_OFF n * 100 ≤ level ∧ err ≤ 3000) :=
  ⟨⟨4, slotted, by decide⟩,
    ⟨4, 6000, 999, slotted.setLane 4 { pilotUp := 2 }, by decide⟩,
    ⟨4, 0, 0, (slotted.setLane 4 { pilotDn := 4 }).put F.AN_STAT_LOCK 4 1, by decide⟩,
    ⟨4, 3001, slotted.put F.AN_STAT_LOCK 4 1, by decide⟩,
    ⟨4, 6000, 3000, slotted.put F.AN_STAT_LOCK 4 1, by decide⟩⟩

theorem witness_LaneMeasurements :
    (∃ (n : Fin 512) (s : State), s.laneRuns n.val 1 = true) ∧
    (∃ (n : Fin 512) (s : State), s.laneRuns n.val 2 = true ∧ s.on F.AN_STAT_LOCK n.val = true) ∧
    (∃ (n : Fin 512) (s : State), s.laneRuns n.val 2 = true ∧ s.on F.AN_STAT_LOCK n.val = false) ∧
    (∃ (b target dn up : Rat), 0 ≤ dn ∧ 0 ≤ up ∧ target < b) ∧
    (∃ (b target dn up : Rat), 0 ≤ dn ∧ 0 ≤ up ∧ b ≤ target) :=
  ⟨⟨4, slotted, by decide⟩,
    ⟨4, amSlot.put F.AN_STAT_LOCK 4 1, by decide⟩,
    ⟨4, amSlot, by decide⟩,
    ⟨1, 0, 0, 0, by decide⟩,
    ⟨1, 1, 0, 0, by decide⟩⟩

theorem witness_RdsReception :
    (∃ (n : Fin 512) (s : State), s.laneRuns n.val 1 = true ∧ s.on F.FM_RDS_EN n.val = true) ∧
    (∃ (n p : Nat) (s : State), (s.lane n).rdsNext = some p) ∧
    (∃ (n w : Nat) (s : State), (s.lane n).rdsNext = none ∧ rdsMatch w (s.get F.FM_RDS_STD n) = none) ∧
    (∃ (a : Accessor) (n : Fin 512) (w : Word) (s : State), s.Acts a .slot n.val 0xC8 ∧ s.on F.SLOT_STAT_SHADOW n.val = false ∧ s.slotKind n.val = 1 ∧ s.on F.FM_RDS_EN n.val = false ∧ (match plainWrite .fm n.val 0xC8 (s.major a (0x20 + n.val / 16)) w s with | .ok t => t.on F.FM_RDS_EN n.val | .error _ => false) = true) ∧
    (∃ (n : Fin 512) (s : State), s.laneRuns n.val 1 = true ∧ s.on F.FM_RDS_EN n.val = true ∧ (s.lane n.val).blerOn = true) :=
  ⟨⟨4, rdsSlot, by decide⟩,
    ⟨4, 0, rdsSlot.setLane 4 { rdsNext := some 0 }, by decide⟩,
    ⟨4, 1, rdsSlot, by decide⟩,
    ⟨.pf 0, 4, 0x00640029, slotted, by decide⟩,
    ⟨4, rdsSlot.setLane 4 { blerOn := true }, by decide⟩⟩

theorem witness_AmAndAudio :
    (∃ (n : Fin 512) (meanQ carrier : Nat) (s : State), s.laneRuns n.val 2 = true ∧ s.on F.AN_STAT_LOCK n.val = true ∧ 3 * carrier < 10 * meanQ) ∧
    (∃ (n : Fin 512) (meanQ carrier : Nat) (s : State), s.laneRuns n.val 2 = true ∧ s.on F.AN_STAT_LOCK n.val = false ∧ 10 * meanQ < carrier) ∧
    (∃ (n : Fin 512) (meanQ carrier : Nat) (s : State), s.laneRuns n.val 2 = true ∧ s.on F.AN_STAT_LOCK n.val = false ∧ carrier ≤ 10 * meanQ) ∧
    (∃ (n : Fin 512) (s : State), s.laneRuns n.val 2 = true ∧ s.on F.AM_AMSS_EN n.val = true ∧ s.on F.AN_STAT_DSYNC n.val = true) ∧
    (∃ (n : Fin 512) (s : State), s.laneRuns n.val 2 = true ∧ s.on F.AM_AMSS_EN n.val = true ∧ s.on F.AN_STAT_DSYNC n.val = true ∧ s.on F.AM_AMSS_ALL n.val = false ∧ (s.lane n.val).amssBad < 7) ∧
    (∃ (n : Fin 512) (s : State), s.laneRuns n.val 2 = true ∧ s.on F.AM_AMSS_EN n.val = true ∧ s.on F.AN_STAT_DSYNC n.val = true ∧ s.on F.AM_AMSS_ALL n.val = false ∧ (s.lane n.val).amssBad = 7) ∧
    (∃ (n : Fin 512) (s : State), s.laneRuns n.val 1 = true ∧ s.on F.AUD_OUT_PCM_EN n.val = false) ∧
    (∃ (n : Fin 512) (s : State), s.laneRuns n.val 1 = true ∧ s.on F.AUD_OUT_PCM_EN n.val = true) :=
  ⟨⟨4, 1, 3, amSlot.put F.AN_STAT_LOCK 4 1, by decide⟩,
    ⟨4, 1, 11, amSlot, by decide⟩,
    ⟨4, 1, 10, amSlot, by decide⟩,
    ⟨4, amSlot.puts 4 [(F.AM_AMSS_EN, 1), (F.AN_STAT_DSYNC, 1)], by decide⟩,
    ⟨4, (amSlot.puts 4 [(F.AM_AMSS_EN, 1), (F.AN_STAT_DSYNC, 1)]).setLane 4 { amssBad := 6 }, by decide⟩,
    ⟨4, (amSlot.puts 4 [(F.AM_AMSS_EN, 1), (F.AN_STAT_DSYNC, 1)]).setLane 4 { amssBad := 7 }, by decide⟩,
    ⟨4, slotted.put F.AUD_OUT_PCM_EN 4 0, by decide⟩,
    ⟨4, slotted.put F.AUD_OUT_PCM_EN 4 1, by decide⟩⟩

theorem witness_RdsBlockDecodes :
    ∃ (v c : Nat), v < 65536 ∧ c ∈ [0, 1, 2, 3, 4] :=
  ⟨65535, 4, by decide⟩

theorem witness_ContextControl :
    (∃ (a : Accessor) (c : Ctx) (w : Word) (s : State) (i : Fin 48), s.HeadActs a c.blk c.num 0x10 false true ∧ bits w.toNat 4 1 = 0 ∧ s.powered c.blk c.num = true ∧ s.on (H.RESET c.blk) c.num = false ∧ c = .dab i ∧ bit w.toNat 0 = true ∧ s.enabled .dab i.val = false ∧ s.vitUsed + ficRate (s.get F.DAB_CFG_MODE i.val) ≤ vitLimit) ∧
    (∃ (a : Accessor) (c : Ctx) (w : Word) (s : State) (i : Fin 24), s.HeadActs a c.blk c.num 0x10 false true ∧ bits w.toNat 4 1 = 0 ∧ s.powered c.blk c.num = true ∧ s.on (H.RESET c.blk) c.num = false ∧ c = .drm i ∧ bit w.toNat 0 = true ∧ s.enabled .drm i.val = false ∧ s.vitUsed + 32 ≤ vitLimit ∧ (s.allocPots (s.owner .drm i.val) (.drm i.val) 3).isSome = true) ∧
    (∃ (a : Accessor) (c : Ctx) (w : Word) (s : State) (i : Fin 48), s.HeadActs a c.blk c.num 0x10 false true ∧ bits w.toNat 4 1 = 0 ∧ s.powered c.blk c.num = true ∧ s.on (H.RESET c.blk) c.num = false ∧ c = .dab i ∧ bit w.toNat 0 = true ∧ s.enabled .dab i.val = false ∧ vitLimit < s.vitUsed + ficRate (s.get F.DAB_CFG_MODE i.val)) ∧
    (∃ (a : Accessor) (c : Ctx) (w : Word) (s : State), s.HeadActs a c.blk c.num 0x10 false true ∧ bits w.toNat 4 1 = 0 ∧ s.powered c.blk c.num = true ∧ s.on (H.RESET c.blk) c.num = false ∧ bit w.toNat 0 = false ∧ s.enabled c.blk c.num = true) ∧
    (∃ (c : Ctx) (s : State), s.ctxState c = 0) ∧
    (∃ (a : Accessor) (c : Fin 48) (w : Word) (s : State), s.Acts a .dab c.val 0x40 ∧ s.ctxState (.dab c) ≠ 0 ∧ s.enabled .dab c.val = true ∧ (match plainWrite .dab c.val 0x40 (s.major a (0x40 + c.val / 4)) w s with | .ok t => s.get F.DAB_CFG_MODE c.val != t.get F.DAB_CFG_MODE c.val && decide (t.vitUsed ≤ vitLimit) | .error _ => false) = true) :=
  ⟨⟨.pf 0, .dab 47, 1, live.setTap 0 { vit := 384000 - 128 }, 47, by decide⟩,
    ⟨.pf 0, .drm 23, 1, live, 23, by decide +kernel⟩,
    ⟨.pf 0, .dab 47, 1, live.setTap 0 { vit := 384000 }, 47, by decide⟩,
    ⟨.pf 0, .drm 0, 0, live.put (H.ENABLE .drm) 0 1, by decide⟩,
    ⟨.dab 0, live, by decide⟩,
    ⟨.pf 0, 0, 0x00140A01, dabOn, by decide⟩⟩

theorem witness_FrameTiming :
    (∃ (c : Ctx) (s : State), s.ctxState c = 0) ∧
    (∃ (c : Ctx) (s : State), s.ctxState c = 1 ∧ (s.ctxHid c).found = false) ∧
    (∃ (c : Ctx) (s : State), s.ctxState c = 1 ∧ (s.ctxHid c).found = true) ∧
    (∃ (c : Ctx) (s : State), 2 ≤ s.ctxState c ∧ s.ctxState c < 5) ∧
    (∃ (c : Ctx) (s : State), s.ctxState c = 5 ∧ 3 ≤ (s.ctxHid c).missed) ∧
    (∃ (c : Ctx) (mode : Nat) (s : State), s.get c.cfgMode c.num = 0 ∧ mode < 6) :=
  ⟨⟨.drm 23, live, by decide⟩,
    ⟨.dab 0, live.putCtxState (.dab 0) 1, by decide⟩,
    ⟨.dab 0, (live.putCtxState (.dab 0) 1).setCtx (.dab 0) { found := true }, by decide⟩,
    ⟨.drm 0, live.putCtxState (.drm 0) 4, by decide⟩,
    ⟨.dab 0, (live.putCtxState (.dab 0) 5).setCtx (.dab 0) { missed := 3 }, by decide⟩,
    ⟨.drm 0, 5, live, by decide⟩⟩

theorem witness_DabSignalling :
    (∃ (c : Fin 48) (s : State), 2 ≤ s.ctxState (.dab c) ∧ s.on F.DAB_CFG_FIB_ALL c.val = false) ∧
    (∃ (c : Fin 48) (s : State), 2 ≤ s.ctxState (.dab c) ∧ s.on F.DAB_CFG_FIB_ALL c.val = true) ∧
    (∃ (c : Fin 48) (s : State), s.on F.DAB_CIF_RECONF_PENDING c.val = true) ∧
    (∃ (c : Fin 48) (eid change : Nat) (s : State), eid < 65536 ∧ change ≠ 0 ∧ s.on F.DAB_CIF_RECONF_PENDING c.val = false) ∧
    (∃ (c : Fin 48) (s : State), s.on F.DAB_CFG_TII_EN c.val = true ∧ 2 ≤ s.ctxState (.dab c)) :=
  ⟨⟨0, dabOn, by decide⟩,
    ⟨0, dabOn.put F.DAB_CFG_FIB_ALL 0 1, by decide⟩,
    ⟨0, dabOn.put F.DAB_CIF_RECONF_PENDING 0 1, by decide⟩,
    ⟨0, 65535, 1, dabOn, by decide⟩,
    ⟨0, dabOn.put F.DAB_CFG_TII_EN 0 1, by decide⟩⟩

theorem witness_DrmSignalling :
    (∃ (d : Fin 24) (s : State), 2 ≤ s.ctxState (.drm d) ∧ s.getE F.SD_DRM_CTX_FAC_EN 0 d.val = 0) ∧
    (∃ (d : Fin 24) (s : State), 3 ≤ s.ctxBase (.drm d)) ∧
    (∃ (d : Fin 24) (s : State), 3 ≤ s.ctxBase (.drm d) ∧ s.on F.DRM_CFG_SDC_ALL d.val = false) ∧
    (∃ (d : Fin 24) (xs : List StreamOrg) (s : State), (s.ctxHid (.drm d)).nextStreams = some xs ∧ s.get F.DRM_STAT_RECONF_IDX d.val ≠ 0) :=
  ⟨⟨23, (live.putCtxState (.drm 23) 2).putE F.SD_DRM_CTX_FAC_EN 0 23 0, by decide⟩,
    ⟨23, live.putCtxState (.drm 23) 3, by decide⟩,
    ⟨23, live.putCtxState (.drm 23) 3, by decide⟩,
    ⟨23, [], (live.setCtx (.drm 23) { nextStreams := some [] }).put F.DRM_STAT_RECONF_IDX 23 1, by decide⟩⟩

theorem witness_TapControl :
    (∃ (a : Accessor) (t : Fin 1024) (w : Word) (s : State), s.ActsNow a .tap t.val 0x14 w ∧ bit w.toNat 0 = true ∧ s.owner .ring (s.tapStaged t.val).ring = s.owner .tap t.val ∧ (s.tapStaged t.val).pack ≠ 3 ∧ s.enabled .tap t.val = false ∧ ((s.tapStaged t.val).drm = true → (s.tapStaged t.val).ctx ≤ 23 ∧ (s.tapStaged t.val).sub ≤ 3) ∧ ((s.tapStaged t.val).drm = false → (s.tapStaged t.val).ctx ≤ 47 ∧ (s.tapStaged t.val).sub ≤ 63)) ∧
    (∃ (a : Accessor) (t : Fin 1024) (w : Word) (s : State), s.ActsNow a .tap t.val 0x14 w ∧ bit w.toNat 0 = true ∧ s.owner .ring (s.tapStaged t.val).ring = s.owner .tap t.val ∧ (s.tapStaged t.val).pack ≠ 3 ∧ (s.tapStaged t.val).drm = true ∧ 23 < (s.tapStaged t.val).ctx) ∧
    (∃ (a : Accessor) (t : Fin 1024) (w : Word) (c : TapCfg) (s : State), s.HeadActs a .tap t.val 0x04 false true ∧ bits w.toNat 4 1 = 0 ∧ s.powered .tap t.val = true ∧ s.on (H.RESET .tap) t.val = false ∧ bit w.toNat 0 = true ∧ s.enabled .tap t.val = false ∧ (s.tap t.val).applied = some c ∧ c.pcm = false ∧ (∀ p ∈ s.taps, p.1 = t.val ∨ s.enabled .tap p.1 = false) ∧ s.tapNeed c = none) ∧
    (∃ (a : Accessor) (t : Fin 1024) (w : Word) (c : TapCfg) (s : State) (n : Nat × Nat × Nat), s.HeadActs a .tap t.val 0x04 false true ∧ bits w.toNat 4 1 = 0 ∧ s.powered .tap t.val = true ∧ s.on (H.RESET .tap) t.val = false ∧ bit w.toNat 0 = true ∧ s.enabled .tap t.val = false ∧ (s.tap t.val).applied = some c ∧ c.pcm = false ∧ (∀ p ∈ s.taps, p.1 = t.val ∨ s.enabled .tap p.1 = false) ∧ s.tapNeed c = some n ∧ ((s.put (H.ENABLE .tap) t.val 1).setTap t.val { applied := some c, detached := (s.tap t.val).detached }).capFits t.val n.1 n.2.1 = true ∧ (((s.put (H.ENABLE .tap) t.val 1).setTap t.val { applied := some c, detached := (s.tap t.val).detached }).tapPots t.val n.2.2).isSome = true) ∧
    (∃ (a : Accessor) (t : Fin 1024) (w : Word) (c : TapCfg) (s : State) (n : Nat × Nat × Nat), s.HeadActs a .tap t.val 0x04 false true ∧ bits w.toNat 4 1 = 0 ∧ s.powered .tap t.val = true ∧ s.on (H.RESET .tap) t.val = false ∧ bit w.toNat 0 = true ∧ s.enabled .tap t.val = false ∧ (s.tap t.val).applied = some c ∧ c.pcm = false ∧ (∀ p ∈ s.taps, p.1 = t.val ∨ s.enabled .tap p.1 = false) ∧ s.tapNeed c = some n ∧ ((s.put (H.ENABLE .tap) t.val 1).setTap t.val { applied := some c, detached := (s.tap t.val).detached }).capFits t.val n.1 n.2.1 = false) ∧
    (∃ (a : Accessor) (t : Fin 1024) (w : Word) (s : State), s.HeadActs a .tap t.val 0x04 false true ∧ bits w.toNat 4 1 = 0 ∧ s.powered .tap t.val = true ∧ s.on (H.RESET .tap) t.val = false ∧ bit w.toNat 0 = false ∧ s.enabled .tap t.val = true) ∧
    (∃ (t : Nat), t < 1024) ∧
    (∃ (t : Fin 1024) (c : TapCfg) (n : Nat × Nat × Nat) (s : State), (s.tap t.val).applied = some c ∧ s.ctxTaps c.context = [(t.val, c)] ∧ s.get F.TAP_RUN_STATE t.val = 3 ∧ s.tapNeed c = some n ∧ s.capFits t.val n.1 n.2.1 = true ∧ (s.tapPots t.val n.2.2).isSome = true) :=
  ⟨⟨.pf 0, 1023, 0x01000001, live.puts 1023 [(F.TAP_CFG_CTX, 47), (F.TAP_CFG_SUB, 63)], by decide⟩,
    ⟨.pf 0, 1023, 0x01000001, live.puts 1023 [(F.TAP_CFG_CTX, 24), (F.TAP_CFG_KIND, 1)], by decide⟩,
    ⟨.pf 0, 1023, 1, sampleTap, live.setTap 1023 { applied := some sampleTap }, by decide⟩,
    ⟨.pf 0, 0, 1, sampleTap, dabTap, (84, 224, 1), by decide +kernel⟩,
    ⟨.pf 0, 0, 1, sampleTap, dabTap.putE F.FUNC_CEIL_CU 0 0 83, (84, 224, 1), by decide⟩,
    ⟨.pf 0, 0, 0, dabTap.put (H.ENABLE .tap) 0 1, by decide⟩,
    ⟨1023, by decide⟩,
    ⟨0, sampleTap, (84, 224, 1), dabTap.puts 0 [(H.ENABLE .tap, 1), (F.TAP_RUN_STATE, 3)], by decide +kernel⟩⟩

theorem witness_TapOutputs :
    (∃ (t : Fin 1024) (s : State), s.tapRuns t.val = true ∧ s.get F.TAP_RUN_PAYLOAD t.val = 2 ∧ (s.tap t.val).sync = true ∧ 2 ≤ (s.tap t.val).syncBad) ∧
    (∃ (t : Fin 1024) (s : State), s.tapRuns t.val = true ∧ s.get F.TAP_RUN_PAYLOAD t.val = 2 ∧ (s.tap t.val).sync = true ∧ (s.tap t.val).syncBad < 2) ∧
    (∃ (t : Fin 1024) (c : TapCfg) (s : State), (s.tap t.val).applied = some c ∧ s.tapRuns t.val = true ∧ c.au = false ∧ c.pad = false) ∧
    (∃ (t : Fin 1024) (c : TapCfg) (s : State), (s.tap t.val).applied = some c ∧ s.tapRuns t.val = true ∧ c.au = true ∧ c.pad = false) ∧
    (∃ (t : Fin 1024) (c : TapCfg) (s : State), (s.tap t.val).applied = some c ∧ s.on F.TAP_RUN_DEC_HELD t.val = true ∧ s.tapRuns t.val = true ∧ 1 ≤ s.get F.TAP_RUN_PAYLOAD t.val ∧ s.get F.TAP_RUN_PAYLOAD t.val ≤ 4) ∧
    (∃ (t : Fin 1024) (s : State), (s.tap t.val).pcmOn = true ∧ (s.tap t.val).zeros = true) :=
  ⟨⟨1023, (live.setTap 1023 { sync := true, syncBad := 2 }).puts 1023 [(F.TAP_RUN_STATE, 2), (F.TAP_RUN_PAYLOAD, 2)], by decide⟩,
    ⟨1023, (live.setTap 1023 { sync := true, syncBad := 1 }).puts 1023 [(F.TAP_RUN_STATE, 2), (F.TAP_RUN_PAYLOAD, 2)], by decide⟩,
    ⟨0, sampleTap, dabTap.put F.TAP_RUN_STATE 0 2, by decide⟩,
    ⟨0, { sampleTap with au := true }, (dabTap.setTap 0 { applied := some { sampleTap with au := true } }).put F.TAP_RUN_STATE 0 2, by decide⟩,
    ⟨0, sampleTap, dabTap.puts 0 [(F.TAP_RUN_STATE, 2), (F.TAP_RUN_DEC_HELD, 1), (F.TAP_RUN_PAYLOAD, 4)], by decide⟩,
    ⟨0, live.setTap 0 { pcmOn := true, zeros := true }, by decide⟩⟩

theorem witness_AlarmRules :
    (∃ (a : Accessor) (r : Fin 32) (reg : Fin 4) (w : Word) (s : State), s.Acts a .sidedata 0 (0x200 + 0x10 * r.val + 4 * reg.val) ∧ accView a = 0 ∧ reg.val = 2 ∧ s.ruleOwner r.val = 0 ∧ (plainWrite .sidedata 0 (0x200 + 0x10 * r.val + 8) (s.major a 0x5B) w s).isOk = true ∧ (plainWrite .sidedata 0 (0x200 + 0x10 * r.val + 8) (s.major a 0x5B) w (s.ruleRestart r.val)).isOk = true) ∧
    (∃ (a : Accessor) (r : Fin 32) (reg : Fin 4) (s : State), s.Acts a .sidedata 0 (0x200 + 0x10 * r.val + 4 * reg.val) ∧ s.ruleOwner r.val ≠ accView a ∧ reg.val = 0) ∧
    (∃ (r c : Nat) (s : State), r < 32 ∧ s.ruleOn F.RULE_STAT_ACTIVE r = false ∧ s.getE F.RULE_CFG_CONFIRM 0 r ≤ min (s.getE F.RULE_STAT_COUNT 0 r + 1) 15 ∧ c = min (s.getE F.RULE_STAT_COUNT 0 r + 1) 15) ∧
    (∃ (r : Fin 32) (s : State), s.ruleOn F.RULE_STAT_ACTIVE r.val = false) ∧
    (∃ (a : Accessor) (p reg : Fin 16) (s : State), s.Acts a .sidedata 0 (0x400 + 0x40 * p.val + 4 * reg.val) ∧ isManager a = false) ∧
    (∃ (a : Accessor) (p reg : Fin 16) (w : Word) (s : State), s.Acts a .sidedata 0 (0x400 + 0x40 * p.val + 4 * reg.val) ∧ isManager a = true ∧ (plainWrite .sidedata 0 (0x400 + 0x40 * p.val + 4 * reg.val) (s.major a 0x5B) w s).isOk = true) ∧
    (∃ (a : Accessor) (w : Word) (s : State), s.Acts a .sidedata 0 0x44 ∧ isManager a = true ∧ bit w.toNat 2 = true ∧ bits w.toNat 1 1 = 0) :=
  ⟨⟨.pf 0, 31, 2, 0x1000, live, by decide⟩,
    ⟨.pf 0, 31, 0, live.putE F.OWN_SLOT_OWNER 0 0 1, by decide⟩,
    ⟨31, 1, live, by decide⟩,
    ⟨0, live, by decide⟩,
    ⟨.pf 1, 15, 15, pf1, by decide⟩,
    ⟨.pf 0, 15, 15, 0, live, by decide⟩,
    ⟨.pf 0, 4, live, by decide⟩⟩

theorem witness_FollowCommands :
    (∃ (a : Accessor) (which : Fin 3) (w : Word) (s : State), s.Acts a .follow 0 (0x44 + 4 * which.val) ∧ isManager a = false) ∧
    (∃ (a : Accessor) (which : Fin 3) (w : Word) (s : State), s.Acts a .follow 0 (0x44 + 4 * which.val) ∧ isManager a = true ∧ which.val = 0 ∧ s.poolRangeOk .slot 512 (bits w.toNat 8 0) (bits w.toNat 21 16) = true ∧ (plainWrite .follow 0 0x44 (s.major a 0x59) w s).isOk = true) ∧
    (∃ (a : Accessor) (which : Fin 3) (w : Word) (s : State), s.Acts a .follow 0 (0x44 + 4 * which.val) ∧ isManager a = true ∧ which.val = 0 ∧ s.poolRangeOk .slot 512 (bits w.toNat 8 0) (bits w.toNat 21 16) = false) ∧
    (∃ (a : Accessor) (e : Fin 32) (w : Word) (g : Nat) (c : Cand) (s : State), s.Acts a .follow 0 (0x118 + 64 * e.val) ∧ w.toNat = 1 ∧ s.folRuns e.val = false ∧ s.folStart e.val (accView a) = some c ∧ s.freeGroup = some g ∧ s.presetBad e.val = false ∧ s.owner .ring (s.folGet F.FOL_CFG_RING e.val) = accView a ∧ (s.allocPots (accView a) (.follow e.val) (folPots (s.folPreset e.val))).isSome = true ∧ (((s.setGrp g { s.grp g with holder := some (.follow e.val) }).setFol e.val { state := 1, owner := accView a, cands := [(0, some c)], group := g, p := s.folPreset e.val, since := s.now, target := s.folPreset e.val, lastSwitch := s.now }).folTake e.val (folPots (s.folPreset e.val)) 0).isSome = true) ∧
    (∃ (a : Accessor) (e : Fin 32) (w : Word) (s : State), s.Acts a .follow 0 (0x118 + 64 * e.val) ∧ s.folRuns e.val = true ∧ (s.fol e.val).owner = accView a ∧ w.toNat = 2) ∧
    (∃ (a : Accessor) (e : Fin 32) (w : Word) (s : State), s.Acts a .follow 0 (0x118 + 64 * e.val) ∧ s.folRuns e.val = true ∧ (s.fol e.val).owner = accView a ∧ w.toNat = 4 ∧ (folRealign e.val s).isOk = true) :=
  ⟨⟨.pf 1, 2, 0, pf1, by decide⟩,
    ⟨.pf 0, 0, 0x000201FE, live, by decide +kernel⟩,
    ⟨.pf 0, 0, 0x000301FE, live, by decide +kernel⟩,
    ⟨.pf 0, 31, 1, 0, startCand, folSlot, by decide +kernel⟩,
    ⟨.pf 0, 0, 2, live.setFol 0 { state := 2 }, by decide⟩,
    ⟨.pf 0, 0, 4, live.setFol 0 { state := 2 }, by decide +kernel⟩⟩

theorem witness_FollowAlignment :
    (∃ (e : Fin 32) (k : Fin 16) (peak second : Int) (c : Cand) (s : State), s.cand e.val k.val = some c ∧ c.attempt = 1 ∧ s.folRuns e.val = true ∧ 100 * (s.folGet F.FOL_ALIGN_COARSE_TH e.val : Int) ≤ peak ∧ 1000 ≤ peak - second) ∧
    (∃ (e : Fin 32) (k : Fin 16) (peak : Int) (c : Cand) (s : State), s.cand e.val k.val = some c ∧ c.attempt = 1 ∧ s.folRuns e.val = true ∧ peak < 100 * (s.folGet F.FOL_ALIGN_COARSE_TH e.val : Int)) ∧
    (∃ (e : Fin 32) (k : Fin 16) (peak second : Int) (c : Cand) (s : State), s.cand e.val k.val = some c ∧ c.attempt = 1 ∧ s.folRuns e.val = true ∧ peak - second < 1000) ∧
    (∃ (e : Fin 32) (k : Fin 16) (peak : Int) (c : Cand) (s : State), s.cand e.val k.val = some c ∧ c.attempt = 2 ∧ s.folRuns e.val = true ∧ 100 * (s.folGet F.FOL_ALIGN_FINE_TH e.val : Int) ≤ peak ∧ c.align ≠ 2) ∧
    (∃ (e : Fin 32) (k : Fin 16) (peak : Int) (c : Cand) (s : State), s.cand e.val k.val = some c ∧ c.attempt = 2 ∧ s.folRuns e.val = true ∧ peak < 100 * (s.folGet F.FOL_ALIGN_FINE_TH e.val : Int) ∧ c.fails < 3) ∧
    (∃ (e : Fin 32) (k : Fin 16) (peak : Int) (c : Cand) (s : State), s.cand e.val k.val = some c ∧ c.attempt = 2 ∧ s.folRuns e.val = true ∧ peak < 100 * (s.folGet F.FOL_ALIGN_FINE_TH e.val : Int) ∧ 3 ≤ c.fails) ∧
    (∃ (e : Fin 32) (k : Fin 16) (c : Cand) (s : State), s.cand e.val k.val = some c ∧ k.val ≠ 0 ∧ c.res ≠ 3 ∧ c.attempt = 0) ∧
    (∃ (e k : Nat) (c : Cand) (s : State), s.cand e k = some c ∧ c.held = none ∧ (s.fol e).lineIn ≠ some k) :=
  ⟨⟨0, 15, 10000, 9000, { sampleCand with attempt := 1 }, (live.setFol 0 { state := 2, cands := [(15, some { sampleCand with attempt := 1 })] }), by decide⟩,
    ⟨0, 15, 0, { sampleCand with attempt := 1 }, (live.setFol 0 { state := 2, cands := [(15, some { sampleCand with attempt := 1 })] }), by decide⟩,
    ⟨0, 15, 10000, 9001, { sampleCand with attempt := 1 }, (live.setFol 0 { state := 2, cands := [(15, some { sampleCand with attempt := 1 })] }), by decide⟩,
    ⟨0, 15, 10000, { sampleCand with attempt := 2 }, (live.setFol 0 { state := 2, cands := [(15, some { sampleCand with attempt := 2 })] }), by decide⟩,
    ⟨0, 15, 0, { sampleCand with attempt := 2 }, (live.setFol 0 { state := 2, cands := [(15, some { sampleCand with attempt := 2 })] }), by decide⟩,
    ⟨0, 15, 0, { sampleCand with attempt := 2, fails := 3 }, (live.setFol 0 { state := 2, cands := [(15, some { sampleCand with attempt := 2, fails := 3 })] }), by decide⟩,
    ⟨0, 15, { sampleCand with res := 0 }, (live.setFol 0 { state := 2, cands := [(15, some { sampleCand with res := 0 })] }), by decide⟩,
    ⟨0, 15, sampleCand, (live.setFol 0 { state := 2, cands := [(15, some sampleCand)] }), by decide⟩⟩

theorem witness_FollowSwitching :
    (∃ (e : Fin 32) (aus : List (Nat × Nat)) (s : State), s.folRuns e.val = true ∧ ((s.folScores e.val aus).fol e.val).state ≠ 3 ∧ ((s.folScores e.val aus).fol e.val).next = none) ∧
    (∃ (e : Fin 32) (aus : List (Nat × Nat)) (s : State), s.folRuns e.val = true ∧ (((s.folScores e.val aus).fol e.val).state = 3 ∨ ((s.folScores e.val aus).fol e.val).next ≠ none)) ∧
    (∃ (e : Fin 32) (k : Nat) (s : State), (s.fol e.val).next = some k ∧ (s.fol e.val).scout = false) ∧
    (∃ (e : Fin 32) (s : State), (s.fol e.val).state = 3 ∧ ((s.setFol e.val { s.fol e.val with state := 2, lineIn := none, gSince := s.now }).folTake e.val (if (s.fol e.val).lineIn = some (s.fol e.val).cur then (s.fol e.val).potsIn else (s.fol e.val).potsCur) 0).isSome = true) ∧
    (∃ (e : Fin 32) (k : Nat) (c : Cand) (s : State), (s.fol e.val).state = 4 ∧ s.on F.FOL_GCFG_FALLBACK_SCOUT 0 = true ∧ (s.fol e.val).next = none ∧ (s.fol e.val).list = [(k, c)] ∧ c.res = 3 ∧ c.band ≤ 1 ∧ scoutRange (if c.band = 0 then 0 else 5) c.khz = true ∧ s.scoutFree (if c.band = 0 then 0 else 5) = true) :=
  ⟨⟨0, [], (live.setFol 0 { state := 2, cands := [(15, some sampleCand)] }), by decide⟩,
    ⟨0, [], live.setFol 0 { state := 3 }, by decide⟩,
    ⟨0, 15, live.setFol 0 { state := 2, next := some 15 }, by decide⟩,
    ⟨0, live.setFol 0 { state := 3 }, by decide +kernel⟩,
    ⟨0, 15, sampleCand, (live.setFol 0 { state := 4, cands := [(15, some sampleCand)] }).put F.FOL_GCFG_FALLBACK_SCOUT 0 1, by decide +kernel⟩⟩

theorem witness_MeasurementWindows :
    (∃ (valid total : Nat), 0 < total ∧ 2 * valid < total) ∧
    (∃ (valid total : Nat), 0 < total ∧ total ≤ 2 * valid ∧ 100 * valid < 99 * total) ∧
    (∃ (valid total : Nat), 0 < total ∧ total ≤ 2 * valid ∧ 99 * total ≤ 100 * valid) ∧
    (∃ (n : Fin 512) (b : Bind) (s : State), (s.slot n.val).applied = some b ∧ s.measured n.val = true) ∧
    (∃ (n : Fin 512) (s : State), s.measured n.val = true ∧ s.slotKind n.val = 1) ∧
    (∃ (n : Fin 512) (valid total : Nat) (r : MetRes) (s : State), s.measured n.val = true ∧ s.slotKind n.val = 1 ∧ (windowFlags valid total).isSome = true ∧ (Tbl.get s.mets {} n.val).mpx = some r) ∧
    (∃ (n : Fin 512) (s : State), s.measured n.val = true ∧ s.slotKind n.val = 2) :=
  ⟨⟨49, 100, by decide⟩,
    ⟨50, 100, by decide⟩,
    ⟨99, 100, by decide⟩,
    ⟨4, sampleBind, slotted, by decide⟩,
    ⟨4, slotted, by decide⟩,
    ⟨4, 1, 2, ⟨0, 0, 0, 0⟩, { slotted with mets := [(4, { mpx := some ⟨0, 0, 0, 0⟩ })] }, by decide⟩,
    ⟨4, amSlot, by decide⟩⟩

theorem witness_SelfCheck :
    (∃ (a : Accessor) (w : Word) (s : State), s.Acts a .metro 0 0x6C ∧ bit w.toNat 0 = true ∧ s.on F.MET_REF_STAT_RUNNING 0 = false ∧ isManager a = true) ∧
    (∃ (a : Accessor) (w : Word) (s : State), s.Acts a .metro 0 0x6C ∧ bit w.toNat 0 = true ∧ s.on F.MET_REF_STAT_RUNNING 0 = false ∧ isManager a = false) ∧
    (∃ (dev : Int) (s : State), s.on F.MET_REF_STAT_RUNNING 0 = true ∧ dev.natAbs ≤ 500) ∧
    (∃ (dev : Int) (s : State), s.on F.MET_REF_STAT_RUNNING 0 = true ∧ 500 < dev.natAbs) ∧
    (∃ (s : State), s.mode ≠ .off ∧ s.ref.age < 65535 ∧ s.ref.age + 1 ≠ s.get F.MET_REF_CFG_PERIOD 0) ∧
    (∃ (s : State), s.mode ≠ .off ∧ s.ref.age < 65535 ∧ s.ref.age + 1 = s.get F.MET_REF_CFG_PERIOD 0 ∧ ({ s with ref := { s.ref with age := s.ref.age + 1 } }.raiseViews .metro Ev.refDue [0, 4]).on F.MET_REF_CFG_AUTO 0 = false) :=
  ⟨⟨.pf 0, 1, live, by decide⟩,
    ⟨.pf 1, 1, pf1, by decide⟩,
    ⟨-500, live.put F.MET_REF_STAT_RUNNING 0 1, by decide⟩,
    ⟨501, live.put F.MET_REF_STAT_RUNNING 0 1, by decide⟩,
    ⟨{ live with ref := { live.ref with age := 0 } }, by decide⟩,
    ⟨({ live with ref := { live.ref with age := 6 } }).puts 0 [(F.MET_REF_CFG_PERIOD, 7), (F.MET_REF_CFG_AUTO, 0)], by decide⟩⟩

theorem witness_PpsAndMetrics :
    (∃ (falling : Bool) (s : State), s.powered .metro 0 = true ∧ s.on F.MET_PPS_CFG_EN 0 = true ∧ s.pllLocked = true ∧ s.on F.MET_PPS_CFG_EDGE 0 = falling ∧ s.pps.last = none) ∧
    (∃ (falling : Bool) (s : State) (t : Nat), s.powered .metro 0 = true ∧ s.on F.MET_PPS_CFG_EN 0 = true ∧ s.pllLocked = true ∧ s.on F.MET_PPS_CFG_EDGE 0 = falling ∧ s.pps.last = some t ∧ 10 * (s.now - t) < 9 * ticksPerSecond) ∧
    (∃ (s : State), s.pps.last.isSome = true ∧ s.pps.missed = false ∧ s.on F.MET_PPS_CFG_EN 0 = true) ∧
    (∃ (n : Fin 512) (s : State), s.measured n.val = true ∧ s.slotKind n.val = 1 ∧ s.get F.MET_CFG_INTERVAL n.val ≠ 0) ∧
    (∃ (c : Fin 48) (n : Nat) (b : Bind) (s : State), s.boundSlot (.dab c) = some (n, b) ∧ s.get F.DAB_MET_INTERVAL c.val ≠ 0 ∧ s.ctxState (.dab c) ≠ 0) :=
  ⟨⟨false, (live.put F.MET_PPS_CFG_EN 0 1), by decide⟩,
    ⟨false, { (live.put F.MET_PPS_CFG_EN 0 1) with pps := { last := some 0 } }, 0, by decide⟩,
    ⟨{ (live.put F.MET_PPS_CFG_EN 0 1) with pps := { last := some 0 } }, by decide⟩,
    ⟨4, slotted.put F.MET_CFG_INTERVAL 4 1, by decide⟩,
    ⟨0, 7, { sampleBind with kind := 3 }, ((dabOn.setSlot 7 { applied := some { sampleBind with kind := 3 } }).put (H.ENABLE .slot) 7 1).put F.DAB_MET_INTERVAL 0 1, by decide⟩⟩

theorem witness_FeedComparison :
    (∃ (a : Accessor) (e : Fin 32) (w : Word) (s : State), s.Acts a .metro 0 (0x40C + 32 * e.val) ∧ w.toNat = 1 ∧ s.fcRuns e.val = false ∧ (fcGo e.val (accView a) s).isOk = true) ∧
    (∃ (a : Accessor) (e : Fin 32) (w : Word) (s : State), s.Acts a .metro 0 (0x40C + 32 * e.val) ∧ w.toNat = 1 ∧ s.fcRuns e.val = false ∧ s.enabled .ap (s.fcGet F.FC_CFG_PORT e.val) = false) ∧
    (∃ (a : Accessor) (e : Fin 32) (w : Word) (s : State), s.Acts a .metro 0 (0x40C + 32 * e.val) ∧ w.toNat = 2 ∧ s.fcRuns e.val = true ∧ s.fcOwner e.val = accView a ∧ (s.fcEnd e.val).fcRuns e.val = false) ∧
    (∃ (a : Accessor) (e : Fin 32) (w : Word) (s : State), s.Acts a .metro 0 (0x40C + 32 * e.val) ∧ w.toNat = 4 ∧ s.fcRuns e.val = true ∧ s.fcOwner e.val = accView a) ∧
    (∃ (e : Nat) (s : State), s.fcRuns e = true ∧ s.fcGet F.FC_STAT_STATE e ≠ 3) ∧
    (∃ (e : Fin 32) (s : State), s.fcRuns e.val = true ∧ s.fcGet F.FC_STAT_STATE e.val ≠ 3 ∧ s.pllLocked = true ∧ (s.fc e.val).attempt = 1) ∧
    (∃ (e : Fin 32) (s : State), s.fcRuns e.val = true ∧ s.fcGet F.FC_STAT_STATE e.val ≠ 3 ∧ s.pllLocked = true ∧ (s.fc e.val).attempt ≠ 1) ∧
    (∃ (e : Fin 32) (peak second lag : Int) (s : State), s.fcRuns e.val = true ∧ s.fcGet F.FC_STAT_STATE e.val ≠ 3 ∧ s.pllLocked = true ∧ 6000 ≤ peak ∧ 1000 ≤ peak - second ∧ 0 ≤ lag ∧ lag ≤ (s.fcGet F.FC_LIM_MAX_LAG e.val : Int) * 1000) ∧
    (∃ (e : Fin 32) (peak lag : Int) (s : State), s.fcRuns e.val = true ∧ s.fcGet F.FC_STAT_STATE e.val ≠ 3 ∧ s.pllLocked = true ∧ 8000 ≤ peak ∧ 0 ≤ lag) ∧
    (∃ (e : Fin 32) (valid : Nat) (s : State), s.fcRuns e.val = true ∧ s.pllLocked = true ∧ (s.fc e.val).tap = true ∧ valid = 0 ∧ s.fcGet F.FC_STAT_STATE e.val ≠ 3) ∧
    (∃ (e : Fin 32) (valid : Nat) (s : State), s.fcRuns e.val = true ∧ s.pllLocked = true ∧ (s.fc e.val).tap = true ∧ 0 < valid ∧ valid < 500 ∧ s.fcGet F.FC_STAT_STATE e.val ≠ 3) ∧
    (∃ (e : Fin 32) (valid : Nat) (s : State), s.fcRuns e.val = true ∧ s.pllLocked = true ∧ (s.fc e.val).tap = true ∧ 500 ≤ valid ∧ s.fcGet F.FC_STAT_STATE e.val = 2) ∧
    (∃ (e : Fin 32) (s : State), s.fcRuns e.val = true ∧ s.fcGet F.FC_LIM_REPORT_S e.val ≠ 0 ∧ s.pllLocked = true) :=
  ⟨⟨.pf 0, 31, 1, (slotted.puts 0 [(H.ENABLE .ap, 1)]).putE F.FC_CFG_SRC_INDEX 0 31 4, by decide +kernel⟩,
    ⟨.pf 0, 31, 1, live, by decide⟩,
    ⟨.pf 0, 0, 2, (live.putE F.FC_STAT_STATE 0 0 1), by decide⟩,
    ⟨.pf 0, 0, 4, (live.putE F.FC_STAT_STATE 0 0 1), by decide⟩,
    ⟨0, (live.putE F.FC_STAT_STATE 0 0 1), by decide⟩,
    ⟨0, (live.putE F.FC_STAT_STATE 0 0 1).setFc 0 { attempt := 1 }, by decide⟩,
    ⟨0, (live.putE F.FC_STAT_STATE 0 0 1).setFc 0 { attempt := 2 }, by decide⟩,
    ⟨0, 6000, 5000, 0, (live.putE F.FC_STAT_STATE 0 0 1), by decide⟩,
    ⟨0, 8000, 0, (live.putE F.FC_STAT_STATE 0 0 1), by decide⟩,
    ⟨0, 0, ((live.putE F.FC_STAT_STATE 0 0 1).setFc 0 { tap := true }), by decide⟩,
    ⟨0, 499, ((live.putE F.FC_STAT_STATE 0 0 1).setFc 0 { tap := true }), by decide⟩,
    ⟨0, 500, ((live.putE F.FC_STAT_STATE 0 0 1).setFc 0 { tap := true }).putE F.FC_STAT_STATE 0 0 2, by decide⟩,
    ⟨0, (live.putE F.FC_STAT_STATE 0 0 1).putE F.FC_LIM_REPORT_S 0 0 1, by decide⟩⟩

theorem witness_ClockSources :
    (∃ (s : State), s.powered .clock 0 = true ∧ s.on F.CLK_STAT_XO_OK 0 = true ∧ s.clk.returns = [] ∧ s.get F.CLK_STAT_PLL_STATE 0 ≠ 3) ∧
    (∃ (s : State), s.powered .clock 0 = true ∧ s.get F.CLK_STAT_REF_ACT 0 = 1 ∧ s.on F.CLK_STAT_REF_OK 0 = true ∧ s.get F.CLK_STAT_PLL_STATE 0 = 2 ∧ s.on F.PLL_CFG_HOLDOVER 0 = true ∧ s.on F.CLK_STAT_XO_OK 0 = true) ∧
    (∃ (s : State), s.powered .clock 0 = true ∧ s.get F.CLK_STAT_REF_ACT 0 = 1 ∧ s.on F.CLK_STAT_REF_OK 0 = true ∧ s.get F.CLK_STAT_PLL_STATE 0 = 2 ∧ s.on F.PLL_CFG_HOLDOVER 0 = false) ∧
    (∃ (sync : Bool) (s : State), s.get F.CLK_STAT_REF_ACT 0 ≠ (if sync then 2 else 1) ∧ s.on (if sync then F.CLK_STAT_SYNC_OK else F.CLK_STAT_REF_OK) 0 = true ∧ s.clk.relock = none) ∧
    (∃ (s : State), s.powered .clock 0 = true ∧ s.get F.FRC_MEAS_KHZ 0 = 0) ∧
    (∃ (s : State), s.powered .clock 0 = true ∧ s.on F.CLK_STAT_XO_OK 0 = true ∧ s.get F.CLK_STAT_PLL_STATE 0 = 2 ∧ s.get F.CLK_STAT_REF_ACT 0 = 0) ∧
    (∃ (s : State), s.powered .clock 0 = true ∧ s.on F.CLK_STAT_XO_OK 0 = true ∧ s.get F.CLK_STAT_PLL_STATE 0 = 2 ∧ s.get F.CLK_STAT_REF_ACT 0 ≠ 0) ∧
    (∃ (s : State), s.mode ≠ .off ∧ s.on F.X32_CFG_X32_DIS 0 = false ∧ s.on F.CLK_STAT_X32_OK 0 = false) ∧
    (∃ (s : State), s.on F.CLK_STAT_X32_SRC 0 = true) :=
  ⟨⟨live, by decide⟩,
    ⟨(live.puts 0 [(F.CLK_STAT_REF_ACT, 1), (F.CLK_STAT_REF_OK, 1)]), by decide⟩,
    ⟨(live.puts 0 [(F.CLK_STAT_REF_ACT, 1), (F.CLK_STAT_REF_OK, 1)]).put F.PLL_CFG_HOLDOVER 0 0, by decide⟩,
    ⟨true, live.put F.CLK_STAT_SYNC_OK 0 1, by decide⟩,
    ⟨live, by decide⟩,
    ⟨live, by decide⟩,
    ⟨(live.puts 0 [(F.CLK_STAT_REF_ACT, 1), (F.CLK_STAT_REF_OK, 1)]), by decide⟩,
    ⟨live, by decide⟩,
    ⟨live.put F.CLK_STAT_X32_SRC 0 1, by decide⟩⟩

theorem witness_Relocks :
    (∃ (a : Accessor) (w : Word) (s : State), s.Acts a .clock 0 0x48 ∧ bits w.toNat 0 0 = 1 ∧ s.clk.relock = none ∧ s.get F.PLL_CFG_REF_SEL 0 = 0) ∧
    (∃ (a : Accessor) (w : Word) (s : State), s.Acts a .clock 0 0x48 ∧ bits w.toNat 0 0 = 1 ∧ s.clk.relock = none ∧ s.get F.PLL_CFG_REF_SEL 0 = 1 ∧ s.on F.CLK_STAT_REF_OK 0 = true) ∧
    (∃ (a : Accessor) (w : Word) (s : State), s.Acts a .clock 0 0x48 ∧ bits w.toNat 0 0 = 1 ∧ s.clk.relock.isSome = true) ∧
    (∃ (a : Accessor) (w : Word) (s : State), s.Acts a .clock 0 0x48 ∧ bits w.toNat 0 0 = 1 ∧ s.get F.PLL_CFG_REF_SEL 0 = 1 ∧ s.on F.CLK_STAT_REF_OK 0 = false) ∧
    (∃ (count : Nat) (s : State), s.get F.CLK_STAT_PLL_STATE 0 = 1 ∧ s.clk.counted = false ∧ s.refOk s.clk.target = true ∧ pllExpected s.clk.target + 1 < count) ∧
    (∃ (count : Nat) (s : State), s.get F.CLK_STAT_PLL_STATE 0 = 1 ∧ s.clk.counted = false ∧ s.refOk s.clk.target = true ∧ pllExpected s.clk.target ≤ count + 1 ∧ count ≤ pllExpected s.clk.target + 1 ∧ s.clk.good = 0) ∧
    (∃ (count : Nat) (s : State), s.get F.CLK_STAT_PLL_STATE 0 = 1 ∧ s.clk.counted = false ∧ s.refOk s.clk.target = true ∧ pllExpected s.clk.target ≤ count + 1 ∧ count ≤ pllExpected s.clk.target + 1 ∧ s.clk.good ≠ 0 ∧ s.clk.target ≠ 2) ∧
    (∃ (count : Nat) (s : State), s.get F.CLK_STAT_PLL_STATE 0 = 2 ∧ s.refOk (s.get F.CLK_STAT_REF_ACT 0) = true ∧ count ≤ pllExpected (s.get F.CLK_STAT_REF_ACT 0) + 4 ∧ pllExpected (s.get F.CLK_STAT_REF_ACT 0) ≤ count + 4) ∧
    (∃ (count : Nat) (s : State), s.get F.CLK_STAT_PLL_STATE 0 = 2 ∧ s.refOk (s.get F.CLK_STAT_REF_ACT 0) = true ∧ pllExpected (s.get F.CLK_STAT_REF_ACT 0) + 4 < count) ∧
    (∃ (start : Nat) (s : State), s.clk.relock = some start ∧ s.clk.counted = true ∧ s.mode = .awake) ∧
    (∃ (n : Fin 8) (start : Nat) (s : State), (s.fe n.val).stopped = some start ∧ s.pllLocked = false) ∧
    (∃ (n : Fin 8) (start : Nat) (s : State), (s.fe n.val).stopped = some start ∧ s.pllLocked = true ∧ s.powered .fe n.val = true ∧ s.lineLocked (s.hwOf n.val) = true ∧ s.windowSlots n.val = []) :=
  ⟨⟨.pf 0, 1, live, by decide⟩,
    ⟨.pf 0, 1, (live.puts 0 [(F.CLK_STAT_REF_ACT, 1), (F.CLK_STAT_REF_OK, 1)]).put F.PLL_CFG_REF_SEL 0 1, by decide⟩,
    ⟨.pf 0, 1, { live with clk := { relock := some 0 } }, by decide⟩,
    ⟨.pf 0, 1, live.put F.PLL_CFG_REF_SEL 0 1, by decide⟩,
    ⟨20482, (live.put F.CLK_STAT_PLL_STATE 0 1), by decide⟩,
    ⟨20481, (live.put F.CLK_STAT_PLL_STATE 0 1), by decide⟩,
    ⟨20479, { (live.put F.CLK_STAT_PLL_STATE 0 1) with clk := { good := 1 } }, by decide⟩,
    ⟨20484, live, by decide⟩,
    ⟨20485, live, by decide⟩,
    ⟨0, { live with clk := { relock := some 0, counted := true } }, by decide⟩,
    ⟨7, 0, (live.setFe 7 { stopped := some 0 }).put F.CLK_STAT_PLL_STATE 0 1, by decide⟩,
    ⟨0, 0, (live.setFe 0 { stopped := some 0 }).put F.LINE_STAT_STATE 0 3, by decide⟩⟩

theorem witness_AudioPlls :
    (∃ (a : Accessor) (w : Word) (s : State), s.Acts a .clock 0 0x5C ∧ (plainWrite .clock 0 0x5C (s.major a 0x02) w s).isOk = true) ∧
    (∃ (s : State), s.pllLocked = true) ∧
    (∃ (a : Accessor) (w : Word) (s : State), s.Acts a .clock 0 0x60 ∧ w.toNat = 3) ∧
    (∃ (a : Accessor) (w : Word) (s : State), s.Acts a .clock 0 0x60 ∧ w.toNat = 2 ∧ s.audPllUsed false = false) ∧
    (∃ (a : Accessor) (w : Word) (s : State), s.Acts a .clock 0 0x60 ∧ w.toNat = 2 ∧ s.audPllUsed false = true) ∧
    (∃ (b : Bool) (s : State), s.on (if b then F.AUD_PLL_CFG_B_EN else F.AUD_PLL_CFG_A_EN) 0 = true ∧ s.on F.CLK_STAT_XO_OK 0 = true) ∧
    (∃ (b : Bool) (s : State), s.on (if b then F.AUD_PLL_CFG_B_EN else F.AUD_PLL_CFG_A_EN) 0 = true ∧ s.on (if b then F.CLK_STAT_AUD_B_LOCK else F.CLK_STAT_AUD_A_LOCK) 0 = true) :=
  ⟨⟨.pf 0, 1, live, by decide⟩,
    ⟨live, by decide⟩,
    ⟨.pf 0, 3, live, by decide⟩,
    ⟨.pf 0, 2, live, by decide⟩,
    ⟨.pf 0, 2, live.puts 7 [(F.AP_STAT_STATE, 2), (F.AP_CFG_ROLE, 0), (F.AP_CFG_CLK_SRC, 0), (F.AP_CFG_RATE, 0)], by decide⟩,
    ⟨true, live.put F.AUD_PLL_CFG_B_EN 0 1, by decide⟩,
    ⟨false, live.puts 0 [(F.AUD_PLL_CFG_A_EN, 1), (F.CLK_STAT_AUD_A_LOCK, 1)], by decide⟩⟩

theorem witness_LongLines :
    (∃ (n : Fin 9) (s : State), s.getE F.LINE_STAT_STATE 0 n.val = 1) ∧
    (∃ (n : Fin 9) (s : State), s.getE F.LINE_STAT_STATE 0 n.val = 6) ∧
    (∃ (n : Fin 9) (diff : Int) (s : State), s.getE F.LINE_STAT_STATE 0 n.val = 3 ∧ diff.natAbs ≤ 6) ∧
    (∃ (n : Fin 9) (diff : Int) (s : State), s.getE F.LINE_STAT_STATE 0 n.val = 3 ∧ 7 ≤ diff.natAbs ∧ n.val ≠ 8) ∧
    (∃ (n : Fin 9) (s : State), s.getE F.LINE_STAT_STATE 0 n.val = 2 ∧ n.val ≠ 8) ∧
    (∃ (n : Nat) (s : State), s.lineLocked n = false) ∧
    (∃ (n : Nat) (s : State), s.lineLocked n = true) ∧
    (∃ (err : Int) (s : State), s.getE F.LINE_STAT_STATE 0 8 = 4 ∧ s.on F.CLK_STAT_SYNC_OK 0 = true ∧ s.get F.CLK_STAT_REF_ACT 0 = 2 ∧ s.get F.CLK_STAT_PLL_STATE 0 = 2 ∧ err.natAbs ≤ 2) ∧
    (∃ (err : Int) (s : State), s.getE F.LINE_STAT_STATE 0 8 = 4 ∧ s.on F.CLK_STAT_SYNC_OK 0 = true ∧ s.get F.CLK_STAT_REF_ACT 0 = 2 ∧ s.get F.CLK_STAT_PLL_STATE 0 = 2 ∧ 2 < err.natAbs ∧ s.on F.SYNC_CFG_RECOVER 0 = true) ∧
    (∃ (s : State), s.getE F.LINE_STAT_STATE 0 8 = 5) :=
  ⟨⟨8, live.putE F.LINE_STAT_STATE 0 8 1, by decide⟩,
    ⟨0, live.putE F.LINE_STAT_STATE 0 0 6, by decide⟩,
    ⟨8, -6, live.putE F.LINE_STAT_STATE 0 8 3, by decide⟩,
    ⟨7, -7, live.putE F.LINE_STAT_STATE 0 7 3, by decide⟩,
    ⟨7, live.putE F.LINE_STAT_STATE 0 7 2, by decide⟩,
    ⟨0, live.putE F.LINE_STAT_STATE 0 0 2, by decide⟩,
    ⟨0, live.putE F.LINE_STAT_STATE 0 0 3, by decide⟩,
    ⟨-2, (live.putE F.LINE_STAT_STATE 0 8 4).puts 0 [(F.CLK_STAT_SYNC_OK, 1), (F.CLK_STAT_REF_ACT, 2)], by decide⟩,
    ⟨3, (live.putE F.LINE_STAT_STATE 0 8 4).puts 0 [(F.CLK_STAT_SYNC_OK, 1), (F.CLK_STAT_REF_ACT, 2), (F.SYNC_CFG_RECOVER, 1)], by decide⟩,
    ⟨live.putE F.LINE_STAT_STATE 0 8 5, by decide⟩⟩

theorem witness_HealthMonitors :
    (∃ (t : Int), t < -40) ∧
    (∃ (t : Int), 240 ≤ t) ∧
    (∃ (t : Int), -40 ≤ t ∧ t < 240) ∧
    (∃ (temps : List Int) (t0 : Int) (s : State), s.domOn 0 = true ∧ s.domOn 1 = false ∧ temps[0]? = some t0) ∧
    (∃ (k : Nat) (s : State), Tbl.get s.health.secs 0 k < 59) ∧
    (∃ (k : Nat) (s : State), 59 ≤ Tbl.get s.health.secs 0 k) ∧
    (∃ (s : State), s.domOn 1 = true ∧ s.lifeHours < 175200) ∧
    (∃ (s : State), s.domOn 1 = true ∧ 175200 ≤ s.lifeHours ∧ s.health.lifeTold = false) ∧
    (∃ (a : Accessor) (w : Word) (s : State), s.Acts a .health 0 0x84 ∧ bit w.toNat 0 = true ∧ s.on F.HLT_AGE_CMD_RUNNING 0 = false) ∧
    (∃ (a : Accessor) (w : Word) (s : State), s.Acts a .health 0 0x84 ∧ bit w.toNat 0 = true ∧ s.on F.HLT_AGE_CMD_RUNNING 0 = true) ∧
    (∃ (v : Nat) (s : State), s.on F.HLT_AGE_CMD_RUNNING 0 = true ∧ s.domOn 1 = true ∧ v < 400) ∧
    (∃ (v : Nat) (s : State), s.on F.HLT_AGE_CMD_RUNNING 0 = true ∧ s.domOn 1 = true ∧ 400 ≤ v ∧ s.health.ageTold = false) :=
  ⟨⟨-41, by decide⟩,
    ⟨240, by decide⟩,
    ⟨239, by decide⟩,
    ⟨[50], 50, live.setDom 1 {}, by decide⟩,
    ⟨0, { live with health := { secs := [(0, 58)] } }, by decide⟩,
    ⟨0, { live with health := { secs := [(0, 59)] } }, by decide⟩,
    ⟨live, by unfold State.lifeHours; generalize Config.gradeX = g; cases g <;> decide +kernel⟩,
    ⟨live.putE F.HIST_MINUTES 0 15 10000000, by unfold State.lifeHours; generalize Config.gradeX = g; cases g <;> decide +kernel⟩,
    ⟨.pf 0, 1, live, by decide⟩,
    ⟨.pf 0, 1, live.put F.HLT_AGE_CMD_RUNNING 0 1, by decide⟩,
    ⟨399, live.put F.HLT_AGE_CMD_RUNNING 0 1, by decide⟩,
    ⟨400, live.put F.HLT_AGE_CMD_RUNNING 0 1, by decide⟩⟩

theorem witness_RingControl :
    (∃ (a : Accessor) (r : Fin 64) (w : Word) (s : State), s.HeadActs a .ring r.val 0x10 false true ∧ bits w.toNat 4 1 = 0 ∧ s.powered .ring r.val = true ∧ s.on (H.RESET .ring) r.val = false ∧ bit w.toNat 0 = true ∧ s.enabled .ring r.val = false ∧ s.ringState r.val = 0 ∧ s.ringBase r.val ≠ 0 ∧ s.ringBase r.val % 32 = 0 ∧ s.get F.RING_CFG_DIR r.val = 0 ∧ (s.allocPots (s.ringFunc r.val) (.ring r.val) (s.get F.RING_CFG_POTS r.val)).isSome = true) ∧
    (∃ (a : Accessor) (r : Fin 64) (w : Word) (s : State), s.HeadActs a .ring r.val 0x10 false true ∧ bits w.toNat 4 1 = 0 ∧ s.powered .ring r.val = true ∧ s.on (H.RESET .ring) r.val = false ∧ bit w.toNat 0 = true ∧ s.enabled .ring r.val = false ∧ s.ringState r.val = 0 ∧ s.ringBase r.val = 0) ∧
    (∃ (a : Accessor) (r : Fin 64) (w : Word) (s : State), s.HeadActs a .ring r.val 0x10 false true ∧ bits w.toNat 4 1 = 0 ∧ s.powered .ring r.val = true ∧ s.on (H.RESET .ring) r.val = false ∧ bit w.toNat 0 = false) ∧
    (∃ (r : Nat) (s : State), s.enabled .ring r = true ∧ s.ringState r ≠ 5) ∧
    (∃ (r : Fin 64) (s : State), (s.ring r.val).draining = true ∧ (s.ring r.val).ending = none) :=
  ⟨⟨.pf 0, 63, 1, live.put F.RING_BASE_LO_ADDR 63 0x1000, by decide +kernel⟩,
    ⟨.pf 0, 63, 1, live, by decide⟩,
    ⟨.pf 0, 0, 0, ringOn, by decide⟩,
    ⟨0, ringOn, by decide⟩,
    ⟨63, live.setRing 63 { draining := true }, by decide⟩⟩

theorem witness_RingCommands :
    (∃ (a : Accessor) (r : Fin 64) (w : Word) (s : State), s.Acts a .ring r.val 0x50 ∧ bits w.toNat 15 0 < s.get F.RING_SIZE_ENTRIES r.val ∧ s.ringState r.val ≠ 2) ∧
    (∃ (a : Accessor) (r : Fin 64) (w : Word) (s : State), s.Acts a .ring r.val 0x50 ∧ bits w.toNat 15 0 < s.get F.RING_SIZE_ENTRIES r.val ∧ s.ringState r.val = 2 ∧ bits w.toNat 15 0 ≠ s.get F.RING_HEAD_HEAD r.val) ∧
    (∃ (a : Accessor) (r : Fin 64) (w : Word) (s : State), s.Acts a .ring r.val 0x50 ∧ s.get F.RING_SIZE_ENTRIES r.val ≤ bits w.toNat 15 0) ∧
    (∃ (a : Accessor) (r : Fin 64) (w : Word) (s : State), s.ActsNow a .ring r.val 0x84 w ∧ bits w.toNat 1 0 = 2) ∧
    (∃ (a : Accessor) (r : Fin 64) (w : Word) (s : State), s.ActsNow a .ring r.val 0x84 w ∧ bits w.toNat 1 0 = 1) ∧
    (∃ (r : Nat) (s : State), s.ringState r = 4 ∧ s.get F.RING_CFG_DIR r = 0) ∧
    (∃ (r : Nat) (s : State), s.ringState r ≠ 4) ∧
    (∃ (r : Nat) (s : State), (s.ring r).used = 0) ∧
    (∃ (r : Nat) (s : State), (s.ring r).descs = []) ∧
    (∃ (r : Fin 64) (s : State), s.get F.RING_FLUSH_FLUSH_US r.val = 0) ∧
    (∃ (r : Fin 64) (s : State), s.get F.RING_FLUSH_FLUSH_US r.val ≠ 0) :=
  ⟨⟨.pf 0, 0, 255, ringOn, by decide⟩,
    ⟨.pf 0, 0, 255, ringOn.put F.RING_STAT_STATE 0 2, by decide⟩,
    ⟨.pf 0, 0, 256, ringOn, by decide⟩,
    ⟨.pf 0, 63, 0x01000002, live, by decide⟩,
    ⟨.pf 0, 63, 0x01000001, live, by decide⟩,
    ⟨0, ringOn.put F.RING_STAT_STATE 0 4, by decide⟩,
    ⟨0, ringOn, by decide⟩,
    ⟨0, ringOn, by decide⟩,
    ⟨0, ringOn.setRing 0 { used := 1 }, by decide⟩,
    ⟨0, ringOn.put F.RING_FLUSH_FLUSH_US 0 0, by decide⟩,
    ⟨0, ringOn.put F.RING_FLUSH_FLUSH_US 0 1, by decide⟩⟩

theorem witness_DmaSteps :
    (∃ (r : Fin 64) (phys : Nat) (s : State), s.ringMoves r.val = true ∧ s.descMore r.val = true ∧ s.xlate (s.ringFunc r.val) (s.descAddr r.val (s.descNext r.val)) false = some phys) ∧
    (∃ (r : Nat) (d : Desc) (rest : List Desc) (s : State), (s.ring r).descs = d :: rest ∧ d.len ≠ 0) ∧
    (∃ (r : Nat) (d : Desc) (rest : List Desc) (s : State), (s.ring r).descs = d :: rest ∧ d.len = 0) ∧
    (∃ (r : Fin 64) (d : Desc) (rest : List Desc) (addr phys : Nat) (s : State), s.dmaRing = some r.val ∧ s.ringNeed r.val = some (0, addr) ∧ s.xlate (s.ringFunc r.val) addr true = some phys ∧ (s.ring r.val).descs = d :: rest) ∧
    (∃ (r : Fin 64) (s : State), s.dmaRing ≠ some r.val) ∧
    (∃ (turn : Tbl Nat) (ok : Nat → Bool) (r q : Nat) (s : State), s.pickRing turn ok = some r ∧ q < 64 ∧ ok q = true ∧ s.get F.RING_CFG_CLASS q < 4) ∧
    (∃ (r : Fin 64) (s : State), (s.ring r.val).coal ≠ 0 ∧ s.on F.RING_IRQ_EN r.val = true ∧ s.get F.RING_IRQ_COAL_US r.val ≠ 0) ∧
    (∃ (r : Fin 64) (s : State), s.ringMoves r.val = true) :=
  ⟨⟨0, 0x1000, ringOn.put F.RING_TAIL_TAIL 0 1, by decide⟩,
    ⟨0, sampleDesc, [], (ringOn.setRing 0 { buf := [sampleHeld], descs := [sampleDesc] }), by decide⟩,
    ⟨0, { sampleDesc with len := 0 }, [], ringOn.setRing 0 { descs := [{ sampleDesc with len := 0 }] }, by decide⟩,
    ⟨0, sampleDesc, [], 0x2000, 0x2000, (ringOn.setRing 0 { buf := [sampleHeld], descs := [sampleDesc] }), by decide +kernel⟩,
    ⟨1, live, by decide +kernel⟩,
    ⟨[], fun q => q == 63, 63, 63, live, by decide +kernel⟩,
    ⟨0, (ringOn.setRing 0 { coal := 1 }).puts 0 [(F.RING_IRQ_EN, 1), (F.RING_IRQ_COAL_US, 1)], by decide⟩,
    ⟨0, ringOn, by decide⟩⟩

theorem witness_RecordsOffered :
    (∃ (x : Rec) (s : State), x.notRx = 0 ∧ s.domOn 14 = true) ∧
    (∃ (r : Nat) (x : Rec) (s : State), x.produced (s.get F.RING_CFG_REC_VER r) = true ∧ s.ringTakes r = true ∧ (s.ring r).culls = [] ∧ (s.ring r).fill + x.length (s.get F.RING_CFG_REC_VER r) ≤ s.ringCap r) ∧
    (∃ (r : Nat) (x : Rec) (s : State), x.produced (s.get F.RING_CFG_REC_VER r) = true ∧ s.ringTakes r = true ∧ (s.ring r).culls = [] ∧ s.ringCap r < (s.ring r).fill + x.length (s.get F.RING_CFG_REC_VER r)) ∧
    (∃ (r : Nat) (x : Rec) (c : Culled) (s : State), x.produced (s.get F.RING_CFG_REC_VER r) = true ∧ s.ringTakes r = true ∧ (s.ring r).culls = [c] ∧ c.isOf x = true ∧ (s.ring r).fill + 64 + x.length (s.get F.RING_CFG_REC_VER r) ≤ s.ringCap r) ∧
    (∃ (r : Nat) (x : Rec) (c : Culled) (s : State), x.produced (s.get F.RING_CFG_REC_VER r) = true ∧ s.ringTakes r = true ∧ (s.ring r).culls = [c] ∧ c.isOf x = true ∧ s.ringCap r < (s.ring r).fill + 64 + x.length (s.get F.RING_CFG_REC_VER r)) ∧
    (∃ (r : Nat) (x : Rec) (s : State), s.ringTakes r = false ∧ x.produced (s.get F.RING_CFG_REC_VER r) = true) ∧
    (∃ (r : Nat) (s : State), s.get F.RING_SEQ_SEQ r < 2 ^ 32 - 1) ∧
    (∃ (r : Fin 64) (o : Overflow) (s : State), (s.ring r.val).overflow = some o ∧ (s.ring r.val).culls = []) :=
  ⟨⟨sampleRec, ringOn, by decide⟩,
    ⟨0, sampleRec, ringOn, by decide⟩,
    ⟨0, sampleRec, (ringOn.setRing 0 { buf := [{ sampleHeld with len := 262144 }], culls := [] }), by decide⟩,
    ⟨0, sampleRec, { kind := .rule, source := 5, epoch := 1, start := 0, records := 1, samples := 0, ofType := 0 }, ringOn.setRing 0 { culls := [{ kind := .rule, source := 5, epoch := 1, start := 0, records := 1, samples := 0, ofType := 0 }] }, by decide⟩,
    ⟨0, sampleRec, { kind := .rule, source := 5, epoch := 1, start := 0, records := 1, samples := 0, ofType := 0 }, (ringOn.setRing 0 { buf := [{ sampleHeld with len := 262144 }], culls := [{ kind := .rule, source := 5, epoch := 1, start := 0, records := 1, samples := 0, ofType := 0 }] }), by decide⟩,
    ⟨63, sampleRec, live, by decide⟩,
    ⟨0, ringOn.put F.RING_SEQ_SEQ 0 (2 ^ 32 - 2), by decide⟩,
    ⟨0, ⟨0, 1, 1⟩, ringOn.setRing 0 { overflow := some ⟨0, 1, 1⟩ }, by decide⟩⟩

theorem witness_DomainTransitions :
    (∃ (a : Accessor) (w : Word) (d : Nat) (s : State), s.Acts a .aon 0 0x80 ∧ 2 ≤ d ∧ d < 16 ∧ w.toNat = 2 ^ d ∧ s.devMoves = false ∧ s.pdQueue = [] ∧ s.pdWaits = false ∧ (s.dom d).run = none ∧ (s.dom d).on = false ∧ s.prereqOk d = true) ∧
    (∃ (d : Fin 16) (on : Bool) (o : Origin) (s : State), d.val ≠ 0 ∧ (s.dom d.val).run = some (on, o) ∧ (s.dom d.val).pend = none ∧ s.mode = .awake ∧ s.fg.preset = none ∧ s.pdQueue = []) :=
  ⟨⟨.pf 0, 0x8000, 15, live.setDom 15 {}, by decide⟩,
    ⟨13, false, .pdReq, live.setDom 13 { on := true, run := some (false, .pdReq) }, by decide⟩⟩

theorem witness_PowerOnEpochs :
    (∃ (s : State) (n : Nat), (s.dom 11).exempt = false ∧ n < 512) ∧
    (∃ (s : State), (s.dom 11).exempt = true) :=
  ⟨⟨live, 511, by decide⟩,
    ⟨live.setDom 11 { exempt := true }, by decide⟩⟩

theorem witness_CrucibleBanks :
    (∃ (a : Accessor) (w : Word) (s : State), s.Acts a .crucible 0 0x40 ∧ (∀ k, k < 8 → bits w.toNat (2 * k + 1) (2 * k) ≠ 3 ∧ (bits w.toNat (2 * k + 1) (2 * k) ≠ s.bankShown k → (s.bank k).moving = none ∧ (bits w.toNat (2 * k + 1) (2 * k) = 0 ∨ s.bankUsed k = false)))) ∧
    (∃ (k : Fin 8) (x : Nat) (s : State), (s.bank k.val).moving = some x ∧ x ≠ 2) ∧
    (∃ (k : Fin 8) (x : Nat) (s : State), (s.bank k.val).moving = some x ∧ x = 2) ∧
    (∃ (k a : Nat), bankOf a = k) ∧
    (∃ (k a : Nat), bankOf a ≠ k) :=
  ⟨⟨.pf 0, 0x8001, live, by decide +kernel⟩,
    ⟨7, 0, live.setBank 7 { state := 1, moving := some 0 }, by decide⟩,
    ⟨0, 2, live.setBank 0 { moving := some 2 }, by decide⟩,
    ⟨0, 0, by decide⟩,
    ⟨1, 0, by decide⟩⟩

theorem witness_SleepRequests :
    (∃ (a : Accessor) (w : Word) (s : State), s.Acts a .aon 0 0x44 ∧ (bits w.toNat 1 0 = 1 ∨ bits w.toNat 1 0 = 2) ∧ s.sleepRefused (bits w.toNat 1 0 == 2) = false) ∧
    (∃ (a : Accessor) (w : Word) (s : State), s.Acts a .aon 0 0x44 ∧ (bits w.toNat 1 0 = 1 ∨ bits w.toNat 1 0 = 2) ∧ s.sleepRefused (bits w.toNat 1 0 == 2) = true) ∧
    (∃ (a : Accessor) (w : Word) (s : State), s.Acts a .aon 0 0x44 ∧ (bits w.toNat 1 0 = 1 ∨ bits w.toNat 1 0 = 2) ∧ s.get F.WAKE_EN_EN 0 = 0) ∧
    (∃ (a : Accessor) (w : Word) (s : State), s.Acts a .aon 0 0x44 ∧ (bits w.toNat 1 0 = 1 ∨ bits w.toNat 1 0 = 2) ∧ s.mode ≠ .awake) ∧
    (∃ (a : Accessor) (w : Word) (s : State), s.Acts a .aon 0 0x44 ∧ (bits w.toNat 1 0 = 1 ∨ bits w.toNat 1 0 = 2) ∧ bits w.toNat 1 0 = 2 ∧ s.on F.GLOBAL_STAT_FG_ACTIVE 0 = true) :=
  ⟨⟨.pf 0, 1, live, by decide⟩,
    ⟨.pf 0, 2, live, by decide⟩,
    ⟨.pf 0, 1, live.put F.WAKE_EN_EN 0 0, by decide⟩,
    ⟨.pf 0, 1, { live with mode := .entering false }, by decide⟩,
    ⟨.pf 0, 2, live.put F.GLOBAL_STAT_FG_ACTIVE 0 1, by decide⟩⟩

theorem witness_SleepEntry :
    (∃ (lehr : Bool) (s : State), s.mode = .entering lehr) ∧
    (∃ (s : State), s.mode = .committed false ∧ s.wakeHid.srcs = 0) ∧
    (∃ (s : State), s.mode = .committed true ∧ s.wakeHid.srcs = 0 ∧ s.aonTime.toNat + s.get F.LEHR_CFG_PERIOD 0 * 32768 < 2 ^ 48) :=
  ⟨⟨true, { live with mode := .entering true }, by decide⟩,
    ⟨{ live with mode := .committed false }, by decide⟩,
    ⟨{ live with mode := .committed true }, by decide⟩⟩

theorem witness_WakeSources :
    (∃ (lehr : Bool) (s : State), s.mode = .entering lehr ∧ bit (s.get F.WAKE_EN_EN 0) 2 = true ∧ s.wakeHid.srcs = 0) ∧
    (∃ (s : State), s.mode = .sleep ∧ bit (s.get F.WAKE_EN_EN 0) 2 = true ∧ s.domOn 1 = false ∧ s.on F.LEHR_STAT_IN_CYCLE 0 = false) ∧
    (∃ (s : State), bit (s.get F.WAKE_EN_EN 0) 2 = false) ∧
    (∃ (s : State), s.aonTime.toNat = s.get F.WAKE_AT_LO_AT 0 + s.get F.WAKE_AT_HI_AT 0 * 2 ^ 32) ∧
    (∃ (temp : Int) (vio : Nat) (s : State), s.mode ≠ .off ∧ temp < 2 * (s.get F.AON_OT_THRESH 0 : Int) ∧ s.get F.AON_SUPPLY_WARN 0 ≤ vio) :=
  ⟨⟨false, { live with mode := .entering false }, by decide⟩,
    ⟨{ live with mode := .sleep, doms := [] }, by decide⟩,
    ⟨live.put F.WAKE_EN_EN 0 0, by decide⟩,
    ⟨live.put F.WAKE_AT_LO_AT 0 0, by decide⟩,
    ⟨199, 65535, { live with fields := [(F.AON_OT_THRESH.key 0 0, 100)] }, by decide +kernel⟩⟩

theorem witness_WakeCompletes :
    (∃ (lehr : Bool) (s : State), s.mode = .waking lehr ∧ s.pllLocked = true ∧ s.domOn 13 = true ∧ s.on F.SLEEP_CFG_HOST_UP 0 = false) ∧
    (∃ (lehr : Bool) (s : State), s.mode = .waking lehr ∧ s.pllLocked = true ∧ s.domOn 13 = true ∧ s.domOn 14 = true) :=
  ⟨⟨true, { live with mode := .waking true }.put F.SLEEP_CFG_HOST_UP 0 0, by decide⟩,
    ⟨false, { live with mode := .waking false }, by decide⟩⟩

theorem witness_ServeVisits :
    (∃ (s : State), s.mode = .sleep ∧ s.on F.SLEEP_CFG_MGMT_SERVE 0 = true ∧ s.visits = false ∧ s.domOn 1 = false) ∧
    (∃ (s : State), s.mode = .lehr ∧ s.on F.SLEEP_CFG_MGMT_SERVE 0 = true ∧ s.visits = false ∧ s.domOn 1 = false) ∧
    (∃ (s : State), s.visits = true ∧ s.on F.LEHR_STAT_IN_CYCLE 0 = false ∧ s.lehr.due = false) ∧
    (∃ (s : State), s.visits = true ∧ s.on F.LEHR_STAT_IN_CYCLE 0 = true ∧ s.lehr.due = false) :=
  ⟨⟨{ live with mode := .sleep, doms := [] }.put F.SLEEP_CFG_MGMT_SERVE 0 1, by decide⟩,
    ⟨{ live with mode := .lehr, doms := [] }.put F.SLEEP_CFG_MGMT_SERVE 0 1, by decide⟩,
    ⟨live.put F.AON_STAT_SERVE 0 1, by decide⟩,
    ⟨live.puts 0 [(F.AON_STAT_SERVE, 1), (F.LEHR_STAT_IN_CYCLE, 1)], by decide⟩⟩

theorem witness_PuntyRelease :
    (∃ (a : Accessor) (w : Word) (g : Nat) (s : State), s.Acts a .aon 0 0x88 ∧ g < 8 ∧ w.toNat = 2 ^ g ∧ s.held g = true ∧ s.domOn (puntyDom g) = true ∧ s.loaded g = true) ∧
    (∃ (a : Accessor) (w : Word) (g : Nat) (s : State), s.Acts a .aon 0 0x88 ∧ g < 8 ∧ w.toNat = 2 ^ g ∧ s.held g = false) :=
  ⟨⟨.pf 0, 128, 7, live.puts 0 [(F.PUNTY_STAT_HELD, 128), (F.PUNTY_STAT_LOADED, 128)], by decide⟩,
    ⟨.pf 0, 1, 0, live.put F.PUNTY_STAT_HELD 0 0, by decide⟩⟩

theorem witness_WatchEntryWrites :
    (∃ (a : Accessor) (e : Fin 16) (w : Word) (s : State), s.Acts a .lehr 0 (0x100 + 0x20 * e.val) ∧ s.major a 0x5C = 2 ∧ bit w.toNat 0 = false) ∧
    (∃ (a : Accessor) (e : Fin 16) (w : Word) (s : State), s.Acts a .lehr 0 (0x100 + 0x20 * e.val) ∧ s.major a 0x5C = 2 ∧ bit w.toNat 0 = true ∧ (match plainWrite .lehr 0 (0x100 + 0x20 * e.val) 2 w s with | .ok t => !(t.watchOf e.val).ok (t.getE F.LW_FREQ_DWELL 0 e.val) | .error _ => false) = true) :=
  ⟨⟨.pf 0, 15, 0xE, live, by decide⟩,
    ⟨.pf 0, 15, 1, live, by decide⟩⟩

theorem witness_LehrCycles :
    (∃ (s : State), s.mode = .lehr ∧ s.on F.LEHR_STAT_IN_CYCLE 0 = false ∧ s.visits = false ∧ s.domOn 1 = false) ∧
    (∃ (s : State), s.mode = .lehr ∧ s.on F.LEHR_STAT_IN_CYCLE 0 = true) ∧
    (∃ (s : State), s.mode ≠ .lehr) :=
  ⟨⟨{ live with mode := .lehr, doms := [] }, by decide⟩,
    ⟨{ live with mode := .lehr }.put F.LEHR_STAT_IN_CYCLE 0 1, by decide⟩,
    ⟨live, by decide⟩⟩

theorem witness_LehrDwells :
    (∃ (u : WatchUnit) (d : Dwell) (s : State), s.dwelling = some d ∧ u.hits d.set.rule d.set.p0 d.set.p1 = true) ∧
    (∃ (d : Dwell) (s : State), s.dwelling = some d ∧ d.set.rule = 0) ∧
    (∃ (d : Dwell) (k : Nat) (rest : List Nat) (s : State), s.dwelling = some d ∧ d.set.rule = 3 ∧ d.rest = k :: rest) ∧
    (∃ (d : Dwell) (s : State), s.dwelling = some d ∧ d.set.rule = 3 ∧ d.rest = []) :=
  ⟨⟨.rds 0x1234 0 1 false 0 0, sampleDwell, dwellOn sampleDwell, by decide⟩,
    ⟨ruleDwell 0, dwellOn (ruleDwell 0), by decide⟩,
    ⟨sampleDwell, 1, [], dwellOn sampleDwell, by decide⟩,
    ⟨{ sampleDwell with rest := [] }, dwellOn { sampleDwell with rest := [] }, by decide⟩⟩

theorem witness_LehrAcks :
    (∃ (a : Accessor) (w : Word) (s : State), s.Acts a .lehr 0 0x48 ∧ bit w.toNat 1 = true) ∧
    (∃ (a : Accessor) (w : Word) (s : State), s.Acts a .lehr 0 0x4C ∧ bit w.toNat 31 = true) :=
  ⟨⟨.pf 0, 2, live, by decide⟩,
    ⟨.pf 0, 0x80000000, live, by decide⟩⟩

theorem witness_SupplyOfPd0 :
    ∃ (s : State), s.mode = .off :=
  ⟨{ live with mode := .off }, by decide⟩

theorem witness_PwrGoodRises :
    (∃ (s : State), s.mode = .reset ∧ s.start.holding = true) ∧
    (∃ (s : State), s.mode ≠ .reset) :=
  ⟨⟨State.reset, by decide⟩,
    ⟨live, by decide⟩⟩

theorem witness_DeviceResets :
    (∃ (s : State), s.mode ≠ .off ∧ s.start.pwrHigh = true) ∧
    (∃ (s : State), s.start.pwrHigh = false) ∧
    (∃ (s : State), s.mode ≠ .off) :=
  ⟨⟨{ live with start := { pwrHigh := true } }, by decide⟩,
    ⟨State.reset, by decide⟩,
    ⟨live, by decide⟩⟩

theorem witness_StageOne :
    (∃ (s : State), s.domOn 1 = true ∧ s.stage = 0 ∧ s.domOn 14 = true) ∧
    (∃ (p : Preset) (s : State), s.fgReceives = some p ∧ s.get F.FG_STAT_STATE 0 = 1) :=
  ⟨⟨live.put F.GLOBAL_STAT_STAGE 0 0, by decide⟩,
    ⟨samplePreset, fgOn, by decide⟩⟩

theorem witness_FgWatch :
    (∃ (e : Fin 4) (u : WatchUnit) (p : Preset) (s : State), s.fgReceives = some p ∧ (p.rules.getD e.val (0, 0, 0, 0, 0)).1 ≠ 0 ∧ (fgMatch (p.rules.getD e.val (0, 0, 0, 0, 0)).1 (p.rules.getD e.val (0, 0, 0, 0, 0)).2.2.2.1 (p.rules.getD e.val (0, 0, 0, 0, 0)).2.2.2.2 (Tbl.get s.fg.watch {} e.val).tone u).1 = true ∧ (p.rules.getD e.val (0, 0, 0, 0, 0)).2.1 ≤ (Tbl.get s.fg.watch {} e.val).hits + 1 ∧ bit (s.get F.FG_WATCH_ACTIVE 0) e.val = false) ∧
    (∃ (e : Fin 4) (u : WatchUnit) (p : Preset) (s : State), s.fgReceives = some p ∧ (p.rules.getD e.val (0, 0, 0, 0, 0)).1 ≠ 0 ∧ (fgMatch (p.rules.getD e.val (0, 0, 0, 0, 0)).1 (p.rules.getD e.val (0, 0, 0, 0, 0)).2.2.2.1 (p.rules.getD e.val (0, 0, 0, 0, 0)).2.2.2.2 (Tbl.get s.fg.watch {} e.val).tone u).1 = false) ∧
    (∃ (e : Nat), e < 4) ∧
    (∃ (e : Fin 4) (p : Preset) (s : State), s.fg.preset = some p ∧ bit (s.get F.FG_WATCH_ACTIVE 0) e.val = true ∧ msTicks (p.rules.getD e.val (0, 0, 0, 0, 0)).2.2.1 ≤ s.now - (Tbl.get s.fg.watch {} e.val).last ∧ p.follow = false) :=
  ⟨⟨0, .rds 0x1234 0 1 false 0 0, samplePreset, fgOn, by decide⟩,
    ⟨0, .rds 0x1235 0 1 false 0 0, samplePreset, fgOn, by decide⟩,
    ⟨3, by decide⟩,
    ⟨3, samplePreset, fgOn.put F.FG_WATCH_ACTIVE 0 8, by decide⟩⟩

theorem witness_FgCommands :
    (∃ (a : Accessor) (w : Word) (s : State), s.Acts a .otp 0 0x50 ∧ bits w.toNat 2 0 = 2) ∧
    (∃ (a : Accessor) (w : Word) (s : State), s.Acts a .otp 0 0x50 ∧ bits w.toNat 2 0 = 1 ∧ s.on F.GLOBAL_STAT_FG_ACTIVE 0 = true ∧ s.fg.ho = none) ∧
    (∃ (p : Preset) (s : State), s.fg.preset = some p) ∧
    (∃ (a : Accessor) (w : Word) (n : Nat) (s : State), s.Acts a .otp 0 0x50 ∧ bits w.toNat 2 0 = 4 ∧ bits w.toNat 12 4 = n ∧ (handover n (bit w.toNat 3) s).isOk = true) :=
  ⟨⟨.pf 0, 2, live, by decide⟩,
    ⟨.pf 0, 1, fgOn, by decide⟩,
    ⟨samplePreset, fgOn, by decide⟩,
    ⟨.pf 0, 0x44, 4, fgPlays, by decide +kernel⟩⟩

theorem witness_Handovers :
    (∃ (peak lag : Int) (h : Ho) (s : State), s.fg.ho = some h ∧ h.cross = false ∧ 8000 ≤ peak ∧ lag.natAbs ≤ 4) ∧
    (∃ (peak : Int) (h : Ho) (s : State), s.fg.ho = some h ∧ h.cross = false ∧ peak < 8000 ∧ s.get F.FG_HO_STAT_ATTEMPTS 0 + 1 < 4) ∧
    (∃ (peak : Int) (h : Ho) (s : State), s.fg.ho = some h ∧ h.cross = false ∧ peak < 8000 ∧ s.get F.FG_HO_STAT_ATTEMPTS 0 = 3) ∧
    (∃ (h : Ho) (p : Preset) (s : State), s.fg.ho = some h ∧ s.fg.preset = some p ∧ h.cross = true ∧ h.stop = false ∧ h.keep = true ∧ h.slot < 512 ∧ p.apSlot < 32) :=
  ⟨⟨8000, -4, sampleHo, hoOn sampleHo, by decide⟩,
    ⟨7999, sampleHo, (hoOn sampleHo).put F.FG_HO_STAT_ATTEMPTS 0 2, by decide⟩,
    ⟨7999, sampleHo, (hoOn sampleHo).put F.FG_HO_STAT_ATTEMPTS 0 3, by decide⟩,
    ⟨{ sampleHo with cross := true }, samplePreset, hoOn { sampleHo with cross := true }, by decide⟩⟩

theorem witness_ImageChecks :
    (∃ (flash : List (List Byte)) (i : Nat) (hd : List Byte) (s : State), s.get F.BOOT_STAT_STATE 0 = 1 ∧ nextImage flash s.start.tried = some (i, hd) ∧ i < 4 ∧ s.imageErr hd none true true true = 0) ∧
    (∃ (flash : List (List Byte)) (i : Nat) (hd : List Byte) (s : State) (e : Nat), s.get F.BOOT_STAT_STATE 0 = 1 ∧ nextImage flash s.start.tried = some (i, hd) ∧ nextImage flash (i :: s.start.tried) = none ∧ s.imageErr hd none true true false = e ∧ e ≠ 0 ∧ s.bootPolicy ≠ 1) ∧
    (∃ (hd : List Byte) (s : State), hdrOk hd = true ∧ 4 ≤ hdrNum hd 8 4 ∧ hdrNum hd 8 4 ≤ 786432 ∧ hdrNum hd 8 4 % 4 = 0 ∧ hdrNum hd 6 2 ≤ 3 ∧ s.keyRevoked (hdrNum hd 6 2) = true) :=
  ⟨⟨[sampleHeader], 0, sampleHeader, live.put F.BOOT_STAT_STATE 0 1, by decide +kernel⟩,
    ⟨[sampleHeader], 0, sampleHeader, live.put F.BOOT_STAT_STATE 0 1, 6, by decide +kernel⟩,
    ⟨sampleHeader, { live with otp := [(0x830, 1)] }, by decide +kernel⟩⟩

theorem witness_Loader :
    (∃ (s : State), s.get F.BOOT_STAT_STATE 0 = 5 ∧ s.get F.BOOT_STAT_SOURCE 0 ≠ 2) ∧
    (∃ (s : State), s.get F.BOOT_STAT_STATE 0 ≠ 5) ∧
    (∃ (a : Accessor) (w : Word) (s : State), s.Acts a .global (accIdx a) 0x114 ∧ isManager a = true ∧ bits w.toNat 1 0 = 1 ∧ s.get F.BOOT_STAT_STATE 0 = 2 ∧ 516 ≤ s.get F.MBX_LEN_LEN 0) ∧
    (∃ (a : Accessor) (w : Word) (s : State), s.Acts a .global (accIdx a) 0x114 ∧ isManager a = true ∧ bits w.toNat 1 0 = 2 ∧ (s.get F.BOOT_STAT_STATE 0 = 3 ∨ s.get F.BOOT_STAT_STATE 0 = 4)) ∧
    (∃ (a : Accessor) (s : State), s.Acts a .global (accIdx a) 0x114 ∧ isManager a = false) :=
  ⟨⟨live.puts 0 [(F.BOOT_STAT_STATE, 5), (F.BOOT_STAT_SOURCE, 1)], by decide⟩,
    ⟨live.put F.BOOT_STAT_STATE 0 1, by decide⟩,
    ⟨.pf 0, 1, live.puts 0 [(F.BOOT_STAT_STATE, 2), (F.MBX_LEN_LEN, 516)], by decide⟩,
    ⟨.pf 0, 2, live.put F.BOOT_STAT_STATE 0 4, by decide⟩,
    ⟨.pf 1, pf1, by decide⟩⟩

theorem witness_TranslationControl :
    (∃ (a : Accessor) (w : Word) (s : State), s.Acts a .xlat (accView a) 0x40 ∧ bits w.toNat 1 0 ≠ s.get F.XLAT_CFG_MODE (accView a) ∧ s.ringsIdle (accView a) = false) ∧
    (∃ (a : Accessor) (w : Word) (s : State), s.Acts a .xlat (accView a) 0x40 ∧ bits w.toNat 1 0 ≠ 1 ∧ s.ringsIdle (accView a) = true ∧ (plainWrite .xlat (accView a) 0x40 (s.major a 0x71) w s).isOk = true) ∧
    (∃ (a : Accessor) (w : Word) (s : State), s.Acts a .xlat (accView a) 0x40 ∧ bits w.toNat 1 0 = 1 ∧ s.ringsIdle (accView a) = true ∧ (s.cfg (accView a)).ats = false) ∧
    (∃ (a : Accessor) (w : Word) (s : State), s.Acts a .xlat (accView a) 0x4C ∧ s.on F.XLAT_INV_BUSY (accView a) = false ∧ w.toNat = 1) ∧
    (∃ (a : Accessor) (w : Word) (s : State), s.Acts a .xlat (accView a) 0x4C ∧ s.on F.XLAT_INV_BUSY (accView a) = false ∧ w.toNat = 2) ∧
    (∃ (a : Accessor) (w : Word) (s : State), s.Acts a .xlat (accView a) 0x4C ∧ s.on F.XLAT_INV_BUSY (accView a) = true ∧ w.toNat = 1) ∧
    (∃ (a : Accessor) (w : Word) (s : State), s.Acts a .xlat (accView a) 0x4C ∧ s.on F.XLAT_INV_BUSY (accView a) = false ∧ w.toNat = 3) ∧
    (∃ (f : Nat) (s : State), s.get F.XLAT_CFG_MODE f ≠ 0) ∧
    (∃ (f : Fin 4) (s : State), s.on F.XLAT_INV_BUSY f.val = true) ∧
    (∃ (s : State), s.link.up = true ∧ s.domOn 14 = true) :=
  ⟨⟨.pf 0, 2, ringOn, by decide +kernel⟩,
    ⟨.pf 0, 2, live, by decide +kernel⟩,
    ⟨.pf 0, 1, live, by decide +kernel⟩,
    ⟨.pf 0, 1, live, by decide⟩,
    ⟨.pf 0, 2, live, by decide⟩,
    ⟨.pf 0, 1, live.put F.XLAT_INV_BUSY 0 1, by decide⟩,
    ⟨.pf 0, 3, live, by decide⟩,
    ⟨3, live.put F.XLAT_CFG_MODE 3 2, by decide⟩,
    ⟨3, live.put F.XLAT_INV_BUSY 3 1, by decide⟩,
    ⟨live, by decide⟩⟩

theorem witness_Translations :
    (∃ (e1 e2 e3 : Nat), bit e1 0 = true ∧ bits e1 14 3 = 0 ∧ bits e1 63 52 = 0 ∧ bit e2 0 = true ∧ bits e2 14 3 = 0 ∧ bits e2 63 52 = 0 ∧ bit e3 0 = true ∧ bits e3 11 3 = 0 ∧ bits e3 63 52 = 0) ∧
    (∃ (e : Nat), bit e 0 = false) ∧
    (∃ (e : Nat), bit e 0 = true ∧ bits e 11 3 ≠ 0) ∧
    (∃ (r : Fin 64) (acc addr : Nat) (needed : Bool) (s : State), s.walkRing = some r.val ∧ s.missing r.val = some (acc, addr, needed) ∧ 2 ^ 48 ≤ addr) ∧
    (∃ (r : Fin 64) (reads : List (Nat × Nat)) (acc addr : Nat) (needed : Bool) (l : List Nat) (phys : Nat) (rd wr : Bool) (s : State), s.walkRing = some r.val ∧ s.missing r.val = some (acc, addr, needed) ∧ addr < 2 ^ 48 ∧ walkFrom addr 3 (s.xroot (s.ringFunc r.val)) reads = (l, .page phys rd wr)) ∧
    (∃ (r : Fin 64) (acc addr : Nat) (needed : Bool) (s : State), s.get F.XLAT_CFG_MODE (s.ringFunc r.val) = 1 ∧ s.missing r.val = some (acc, addr, needed) ∧ addr < 2 ^ 48 ∧ (s.cfg (s.ringFunc r.val)).ats = true) ∧
    (∃ (f : Nat) (s : State), s.get F.XLAT_CFG_MODE f = 0) :=
  ⟨⟨0x10001, 0x20001, 0x30007, by decide⟩,
    ⟨0, by decide⟩,
    ⟨9, by decide⟩,
    ⟨0, 2, 2 ^ 48, true, (walking 2).puts 0 [(F.RING_BASE_LO_ADDR, 0), (F.RING_BASE_HI_ADDR, 2 ^ 16)], by decide +kernel⟩,
    ⟨0, [(0, 0x10001), (0, 0x20001), (0, 0x30007)], 2, 0x1000, true, [0, 0x10000, 0x20008], 0x30000, true, true, walking 2, by decide +kernel⟩,
    ⟨0, 2, 0x1000, true, (walking 1).setCfg 0 { bme := true, ats := true }, by decide +kernel⟩,
    ⟨0, live, by decide⟩⟩

theorem witness_RingFaults :
    (∃ (r : Nat) (s : State), s.get F.FAULT_LOG_COUNT (s.ringFunc r) < 256) ∧
    (∃ (r : Fin 64) (x : RingFault) (s : State), (s.ring r.val).fault = some x ∧ x.asked = true) ∧
    (∃ (a : Accessor) (r : Fin 64) (w : Word) (x : RingFault) (s : State), s.Acts a .fault (accView a) 0x6C ∧ bits w.toNat 5 0 = r.val ∧ bits w.toNat 31 24 = s.epoch (.ring r.val) ∧ (s.ring r.val).fault = some x ∧ s.ringFunc r.val = accView a ∧ s.ringState r.val = 5 ∧ bits w.toNat 9 8 = 0) ∧
    (∃ (a : Accessor) (r : Fin 64) (w : Word) (x : RingFault) (s : State), s.Acts a .fault (accView a) 0x6C ∧ bits w.toNat 5 0 = r.val ∧ bits w.toNat 31 24 = s.epoch (.ring r.val) ∧ (s.ring r.val).fault = some x ∧ s.ringFunc r.val = accView a ∧ s.ringState r.val = 5 ∧ bits w.toNat 9 8 = 1 ∧ x.access = 0) ∧
    (∃ (a : Accessor) (r : Fin 64) (w : Word) (x : RingFault) (s : State), s.Acts a .fault (accView a) 0x6C ∧ bits w.toNat 5 0 = r.val ∧ bits w.toNat 31 24 = s.epoch (.ring r.val) ∧ (s.ring r.val).fault = some x ∧ s.ringFunc r.val = accView a ∧ s.ringState r.val = 5 ∧ bits w.toNat 9 8 = 1 ∧ 2 ≤ x.access) ∧
    (∃ (a : Accessor) (r : Fin 64) (w : Word) (x : RingFault) (s : State), s.Acts a .fault (accView a) 0x6C ∧ bits w.toNat 5 0 = r.val ∧ bits w.toNat 31 24 = s.epoch (.ring r.val) ∧ (s.ring r.val).fault = some x ∧ s.ringFunc r.val = accView a ∧ s.ringState r.val = 5 ∧ bits w.toNat 9 8 = 2) ∧
    (∃ (a : Accessor) (w : Word) (s : State), s.Acts a .fault (accView a) 0x40 ∧ s.get F.FAULT_LOG_COUNT (accView a) < (bits w.toNat 7 0 + 256 - s.get F.FAULT_LOG_HEAD (accView a)) % 256) ∧
    (∃ (a : Accessor) (w : Word) (s : State), s.Acts a .fault (accView a) 0x40 ∧ (bits w.toNat 7 0 + 256 - s.get F.FAULT_LOG_HEAD (accView a)) % 256 ≤ s.get F.FAULT_LOG_COUNT (accView a)) :=
  ⟨⟨63, live.put F.FAULT_LOG_COUNT 0 255, by decide⟩,
    ⟨0, { ringFault 0 with asked := true }, ringOn.setRing 0 { fault := some { ringFault 0 with asked := true } }, by decide⟩,
    ⟨.pf 0, 0, 0x01000000, ringFault 0, faulted 0, by decide⟩,
    ⟨.pf 0, 0, 0x01000100, ringFault 0, faulted 0, by decide⟩,
    ⟨.pf 0, 0, 0x01000100, ringFault 2, faulted 2, by decide⟩,
    ⟨.pf 0, 0, 0x01000200, ringFault 0, faulted 0, by decide⟩,
    ⟨.pf 0, 1, live, by decide⟩,
    ⟨.pf 0, 1, live.put F.FAULT_LOG_COUNT 0 1, by decide⟩⟩

theorem witness_LinkStates :
    (∃ (s : State), s.domOn 14 = false) ∧
    (∃ (s : State), s.domOn 14 = true) ∧
    (∃ (s : State), s.link.up = true) ∧
    (∃ (s : State), s.link.up = false) ∧
    (∃ (s : State), s.link.up = false ∧ s.link.perst = false ∧ s.domOn 14 = true ∧ s.domOn 1 = true) ∧
    (∃ (s : State), s.link.perst = true) :=
  ⟨⟨live.setDom 14 {}, by decide⟩,
    ⟨live, by decide⟩,
    ⟨live, by decide⟩,
    ⟨State.reset, by decide⟩,
    ⟨{ live with link := { perst := false } }, by decide⟩,
    ⟨State.reset, by decide⟩⟩

theorem witness_HostAccesses :
    (∃ (f : Fin 4) (s : State), s.link.up = true ∧ s.domOn 14 = true ∧ s.get F.XLAT_CFG_MODE f.val = 1) ∧
    (∃ (f : Fin 4) (s : State), s.link.up = true ∧ s.domOn 14 = true ∧ (s.cfg f.val).pri = false) ∧
    (∃ (s : State), s.link.up = true ∧ s.reaches (.pf 0) = true) ∧
    (∃ (a : Nat) (s : State), s.bankOn (bankOf a) = true ∧ a < Memory.size ∧ bankOf a ≠ 0) ∧
    (∃ (a : Nat) (s : State), s.bankOn (bankOf a) = false) :=
  ⟨⟨3, live.put F.XLAT_CFG_MODE 3 1, by decide⟩,
    ⟨3, live, by decide⟩,
    ⟨live, by decide⟩,
    ⟨Memory.size - 1, live, by decide +kernel⟩,
    ⟨0, live.setBank 0 { state := 1 }, by decide +kernel⟩⟩

theorem witness_OwnershipWrites :
    (∃ (a : Accessor) (off e : Nat) (row : OwnRow) (w : Word) (s : State), s.Acts a .function 0 off ∧ ownAt off = some (row, e) ∧ ∀ i, i < 16 → 16 * e + i < row.count → (w.toNat / 2 ^ (2 * i) % 4) = (s.ownEntry row.fld (16 * e + i))) ∧
    (∃ (a : Accessor) (off e : Nat) (row : OwnRow) (w : Word) (s : State) (i : Nat), s.Acts a .function 0 off ∧ ownAt off = some (row, e) ∧ i < 16 ∧ 16 * e + i < row.count ∧ (w.toNat / 2 ^ (2 * i) % 4) ≠ (s.ownEntry row.fld (16 * e + i)) ∧ (s.flrRuns (s.ownEntry row.fld (16 * e + i)) || s.flrRuns (w.toNat / 2 ^ (2 * i) % 4)) = true) ∧
    (∃ (a : Accessor) (off e : Nat) (row : OwnRow) (w : Word) (s : State) (i : Nat), s.Acts a .function 0 off ∧ ownAt off = some (row, e) ∧ (∀ i, i < 16 → 16 * e + i < row.count → (w.toNat / 2 ^ (2 * i) % 4) ≠ (s.ownEntry row.fld (16 * e + i)) → (s.flrRuns (s.ownEntry row.fld (16 * e + i)) || s.flrRuns (w.toNat / 2 ^ (2 * i) % 4)) = false) ∧ i < 16 ∧ 16 * e + i < row.count ∧ (w.toNat / 2 ^ (2 * i) % 4) ≠ (s.ownEntry row.fld (16 * e + i)) ∧ (s.ownHeld (row.inst (16 * e + i)).1 (row.inst (16 * e + i)).2) = true) ∧
    (∃ (a : Accessor) (off e : Nat) (row : OwnRow) (w : Word) (s : State) (i : Nat), s.Acts a .function 0 off ∧ ownAt off = some (row, e) ∧ (∀ i, i < 16 → 16 * e + i < row.count → (w.toNat / 2 ^ (2 * i) % 4) ≠ (s.ownEntry row.fld (16 * e + i)) → (s.flrRuns (s.ownEntry row.fld (16 * e + i)) || s.flrRuns (w.toNat / 2 ^ (2 * i) % 4)) = false ∧ (s.ownHeld (row.inst (16 * e + i)).1 (row.inst (16 * e + i)).2) = false) ∧ i < 16 ∧ 16 * e + i < row.count ∧ (w.toNat / 2 ^ (2 * i) % 4) ≠ (s.ownEntry row.fld (16 * e + i))) :=
  ⟨⟨.pf 0, 0x2FC, 63, .tap, 0, live, by decide +kernel⟩,
    ⟨.pf 0, 0x80, 0, .ring, 1, live.put F.FUNC_STAT_FLR_BUSY 0 2, 0, by decide +kernel⟩,
    ⟨.pf 0, 0x80, 0, .ring, 1, ringOn, 0, by decide +kernel⟩,
    ⟨.pf 0, 0x90, 0, .port, 0x4000, live, 7, by decide +kernel⟩⟩

theorem witness_FunctionResets :
    (∃ (s : State), s.link.up = true ∧ s.domOn 14 = true) ∧
    (∃ (f : Fin 4) (s : State), s.flrRuns f.val = true) ∧
    (∃ (f : Fin 4) (s : State), s.flrRuns f.val = false) ∧
    (∃ (p : Nat), p < 256) :=
  ⟨⟨live, by decide⟩,
    ⟨3, live.put F.FUNC_STAT_FLR_BUSY 0 8, by decide⟩,
    ⟨0, live, by decide⟩,
    ⟨255, by decide⟩⟩

theorem witness_PortControl :
    (∃ (a : Accessor) (p : Fin 8) (w : Word) (s : State), s.HeadActs a .ap p.val 0x10 false true ∧ bits w.toNat 4 1 = 0 ∧ s.powered .ap p.val = true ∧ s.on (H.RESET .ap) p.val = false ∧ bit w.toNat 0 = true ∧ s.enabled .ap p.val = false ∧ s.on F.GLOBAL_STAT_FG_ACTIVE 0 = false ∧ s.get F.AP_STAT_STATE p.val = 0 ∧ formatOk (s.get F.AP_CFG_FORMAT p.val) (s.get F.AP_CFG_SLOTS p.val) = true ∧ s.clockOk p.val = true ∧ s.audPllOn p.val = true ∧ (s.allocPots (s.owner .ap p.val) (.port p.val) (s.get F.AP_BUF_IN_POTS p.val)).isSome = true) ∧
    (∃ (a : Accessor) (p : Fin 8) (w : Word) (s : State), s.HeadActs a .ap p.val 0x10 false true ∧ bits w.toNat 4 1 = 0 ∧ s.powered .ap p.val = true ∧ s.on (H.RESET .ap) p.val = false ∧ bit w.toNat 0 = true ∧ s.enabled .ap p.val = false ∧ s.on F.GLOBAL_STAT_FG_ACTIVE 0 = false ∧ s.get F.AP_STAT_STATE p.val = 0 ∧ formatOk (s.get F.AP_CFG_FORMAT p.val) (s.get F.AP_CFG_SLOTS p.val) = false) ∧
    (∃ (a : Accessor) (p : Fin 8) (w : Word) (s : State), s.HeadActs a .ap p.val 0x10 false true ∧ bits w.toNat 4 1 = 0 ∧ s.powered .ap p.val = true ∧ s.on (H.RESET .ap) p.val = false ∧ bit w.toNat 0 = false) ∧
    (∃ (p : Nat) (s : State), s.enabled .ap p = true ∧ s.get F.AP_STAT_STATE p = 2) ∧
    (∃ (p : Nat) (s : State), s.enabled .ap p = true ∧ s.get F.AP_STAT_STATE p = 1) :=
  ⟨⟨.pf 0, 7, 1, live.put F.AP_CFG_ROLE 7 1, by decide +kernel⟩,
    ⟨.pf 0, 7, 1, live.puts 7 [(F.AP_CFG_FORMAT, 0), (F.AP_CFG_SLOTS, 3)], by decide⟩,
    ⟨.pf 0, 0, 0, live, by decide⟩,
    ⟨0, portOn, by decide⟩,
    ⟨0, portOn.put F.AP_STAT_STATE 0 1, by decide⟩⟩

theorem witness_PortFrames :
    (∃ (p : Fin 8) (s : State), s.domOn 15 = true ∧ s.get F.AP_STAT_STATE p.val ≠ 0 ∧ (s.ap p.val).stopping = true) ∧
    (∃ (p : Fin 8) (s : State), s.domOn 15 = true ∧ s.get F.AP_STAT_STATE p.val ≠ 0 ∧ (s.ap p.val).stopping = false ∧ s.get F.AP_STAT_STATE p.val = 1 ∧ s.on F.AP_CFG_ROLE p.val = false) ∧
    (∃ (p : Fin 8) (s : State) (rate : Nat), s.domOn 15 = true ∧ s.get F.AP_STAT_STATE p.val ≠ 0 ∧ (s.ap p.val).stopping = false ∧ s.get F.AP_STAT_STATE p.val = 1 ∧ s.on F.AP_CFG_ROLE p.val = true ∧ 16 ≤ (s.ap p.val).frames ∧ rateMeasured rate = true) ∧
    (∃ (p : Fin 8) (s : State), s.domOn 15 = true ∧ s.get F.AP_STAT_STATE p.val ≠ 0 ∧ (s.ap p.val).stopping = false ∧ s.get F.AP_STAT_STATE p.val = 2) ∧
    (∃ (p k : Nat) (s : State), (s.ap p).out k = { kind := s.getE F.OUT_SRC_KIND p k, index := s.getE F.OUT_SRC_INDEX p k } ∧ s.getE F.OUT_SRC_KIND p k = 0) ∧
    (∃ (p : Fin 8) (k : Fin 16) (x : Rec) (rest : List Rec) (s : State), ((s.ap p.val).inp k.val).done = x :: rest ∧ s.domOn 14 = true ∧ s.ringTakes (s.getE F.IN_CFG_RING p.val k.val) = true ∧ s.owner .ring (s.getE F.IN_CFG_RING p.val k.val) = s.owner .ap p.val ∧ (s.ring (s.getE F.IN_CFG_RING p.val k.val)).fill + x.length (s.get F.RING_CFG_REC_VER (s.getE F.IN_CFG_RING p.val k.val)) ≤ s.ringCap (s.getE F.IN_CFG_RING p.val k.val)) ∧
    (∃ (p : Fin 8) (k : Fin 16) (x : Rec) (rest : List Rec) (s : State), ((s.ap p.val).inp k.val).done = x :: rest ∧ s.ringTakes (s.getE F.IN_CFG_RING p.val k.val) = false) :=
  ⟨⟨0, portOn.setAp 0 { stopping := true }, by decide⟩,
    ⟨7, live.puts 7 [(F.AP_STAT_STATE, 1), (F.AP_CFG_ROLE, 0)], by decide⟩,
    ⟨7, (live.puts 7 [(F.AP_STAT_STATE, 1), (F.AP_CFG_ROLE, 1)]).setAp 7 { frames := 16 }, 128000, by decide⟩,
    ⟨0, portOn, by decide⟩,
    ⟨7, 15, live, by decide +kernel⟩,
    ⟨0, 15, sampleRec, [], (portOn.setAp 0 (({} : ApHid).setInp 15 { done := [sampleRec] })).puts 0 [(H.ENABLE .ring, 1), (F.RING_STAT_STATE, 1)], by decide⟩,
    ⟨0, 15, sampleRec, [], (portOn.setAp 0 (({} : ApHid).setInp 15 { done := [sampleRec] })), by decide⟩⟩

theorem witness_PortRates :
    (∃ (valid : Bool), valid = false) ∧
    (∃ (s : State), s.pllLocked = false) ∧
    (∃ (p : Fin 8) (rate : Nat) (s : State), s.get F.AP_STAT_STATE p.val = 2 ∧ s.pllLocked = true ∧ s.domOn 15 = true ∧ (s.ap p.val).refSet = false ∧ rateMeasured rate = true) ∧
    (∃ (a : Accessor) (p : Fin 8) (w : Word) (s : State), s.ActsNow a .ap p.val 0x54 w ∧ bit w.toNat 0 = true ∧ s.on F.GLOBAL_STAT_FG_ACTIVE 0 = false ∧ s.on F.AP_STAT_RATE_VALID p.val = true) ∧
    (∃ (a : Accessor) (p : Fin 8) (w : Word) (s : State), s.ActsNow a .ap p.val 0x54 w ∧ bit w.toNat 0 = true ∧ s.on F.GLOBAL_STAT_FG_ACTIVE 0 = false ∧ s.on F.AP_STAT_RATE_VALID p.val = false) ∧
    (∃ (p : Fin 8) (s : State), s.get F.AP_STAT_STATE p.val = 2 ∧ s.domOn 15 = true ∧ s.extClock p.val = true) ∧
    (∃ (p : Fin 8) (s : State), s.get F.AP_STAT_STATE p.val = 2 ∧ s.domOn 15 = true ∧ s.extClock p.val = false) ∧
    (∃ (p : Fin 8) (s : State), s.domOn 15 = true ∧ s.get F.AP_STAT_STATE p.val = 3) ∧
    (∃ (p : Fin 8) (s : State), s.domOn 15 = true ∧ s.get F.AP_STAT_STATE p.val = 4) ∧
    (∃ (p : Fin 8) (s : State), s.domOn 15 = true ∧ s.get F.AP_STAT_STATE p.val < 3) ∧
    (∃ (p : Fin 8) (rate : Nat) (s : State), s.get F.AP_STAT_STATE p.val = 3 ∧ s.domOn 15 = true ∧ 1000 * rate ≤ 1002 * s.get F.AP_RATE_REF_RATE p.val ∧ 998 * s.get F.AP_RATE_REF_RATE p.val ≤ 1000 * rate) ∧
    (∃ (p : Fin 8) (rate : Nat) (s : State), s.get F.AP_STAT_STATE p.val = 3 ∧ s.domOn 15 = true ∧ 1002 * s.get F.AP_RATE_REF_RATE p.val < 1000 * rate) :=
  ⟨⟨false, by decide⟩,
    ⟨State.reset, by decide⟩,
    ⟨0, 3200000, portOn, by decide⟩,
    ⟨.pf 0, 0, 0x01000001, portOn.put F.AP_STAT_RATE_VALID 0 1, by decide⟩,
    ⟨.pf 0, 0, 0x01000001, portOn, by decide⟩,
    ⟨0, portOn.put F.AP_CFG_ROLE 0 1, by decide⟩,
    ⟨0, portOn.puts 0 [(F.AP_CFG_ROLE, 0), (F.AP_CFG_CLK_SRC, 0)], by decide⟩,
    ⟨7, live.put F.AP_STAT_STATE 7 3, by decide⟩,
    ⟨7, live.put F.AP_STAT_STATE 7 4, by decide⟩,
    ⟨7, live, by decide⟩,
    ⟨0, 1002000, portOn.puts 0 [(F.AP_STAT_STATE, 3), (F.AP_RATE_REF_RATE, 1000000)], by decide⟩,
    ⟨0, 1002001, portOn.puts 0 [(F.AP_STAT_STATE, 3), (F.AP_RATE_REF_RATE, 1000000)], by decide⟩⟩

theorem witness_PortPairs :
    (∃ (a : Accessor) (p : Fin 8) (k : Fin 16) (w : Word) (s : State), s.Acts a .ap p.val (0x100 + 16 * k.val) ∧ s.on F.GLOBAL_STAT_FG_ACTIVE 0 = false ∧ k.val < s.pairs p.val ∧ s.outMember p.val k.val = false ∧ s.srcAllowed p.val (bits w.toNat 2 0) (bits w.toNat 13 4) = true) ∧
    (∃ (a : Accessor) (p : Fin 8) (k : Fin 16) (w : Word) (s : State), s.Acts a .ap p.val (0x100 + 16 * k.val) ∧ s.on F.GLOBAL_STAT_FG_ACTIVE 0 = false ∧ s.srcAllowed p.val (bits w.toNat 2 0) (bits w.toNat 13 4) = false) ∧
    (∃ (a : Accessor) (p : Fin 8) (k : Fin 16) (w : Word) (s : State), s.Acts a .ap p.val (0x204 + 16 * k.val) ∧ s.on F.GLOBAL_STAT_FG_ACTIVE 0 = false ∧ bits w.toNat 8 8 = 1 ∧ k.val < s.pairs p.val ∧ s.inMember p.val k.val = false ∧ s.portJoinRefused p.val (bits w.toNat 5 0) (s.get F.AP_AG_REF_PD p.val) 0 none = false) ∧
    (∃ (a : Accessor) (p : Fin 8) (k : Fin 16) (w : Word) (s : State), s.Acts a .ap p.val (0x204 + 16 * k.val) ∧ s.on F.GLOBAL_STAT_FG_ACTIVE 0 = false ∧ bits w.toNat 8 8 = 1 ∧ k.val < s.pairs p.val ∧ s.inMember p.val k.val = false ∧ s.portJoinRefused p.val (bits w.toNat 5 0) (s.get F.AP_AG_REF_PD p.val) 0 none = true) ∧
    (∃ (a : Accessor) (p : Fin 8) (k : Fin 16) (w : Word) (s : State), s.on F.GLOBAL_STAT_FG_ACTIVE 0 = false ∧ bits w.toNat 8 8 = 0 ∧ s.Acts a .ap p.val (0x204 + 16 * k.val)) ∧
    (∃ (a : Accessor) (p : Fin 8) (k : Fin 16) (w : Word) (s : State), s.on F.GLOBAL_STAT_FG_ACTIVE 0 = false ∧ bits w.toNat 8 8 = 0 ∧ s.Acts a .ap p.val (0x104 + 16 * k.val)) ∧
    (∃ (g : Nat), 61 ≤ g) ∧
    (∃ (g ref lat : Nat) (s : State), (s.grp g).hasPort = false ∧ ref < lat) ∧
    (∃ (a : Accessor) (p : Fin 8) (k : Fin 16) (w : Word) (s : State), s.Acts a .ap p.val (0x200 + 16 * k.val) ∧ s.on F.GLOBAL_STAT_FG_ACTIVE 0 = false ∧ bit w.toNat 0 = false ∧ (plainWrite .ap p.val (0x200 + 16 * k.val) (s.major a (0x60 + p.val)) w (s.inClose p.val k.val)).isOk = true) ∧
    (∃ (a : Accessor) (p : Fin 8) (k : Fin 16) (w : Word) (s : State), s.Acts a .ap p.val (0x200 + 16 * k.val) ∧ s.on F.GLOBAL_STAT_FG_ACTIVE 0 = false ∧ s.owner .ring (bits w.toNat 9 4) = s.owner .ap p.val ∧ s.get F.RING_CFG_DIR (bits w.toNat 9 4) = 0 ∧ (plainWrite .ap p.val (0x200 + 16 * k.val) (s.major a (0x60 + p.val)) w (s.inClose p.val k.val)).isOk = true) ∧
    (∃ (a : Accessor) (k : Fin 16) (s : State), s.on F.GLOBAL_STAT_FG_ACTIVE 0 = true ∧ s.Acts a .ap 0 (0x100 + 16 * k.val)) ∧
    (∃ (a : Accessor) (k : Fin 16) (s : State), s.on F.GLOBAL_STAT_FG_ACTIVE 0 = true ∧ s.Acts a .ap 0 (0x200 + 16 * k.val)) ∧
    (∃ (a : Accessor) (s : State), s.on F.GLOBAL_STAT_FG_ACTIVE 0 = true ∧ s.Acts a .ap 0 0x54) :=
  ⟨⟨.pf 0, 7, 15, 0, live.put F.AP_CFG_SLOTS 7 32, by decide⟩,
    ⟨.pf 0, 7, 0, 6, live, by decide⟩,
    ⟨.pf 0, 7, 0, 0x13C, live, by decide⟩,
    ⟨.pf 0, 7, 0, 0x13D, live, by decide⟩,
    ⟨.pf 0, 7, 15, 0, live, by decide⟩,
    ⟨.pf 0, 7, 15, 0, live, by decide⟩,
    ⟨61, by decide⟩,
    ⟨0, 0, 1, live, by decide⟩,
    ⟨.pf 0, 7, 15, 0x00F00000, live, by decide⟩,
    ⟨.pf 0, 7, 15, 0x00F003F1, live, by decide⟩,
    ⟨.pf 0, 15, live.put F.GLOBAL_STAT_FG_ACTIVE 0 1, by decide⟩,
    ⟨.pf 0, 15, live.put F.GLOBAL_STAT_FG_ACTIVE 0 1, by decide⟩,
    ⟨.pf 0, live.put F.GLOBAL_STAT_FG_ACTIVE 0 1, by decide⟩⟩

theorem witness_ZwikiurExecutes :
    (∃ (bytes ps : List Byte) (pec : Bool) (read : Option Nat) (s : State), s.mode = .awake ∧ s.domOn 1 = true ∧ s.stage = 3 ∧ s.mgmt.held = none ∧ s.visits = false ∧ zwWalk [s.busAddr false, BitVec.ofNat 8 0x00] 0x00 [] false bytes = .ok (ps, pec) ∧ zwLeast 0x00 ps ≤ ps.length ∧ (read = none → zwReads 0x00 ps = false) ∧ (read = none ∨ zwWrites 0x00 = true → pec = true ∨ (0x00 ≠ 0x11 ∧ s.on F.MGMT_CFG_PEC_REQ 0 = false)) ∧ (0x00 = 0x7E ∨ 0x00 = 0x40 ∧ read ≠ none → s.spoken ≠ 1)) ∧
    (∃ (bytes ps : List Byte) (pec : Bool) (read : Option Nat) (s : State), s.mode = .awake ∧ s.domOn 1 = true ∧ s.stage = 3 ∧ s.mgmt.held = none ∧ s.visits = false ∧ zwWalk [s.busAddr false, BitVec.ofNat 8 0x01] 0x01 [] false bytes = .ok (ps, pec) ∧ zwLeast 0x01 ps ≤ ps.length ∧ (read = none → zwReads 0x01 ps = false) ∧ (read = none ∨ zwWrites 0x01 = true → pec = true ∨ (0x01 ≠ 0x11 ∧ s.on F.MGMT_CFG_PEC_REQ 0 = false)) ∧ (0x01 = 0x7E ∨ 0x01 = 0x40 ∧ read ≠ none → s.spoken ≠ 1)) ∧
    (∃ (bytes ps : List Byte) (pec : Bool) (read : Option Nat) (s : State), s.mode = .awake ∧ s.domOn 1 = true ∧ s.stage = 3 ∧ s.mgmt.held = none ∧ s.visits = false ∧ zwWalk [s.busAddr false, BitVec.ofNat 8 0x04] 0x04 [] false bytes = .ok (ps, pec) ∧ zwLeast 0x04 ps ≤ ps.length ∧ (read = none → zwReads 0x04 ps = false) ∧ (read = none ∨ zwWrites 0x04 = true → pec = true ∨ (0x04 ≠ 0x11 ∧ s.on F.MGMT_CFG_PEC_REQ 0 = false)) ∧ (0x04 = 0x7E ∨ 0x04 = 0x40 ∧ read ≠ none → s.spoken ≠ 1)) ∧
    (∃ (bytes ps : List Byte) (pec : Bool) (read : Option Nat) (s : State), s.mode = .awake ∧ s.domOn 1 = true ∧ s.stage = 3 ∧ s.mgmt.held = none ∧ s.visits = false ∧ zwWalk [s.busAddr false, BitVec.ofNat 8 0x05] 0x05 [] false bytes = .ok (ps, pec) ∧ zwLeast 0x05 ps ≤ ps.length ∧ (read = none → zwReads 0x05 ps = false) ∧ (read = none ∨ zwWrites 0x05 = true → pec = true ∨ (0x05 ≠ 0x11 ∧ s.on F.MGMT_CFG_PEC_REQ 0 = false)) ∧ (0x05 = 0x7E ∨ 0x05 = 0x40 ∧ read ≠ none → s.spoken ≠ 1)) ∧
    (∃ (bytes ps : List Byte) (pec : Bool) (read : Option Nat) (s : State), s.mode = .awake ∧ s.domOn 1 = true ∧ s.stage = 3 ∧ s.mgmt.held = none ∧ s.visits = false ∧ zwWalk [s.busAddr false, BitVec.ofNat 8 0x11] 0x11 [] false bytes = .ok (ps, pec) ∧ zwLeast 0x11 ps ≤ ps.length ∧ (read = none → zwReads 0x11 ps = false) ∧ (read = none ∨ zwWrites 0x11 = true → pec = true ∨ (0x11 ≠ 0x11 ∧ s.on F.MGMT_CFG_PEC_REQ 0 = false)) ∧ (0x11 = 0x7E ∨ 0x11 = 0x40 ∧ read ≠ none → s.spoken ≠ 1)) ∧
    (∃ (bytes ps : List Byte) (pec : Bool) (read : Option Nat) (s : State), s.mode = .awake ∧ s.domOn 1 = true ∧ s.stage = 3 ∧ s.mgmt.held = none ∧ s.visits = false ∧ zwWalk [s.busAddr false, BitVec.ofNat 8 0x31] 0x31 [] false bytes = .ok (ps, pec) ∧ zwLeast 0x31 ps ≤ ps.length ∧ (read = none → zwReads 0x31 ps = false) ∧ (read = none ∨ zwWrites 0x31 = true → pec = true ∨ (0x31 ≠ 0x11 ∧ s.on F.MGMT_CFG_PEC_REQ 0 = false)) ∧ (0x31 = 0x7E ∨ 0x31 = 0x40 ∧ read ≠ none → s.spoken ≠ 1)) ∧
    (∃ (bytes ps : List Byte) (pec : Bool) (read : Option Nat) (s : State), s.mode = .awake ∧ s.domOn 1 = true ∧ s.stage = 3 ∧ s.mgmt.held = none ∧ s.visits = false ∧ zwWalk [s.busAddr false, BitVec.ofNat 8 0x40] 0x40 [] false bytes = .ok (ps, pec) ∧ zwLeast 0x40 ps ≤ ps.length ∧ (read = none → zwReads 0x40 ps = false) ∧ (read = none ∨ zwWrites 0x40 = true → pec = true ∨ (0x40 ≠ 0x11 ∧ s.on F.MGMT_CFG_PEC_REQ 0 = false)) ∧ (0x40 = 0x7E ∨ 0x40 = 0x40 ∧ read ≠ none → s.spoken ≠ 1)) ∧
    (∃ (bytes ps : List Byte) (pec : Bool) (read : Option Nat) (s : State), s.mode = .awake ∧ s.domOn 1 = true ∧ s.stage = 3 ∧ s.mgmt.held = none ∧ s.visits = false ∧ zwWalk [s.busAddr false, BitVec.ofNat 8 0x7E] 0x7E [] false bytes = .ok (ps, pec) ∧ zwLeast 0x7E ps ≤ ps.length ∧ (read = none → zwReads 0x7E ps = false) ∧ (read = none ∨ zwWrites 0x7E = true → pec = true ∨ (0x7E ≠ 0x11 ∧ s.on F.MGMT_CFG_PEC_REQ 0 = false)) ∧ (0x7E = 0x7E ∨ 0x7E = 0x40 ∧ read ≠ none → s.spoken ≠ 1)) ∧
    (∃ (bytes ps : List Byte) (pec : Bool) (read : Option Nat) (s : State), s.mode = .awake ∧ s.domOn 1 = true ∧ s.stage = 3 ∧ s.mgmt.held = none ∧ s.visits = false ∧ zwWalk [s.busAddr false, BitVec.ofNat 8 0x7F] 0x7F [] false bytes = .ok (ps, pec) ∧ zwLeast 0x7F ps ≤ ps.length ∧ (read = none → zwReads 0x7F ps = false) ∧ (read = none ∨ zwWrites 0x7F = true → pec = true ∨ (0x7F ≠ 0x11 ∧ s.on F.MGMT_CFG_PEC_REQ 0 = false)) ∧ (0x7F = 0x7E ∨ 0x7F = 0x40 ∧ read ≠ none → s.spoken ≠ 1)) :=
  ⟨⟨[2], [2], false, none, spoken2, by decide +kernel⟩,
    ⟨[], [], false, some 32, spoken2, by decide +kernel⟩,
    ⟨[], [], false, some 8, spoken2, by decide +kernel⟩,
    ⟨[1, 0xFE], [1, 0xFE], false, none, spoken2, by decide +kernel⟩,
    ⟨[6, 0, 0x20, 1, 0, 0, 0, crc8 [0xB0, 0x11, 6, 0, 0x20, 1, 0, 0, 0]], [6, 0, 0x20, 1, 0, 0, 0], true, none, spoken2, by decide +kernel⟩,
    ⟨[7, 0, 0x68, 0, 1, 2, 3, 4], [7, 0, 0x68, 0, 1, 2, 3, 4], false, none, spoken2, by decide +kernel⟩,
    ⟨[], [], false, some 4, spoken2, by decide +kernel⟩,
    ⟨[1, 0xFE], [1, 0xFE], false, none, spoken2, by decide +kernel⟩,
    ⟨[0xA5], [0xA5], false, none, spoken2, by decide +kernel⟩⟩

theorem witness_ZwikiurEffects :
    (∃ (s : State) (g : Byte), s.visits = false ∧ (g.toNat = 1 ∨ g.toNat = 2)) ∧
    (∃ (s : State) (lo hi b0 b1 b2 b3 : Byte), s.otpTakes (ofLe [lo, hi] / 4) (ofLe [b0, b1, b2, b3]) = false) :=
  ⟨⟨live, 2, by decide⟩,
    ⟨live, 0, 0, 1, 0, 0, 0, by decide +kernel⟩⟩

theorem witness_ZwikiurRefused :
    (∃ (bytes : List Byte) (e : Nat) (s : State), s.mode = .awake ∧ s.domOn 1 = true ∧ s.stage = 3 ∧ s.mgmt.held = none ∧ s.visits = false ∧ zwWalk [s.busAddr false, BitVec.ofNat 8 0x00] 0x00 [] false bytes = .error e) ∧
    (∃ (bytes : List Byte) (e : Nat) (s : State), s.mode = .awake ∧ s.domOn 1 = true ∧ s.stage = 3 ∧ s.mgmt.held = none ∧ s.visits = false ∧ zwWalk [s.busAddr false, BitVec.ofNat 8 0x7F] 0x7F [] false bytes = .error e) ∧
    (∃ (bytes : List Byte) (e : Nat) (s : State), s.mode = .awake ∧ s.domOn 1 = true ∧ s.stage = 3 ∧ s.mgmt.held = none ∧ s.visits = false ∧ zwWalk [s.busAddr false, BitVec.ofNat 8 0x31] 0x31 [] false bytes = .error e) ∧
    (∃ (bytes : List Byte) (e : Nat) (s : State), s.mode = .awake ∧ s.domOn 1 = true ∧ s.stage = 3 ∧ s.mgmt.held = none ∧ s.visits = false ∧ zwWalk [s.busAddr false, BitVec.ofNat 8 0x04] 0x04 [] false bytes = .error e) :=
  ⟨⟨[3], 5, live, by decide +kernel⟩,
    ⟨[0], 5, live, by decide +kernel⟩,
    ⟨[3], 4, live, by decide +kernel⟩,
    ⟨[0], 2, live, by decide +kernel⟩⟩

theorem witness_QuickRead :
    ∃ (s : State), s.mode = .awake ∧ s.domOn 1 = true :=
  ⟨live, by decide⟩

theorem witness_AddressMatch :
    (∃ (addr : BitVec 7) (s : State), addr.toNat ≠ 0x58 + s.start.ma) ∧
    (∃ (s : State), s.mode = .awake) ∧
    (∃ (addr : BitVec 7) (s : State), addr.toNat = 0x58 + s.start.ma ∧ s.mode = .sleep ∧ s.visits = false ∧ s.on F.SLEEP_CFG_MGMT_SERVE 0 = true) ∧
    (∃ (addr : BitVec 7) (s : State), addr.toNat = 0x58 + s.start.ma ∧ s.mode = .lehr ∧ s.visits = false ∧ s.on F.SLEEP_CFG_MGMT_SERVE 0 = true) :=
  ⟨⟨0x59, live, by decide⟩,
    ⟨live, by decide⟩,
    ⟨0x58, { live with mode := .sleep, doms := [] }.put F.SLEEP_CFG_MGMT_SERVE 0 1, by decide⟩,
    ⟨0x58, { live with mode := .lehr, doms := [] }.put F.SLEEP_CFG_MGMT_SERVE 0 1, by decide⟩⟩

theorem witness_BusFailures :
    ∃ (c : Byte) (s : State), s.mode = .awake ∧ s.domOn 1 = true ∧ c ≠ 1 ∧ c ≠ 2 ∧ c ≠ 3 ∧ s.served c.toNat = 0 :=
  ⟨0x30, live, by decide⟩

theorem witness_Attention :
    (∃ (s : State), s.attn.active = true ∧ s.attn.due = true ∧ s.attnWanted = true ∧ s.domOn 1 = true ∧ s.visits = false) ∧
    (∃ (s : State), s.visits = true) ∧
    (∃ (s : State), s.attn.active = true ∧ 0 < s.attn.given) :=
  ⟨⟨{ live with attn := { active := true, due := true } }.puts 0 [(F.MGMT_ATTN_PEND_PEND, 1), (F.MGMT_ATTN_EN_EN, 1), (F.MGMT_CFG_ATTN_EN, 1)], by decide⟩,
    ⟨live.put F.AON_STAT_SERVE 0 1, by decide⟩,
    ⟨{ live with attn := { active := true, given := 1 } }, by decide⟩⟩

theorem witness_AttnStatusClears :
    (∃ (k : Nat) (s : State), s.get F.MGMT_ATTN_PEND_PEND 0 < 2 ^ 12 ∧ s.get F.MGMT_ATTN_PEND_PEND 0 % 2 ^ (8 * min 4 (k - 1)) ≠ 0) ∧
    (∃ (k : Nat) (s : State), s.get F.MGMT_ATTN_PEND_PEND 0 < 2 ^ 12 ∧ s.get F.MGMT_ATTN_PEND_PEND 0 % 2 ^ (8 * min 4 (k - 1)) = 0) :=
  ⟨⟨2, live.put F.MGMT_ATTN_PEND_PEND 0 0xFFF, by decide⟩,
    ⟨1, live.put F.MGMT_ATTN_PEND_PEND 0 0xFFF, by decide⟩⟩

theorem witness_StageSteps :
    (∃ (s : State), s.stage = 0 ∧ s.start.ready1 = true ∧ s.domOn 1 = true ∧ s.domOn 14 = true) ∧
    (∃ (s : State), s.stage = 1 ∧ s.get F.BOOT_STAT_STATE 0 = 5) ∧
    (∃ (s : State), s.stage = 2 ∧ s.get F.BOOT_STAT_STATE 0 = 5 ∧ s.mode = .awake) ∧
    (∃ (s : State), s.stage = 3) ∧
    (∃ (s : State), s.stage < 7) :=
  ⟨⟨{ live with start := { ready1 := true } }.put F.GLOBAL_STAT_STAGE 0 0, by decide⟩,
    ⟨live.puts 0 [(F.GLOBAL_STAT_STAGE, 1), (F.BOOT_STAT_STATE, 5)], by decide⟩,
    ⟨live.puts 0 [(F.GLOBAL_STAT_STAGE, 2), (F.BOOT_STAT_STATE, 5)], by decide⟩,
    ⟨live, by decide⟩,
    ⟨live.put F.GLOBAL_STAT_STAGE 0 6, by decide⟩⟩

theorem witness_InvariantKept : ∃ s t : State, s.Inv ∧ step s = .next t :=
  ⟨State.reset, _, ⟨by unfold State.memoryOk; decide, ⟨by simp [State.reset], Nat.zero_le _⟩, by simp [State.dialectsOk, State.reset]⟩, rfl⟩

theorem witness_OtpNeverClears :
    ∃ (s t : State) (w b : Nat), step s = .next t ∧ bit (s.otpWord w) b = true :=
  ⟨{ live with otp := [(0x830, 1)] }, _, 0x830, 0, rfl, by decide⟩

theorem witness_DeviceTimeNeverFalls :
    (∃ s t : State, step s = .next t ∧ s.pending.head? = some .vioAonRemoval) ∧
    (∃ s t : State, step s = .next t ∧ s.pending ≠ [] ∧ s.pending.head? ≠ some .vioAonRemoval) ∧
    (∃ s t : State, step s = .next t ∧ s.pending = [] ∧ s.time.toNat + 7500 < 2 ^ 64) :=
  ⟨⟨{ live with pending := [.vioAonRemoval] }, _, rfl, rfl⟩,
    ⟨{ live with pending := [.feStepDone 0] }, _, rfl, by decide⟩,
    ⟨{ live with time := 18446744073709544115 }, _, rfl, rfl, by decide +kernel⟩⟩

/-! ### Well-formedness: a term that each check refuses, beside one at the end of its range -/

theorem test_wf_access :
    (Instr.registerWrite (.pf 0) (2 ^ 20) 4 0).wf = false ∧ (Instr.registerWrite (.pf 0) 0x68 0 0).wf = false ∧
    (Instr.registerWrite (.pf 0) 0x68 9 0).wf = false ∧ (Instr.registerWrite (.pf 0) 0x68 1 256).wf = false ∧
    (Instr.registerWrite (.pf 0) 0xFFFFC 4 (2 ^ 32 - 1)).wf = true ∧ (Instr.upperLatchRead (.pf 0) (2 ^ 20)).wf = false ∧
    (Instr.upperLatchRead (.pf 0) (2 ^ 20 - 1)).wf = true ∧ (Instr.ownershipWrite (.pf 0) 4096 0).wf = false ∧
    (Instr.ownershipWrite (.pf 0) 0x82 0).wf = false ∧ (Instr.ownershipWrite (.pf 0) 0x80 0).wf = true := by decide

theorem test_wf_radio :
    (Instr.bankFrame 0 0 [3, 3]).wf = false ∧ (Instr.bankFrame 0 0 [3, 4]).wf = true ∧
    (Instr.feTempSample 0 32768).wf = false ∧ (Instr.feTempSample 0 (-32769)).wf = false ∧
    (Instr.feTempSample 0 (-32768)).wf = true ∧ (Instr.snapDone 0 [0, 32768]).wf = false ∧
    (Instr.snapDone 0 [-32768, 32767]).wf = true ∧ (Instr.rdsBlock 0 0 0 false []).wf = false ∧
    (Instr.rdsBlock 0 0 1 false []).wf = true ∧ (Instr.amssGroup 0 false true 49 []).wf = false ∧
    (Instr.amssGroup 0 false true 0 [0, 0, 0, 0, 0, 0, 0]).wf = false ∧ (Instr.amssGroup 0 false true 48 [0, 0, 0, 0, 0, 0]).wf = true ∧
    (Instr.folCoarseAlign 0 0 5 6 0).wf = false ∧ (Instr.folCoarseAlign 0 0 6 6 0).wf = true := by decide

theorem test_wf_lengths (n : Nat) (h : 2 ^ 24 < n) :
    (Instr.pcmBlockEnd 0 0 [] false (List.replicate n 0)).wf = false ∧ (Instr.dmaBurst 0 false (List.replicate n 0)).wf = false ∧
    (Instr.pcmBlockEnd 0 0 [] false []).wf = true ∧ (Instr.dmaBurst 0 false []).wf = true := by
  simp [Instr.wf, maxBytes] at *
  omega

theorem test_wf_record (n : Nat) (h : 2 ^ 24 < n) :
    (Instr.recordOffer 0 { sampleRec with payload := .motSegment 0 (List.replicate n 0) }).wf = false ∧
    (Instr.recordOffer 0 sampleRec).wf = true := by
  refine ⟨?_, by decide⟩
  simp [Instr.wf, maxBytes, Rec.length, Rec.body, Payload.bytes, padTo] at *
  omega

theorem test_wf_tii : (Instr.tiiReport 0 false 0 (List.replicate 256 (0, 0, 0))).wf = false ∧
    (Instr.tiiReport 0 false 0 (List.replicate 255 (0, 0, 0))).wf = true := by decide +kernel

theorem test_wf_measurements :
    (Instr.fsWindowEnd 0 2 1 0 0 false false 0).wf = false ∧ (Instr.fsWindowEnd 0 1 1 0 0 false false 0).wf = true ∧
    (Instr.devWindowEnd 0 2 1 0 [] 0).wf = false ∧ (Instr.mpxWindowEnd 0 2 1 0).wf = false ∧ (Instr.mpxRunUpdate 0 2 1 0).wf = false ∧
    (Instr.injectionWindowEnd 0 2 1 0 0).wf = false ∧ (Instr.amDepthWindowEnd 0 2 1 0 0 0 0).wf = false ∧
    (Instr.amDepthWindowEnd 0 1 1 (-1) 0 0 0).wf = false ∧ (Instr.amDepthWindowEnd 0 1 1 1 (-1) 0 0).wf = true ∧
    (Instr.fcAlignAttempt 0 5 6 0).wf = false ∧ (Instr.fcAlignAttempt 0 6 6 0).wf = true ∧
    (Instr.aonSample 32768 0).wf = false ∧ (Instr.aonSample 0 65536).wf = false ∧ (Instr.aonSample 32767 65535).wf = true ∧
    (Instr.histSecond (List.replicate 13 0)).wf = false ∧ (Instr.histSecond [32768]).wf = false ∧ (Instr.histSecond [50]).wf = true ∧
    (Instr.ageMeasureDone [0, 0, 0, 0, 0]).wf = false ∧ (Instr.ageMeasureDone [0, 0, 0, 0]).wf = true := by decide

theorem test_wf_host :
    (Instr.imageAuthDone [[], [], []] true true true).wf = false ∧ (Instr.imageAuthDone [[0]] true true true).wf = false ∧
    (Instr.imageAuthDone [sampleHeader] true true true).wf = true ∧ (Instr.linkUp 0 1).wf = false ∧ (Instr.linkUp 5 1).wf = false ∧
    (Instr.linkUp 1 3).wf = false ∧ (Instr.linkUp 4 4).wf = true ∧ (Instr.w2Access false (2 ^ 26) 1 []).wf = false ∧
    (Instr.w2Access true 0 2 [0]).wf = false ∧ (Instr.w2Access true (2 ^ 26 - 1) 1 [0]).wf = true ∧
    (Instr.descFetch 0 (2 ^ 64) 0 0 0).wf = false ∧ (Instr.descFetch 0 0 (2 ^ 32) 0 0).wf = false ∧
    (Instr.descFetch 0 0 0 (2 ^ 32) 0).wf = false ∧ (Instr.descFetch 0 0 0 0 (2 ^ 64)).wf = false ∧
    (Instr.descFetch 0 0x2000 4096 1 7).wf = true ∧ (Instr.localWalk 0 [(2 ^ 64, 0)]).wf = false ∧
    (Instr.localWalk 0 [(0, 2 ^ 64)]).wf = false ∧ (Instr.localWalk 0 [(0, 1)]).wf = true ∧
    (Instr.atsInvalidateRequest 0 (2 ^ 64) 1).wf = false ∧ (Instr.atsInvalidateRequest 0 0 0).wf = false ∧
    (Instr.atsInvalidateRequest 0 0 4096).wf = true ∧ (Instr.apFrame 0 64 0 (List.replicate 17 []) []).wf = false ∧
    (Instr.apFrame 0 64 0 [] (List.replicate 17 (0, 0))).wf = false ∧ (Instr.apFrame 0 64 0 [] []).wf = true := by
  decide +kernel

theorem test_wf_bus : ∀ c ∈ [Instr.dialect, .ident, .status, .attnStatus, .wakeLast, .sleep, .temp, .otpRead,
      fun b r => .otpWrite b r [], .lehrCfg, .lehrLog, .pageRead, .pageWrite, .fgCtrl, .funcReset, .deviceReset],
    ∀ l : List Byte, (c l none).wf = decide (l.length < 512) := by
  intro c hc l
  simp only [List.mem_cons, List.not_mem_nil, or_false] at hc
  rcases hc with rfl | rfl | rfl | rfl | rfl | rfl | rfl | rfl | rfl | rfl | rfl | rfl | rfl | rfl | rfl | rfl <;> simp [Instr.wf]

theorem test_wf_otp :
    (Instr.otpWrite [] none [1, 1]).wf = false ∧ (Instr.otpWrite [] none [8]).wf = false ∧ (Instr.otpWrite [] none [0, 7]).wf = true := by
  decide

/-! ### What the chapters' worked examples give

The numbers are those of the examples of spec/02, 03, 05, 06, 07, 08, 09, 13, 14, 15, 16 and 18. -/

/-- The state after PF_0 writes a whole register. -/
def wrote (s : State) (addr w : Nat) : State :=
  match execRegisterWrite (.pf 0) addr 4 w s with
  | .next t => t
  | _ => s

/-- What PF_0 reads there. -/
def reads (s : State) (addr : Nat) : Nat := (s.wordRead (.pf 0) addr).2

theorem test_locating : locate 0x32C00 = some (.slot, 300, 0) ∧ locate 0x49400 = some (.dab, 37, 0) ∧
    locate 0x4F400 = some (.drm, 20, 0) ∧ locate 0x55780 = some (.tap, 700, 0) ∧ locate 0x32C40 = some (.slot, 300, 0x40) := by
  decide

theorem test_page_id : reads live 0x32C00 = 0x00200C01 ∧ reads live 0x49400 = 0x00300101 ∧ reads live 0x4F400 = 0x00310201 ∧
    reads live 0x55780 = 0x00323C01 := by decide +kernel

theorem test_window_lo : loOf 0 87500 20500 0 = 85500000 ∧ loOf 1 174000 66000 0 = 172000000 ∧
    loOf 1 174000 66000 1 = 242000000 ∧ loOf 5 144 13500 1 = 14544000 := by decide

theorem test_window_limits : windowOk 1 174000 66000 0 = true ∧ windowOk 1 174000 66000 1 = true ∧ windowOk 5 144 13500 1 = true ∧
    windowOk 5 144 13500 0 = false := by decide

/-- A window at an oscillator frequency, and the frequency that a binding's words give, to the nearest hertz. -/
def hzOf (window lo subband word : Nat) : Int :=
  roundDivI ((live.put F.FE_LO_HZ_LO window lo).bindHz { sampleBind with window := window, subband := subband, word := word })
    (2 ^ 32)

theorem test_slot_words : hzOf 0 85500000 70 0x12AAAAAB = 97300000 ∧ hzOf 1 242000000 56 0x30000000 = 227360000 ∧
    hzOf 5 14544000 17 0xF6666666 = 1215000 := by decide

theorem test_equalising : eqDelay 256000 184320 960 = 4 * 1024 + 683 ∧ eqDelay 256000 230400 960 = 1024 + 683 := by decide

theorem test_line_pots : linePots (3153 * 1024 + 478) = 1 ∧ linePots (1024 + 683) = 0 := by decide

theorem test_blend : snrOf 2812500000 542090 = 3715 ∧ blendTarget 3715 40 80 = mkRat 343 400 ∧ blendTarget 2500 40 80 = mkRat 1 4 := by
  decide +kernel

theorem test_follower_pots : folPots (3000 * 48 * 1024) = 14 ∧ folPots (27344 * 1024 + 512) = 3 := by decide

theorem test_mpx_power : mpxPower 828125000 1 = 662 := by decide +kernel

theorem test_record_length :
    ({ sampleRec with payload := .pcm { format := 1, rate := 48000, channels := 2, count := 480, runs := [], data := List.replicate 3840 0 } }
      : Rec).length 2 = 3888 := by decide +kernel

theorem test_walk : walkFrom 0x7F3A1C456ABC 3 0x1234500000
    [(0, 0x0000001234608001), (0, 0x0000001234710001), (0, 0x000000089ABCD007)] =
    ([0x1234503F98, 0x123460D0E0, 0x12347122B0], .page 0x89ABCD000 true true) := by decide

theorem test_rate_class : rateClass (44100 * 16) = 8 ∧ rateClass (48000 * 16) = 9 ∧ rateClass (46500 * 16) = 0 := by decide

/-- The state that a command leaves. -/
def doing (c : Instr) (s : State) : State := match exec c s with | .next t => t | _ => s

/-- Fields of one instance, and of one element, after a write to live. -/
def gives (addr w n : Nat) (fs : List (Fld × Nat)) : Bool := fs.all fun p => (wrote live addr w).get p.1 n == p.2

@[inherit_doc gives]
def givesE (addr w n e : Nat) (fs : List (Fld × Nat)) : Bool := fs.all fun p => (wrote live addr w).getE p.1 n e == p.2

theorem test_ring_cfg : gives 0x78240 0x10A2 1 [(F.RING_CFG_DIR, 0), (F.RING_CFG_CLASS, 1), (F.RING_CFG_DESC_VER, 2),
    (F.RING_CFG_REC_VER, 2), (F.RING_CFG_POTS, 16)] = true ∧
    gives 0x78640 0x04AC 3 [(F.RING_CFG_CLASS, 2), (F.RING_CFG_CRC, 1), (F.RING_CFG_REC_VER, 2), (F.RING_CFG_POTS, 4)] = true := by
  decide +kernel

theorem test_tap_cfg : gives 0x50010 0x00278700 0 [(F.TAP_CFG_CTX, 0), (F.TAP_CFG_SUB, 7), (F.TAP_CFG_PCM_EN, 1),
    (F.TAP_CFG_PAD_EN, 1), (F.TAP_CFG_RATE48, 1), (F.TAP_CFG_PCM_PACK, 1), (F.TAP_CFG_RING, 2)] = true ∧
    gives 0x52590 0x00C6870A 300 [(F.TAP_CFG_CTX, 5), (F.TAP_CFG_SUB, 7), (F.TAP_CFG_PAD_EN, 0), (F.TAP_CFG_RING, 12)] = true := by
  decide +kernel

theorem test_dab_cfg : gives 0x40040 0x00140A11 0 [(F.DAB_CFG_MODE, 1), (F.DAB_CFG_TII_EN, 1), (F.DAB_CFG_TII_FRAMES, 10),
    (F.DAB_CFG_TII_THRESH, 20)] = true := by decide +kernel

/-- The lane of SLOT_40 bound for FM. -/
def fm40 : State := wrote (live.setSlot 40 { applied := some sampleBind }) 0x228C8 0x01900009

theorem test_fm_rds : fm40.get F.FM_RDS_EN 40 = 1 ∧ fm40.get F.FM_RDS_CORR 40 = 2 ∧ fm40.get F.FM_RDS_BLER_WIN 40 = 400 := by
  decide +kernel

theorem test_ap_cfg : gives 0x61040 0x00148200 1 [(F.AP_CFG_FORMAT, 0), (F.AP_CFG_ROLE, 0), (F.AP_CFG_RATE, 0), (F.AP_CFG_SLOTS, 2),
    (F.AP_CFG_WIDTH, 2), (F.AP_CFG_ALIGN, 1), (F.AP_CFG_MCLK_DIV, 1)] = true := by decide +kernel

/-- The sentinel's entry, its LW_CFG written last, and the alarm rule's, its RULE_CFG written last. -/
def sentinel : State :=
  [(0x5C104, 0x096181F0), (0x5C108, 0x0020D3A1), (0x5C10C, 0x03E003E0), (0x5C100, 0x000E6431)].foldl (fun t p => wrote t p.1 p.2) live

@[inherit_doc sentinel]
def alarmRule : State :=
  [(0x5B4C0, 1), (0x5B4D0, 0xE00301C2), (0x5B274, 0x1400), (0x5B278, 0x1388), (0x5B270, 0x00052733)].foldl
    (fun t p => wrote t p.1 p.2) fm40

theorem test_lehr_watch : ([(F.LW_CFG_EN, 1), (F.LW_CFG_MODE, 0), (F.LW_CFG_RULE, 3), (F.LW_CFG_N, 2),
    (F.LW_CFG_M, 3), (F.LW_CFG_ACT_WAKE, 1), (F.LW_CFG_ACT_ALERT, 1), (F.LW_CFG_ACT_LOG, 1), (F.LW_CFG_AF_COUNT, 0),
    (F.LW_FREQ_KHZ, 98800), (F.LW_FREQ_DWELL, 150)] : List (Fld × Nat)).all (fun p => sentinel.getE p.1 0 0 == p.2) = true := by
  decide +kernel

theorem test_rule_cfg : ([(F.RULE_CFG_KIND, 3), (F.RULE_CFG_PATTERN, 3), (F.RULE_CFG_ACT_RECORD, 1),
    (F.RULE_CFG_ACT_EVENT, 1), (F.RULE_CFG_ACT_ALERT, 1), (F.RULE_CFG_CONFIRM, 2), (F.RULE_CFG_RING, 5),
    (F.RULE_SRC_SRC_INDEX, 40), (F.RULE_END_END_MS, 5000)] : List (Fld × Nat)).all (fun p => alarmRule.getE p.1 0 7 == p.2) = true := by
  decide +kernel

theorem test_fol_cfg : givesE 0x59100 0x030C00FC 0 0 [(F.FOL_CFG_KEY_KIND, 0), (F.FOL_CFG_LINK, 1), (F.FOL_CFG_USE_SDC, 1),
    (F.FOL_CFG_RING, 12), (F.FOL_CFG_PCM_EN, 1), (F.FOL_CFG_PCM_PACK, 1)] = true := by decide +kernel

theorem test_owners : (List.range 16).all (fun i => (wrote live 0x81108 0x55555555).owner .slot (32 + i) == 1) = true ∧
    (wrote live 0x81108 0x55555555).owner .slot 48 = 0 ∧ (wrote live 0x81094 0x400).owner .dab 5 = 1 ∧
    (wrote live 0x81248 0x01000000).owner .tap 300 = 1 ∧ (wrote live 0x81080 0x05000000).owner .ring 12 = 1 ∧
    (wrote live 0x81080 0x05000000).owner .ring 13 = 1 ∧ (wrote live 0x81090 4).owner .ap 1 = 1 := by decide +kernel

/-- Band II staged on FE_0 at epoch 2, and its commit. -/
def tuned : State :=
  doing (.tuneCommit (.pf 0) 0 0x02000001)
    ({ live with epochBase := 1 }.puts 0 [(F.FE_WIN_START_START, 87500), (F.FE_WIN_SPAN_SPAN, 20500)])

theorem test_tune_stores : tuned.get F.FE_APPLIED_START_START 0 = 87500 ∧ tuned.get F.FE_APPLIED_SPAN_SPAN 0 = 20500 := by
  decide +kernel

theorem test_commit_old_epoch : (doing (.tuneCommit (.pf 0) 0 0x05000001) live).getE F.FE_APPLIED_START_START 0 0 =
    live.get F.FE_APPLIED_START_START 0 ∧ (doing (.tuneCommit (.pf 0) 0 0x05000001) live).get (H.EVT .fe) 0 / 2 % 2 = 1 := by
  decide +kernel

theorem test_epoch_after_power_up : (doing (.aonPowerUp 0) State.reset).epoch (.fe 0) = 1 := by decide

/-- A front-end whose domain the manager switches on, and the on request's end. -/
def powered : State :=
  doing (.powerDone 3) (doing (.pdReq (.pf 0) 8)
    { live with doms := (List.range 15).map fun d => (d + 1, { on := d + 1 != 3 }) })

theorem test_power_on : powered.domOn 3 = true ∧ powered.epoch (.fe 0) = 2 ∧ powered.get (H.EVT .fe) 0 / 16 % 2 = 1 := by
  decide +kernel

/-- A PAGE_READ of one word of DAB context 37's PAGE_ID, as the locating example gives it. -/
theorem test_page_read : (doing (.pageRead [0x49, 0x00, 0x04, 0x01] (some 5)) spoken2).resp = [4, 0x01, 0x01, 0x30, 0x00] := by
  decide +kernel

/-- FUNC_RESET of PF_2 whose complement is wrong is refused: the recovery example sends 0xFD. -/
def recovered : State := doing (.funcReset [2, 0xFC, crc8 [0xB0, 0x7E, 2, 0xFC]] none) spoken2

theorem test_func_reset : recovered.get F.MGMT_STAT_LAST_RESULT 0 = 5 ∧ recovered.get F.FUNC_STAT_FLR_BUSY 0 = 0 := by decide +kernel

/-- DIALECT with MAJOR 2 as the sentinel's controller sends it, and with a wrong PEC. -/
theorem test_dialect_command : (doing (.dialect [2, crc8 [0xB0, 0, 2]] none) live).get F.MGMT_STAT_DIALECT 0 = 2 ∧
    (doing (.dialect [2, crc8 [0xB0, 0, 2] + 1] none) live).get F.MGMT_STAT_DIALECT 0 ≠ 2 := by decide +kernel

/-- The CRC-32C of the standard check string "123456789". -/
theorem test_crc32c : crc32c [0x31, 0x32, 0x33, 0x34, 0x35, 0x36, 0x37, 0x38, 0x39] = 0xE3069283 := by decide +kernel

end Sys2Proof.Tests
end

/-! ### What every command keeps

Every command but the loss of VIO_AON keeps the queue, device time, the invariant and the OTP bits that are 1
(`State.Keeps`). Most keep the whole core, by the lemmas of Laws; the others are taken first, one lemma each. -/

namespace Sys2Proof.Machine

/-- A next state keeps what `State.Keeps` names; the other outcomes have no state. -/
def outKeeps (s : State) : Host.Outcome State Fault Refusal → Prop
  | .next t => s.Keeps t
  | _ => True

theorem outKeeps_of_core {s : State} {o : Host.Outcome State Fault Refusal} (h : outCore s o = s.core) : outKeeps s o := by
  cases o with
  | next t => exact .of_core h
  | fault r => trivial
  | refused r => trivial

theorem outKeeps_ite {s : State} {c : Prop} [Decidable c] {o p : Host.Outcome State Fault Refusal} (h : outKeeps s o)
    (k : outKeeps s p) : outKeeps s (if c then o else p) := by
  split <;> assumption

theorem State.Keeps.mode {s t : State} (h : s.Keeps t) (m : Mode) : s.Keeps { t with mode := m } := h.trans (.of_core rfl)

theorem State.Keeps.resp {s t : State} (h : s.Keeps t) (l : List Nat) : s.Keeps { t with resp := l } := h.trans (.of_core rfl)

/-! ### Registers, domains and banks -/

theorem execRegisterWrite_keeps (a : Accessor) (addr bytes value : Nat) (s : State) :
    outKeeps s (execRegisterWrite a addr bytes value s) :=
  outKeeps_ite (State.wordWrite_keeps ..) <|
    outKeeps_ite ((State.wordWrite_keeps s ..).trans (State.wordWrite_keeps ..)) <| .of_core (State.badWidth_core ..)

theorem execPageSpeak_keeps (a : Accessor) (page : Fin 256) (inst : Fin 128) (w : Word) (s : State) :
    outKeeps s (execPageSpeak a page inst w s) := by
  unfold execPageSpeak State.onPage
  split
  · exact .ite _ (.refl s) (State.speakWrite_keeps ..)
  · exact .ite _ (.refl s) (.of_core (State.unreached_core ..))

theorem execPowerDone_keeps (d : Fin 16) (s : State) : outKeeps s (execPowerDone d s) := by
  unfold execPowerDone
  split
  · exact .refl s
  · next on o _ =>
    extract_lets t0 t1 t2
    have h0 : s.Keeps t0 := State.powerDone_keeps ..
    have h1 : s.Keeps t1 := .ite _ (h0.core ((State.fgRead_core _).trans (State.bootRom_core _))) h0
    have h2 : s.Keeps t2 := .ite _ (h1.core (State.stageUp_core _)) h1
    exact .ite _ (h2.core (State.fgDomain_core ..)) h2

theorem execCbDone_keeps (k : Fin 8) (s : State) : outKeeps s (execCbDone k s) := by
  unfold execCbDone
  split
  · exact .refl s
  · next x _ =>
    refine State.Keeps.core ?_ (State.raise_core ..)
    by_cases hx : x = 2
    · simp only [hx, if_true]
      exact State.bankLost_keeps s k.val { state := 2 }
    · simp only [hx, if_false]
      exact State.setBank_keeps s k.val _ rfl

/-! ### Clocks, sleep and wakes -/

theorem execPllLock_keeps (s : State) : outKeeps s (execPllLock s) := by
  unfold execPllLock
  split
  · exact .refl s
  · next start _ =>
    extract_lets t u
    have ht : s.Keeps t := .of_core (State.pllLocks_core ..)
    have hu : s.Keeps u := (ht.mode .awake).core (State.refPending_core _)
    clear_value u t
    refine outKeeps_ite (outKeeps_ite ?_ (outKeeps_ite (ht.trans (State.cycleNext_keeps ..)) ht)) (.refl s)
    split
    · exact hu.core (State.domStart_core ..)
    · exact hu

theorem execSleepCommit_keeps (pin : Bool) (s : State) : outKeeps s (execSleepCommit pin s) := by
  unfold execSleepCommit
  split
  · next lehr _ =>
    extract_lets u t0 t1
    have hu : s.Keeps u := .ite _ (State.wakeFire_keeps ..) (.refl s)
    have h0 : s.Keeps t0 := .of_core ((State.ctrlOff_core _).trans ((State.refAbort_core _).trans (State.folEndAll_core ..)))
    have h1 : s.Keeps t1 := .ite _ (h0.core (State.raise_core ..)) h0
    have h2 : s.Keeps (t1.allOff true).banksOff := (h1.core (State.allOff_core ..)).trans (State.banksOff_keeps _)
    exact outKeeps_ite hu (h2.mode _)
  · exact .refl s

theorem execSleepDeclared_keeps (s : State) : outKeeps s (execSleepDeclared s) := by
  unfold execSleepDeclared
  split
  · next lehr _ =>
    extract_lets t0 t1
    have h0 : s.Keeps t0 := (State.Keeps.refl s).mode _
    have h1 : s.Keeps t1 := .ite _ (h0.core ((State.putLehrNext_core ..).trans (State.put_core ..))) h0
    exact .ite _ (h1.trans (State.wakeStart_keeps ..)) h1
  · exact .refl s

theorem execWakeEvent_keeps (host : Bool) (s : State) : outKeeps s (execWakeEvent host s) :=
  outKeeps_ite (.refl s) (State.wakeFire_keeps ..)

theorem execAonTimerMatch_keeps (s : State) : outKeeps s (execAonTimerMatch s) :=
  outKeeps_ite (State.wakeFire_keeps ..) (.refl s)

theorem execAonSample_keeps (temp : Int) (vio : Nat) (s : State) : outKeeps s (execAonSample temp vio s) := by
  unfold execAonSample
  extract_lets t0 hot low t1 t2
  have h0 : s.Keeps t0 := .of_core (State.puts_core ..)
  have h1 : s.Keeps t1 := .ite _ (h0.core (State.raise_core ..)) h0
  have h2 : s.Keeps t2 := .ite _ (h1.core (State.raise_core ..)) h1
  exact outKeeps_ite (.refl s) (h2.trans (State.wakeFire_keeps ..))

/-! ### LEHR and serve visits -/

theorem execServeVisit_keeps (s : State) : outKeeps s (execServeVisit s) :=
  outKeeps_ite (State.addressMatch_keeps s) (.refl s)

theorem execServeVisitEnd_keeps (s : State) : outKeeps s (execServeVisitEnd s) :=
  outKeeps_ite (State.serveEnd_keeps s) (.refl s)

theorem execLehrCycleStart_keeps (s : State) : outKeeps s (execLehrCycleStart s) := by
  unfold execLehrCycleStart
  extract_lets t
  have h : s.Keeps t := .of_core (State.putLehrNext_core ..)
  exact outKeeps_ite (outKeeps_ite (h.core (State.raise_core ..))
    (outKeeps_ite (h.lehr _) (h.trans (State.cycleStart_keeps t)))) (.refl s)

theorem execLehrUnitMatch_keeps (unit : WatchUnit) (s : State) : outKeeps s (execLehrUnitMatch unit s) := by
  unfold execLehrUnitMatch
  split
  · exact .refl s
  · next d _ =>
    extract_lets old stop
    have hstop : s.Keeps (stop s) := State.outcome_keeps ..
    split
    · exact outKeeps_ite (outKeeps_ite hstop ((State.Keeps.refl s).lehr _)) (.refl s)
    · exact outKeeps_ite hstop (.refl s)

theorem execLehrDwellEnd_keeps (level : Int) (present sync : Bool) (value : Int) (s : State) :
    outKeeps s (execLehrDwellEnd level present sync value s) := by
  unfold execLehrDwellEnd
  split
  · exact .refl s
  · next d _ =>
    refine outKeeps_ite (State.outcome_keeps ..) ?_
    split
    · exact (State.Keeps.of_core (State.dwellTune_core ..)).lehr _
    · exact outKeeps_ite (State.outcome_keeps ..) (State.outcome_keeps ..)

/-! ### Resets and stages -/

theorem execPwrGoodFall_keeps (s : State) : outKeeps s (execPwrGoodFall s) :=
  outKeeps_ite (State.deviceReset_keeps s) (.refl s)

theorem execSysRstNLow_keeps (s : State) : outKeeps s (execSysRstNLow s) :=
  outKeeps_ite (State.deviceReset_keeps s) (.refl s)

theorem execStageChg_keeps (s : State) : outKeeps s (execStageChg s) := by
  have up : s.Keeps s.stageUp := .of_core (State.stageUp_core s)
  exact outKeeps_ite (.ite _ up (.refl s)) <| outKeeps_ite (.ite _ up (.refl s)) <|
    outKeeps_ite (.ite _ (State.stage3_keeps s) (.refl s)) (.refl s)

/-! ### The host link -/

theorem execPerstAssert_keeps (s : State) : outKeeps s (execPerstAssert s) :=
  (State.linkReset_keeps s).trans (.of_core rfl)

theorem execHotReset_keeps (s : State) : outKeeps s (execHotReset s) :=
  outKeeps_ite (State.linkReset_keeps s) (.refl s)

theorem execLinkDown_keeps (s : State) : outKeeps s (execLinkDown s) :=
  outKeeps_ite ((State.linkReset_keeps s).core (State.raiseHosts_core ..)) (.refl s)

theorem execW2Access_keeps (write : Bool) (addr count : Nat) (data : List Byte) (s : State) :
    outKeeps s (execW2Access write addr count data s) := by
  have hread : s.Keeps (s.w2Bytes addr count).1 := .of_core (State.w2Bytes_core ..)
  exact outKeeps_ite (.refl s) <| outKeeps_ite (.of_core (State.unreached_core ..)) <|
    outKeeps_ite (State.w2Write_keeps ..) ((hread.resp _).core (State.send_core ..))

theorem execFlr_keeps (f : Fin 4) (s : State) : outKeeps s (execFlr f s) :=
  outKeeps_ite (State.flr_keeps ..) (.refl s)

/-! ### The management bus -/

theorem execMgmtAddress_keeps (addr : BitVec 7) (read : Bool) (s : State) : outKeeps s (execMgmtAddress addr read s) :=
  outKeeps_ite (State.addressMatch_keeps s) (.refl s)

/-- The bus reaches the part with no answer yet. -/
theorem State.busReach_resp_keeps (s : State) : s.Keeps ({ s with resp := [] } : State).busReach :=
  ((State.Keeps.refl s).resp []).trans (State.busReach_keeps _)

theorem execMgmtAbort_keeps (cmd : Option Byte) (s : State) : outKeeps s (execMgmtAbort cmd s) := by
  unfold execMgmtAbort
  extract_lets t c v u
  have ht : s.Keeps t := State.busReach_resp_keeps s
  have hu : s.Keeps u := .ite _ (ht.trans (State.visitWake_keeps t)) ht
  refine outKeeps_ite ht (outKeeps_ite (ht.core (State.busResult_core ..)) (outKeeps_ite ?_ hu))
  exact hu.core ((State.busResult_core ..).trans ((State.raise_core ..).trans (State.count_core ..)))

theorem execQuickRead_keeps (count : Nat) (s : State) : outKeeps s (execQuickRead count s) := by
  have h : s.Keeps ({ s with resp := [] } : State).busReach := State.busReach_resp_keeps s
  exact outKeeps_ite (h.resp _) h

/-! ### Every command -/

/-- Every command but the loss of VIO_AON keeps what `State.Keeps` names; the arms stand in the order of `exec`. -/
theorem exec_keeps : ∀ (c : Instr) (s : State), c ≠ .vioAonRemoval → outKeeps s (exec c s)
  | .registerWrite .., _, _ => execRegisterWrite_keeps ..
  | .upperLatchRead .., _, _ => outKeeps_of_core (execUpperLatchRead_core ..)
  | .faultEntryRead .., _, _ => outKeeps_of_core (execFaultEntryRead_core ..)
  | .pageSpeak .., _, _ => execPageSpeak_keeps ..
  | .speak .., _, _ => State.blockWrite_keeps ..
  | .pageReset .., _, _ => outKeeps_of_core (execPageReset_core ..)
  | .resetDone .., _, _ => outKeeps_of_core (execResetDone_core ..)
  | .lock .., _, _ => outKeeps_of_core (execLock_core ..)
  | .evtClear .., _, _ => outKeeps_of_core (execEvtClear_core ..)
  | .powerRequest .., _, _ => outKeeps_of_core (execPowerRequest_core ..)
  | .pdReq .., _, _ => outKeeps_of_core (execPdReq_core ..)
  | .powerDone .., _, _ => execPowerDone_keeps ..
  | .cbStateWrite .., _, _ => State.regWrite_keeps _ _ _ _ _ (cbStateWrite_keeps _ _)
  | .cbDone .., _, _ => execCbDone_keeps ..
  | .bankFrame .., _, _ => outKeeps_of_core (execBankFrame_core ..)
  | .tuneCommit .., _, _ => outKeeps_of_core (execTuneCommit_core ..)
  | .retuneStart .., _, _ => outKeeps_of_core (execRetuneStart_core ..)
  | .retuneDone .., _, _ => outKeeps_of_core (execRetuneDone_core ..)
  | .feStateWrite .., _, _ => outKeeps_of_core (execFeStateWrite_core ..)
  | .feStepDone .., _, _ => outKeeps_of_core (execFeStepDone_core ..)
  | .qcalDone .., _, _ => outKeeps_of_core (execQcalDone_core ..)
  | .lockLost .., _, _ => outKeeps_of_core (execLockLost_core ..)
  | .feRelockDone .., _, _ => outKeeps_of_core (execFeRelockDone_core ..)
  | .probeCommand .., _, _ => outKeeps_of_core (execProbeCommand_core ..)
  | .probeStart .., _, _ => outKeeps_of_core (execProbeStart_core ..)
  | .probeDone .., _, _ => outKeeps_of_core (execProbeDone_core ..)
  | .burstGo .., _, _ => outKeeps_of_core (execBurstGo_core ..)
  | .burstStop .., _, _ => outKeeps_of_core (execBurstStop_core ..)
  | .burstEnd .., _, _ => outKeeps_of_core (execBurstEnd_core ..)
  | .burstTimeout .., _, _ => outKeeps_of_core (execBurstTimeout_core ..)
  | .gainBlockEnd .., _, _ => outKeeps_of_core (execGainBlockEnd_core ..)
  | .gainStep .., _, _ => outKeeps_of_core (execGainStep_core ..)
  | .diversityPairForm .., _, _ => outKeeps_of_core (execDiversityPairForm_core ..)
  | .pairDissolve .., _, _ => outKeeps_of_core (execPairDissolve_core ..)
  | .spareDesignate .., _, _ => outKeeps_of_core (execSpareDesignate_core ..)
  | .fePageReset .., _, _ => outKeeps_of_core (execFePageReset_core ..)
  | .feSleepStale .., _, _ => outKeeps_of_core (execFeSleepStale_core ..)
  | .feTempSample .., _, _ => outKeeps_of_core (execFeTempSample_core ..)
  | .calStepStart .., _, _ => outKeeps_of_core (execCalStepStart_core ..)
  | .calStepEnd .., _, _ => outKeeps_of_core (execCalStepEnd_core ..)
  | .scheduledCal .., _, _ => outKeeps_of_core (execScheduledCal_core ..)
  | .rotationPeriod .., _, _ => outKeeps_of_core (execRotationPeriod_core ..)
  | .calRotCmd .., _, _ => outKeeps_of_core (execCalRotCmd_core ..)
  | .matchAttemptEnd .., _, _ => outKeeps_of_core (execMatchAttemptEnd_core ..)
  | .rotationSwitch .., _, _ => outKeeps_of_core (execRotationSwitch_core ..)
  | .fullCalDone .., _, _ => outKeeps_of_core (execFullCalDone_core ..)
  | .tunerWrite .., _, _ => State.blockWrite_keeps ..
  | .sweepGo .., _, _ => outKeeps_of_core (execSweepGo_core ..)
  | .sweepDone .., _, _ => outKeeps_of_core (execSweepDone_core ..)
  | .biasSample .., _, _ => outKeeps_of_core (execBiasSample_core ..)
  | .noiseFloorUpdate .., _, _ => outKeeps_of_core (execNoiseFloorUpdate_core ..)
  | .learn .., _, _ => outKeeps_of_core (execLearn_core ..)
  | .slotCommit .., _, _ => outKeeps_of_core (execSlotCommit_core ..)
  | .slotEnable .., _, _ => outKeeps_of_core (execSlotEnable_core ..)
  | .slotStart .., _, _ => outKeeps_of_core (execSlotStart_core ..)
  | .slotDisable .., _, _ => outKeeps_of_core (execSlotDisable_core ..)
  | .slotStop .., _, _ => outKeeps_of_core (execSlotStop_core ..)
  | .slotReset .., _, _ => outKeeps_of_core (execSlotReset_core ..)
  | .delayCommand .., _, _ => outKeeps_of_core (execDelayCommand_core ..)
  | .delayStep .., _, _ => outKeeps_of_core (execDelayStep_core ..)
  | .dlyZcTimeout .., _, _ => outKeeps_of_core (execDlyZcTimeout_core ..)
  | .dlyReached .., _, _ => outKeeps_of_core (execDlyReached_core ..)
  | .agJoin .., _, _ => outKeeps_of_core (execAgJoin_core ..)
  | .agLeave .., _, _ => outKeeps_of_core (execAgLeave_core ..)
  | .pkRst .., _, _ => outKeeps_of_core (execPkRst_core ..)
  | .rmsRst .., _, _ => outKeeps_of_core (execRmsRst_core ..)
  | .envRst .., _, _ => outKeeps_of_core (execEnvRst_core ..)
  | .rmsBlockEnd .., _, _ => outKeeps_of_core (execRmsBlockEnd_core ..)
  | .detectorReport .., _, _ => outKeeps_of_core (execDetectorReport_core ..)
  | .profDataWrite .., _, _ => outKeeps_of_core (execProfDataWrite_core ..)
  | .profCommit .., _, _ => outKeeps_of_core (execProfCommit_core ..)
  | .rawCapture .., _, _ => outKeeps_of_core (execRawCapture_core ..)
  | .snapGo .., _, _ => outKeeps_of_core (execSnapGo_core ..)
  | .snapAbort .., _, _ => outKeeps_of_core (execSnapAbort_core ..)
  | .snapDone .., _, _ => outKeeps_of_core (execSnapDone_core ..)
  | .snapTimeout .., _, _ => outKeeps_of_core (execSnapTimeout_core ..)
  | .pilotBlock .., _, _ => outKeeps_of_core (execPilotBlock_core ..)
  | .blendUpdate .., _, _ => outKeeps_of_core (execBlendUpdate_core ..)
  | .fmSnrUpdate .., _, _ => outKeeps_of_core (execFmSnrUpdate_core ..)
  | .offsetUpdate .., _, _ => outKeeps_of_core (execOffsetUpdate_core ..)
  | .rdsSearchRestart .., _, _ => outKeeps_of_core (execRdsSearchRestart_core ..)
  | .rdsBlock .., _, _ => outKeeps_of_core (execRdsBlock_core ..)
  | .blerWindowEnd .., _, _ => outKeeps_of_core (execBlerWindowEnd_core ..)
  | .amLockEval .., _, _ => outKeeps_of_core (execAmLockEval_core ..)
  | .amSnrUpdate .., _, _ => outKeeps_of_core (execAmSnrUpdate_core ..)
  | .amssGroup .., _, _ => outKeeps_of_core (execAmssGroup_core ..)
  | .pcmBlockEnd .., _, _ => outKeeps_of_core (execPcmBlockEnd_core ..)
  | .metricReport .., _, _ => outKeeps_of_core (execMetricReport_core ..)
  | .contextEnable .., _, _ => outKeeps_of_core (execContextEnable_core ..)
  | .contextDisable .., _, _ => outKeeps_of_core (execContextDisable_core ..)
  | .contextReset .., _, _ => outKeeps_of_core (execContextReset_core ..)
  | .acquisitionRestart .., _, _ => outKeeps_of_core (execAcquisitionRestart_core ..)
  | .dabFrame .., _, _ => outKeeps_of_core (execDabFrame_core ..)
  | .fibReceived .., _, _ => outKeeps_of_core (execFibReceived_core ..)
  | .dabReconfig .., _, _ => outKeeps_of_core (execDabReconfig_core ..)
  | .tapResume .., _, _ => outKeeps_of_core (execTapResume_core ..)
  | .drmFrame .., _, _ => outKeeps_of_core (execDrmFrame_core ..)
  | .facReceived .., _, _ => outKeeps_of_core (execFacReceived_core ..)
  | .sdcReceived .., _, _ => outKeeps_of_core (execSdcReceived_core ..)
  | .drmReconfig .., _, _ => outKeeps_of_core (execDrmReconfig_core ..)
  | .superframe .., _, _ => outKeeps_of_core (execSuperframe_core ..)
  | .accessUnit .., _, _ => outKeeps_of_core (execAccessUnit_core ..)
  | .audioFrame .., _, _ => outKeeps_of_core (execAudioFrame_core ..)
  | .decodeStop .., _, _ => outKeeps_of_core (execDecodeStop_core ..)
  | .tapCommit .., _, _ => outKeeps_of_core (execTapCommit_core ..)
  | .tapEnable .., _, _ => outKeeps_of_core (execTapEnable_core ..)
  | .tapDisable .., _, _ => outKeeps_of_core (execTapDisable_core ..)
  | .tapReset .., _, _ => outKeeps_of_core (execTapReset_core ..)
  | .tiiReport .., _, _ => outKeeps_of_core (execTiiReport_core ..)
  | .alarmEndTimeout .., _, _ => outKeeps_of_core (execAlarmEndTimeout_core ..)
  | .ruleWrite .., _, _ => outKeeps_of_core (execRuleWrite_core ..)
  | .patternWrite .., _, _ => outKeeps_of_core (execPatternWrite_core ..)
  | .alertAck .., _, _ => outKeeps_of_core (execAlertAck_core ..)
  | .reservePoolWrite .., _, _ => outKeeps_of_core (execReservePoolWrite_core ..)
  | .folGo .., _, _ => outKeeps_of_core (execFolGo_core ..)
  | .folStop .., _, _ => outKeeps_of_core (execFolStop_core ..)
  | .folRealign .., _, _ => outKeeps_of_core (execFolRealign_core ..)
  | .folCoarseAlign .., _, _ => outKeeps_of_core (execFolCoarseAlign_core ..)
  | .folFineAlign .., _, _ => outKeeps_of_core (execFolFineAlign_core ..)
  | .folAlignTimer .., _, _ => outKeeps_of_core (execFolAlignTimer_core ..)
  | .candExpire .., _, _ => outKeeps_of_core (execCandExpire_core ..)
  | .folScore .., _, _ => outKeeps_of_core (execFolScore_core ..)
  | .switch .., _, _ => outKeeps_of_core (execSwitch_core ..)
  | .folCrossfadeEnd .., _, _ => outKeeps_of_core (execFolCrossfadeEnd_core ..)
  | .fallback .., _, _ => outKeeps_of_core (execFallback_core ..)
  | .fsWindowEnd .., _, _ => outKeeps_of_core (execFsWindowEnd_core ..)
  | .devWindowEnd .., _, _ => outKeeps_of_core (execDevWindowEnd_core ..)
  | .mpxWindowEnd .., _, _ => outKeeps_of_core (execMpxWindowEnd_core ..)
  | .mpxRunUpdate .., _, _ => outKeeps_of_core (execMpxRunUpdate_core ..)
  | .injectionWindowEnd .., _, _ => outKeeps_of_core (execInjectionWindowEnd_core ..)
  | .amDepthWindowEnd .., _, _ => outKeeps_of_core (execAmDepthWindowEnd_core ..)
  | .refCheckGo .., _, _ => outKeeps_of_core (execRefCheckGo_core ..)
  | .refCheckDone .., _, _ => outKeeps_of_core (execRefCheckDone_core ..)
  | .refAgeDay, _, _ => outKeeps_of_core (execRefAgeDay_core ..)
  | .ppsEdge .., _, _ => outKeeps_of_core (execPpsEdge_core ..)
  | .ppsMissing, _, _ => outKeeps_of_core (execPpsMissing_core ..)
  | .fcGo .., _, _ => outKeeps_of_core (execFcGo_core ..)
  | .fcStop .., _, _ => outKeeps_of_core (execFcStop_core ..)
  | .fcRealign .., _, _ => outKeeps_of_core (execFcRealign_core ..)
  | .fcAlignAttempt .., _, _ => outKeeps_of_core (execFcAlignAttempt_core ..)
  | .fcSecond .., _, _ => outKeeps_of_core (execFcSecond_core ..)
  | .fcReport .., _, _ => outKeeps_of_core (execFcReport_core ..)
  | .refPresent .., _, _ => outKeeps_of_core (execRefPresent_core ..)
  | .xoOk .., _, _ => outKeeps_of_core (execXoOk_core ..)
  | .refLost, _, _ => outKeeps_of_core (execRefLost_core ..)
  | .xoLost, _, _ => outKeeps_of_core (execXoLost_core ..)
  | .x32Ok, _, _ => outKeeps_of_core (execX32Ok_core ..)
  | .x32Lost, _, _ => outKeeps_of_core (execX32Lost_core ..)
  | .x32DisWrite .., _, _ => outKeeps_of_core (execX32DisWrite_core ..)
  | .rcTrim .., _, _ => outKeeps_of_core (execRcTrim_core ..)
  | .pllCounterWindow .., _, _ => outKeeps_of_core (execPllCounterWindow_core ..)
  | .pllApply .., _, _ => outKeeps_of_core (execPllApply_core ..)
  | .pllLock, _, _ => execPllLock_keeps ..
  | .windowResume .., _, _ => outKeeps_of_core (execWindowResume_core ..)
  | .audPllEnable .., _, _ => outKeeps_of_core (execAudPllEnable_core ..)
  | .audPllLock .., _, _ => outKeeps_of_core (execAudPllLock_core ..)
  | .lineCounterWindow .., _, _ => outKeeps_of_core (execLineCounterWindow_core ..)
  | .lineLock .., _, _ => outKeeps_of_core (execLineLock_core ..)
  | .syncReturn .., _, _ => outKeeps_of_core (execSyncReturn_core ..)
  | .syncSlewDone, _, _ => outKeeps_of_core (execSyncSlewDone_core ..)
  | .sleepRequest .., _, _ => outKeeps_of_core (execSleepRequest_core ..)
  | .sleepCommit .., _, _ => execSleepCommit_keeps ..
  | .sleepDeclared, _, _ => execSleepDeclared_keeps ..
  | .wakeEvent .., _, _ => execWakeEvent_keeps ..
  | .aonTimerMatch, _, _ => execAonTimerMatch_keeps ..
  | .aonSample .., _, _ => execAonSample_keeps ..
  | .wake, _, _ => outKeeps_of_core (execWake_core ..)
  | .serveVisit, _, _ => execServeVisit_keeps ..
  | .serveVisitEnd, _, _ => execServeVisitEnd_keeps ..
  | .puntyRelease .., _, _ => outKeeps_of_core (execPuntyRelease_core ..)
  | .watchEntryWrite .., _, _ => outKeeps_of_core (execWatchEntryWrite_core ..)
  | .lehrCycleStart, _, _ => execLehrCycleStart_keeps ..
  | .lehrUnitMatch .., _, _ => execLehrUnitMatch_keeps ..
  | .lehrDwellEnd .., _, _ => execLehrDwellEnd_keeps ..
  | .lehrAlertAck .., _, _ => outKeeps_of_core (execLehrAlertAck_core ..)
  | .logClear .., _, _ => outKeeps_of_core (execLogClear_core ..)
  | .aonPowerUp .., _, _ => outKeeps_of_core (execAonPowerUp_core ..)
  | .pwrGoodRise .., _, _ => outKeeps_of_core (execPwrGoodRise_core ..)
  | .pwrGoodFall, _, _ => execPwrGoodFall_keeps ..
  | .sysRstNLow, _, _ => execSysRstNLow_keeps ..
  | .stageChg, _, _ => execStageChg_keeps ..
  | .stage1Timeout, _, _ => outKeeps_of_core (execStage1Timeout_core ..)
  | .fgEstablished, _, _ => outKeeps_of_core (execFgEstablished_core ..)
  | .fgWatchMatch .., _, _ => outKeeps_of_core (execFgWatchMatch_core ..)
  | .fgWatchEnd .., _, _ => outKeeps_of_core (execFgWatchEnd_core ..)
  | .fgStop .., _, _ => outKeeps_of_core (execFgStop_core ..)
  | .fgAck .., _, _ => outKeeps_of_core (execFgAck_core ..)
  | .fgHandover .., _, _ => outKeeps_of_core (execFgHandover_core ..)
  | .hoAttemptEnd .., _, _ => outKeeps_of_core (execHoAttemptEnd_core ..)
  | .hoDone, _, _ => outKeeps_of_core (execHoDone_core ..)
  | .imageAuthDone .., _, _ => outKeeps_of_core (execImageAuthDone_core ..)
  | .bootWatchdog, _, _ => outKeeps_of_core (execBootWatchdog_core ..)
  | .mbxGo .., _, _ => outKeeps_of_core (execMbxGo_core ..)
  | .mbxAbort .., _, _ => outKeeps_of_core (execMbxAbort_core ..)
  | .perstAssert, _, _ => execPerstAssert_keeps ..
  | .perstDeassert, _, _ => outKeeps_of_core (execPerstDeassert_core ..)
  | .hotReset, _, _ => execHotReset_keeps ..
  | .linkDown, _, _ => execLinkDown_keeps ..
  | .linkUp .., _, _ => outKeeps_of_core (execLinkUp_core ..)
  | .configWrite .., _, _ => outKeeps_of_core (execConfigWrite_core ..)
  | .w2Access .., _, _ => execW2Access_keeps ..
  | .ringEnable .., _, _ => outKeeps_of_core (execRingEnable_core ..)
  | .ringDisable .., _, _ => outKeeps_of_core (execRingDisable_core ..)
  | .drainEnd .., _, _ => outKeeps_of_core (execDrainEnd_core ..)
  | .ringReset .., _, _ => outKeeps_of_core (execRingReset_core ..)
  | .ringTailWrite .., _, _ => outKeeps_of_core (execRingTailWrite_core ..)
  | .descFetch .., _, _ => outKeeps_of_core (execDescFetch_core ..)
  | .ringRestart .., _, _ => outKeeps_of_core (execRingRestart_core ..)
  | .ringFlush .., _, _ => outKeeps_of_core (execRingFlush_core ..)
  | .flushTimer .., _, _ => outKeeps_of_core (execFlushTimer_core ..)
  | .dmaBurst .., _, _ => outKeeps_of_core (execDmaBurst_core ..)
  | .coalTimer .., _, _ => outKeeps_of_core (execCoalTimer_core ..)
  | .readCompletionError .., _, _ => outKeeps_of_core (execReadCompletionError_core ..)
  | .recordOffer .., _, _ => outKeeps_of_core (execRecordOffer_core ..)
  | .cullOverflowEnd .., _, _ => outKeeps_of_core (execCullOverflowEnd_core ..)
  | .xlatCfgWrite .., _, _ => outKeeps_of_core (execXlatCfgWrite_core ..)
  | .localWalk .., _, _ => outKeeps_of_core (execLocalWalk_core ..)
  | .atsCompletion .., _, _ => outKeeps_of_core (execAtsCompletion_core ..)
  | .prgResponse .., _, _ => outKeeps_of_core (execPrgResponse_core ..)
  | .invAll .., _, _ => outKeeps_of_core (execInvAll_core ..)
  | .invPage .., _, _ => outKeeps_of_core (execInvPage_core ..)
  | .invDone .., _, _ => outKeeps_of_core (execInvDone_core ..)
  | .atsInvalidateRequest .., _, _ => outKeeps_of_core (execAtsInvalidateRequest_core ..)
  | .retry .., _, _ => outKeeps_of_core (execRetry_core ..)
  | .skipRecord .., _, _ => outKeeps_of_core (execSkipRecord_core ..)
  | .abortRing .., _, _ => outKeeps_of_core (execAbortRing_core ..)
  | .faultLogFree .., _, _ => outKeeps_of_core (execFaultLogFree_core ..)
  | .ownershipWrite .., _, _ => outKeeps_of_core (execOwnershipWrite_core ..)
  | .flr .., _, _ => execFlr_keeps ..
  | .flrDone .., _, _ => outKeeps_of_core (execFlrDone_core ..)
  | .apEnable .., _, _ => outKeeps_of_core (execApEnable_core ..)
  | .apDisable .., _, _ => outKeeps_of_core (execApDisable_core ..)
  | .apReset .., _, _ => outKeeps_of_core (execApReset_core ..)
  | .apFrame .., _, _ => outKeeps_of_core (execApFrame_core ..)
  | .portInputOffer .., _, _ => outKeeps_of_core (execPortInputOffer_core ..)
  | .rateWindow .., _, _ => outKeeps_of_core (execRateWindow_core ..)
  | .rateAck .., _, _ => outKeeps_of_core (execRateAck_core ..)
  | .clkLost .., _, _ => outKeeps_of_core (execClkLost_core ..)
  | .clkBack .., _, _ => outKeeps_of_core (execClkBack_core ..)
  | .outSrcWrite .., _, _ => outKeeps_of_core (execOutSrcWrite_core ..)
  | .portAgJoin .., _, _ => outKeeps_of_core (execPortAgJoin_core ..)
  | .portAgLeave .., _, _ => outKeeps_of_core (execPortAgLeave_core ..)
  | .inCfgWrite .., _, _ => outKeeps_of_core (execInCfgWrite_core ..)
  | .mgmtAddress addr read, s, _ => execMgmtAddress_keeps addr read s
  | .mgmtAbort .., _, _ => execMgmtAbort_keeps ..
  | .mgmtTimeout .., _, _ => outKeeps_of_core (execMgmtTimeout_core ..)
  | .sclLowTimeout .., _, _ => outKeeps_of_core (execSclLowTimeout_core ..)
  | .quickRead .., _, _ => execQuickRead_keeps ..
  | .dialect .., _, _ => State.zwikiur_keeps ..
  | .ident .., _, _ => State.zwikiur_keeps ..
  | .status .., _, _ => State.zwikiur_keeps ..
  | .attnStatus .., _, _ => State.zwikiur_keeps ..
  | .wakeLast .., _, _ => State.zwikiur_keeps ..
  | .sleep .., _, _ => State.zwikiur_keeps ..
  | .temp .., _, _ => State.zwikiur_keeps ..
  | .otpRead .., _, _ => State.zwikiur_keeps ..
  | .otpWrite .., _, _ => State.zwikiur_keeps ..
  | .lehrCfg .., _, _ => State.zwikiur_keeps ..
  | .lehrLog .., _, _ => State.zwikiur_keeps ..
  | .pageRead .., _, _ => State.zwikiur_keeps ..
  | .pageWrite .., _, _ => State.zwikiur_keeps ..
  | .fgCtrl .., _, _ => State.zwikiur_keeps ..
  | .funcReset .., _, _ => State.zwikiur_keeps ..
  | .deviceReset .., _, _ => State.zwikiur_keeps ..
  | .attnSignal, _, _ => outKeeps_of_core (execAttnSignal_core ..)
  | .attnRepeat, _, _ => outKeeps_of_core (execAttnRepeat_core ..)
  | .histSecond .., _, _ => outKeeps_of_core (execHistSecond_core ..)
  | .lifeUpdate, _, _ => outKeeps_of_core (execLifeUpdate_core ..)
  | .ageMeasureGo .., _, _ => outKeeps_of_core (execAgeMeasureGo_core ..)
  | .ageMeasureTimer, _, _ => outKeeps_of_core (execAgeMeasureTimer_core ..)
  | .ageMeasureDone .., _, _ => outKeeps_of_core (execAgeMeasureDone_core ..)
  | .vioAonRemoval, _, hc => absurd rfl hc
  | .inactiveReferenceLost .., _, _ => outKeeps_of_core (execInactiveReferenceLost_core ..)
  | .audUnlock .., _, _ => outKeeps_of_core (execAudUnlock_core ..)
  | .referenceRatePeriod .., _, _ => outKeeps_of_core (execReferenceRatePeriod_core ..)

theorem exec_next_keeps {c : Instr} {s t : State} (hc : c ≠ .vioAonRemoval) (h : exec c s = .next t) : s.Keeps t := by
  have k : outKeeps s (exec c s) := exec_keeps c s hc
  rw [h] at k
  exact k

/-! ### Steps, ticks and the loss of VIO_AON -/

/-- A step is a tick of the clocks with no command waiting, and else the command in front, on the queue's rest. -/
theorem step_next_cases {s t : State} (h : step s = .next t) :
    (s.pending = [] ∧ t = s.tick) ∨
      ∃ c rest, s.pending = c :: rest ∧ exec c { s with pending := rest } = .next t := by
  unfold step at h
  split at h
  · next c rest hp => exact .inr ⟨c, rest, hp, h⟩
  · next hp => exact .inl ⟨hp, (Host.Outcome.next.inj h).symm⟩

/-- The invariant says nothing of the queue. -/
theorem State.inv_pending {s : State} (l : List Instr) : ({ s with pending := l } : State).Inv ↔ s.Inv := Iff.rfl

/-- A tick moves nothing of what `State.Keeps` names but device time. -/
theorem State.tick_keeps (s : State) : s.Keeps { s.tick with time := s.time } := by
  refine .of_core ?_
  unfold State.tick
  split_ifs <;> rfl

theorem State.tick_inv {s : State} (h : s.Inv) : s.tick.Inv := s.tick_keeps.good h

/-- A tick adds nothing to device time, or 1, or a CK_AON period (R26). -/
theorem State.tick_time (s : State) : ∃ k ≤ 7500, s.tick.time = s.time + BitVec.ofNat 64 k := by
  unfold State.tick
  split
  · exact ⟨0, by decide, by simp⟩
  split
  · exact ⟨1, by decide, rfl⟩
  · exact ⟨aonTicks, Nat.le_refl _, rfl⟩

/-- Memory and dialects that are empty and OTP that is kept meet the invariant. -/
theorem State.inv_of_lost {s t : State} (hs : s.otpOk) (hm : t.crucible = []) (hd : t.speak = []) (ho : t.otp = s.otp)
    (hn : t.otpSpares = s.otpSpares) : t.Inv := by
  refine ⟨?_, ?_, ?_⟩
  · rw [State.memoryOk, hm]; rfl
  · rw [State.otpOk, ho, hn]; exact hs
  · rw [State.dialectsOk, hd]; simp

theorem execVioAonRemoval_inv {s t : State} (hs : s.Inv) (h : execVioAonRemoval s = .next t) : t.Inv := by
  obtain ⟨-, ho, -⟩ := hs
  cases h
  exact State.inv_of_lost ho rfl rfl rfl rfl

theorem State.reset_inv : State.reset.Inv :=
  State.inv_of_lost (s := State.reset) ⟨by simp [State.reset], Nat.zero_le _⟩ rfl rfl rfl rfl

/-- With no increments every epoch is 1 (R53). -/
theorem State.epoch_of_fresh {s : State} (hb : s.epochBase = 0) (he : s.epochs = []) (r : Res) : s.epoch r = 1 := by
  simp [State.epoch, hb, he]

/-- With no domain switched on, PD_0 alone follows the mode. -/
theorem State.domOn_of_fresh {s : State} (h : s.doms = []) (d : Nat) :
    s.domOn d = (decide (d = 0) && decide (s.mode ≠ .off)) := by
  by_cases hd : d = 0 <;> simp [State.domOn, State.dom, h, hd]

/-- With nothing written and no bank cleared to zero, no byte of the crucible is defined (R519). -/
theorem State.cbRead_of_fresh {s : State} (hm : s.crucible = []) (hb : s.banks = []) (a : Nat) : s.cbRead a = none := by
  simp [State.cbRead, State.bank, Memory.read, hm, hb]

/-! ### PWR_GOOD_RISE: the pad groups held with their output enables at 0 (R356) -/

theorem State.holdOff_held (s : State) (g j : Nat) :
    (s.holdOff g).held j = (decide (j < 8) && (s.held j || decide (g = j))) := by
  have hw : (s.holdOff g).get F.PUNTY_STAT_HELD 0 = (s.get F.PUNTY_STAT_HELD 0 ||| 2 ^ g) % 2 ^ 8 :=
    State.get_put_same s F.PUNTY_STAT_HELD 0 _
  simp only [State.held, bit, hw, Nat.testBit_mod_two_pow, Nat.testBit_or, Nat.testBit_two_pow]

/-- A group below 8 that is held, or is in the list, is held once the list's groups are. -/
theorem State.holdOffs_held {j : Nat} (hj : j < 8) (l : List Nat) (s : State) (h : s.held j = true ∨ j ∈ l) :
    (l.foldl (fun u g => u.holdOff g) s).held j = true := by
  induction l generalizing s with
  | nil => simpa using h
  | cons g l ih =>
    refine ih _ ?_
    rw [State.holdOff_held]
    rcases h with h | h
    · simp [hj, h]
    · rcases List.mem_cons.mp h with rfl | h
      · simp [hj]
      · exact .inr h

/-- Holding groups leaves whatever holding one group leaves. -/
theorem State.holdOffs_same {α : Type} (f : State → α) (hf : ∀ (u : State) (g : Nat), f (u.holdOff g) = f u) (l : List Nat)
    (s : State) : f (l.foldl (fun u g => u.holdOff g) s) = f s := by
  induction l generalizing s with
  | nil => rfl
  | cons g l ih => exact (ih _).trans (hf s g)

/-- A domain that starts to come up is a new controller state; its pads stay as they are. -/
theorem State.domStart_up (s : State) (d : Nat) (o : Origin) :
    s.domStart d true o = s.setDom d { s.dom d with run := some (true, o) } := rfl

theorem State.setDom_held (s : State) (d : Nat) (h : Dom) (g : Nat) : (s.setDom d h).held g = s.held g := rfl

/-- The state in which a rise of PWR_GOOD has released the reset and latched the straps (R357, R472). -/
def State.released (s : State) (straps ma : Nat) : State :=
  { s with start := { s.start with holding := false, pwrHigh := true, strap := straps, ma := ma, ready1 := false } }

/-- A rise of PWR_GOOD that releases a reset latches the straps, holds every pad group and starts PD_1. -/
theorem execPwrGoodRise_holding (straps ma : Fin 8) {s : State} (hm : s.mode = .reset) (hh : s.start.holding = true) :
    exec (.pwrGoodRise straps ma) s =
      .next (((List.range 8).foldl (fun u g => u.holdOff g) (s.released straps ma)).domStart 1 true .device) :=
  (if_pos ⟨hm, hh⟩ : execPwrGoodRise straps ma s = _)

theorem execPwrGoodRise_idle (straps ma : Fin 8) {s : State} (hm : s.mode ≠ .reset) :
    exec (.pwrGoodRise straps ma) s = .next s :=
  (if_neg fun h => hm h.1 : execPwrGoodRise straps ma s = _)

/-- After every pad group is held and PD_1 starts to come up. -/
theorem State.holdAll_domStart (s : State) :
    let t := ((List.range 8).foldl (fun u g => u.holdOff g) s).domStart 1 true .device
    t.start = s.start ∧ t.mode = s.mode ∧ t.epochBase = s.epochBase ∧ t.epochs = s.epochs ∧
      (t.dom 1).run = some (true, .device) ∧ ∀ g < 8, t.held g = true := by
  rw [State.domStart_up]
  refine ⟨?_, ?_, ?_, ?_, ?_, fun g hg => ?_⟩
  · exact State.holdOffs_same State.start (fun _ _ => rfl) _ s
  · exact State.holdOffs_same State.mode (fun _ _ => rfl) _ s
  · exact State.holdOffs_same State.epochBase (fun _ _ => rfl) _ s
  · exact State.holdOffs_same State.epochs (fun _ _ => rfl) _ s
  · rw [State.setDom_dom_same]
  · rw [State.setDom_held]
    exact State.holdOffs_held hg _ s (.inr (List.mem_range.mpr hg))

/-! ### The statements -/

/-- Settles O4 (R12, R14, R42, R378, R379): a tick changes nothing the invariant speaks of, the loss of VIO_AON leaves the memories empty and the OTP
as it was, and every other command keeps the invariant (`exec_keeps`). -/
theorem invariantKept : Obligations.InvariantKept := by
  intro s t hs h
  obtain ⟨-, rfl⟩ | ⟨c, rest, -, he⟩ := step_next_cases h
  · exact State.tick_inv hs
  · have hs' : ({ s with pending := rest } : State).Inv := (State.inv_pending rest).mpr hs
    by_cases hc : c = .vioAonRemoval
    · subst hc
      exact execVioAonRemoval_inv hs' he
    · exact (exec_next_keeps hc he).good hs'

/-- Settles O6 (R25, R26, R499): no command but the loss of VIO_AON moves device time, and a tick adds at most a CK_AON period. -/
theorem deviceTimeNeverFalls : Obligations.DeviceTimeNeverFalls := by
  intro s t h
  obtain ⟨hp, rfl⟩ | ⟨c, rest, hp, he⟩ := step_next_cases h
  · refine ⟨by simp [hp], fun hne => absurd hp hne, fun _ => ?_⟩
    obtain ⟨k, hk, ht⟩ := State.tick_time s
    refine ⟨k, hk, ht, fun hlt => ?_⟩
    rw [ht, BitVec.toNat_add, BitVec.toNat_ofNat]
    omega
  · refine ⟨fun hv => ?_, fun _ hv => ?_, by simp [hp]⟩
    · obtain rfl : c = .vioAonRemoval := by simpa [hp] using hv
      cases he
      rfl
    · have hc : c ≠ .vioAonRemoval := by simpa [hp] using hv
      exact (exec_next_keeps hc he).clock

/-- Settles O7: at reset the crucible and the dialects are empty and OTP is blank. -/
theorem resetHoldsInvariant : Obligations.ResetHoldsInvariant := State.reset_inv

/-- Settles O8: the reset state lists no epoch, domain, bank or byte. -/
theorem resetLeaves : Obligations.ResetLeaves := by
  refine ⟨rfl, rfl, rfl, State.epoch_of_fresh rfl rfl, fun d => ?_, State.cbRead_of_fresh rfl rfl, rfl, rfl⟩
  rw [State.domOn_of_fresh rfl]
  simp [State.reset]

/-- Settles O44, clause by clause: AON_POWER_UP, the loss of VIO_AON, and PWR_GOOD_RISE in reset and out of it. -/
theorem powerUp : Obligations.PowerUp := by
  refine ⟨⟨fun ma s hoff => ?_, fun s => ?_⟩, fun straps ma s => ⟨?_, ?_⟩⟩
  · exact (if_pos hoff : execAonPowerUp ma s = _)
  · refine ⟨_, rfl, rfl, rfl, rfl, rfl, rfl, State.epoch_of_fresh rfl rfl, fun d => ?_, rfl⟩
    simp [State.domOn_of_fresh, State.reset]
  · intro hm hh
    obtain ⟨hstart, hmode, hbase, hepochs, hrun, hheld⟩ := State.holdAll_domStart (s.released straps ma)
    refine ⟨_, execPwrGoodRise_holding straps ma hm hh, ?_, ?_, ?_, hrun, hheld, hmode.trans hm, hbase, hepochs⟩
    all_goals rw [hstart]; rfl
  · exact execPwrGoodRise_idle straps ma

end Sys2Proof.Machine

/-! ### Register pages

The statements about steps and commands as such, the words of W0 and their latches, dialects, and device resets. -/

namespace Sys2Proof.Machine

/-- Settles O1: a step takes the command in front off the queue and does it. -/
theorem stepRunsFront : Obligations.StepRunsFront := fun _ _ _ => rfl

/-! ### Every command completes -/

/-- An outcome that is a next state. -/
def Completes (o : Host.Outcome State Fault Refusal) : Prop := ∃ t, o = .next t

theorem completes_next (t : State) : Completes (.next t) := ⟨t, rfl⟩

theorem completes_ite {c : Prop} {_ : Decidable c} {o p : Host.Outcome State Fault Refusal} (h : Completes o) (k : Completes p) :
    Completes (if c then o else p) := by
  split <;> assumption

/-- Every command ends in a next state. The meanings listed look into what the part holds, and each case of what they find is a
conditional over next states; those of all other commands are such conditionals themselves. -/
theorem exec_completes (c : Instr) (s : State) : Completes (exec c s) := by
  cases c
  case feStepDone | probeStart | probeDone | burstTimeout | calStepEnd | fullCalDone | sweepDone | windowResume | snapDone
    | snapTimeout | tapResume | accessUnit | audioFrame | drmReconfig | fsWindowEnd | metricReport | folCoarseAlign
    | folFineAlign | folAlignTimer | switch | fallback | cbDone | wake | sleepCommit | sleepDeclared | lehrUnitMatch
    | lehrDwellEnd | powerDone | pllLock | fgEstablished | fgWatchMatch | fgWatchEnd | hoAttemptEnd | hoDone | resetDone
    | histSecond | ageMeasureDone | localWalk | atsCompletion | prgResponse | dmaBurst | descFetch | cullOverflowEnd
    | w2Access =>
    unfold exec
    simp only [execFeStepDone, execProbeStart, execProbeDone, execBurstTimeout, execCalStepEnd, execFullCalDone,
      execSweepDone, execWindowResume, execSnapDone, execSnapTimeout, execTapResume, execAccessUnit, execAudioFrame,
      execDrmReconfig, execFsWindowEnd, execMetricReport, execFolCoarseAlign, execFolFineAlign, execFolAlignTimer,
      execSwitch, execFallback, execCbDone, execWake, execSleepCommit, execSleepDeclared, execLehrUnitMatch,
      execLehrDwellEnd, execPowerDone, execPllLock, execFgEstablished, execFgWatchMatch, execFgWatchEnd, execHoAttemptEnd,
      execHoDone, execResetDone, execHistSecond, execAgeMeasureDone, execLocalWalk, execAtsCompletion, execPrgResponse,
      execDmaBurst, execDescFetch, execCullOverflowEnd, execW2Access]
    repeat' split
    all_goals exact completes_next _
  all_goals repeat' refine completes_ite ?_ ?_
  all_goals exact completes_next _

/-- The loss of VIO_AON leaves the queue by its definition, and every other command keeps it (`exec_next_keeps`). -/
theorem exec_next_pending {c : Instr} {s t : State} (h : exec c s = .next t) : t.pending = s.pending := by
  by_cases hc : c = .vioAonRemoval
  · subst hc
    cases h
    rfl
  · exact (exec_next_keeps hc h).queue

/-- Settles O3: every command completes (`exec_completes`), and none touches the queue (`exec_next_pending`). -/
theorem everyCommandCompletes : Obligations.EveryCommandCompletes := by
  intro c s
  obtain ⟨t, h⟩ := exec_completes c s
  exact ⟨t, h, exec_next_pending h⟩

/-! ### Writes of a word of W0 -/

/-- A write of a block register that is no command and acts there is the register's to settle. -/
theorem State.blockWrite_acts {s : State} {a : Accessor} {b : Blk} {n off : Nat} (w : Word) (h : s.Acts a b n off)
    (hc : isCommand b off = false) :
    s.blockWrite a b n off w = (s.settle a b n off (blkWrite a b n off (s.major a (pageOf b n)) w s)).sweeps := by
  simp [State.blockWrite, hc, State.regWrite_acts h]

/-- A write of a word beyond a header is a write of a block register. -/
theorem State.wordWrite_block (s : State) (a : Accessor) (w : Word) {addr : Nat} {b : Blk} {i off : Nat}
    (hl : locate addr = some (b, i, off)) (hh : inHeader b off = false) :
    s.wordWrite a addr w = s.blockWrite a b (viewInst a b i) off w := by
  simp [State.wordWrite, hl, hh]

theorem execRegisterWrite_four (a : Accessor) {addr : Nat} (v : Nat) (s : State) (h : addr % 4 = 0) :
    exec (.registerWrite a addr 4 v) s = .next (s.wordWrite a addr (BitVec.ofNat 32 v)) :=
  (if_pos ⟨rfl, h⟩ : execRegisterWrite a addr 4 v s = _)

theorem execRegisterWrite_eight (a : Accessor) {addr : Nat} (v : Nat) (s : State) (h : addr % 8 = 0) :
    exec (.registerWrite a addr 8 v) s =
      .next ((s.wordWrite a addr (BitVec.ofNat 32 v)).wordWrite a (addr + 4) (BitVec.ofNat 32 (v / 2 ^ 32))) :=
  ((if_neg (by simp)).trans (if_pos ⟨rfl, h⟩) : execRegisterWrite a addr 8 v s = _)

theorem execRegisterWrite_badWidth (a : Accessor) {addr bytes : Nat} (v : Nat) (s : State) (h4 : ¬ (bytes = 4 ∧ addr % 4 = 0))
    (h8 : ¬ (bytes = 8 ∧ addr % 8 = 0)) : exec (.registerWrite a addr bytes v) s = .next (s.badWidth a addr) :=
  ((if_neg h4).trans (if_neg h8) : execRegisterWrite a addr bytes v s = _)

/-- A write of a wrong width where the accessor sees the page is discarded there (R29). -/
theorem State.badWidth_present {s : State} {a : Accessor} {addr : Nat} {b : Blk} {i off : Nat}
    (hl : locate addr = some (b, i, off)) (hr : s.reaches a = true) (hp : s.present a b (viewInst a b i) = true) :
    s.badWidth a addr = s.discard a b (viewInst a b i) off .width := by
  simp [State.badWidth, hl, hr, hp]

/-- The low half of a number is the word that the number spells. -/
theorem ofNat32_mod (v : Nat) : BitVec.ofNat 32 (v % 2 ^ 32) = BitVec.ofNat 32 v := by
  apply BitVec.eq_of_toNat_eq
  simp

/-- `GLOBAL.SCRATCH` is one plain field of 32 bits: a write sets it whole. -/
theorem scratch_write (a : Accessor) (w : Word) (s : State) :
    blkWrite a .global (accIdx a) 0x68 (s.major a (pageOf .global (accIdx a))) w s =
      .ok (s.put F.SCRATCH_VALUE (accIdx a) w.toNat) := by
  have hv : F.SCRATCH_VALUE.ofWord w.toNat = w.toNat := by
    simp only [Fld.ofWord, bits, F.SCRATCH_VALUE]
    omega
  change Except.ok (s.putE F.SCRATCH_VALUE (accIdx a) 0 (F.SCRATCH_VALUE.ofWord w.toNat)) = _
  rw [hv]
  rfl

/-- Settles O9 (R4, R29, R52, R58): SCRATCH is one plain field, a write of 64 bits is its two halves in turn, and any other width
is discarded where the page is present. -/
theorem registerWriteWidths : Obligations.RegisterWriteWidths := by
  refine ⟨fun a w s h => ?_, fun a addr v s t u h8 ht hu => ?_, fun a addr bytes v b i off s h4 h8 hl hr hp => ?_⟩
  · have hn : viewInst a .global 0 = accIdx a := rfl
    rw [execRegisterWrite_four _ _ _ (by decide), State.wordWrite_block (b := .global) (i := 0) (off := 0x68) s a _ rfl rfl, hn,
      BitVec.ofNat_toNat, BitVec.setWidth_eq, State.blockWrite_acts w h rfl, scratch_write, State.settle_ok]
  · rw [execRegisterWrite_four _ _ _ (by omega), ofNat32_mod] at ht
    rw [execRegisterWrite_four _ _ _ (by omega), ofNat32_mod] at hu
    rw [execRegisterWrite_eight _ _ _ h8, Host.Outcome.next.inj ht]
    exact hu
  · rw [execRegisterWrite_badWidth _ _ _ h4 h8, State.badWidth_present hl hr hp]

/-! ### Reads and their latches -/

/-- What holds of the page of a map's first row, and of those of its other rows, holds of every page of the map. -/
theorem forall_ite_some {α : Type} {P : α → Prop} {c : Prop} [Decidable c] {x : α} {o : Option α} (hx : P x)
    (ho : ∀ m, o = some m → P m) : ∀ m, (if c then some x else o) = some m → P m := by
  split
  · rintro _ ⟨⟩
    exact hx
  · exact ho

/-- The blocks fit on the page, and only those of slots and taps are smaller than 512 bytes. -/
def PageMap.Fits (m : PageMap) : Prop := m.cnt * m.size ≤ 4096 ∧ (m.blk = .slot ∨ m.blk = .tap ∨ 512 ≤ m.size)

/-- Every row of R33 fits on its page. -/
theorem pageMap_fits (p : Nat) : ∀ m, pageMap p = some m → m.Fits := by
  unfold pageMap
  repeat' refine forall_ite_some ?_ ?_
  all_goals simp [PageMap.Fits]

/-- The lower registers of pairs lie below 508, on neither slots nor taps, and none is the upper of another. -/
theorem pairLow_spec {b : Blk} {off : Nat} (h : pairLow b off = true) :
    off + 4 < 512 ∧ b ≠ .slot ∧ b ≠ .tap ∧ pairLow b (off + 4) = false := by
  cases b <;> simp [pairLow] at h ⊢ <;> omega

/-- The upper register of a pair stands 4 bytes above the lower, in the same block. -/
theorem locate_upper {addr : Nat} {b : Blk} {i off : Nat} (hl : locate addr = some (b, i, off)) (hp : pairLow b off = true) :
    locate (addr + 4) = some (b, i, off + 4) := by
  unfold locate at hl
  split at hl
  · cases hl
  · next m hm =>
    simp only [Option.ite_none_right_eq_some, Option.some.injEq, Prod.mk.injEq] at hl
    obtain ⟨hc, rfl, rfl, rfl⟩ := hl
    obtain ⟨hoff, hs, ht, -⟩ := pairLow_spec hp
    obtain ⟨hfit, hsize⟩ := pageMap_fits _ _ hm
    have hsize : 512 ≤ m.size := (hsize.resolve_left hs).resolve_left ht
    set o := addr % 4096 with ho
    have hdm : m.size * (o / m.size) + o % m.size = o := Nat.div_add_mod o m.size
    have hend : m.size * (o / m.size) + m.size ≤ 4096 := by
      calc m.size * (o / m.size) + m.size = m.size * (o / m.size + 1) := by ring
        _ ≤ m.size * m.cnt := Nat.mul_le_mul_left _ hc
        _ ≤ 4096 := by rw [Nat.mul_comm]; exact hfit
    have hpage : (addr + 4) / 4096 = addr / 4096 := by omega
    have hin : (addr + 4) % 4096 = o % m.size + 4 + m.size * (o / m.size) := by omega
    have hlt : o % m.size + 4 < m.size := by omega
    simp only [locate, hpage, hm, hin, Nat.add_mul_div_left _ _ (by omega : 0 < m.size), Nat.div_eq_of_lt hlt,
      Nat.add_mul_mod_self_left, Nat.mod_eq_of_lt hlt, Nat.zero_add, hc, if_true]

/-- A read that reaches the registers leaves the state as it was, or sets latches of its accessor, or uses up a free value. -/
theorem State.wordRead_cases {s : State} {a : Accessor} (h : s.reaches a = true) (addr : Nat) :
    (s.wordRead a addr).1 = s ∨ (∃ l, (s.wordRead a addr).1 = s.setLatch a l) ∨ (s.wordRead a addr).1 = s.freeUsed := by
  simp only [State.wordRead, h, Bool.not_true, Bool.false_eq_true, if_false]
  split
  · exact .inl rfl
  split
  · exact .inl rfl
  split
  · exact .inr (.inl ⟨_, rfl⟩)
  split
  · exact .inr (.inl ⟨_, rfl⟩)
  split
  · exact .inr (.inl ⟨_, rfl⟩)
  · exact .inr (.inr rfl)

/-- A read of the lower register of a pair latches the upper. -/
theorem State.wordRead_lower {s : State} {a : Accessor} {addr : Nat} {b : Blk} {i off : Nat} (hr : s.reaches a = true)
    (hf : s.flrBusy a = false) (hl : locate addr = some (b, i, off)) (hp : pairLow b off = true) :
    s.wordRead a addr = (s.setLatch a { s.latch a with
      upper := ((s.latch a).upper.filter fun p => p.1 != addr + 4) ++ [(addr + 4, s.wordNow a (addr + 4))] },
      s.wordNow a addr) := by
  simp [State.wordRead, hr, hf, hl, hp]

/-- A read of a register that is latched returns the latch, and clears it. -/
theorem State.wordRead_latched {s : State} {a : Accessor} {addr : Nat} {b : Blk} {i off : Nat} {p : Nat × Nat}
    (hr : s.reaches a = true) (hf : s.flrBusy a = false) (hl : locate addr = some (b, i, off)) (hp : pairLow b off = false)
    (hu : (s.latch a).upper.find? (fun q => q.1 == addr) = some p) :
    s.wordRead a addr =
      (s.setLatch a { s.latch a with upper := (s.latch a).upper.filter fun q => q.1 != addr }, p.2) := by
  simp [State.wordRead, hr, hf, hl, hp, hu]

/-- The value just latched is the one found. -/
theorem find_latched (l : List (Nat × Nat)) (k v : Nat) :
    ((l.filter fun p => p.1 != k) ++ [(k, v)]).find? (fun p => p.1 == k) = some (k, v) := by
  have hnone : (l.filter fun p => p.1 != k).find? (fun p => p.1 == k) = none := by
    simp only [List.find?_eq_none, List.mem_filter, bne_iff_ne, beq_iff_eq]
    exact fun p hp => hp.2
  simp only [List.find?_append, hnone, Option.none_or, List.find?_cons, beq_self_eq_true]

/-- A read of word 0 of a fault entry, itself not latched, latches the other seven words (R441). -/
theorem State.wordRead_faultEntry {s : State} {a : Accessor} (hr : s.reaches a = true) (hf : s.flrBusy a = false)
    (hu : (s.latch a).upper.find? (fun p => p.1 == 0x7204C) = none) :
    s.wordRead a 0x7204C =
      (s.setLatch a { s.latch a with entry := (List.range 7).map fun k => ((s.faultWords a)[k + 1]?).getD 0 },
        s.wordNow a 0x7204C) := by
  have hl : locate 0x7204C = some (.fault, 0, 0x4C) := rfl
  simp [State.wordRead, hr, hf, hl, hu, pairLow]

/-- What `FAULT_ENTRY_0` shows: word 0 of the entry that the accessor has selected. -/
theorem State.wordNow_faultEntry {s : State} {a : Accessor} (hf : s.flrBusy a = false)
    (hp : s.present a .fault (accView a) = true) (hs : s.shows a .fault (accView a) 0x4C = true) :
    s.wordNow a 0x7204C = ((s.faultWords a)[0]?).getD 0 := by
  have hl : locate 0x7204C = some (.fault, 0, 0x4C) := rfl
  have hn : viewInst a .fault 0 = accView a := rfl
  simp [State.wordNow, hl, hn, hp, hf, hs, inHeader, partitioned, State.blockRead, State.faultRead]

theorem execUpperLatchRead_eq (a : Accessor) {addr : Nat} (s : State) (h : addr % 4 = 0) :
    exec (.upperLatchRead a addr) s = .next { (s.wordRead a addr).1 with resp := [(s.wordRead a addr).2] } := by
  have h4 : addr / 4 * 4 = addr := by omega
  change Host.Outcome.next _ = _
  simp only [h4]

/-- A read changes nothing but the latches of its accessor, and what the model keeps of the answer (R31). -/
theorem execUpperLatchRead_frame {s : State} {a : Accessor} (hr : s.reaches a = true) (addr : Nat) :
    ∃ t : State, exec (.upperLatchRead a addr) s = .next t ∧
      { t with resp := s.resp, latches := s.latches, freeCount := s.freeCount } = s ∧
      ∀ a' : Accessor, accIdx a' ≠ accIdx a → t.latch a' = s.latch a' := by
  refine ⟨{ (s.wordRead a (addr / 4 * 4)).1 with resp := [(s.wordRead a (addr / 4 * 4)).2] }, rfl, ?_⟩
  have h := State.wordRead_cases hr (addr / 4 * 4)
  generalize s.wordRead a (addr / 4 * 4) = p at h ⊢
  obtain ⟨t, v⟩ := p
  rcases h with rfl | ⟨l, rfl⟩ | rfl
  · exact ⟨rfl, fun _ _ => rfl⟩
  · exact ⟨rfl, fun a' ha => Tbl.get_set_ne _ _ _ _ ha⟩
  · exact ⟨rfl, fun _ _ => rfl⟩

/-- After a read of the lower register of a pair the upper is found among the latches of the accessor. -/
theorem State.wordRead_lower_find {s : State} {a : Accessor} {addr : Nat} {b : Blk} {i off : Nat} (hr : s.reaches a = true)
    (hf : s.flrBusy a = false) (hl : locate addr = some (b, i, off)) (hp : pairLow b off = true) :
    ((s.wordRead a addr).1.latch a).upper.find? (fun p => p.1 == addr + 4) = some (addr + 4, s.wordNow a (addr + 4)) := by
  rw [State.wordRead_lower hr hf hl hp, State.setLatch_latch_same]
  exact find_latched ..

/-- The upper register of a pair reads as it stood when the lower was read, whatever has happened since (R30). -/
theorem execUpperLatchRead_coherent {s : State} {a : Accessor} {addr : Nat} {b : Blk} {i off : Nat} (h4 : addr % 4 = 0)
    (hl : locate addr = some (b, i, off)) (hp : pairLow b off = true) (hr : s.reaches a = true) (hf : s.flrBusy a = false) :
    ∃ t : State, exec (.upperLatchRead a addr) s = .next t ∧ t.resp = [s.wordNow a addr] ∧
      { t with resp := s.resp, latches := s.latches } = s ∧
      ∀ u : State, u.latch a = t.latch a → u.reaches a = true → u.flrBusy a = false →
        ∃ v : State, exec (.upperLatchRead a (addr + 4)) u = .next v ∧ v.resp = [s.wordNow a (addr + 4)] ∧
          { v with resp := u.resp, latches := u.latches } = u := by
  have hfind := State.wordRead_lower_find hr hf hl hp
  obtain ⟨-, -, -, hup⟩ := pairLow_spec hp
  refine ⟨_, execUpperLatchRead_eq a s h4, ?_, ?_, fun u hlat hru hfu => ⟨_, execUpperLatchRead_eq a u (by omega), ?_⟩⟩
  · rw [State.wordRead_lower hr hf hl hp]
  · rw [State.wordRead_lower hr hf hl hp]
    rfl
  · have hlat : u.latch a = (s.wordRead a addr).1.latch a := hlat
    rw [State.wordRead_latched hru hfu (locate_upper hl hp) hup (hlat ▸ hfind)]
    exact ⟨rfl, rfl⟩

theorem FaultEntry.words_ne_nil (e : FaultEntry) : e.words ≠ [] := List.cons_ne_nil _ _

/-- The first word of a list that has one. -/
theorem singleton_head {l : List Nat} (h : l ≠ []) : [(l[0]?).getD 0] = l.take 1 := by
  cases l with
  | nil => contradiction
  | cons x l => rfl

/-- FAULT_ENTRY_READ returns word 0 of the entry that FAULT_SEL names and latches the other seven (R441). -/
theorem execFaultEntryRead_entry {s : State} {a : Accessor} {e : FaultEntry} (hr : s.reaches a = true)
    (hf : s.flrBusy a = false) (hp : s.present a .fault (accView a) = true) (hs : s.shows a .fault (accView a) 0x4C = true)
    (he : Tbl.get s.faults none (faultKey (accView a) (s.get F.FAULT_SEL_INDEX (accIdx a))) = some e)
    (hu : (s.latch a).upper.find? (fun p => p.1 == 0x7204C) = none) :
    ∃ t : State, exec (.faultEntryRead a) s = .next t ∧ t.resp = e.words.take 1 ∧
      (t.latch a).entry = (List.range 7).map (fun k => (e.words[k + 1]?).getD 0) ∧
      { t with resp := s.resp, latches := s.latches } = s := by
  have hw : s.faultWords a = e.words := by simp [State.faultWords, he]
  refine ⟨{ (s.wordRead a 0x7204C).1 with resp := [(s.wordRead a 0x7204C).2] }, rfl, ?_⟩
  rw [State.wordRead_faultEntry hr hf hu, State.wordNow_faultEntry hf hp hs, hw]
  exact ⟨singleton_head e.words_ne_nil, congrArg Latches.entry (State.setLatch_latch_same ..), rfl⟩

/-- Settles O10 (R30, R31, R441): what a read leaves, the coherence of pairs, and the latched words of a fault entry. -/
theorem latches : Obligations.Latches :=
  ⟨⟨fun _ addr _ hr => execUpperLatchRead_frame hr addr, fun _ _ _ _ _ _ h4 hl hp hr hf =>
    execUpperLatchRead_coherent h4 hl hp hr hf⟩, fun _ _ _ hr hf hp hs he hu => execFaultEntryRead_entry hr hf hp hs he hu⟩

/-! ### Dialects -/

theorem State.setSpeak_get_same (s : State) (a : Accessor) (p v : Nat) :
    Tbl.get (s.setSpeak a p v).speak 0 (accIdx a * 256 + p) = v := Tbl.get_set_same _ _ _ _

theorem State.setSpeak_get_ne (s : State) (a : Accessor) (v : Nat) {p k : Nat} (h : k ≠ accIdx a * 256 + p) :
    Tbl.get (s.setSpeak a p v).speak 0 k = Tbl.get s.speak 0 k := Tbl.get_set_ne _ _ _ _ h

/-- After the pages of a list have taken a dialect, each of them has it. -/
theorem State.setSpeaks_get_mem (a : Accessor) (v : Nat) {p : Nat} (l : List Nat) (s : State) (hp : p ∈ l) :
    Tbl.get (l.foldl (fun u q => u.setSpeak a q v) s).speak 0 (accIdx a * 256 + p) = v := by
  induction l using List.reverseRecOn with
  | nil => cases hp
  | append_singleton l q ih =>
    rw [List.foldl_append, List.foldl_cons, List.foldl_nil]
    by_cases h : p = q
    · rw [h, State.setSpeak_get_same]
    · rw [State.setSpeak_get_ne _ _ _ (by omega)]
      exact ih (by simpa [h] using hp)

/-- What is not a page of the list keeps its dialect. -/
theorem State.setSpeaks_get_ne (a : Accessor) (v : Nat) {k : Nat} (l : List Nat) (s : State)
    (hk : ∀ p ∈ l, k ≠ accIdx a * 256 + p) :
    Tbl.get (l.foldl (fun u q => u.setSpeak a q v) s).speak 0 k = Tbl.get s.speak 0 k := by
  induction l generalizing s with
  | nil => rfl
  | cons q l ih =>
    rw [List.foldl_cons, ih _ fun p hp => hk p (List.mem_cons_of_mem _ hp),
      State.setSpeak_get_ne _ _ _ (hk q List.mem_cons_self)]

/-- A write of `PAGE_SPEAK` that acts takes MAJOR 1 or 2; any other value reads 0 and is refused (R42). -/
theorem State.speakWrite_acts {s : State} {a : Accessor} {b : Blk} {n : Nat} (w : Word) (hr : s.reaches a = true)
    (hp : s.present a b n = true) (hf : s.flrBusy a = false) (ho : (partitioned b && s.owner b n != accView a) = false) :
    s.speakWrite a b n w =
      if bits w.toNat 7 0 = 1 ∨ bits w.toNat 7 0 = 2 then s.setSpeak a (pageOf b n) (bits w.toNat 7 0)
      else (s.setSpeak a (pageOf b n) 0).discard a b n 0x0C .range := by
  simp [State.speakWrite, hr, hp, hf, ho]

theorem execPageSpeak_page (a : Accessor) {page : Fin 256} {inst : Fin 128} (w : Word) (s : State) {b : Blk} {n : Nat}
    (h : pageInst page.val inst.val = some (b, n)) (hb : b ≠ .tap) :
    exec (.pageSpeak a page inst w) s = .next (s.speakWrite a b (viewInst a b n) w) := by
  change Host.Outcome.next _ = _
  simp [State.onPage, h, hb]

/-- With MAJOR 1 or 2 every page that has `PAGE_SPEAK` takes it, and `MISS_COUNT` reads 0 (R44). -/
theorem speakAll_taken (a : Accessor) (w : Word) (s : State) (h : bits w.toNat 7 0 = 1 ∨ bits w.toNat 7 0 = 2) :
    speakAll a w s =
      ((((List.range 256).filter (s.speaks a)).foldl (fun u p => u.setSpeak a p (bits w.toNat 7 0)) s).put
        F.SPEAK_MAJOR (accIdx a) (bits w.toNat 7 0)).put F.SPEAK_MISS_COUNT (accIdx a) 0 := by
  have hok : (bits w.toNat 7 0 = 1 || bits w.toNat 7 0 = 2) = true := by simpa using h
  simp [speakAll, hok]

/-- Settles O11 (R42, R44): PAGE_SPEAK writes one entry of the table of dialects, SPEAK those of every page it lists. -/
theorem dialects : Obligations.Dialects := by
  refine ⟨fun a page inst w b n s hpg hb hr hp hf ho => ?_, fun a w s hact hv => ?_⟩
  · rw [execPageSpeak_page a w s hpg hb, State.speakWrite_acts w hr hp hf ho]
    refine ⟨fun hv => ⟨_, rfl, ?_⟩, fun hv => ⟨_, rfl, if_neg hv⟩⟩
    rw [if_pos hv]
    exact ⟨rfl, State.setSpeak_get_same .., fun k hk => State.setSpeak_get_ne _ _ _ hk⟩
  · refine ⟨speakAll a w s, ?_, ?_⟩
    · change Host.Outcome.next _ = _
      rw [State.blockWrite_acts w hact rfl]
      rfl
    rw [speakAll_taken a w s hv]
    refine ⟨?_, State.get_put_same .., fun p hp hs => ?_, fun k hk => ?_⟩
    · have hlt : bits w.toNat 7 0 < 2 ^ F.SPEAK_MAJOR.width := Nat.mod_lt _ (by decide)
      rw [State.get_put_low _ _ _ _ _ _ (by decide), State.get_put_same, Nat.mod_eq_of_lt hlt]
    · exact State.setSpeaks_get_mem a _ _ s (by simp [hp, hs])
    · refine State.setSpeaks_get_ne a _ _ s fun p hp => ?_
      have : p < 256 := by simpa using (List.mem_filter.mp hp).1
      omega

/-! ### A device reset -/

/-- What every update of a list leaves as it was, the list's updates together leave. -/
theorem foldl_same {α β : Type} (f : State → β) (g : State → α → State) (h : ∀ t a, f (g t a) = f t) (l : List α) (s : State) :
    f (l.foldl g s) = f s := by
  induction l generalizing s with
  | nil => rfl
  | cons a l ih => exact (ih _).trans (h s a)

/-- What PD_0 keeps of the clocks and the epochs (R25, R53): the AON timer and the counts that make up every epoch. -/
def State.marks (s : State) : BitVec 48 × Nat × Tbl Nat := (s.aonTime, s.epochBase, s.epochs)

/-- What no write of a register changes, a list of writes leaves. -/
theorem State.puts_same {β : Type} (f : State → β) (h : ∀ t g m v, f (State.put t g m v) = f t) (n : Nat) (l : List (Fld × Nat))
    (s : State) : f (s.puts n l) = f s := by
  induction l generalizing s with
  | nil => rfl
  | cons p l ih => exact (ih _).trans (h s ..)

theorem State.resetKeep_marks (s : State) (b : Blk) (n : Nat) (keep : List Fld) : (s.resetKeep b n keep).marks = s.marks := by
  unfold State.resetKeep
  refine (foldl_same State.marks _ (fun t f => ?_) keep _).trans rfl
  exact foldl_same State.marks (fun u e => u.putE f n e (s.getE f n e)) (fun _ _ => rfl) _ t

theorem State.dropCtrl_marks (s : State) : s.dropCtrl.marks = s.marks := by
  unfold State.dropCtrl
  refine (foldl_same State.marks (fun u a => u.put F.SPEAK_MAJOR a (s.get F.SPEAK_MAJOR a)) (fun _ _ => rfl) _ _).trans ?_
  refine foldl_same State.marks _ (fun t b => ?_) _ s
  split
  · exact State.resetKeep_marks ..
  · rfl

theorem State.dropHidden_marks (s : State) (d : Nat) : (s.dropHidden d).marks = s.marks := by
  unfold State.dropHidden
  split_ifs
  · rfl
  · refine (foldl_same State.marks _ (fun t n => ?_) _ _).trans ?_
    · rfl
    · rfl
  · rfl
  · rfl
  · rfl
  · rfl
  · rfl

theorem State.dropBlks_marks (l : List Blk) (s : State) : (l.foldl (fun t b => t.dropBlk b) s).marks = s.marks :=
  foldl_same State.marks (fun t b => t.dropBlk b) (fun _ _ => rfl) l s

theorem State.holdOffs_marks (l : List Nat) (s : State) : (l.foldl (fun u g => u.holdOff g) s).marks = s.marks :=
  State.holdOffs_same State.marks (fun _ _ => rfl) l s

theorem State.dropBlk_marks (s : State) (b : Blk) : (s.dropBlk b).marks = s.marks := rfl

theorem State.allOff_marks (s : State) : (s.allOff false).marks = s.marks := by
  unfold State.allOff
  extract_lets t0 t1 t2 t3
  have h0 : t0.marks = s.marks := State.holdOffs_marks ..
  have h1 : t1.marks = t0.marks := foldl_same State.marks _ State.dropHidden_marks _ _
  have h2 : t2.marks = t1.marks := (State.dropBlk_marks ..).trans
    (foldl_same State.marks (fun u d => (domBlocks d).foldl (fun v b => v.dropBlk b) u) (fun t d => State.dropBlks_marks _ t) _ _)
  have h3 : t3.marks = t2.marks := State.dropCtrl_marks _
  clear_value t3
  exact h3.trans (h2.trans (h1.trans h0))

theorem State.allOff_doms (s : State) (held : Bool) : (s.allOff held).doms = [] := by
  unfold State.allOff
  extract_lets
  rfl

/-- What holds of the default and of every value of a table holds of whatever a read gives. -/
theorem Tbl.get_of_forall {α : Type} {P : α → Prop} {d : α} (hd : P d) {t : Tbl α} (ht : ∀ p ∈ t, P p.2) (k : Nat) :
    P (Tbl.get t d k) := by
  induction t with
  | nil => exact hd
  | cons p t ih =>
    rw [Tbl.get_cons]
    split
    · exact ht p List.mem_cons_self
    · exact ih fun q hq => ht q (List.mem_cons_of_mem _ hq)

/-- With every domain off, so is each once all are exempt (R323). -/
theorem State.exemptAll_off {s : State} (h : s.doms = []) (d : Nat) : (s.exemptAll.dom d).on = false := by
  refine Tbl.get_of_forall (P := fun x : Dom => x.on = false) rfl (fun p hp => ?_) d
  obtain ⟨i, -, rfl⟩ := List.mem_map.mp hp
  simp [State.dom, h]

/-- One more of every count takes 255 to 1 and any other epoch up by one (R53). -/
theorem State.epoch_bumped {s t : State} (hb : t.epochBase = s.epochBase + 1) (he : t.epochs = s.epochs) (r : Res) :
    t.epoch r = if s.epoch r = 255 then 1 else s.epoch r + 1 := by
  split
  all_goals
    next h =>
      simp only [State.epoch, hb, he] at h ⊢
      omega

/-- The writes of registers that a device reset makes (R326, R491). -/
def State.resetPuts (s : State) : State :=
  ((List.range 5).foldl (fun u a => u.put F.SPEAK_MAJOR a 0) s).puts 0
    [(F.FG_STAT_ALERT, 0), (F.LEHR_ALERT_ASSERTED, 0), (F.MGMT_STAT_DIALECT, 1), (F.LEHR_STAT_RUNNING, 0),
      (F.LEHR_STAT_IN_CYCLE, 0), (F.LEHR_STAT_ENTRY, 0), (F.AON_STAT_SERVE, 0)]

/-- Whatever no write of a register changes, those of a device reset leave. -/
theorem State.resetPuts_same {β : Type} (f : State → β) (h : ∀ t g m v, f (State.put t g m v) = f t) (s : State) :
    f s.resetPuts = f s :=
  (State.puts_same f h ..).trans (foldl_same f (fun u a => u.put F.SPEAK_MAJOR a 0) (fun t _ => h t ..) _ _)

theorem State.resetPuts_spoken (s : State) : s.resetPuts.spoken = 1 := by
  unfold State.resetPuts
  generalize (List.range 5).foldl _ s = t
  simp only [State.puts, State.spoken]
  repeat rw [State.get_put_ne _ _ _ _ _ _ (by decide)]
  exact State.get_put_same ..

/-- What PD_0 holds beside its registers, as a device reset leaves it (R326, R354). -/
def State.resetHidden (s : State) : State :=
  { s with
    mode := .reset, speak := [], wakeHid := {}, lehr := {}, fg := {}, mgmt := {},
    start := { s.start with holding := true, ready1 := false, tried := [], image := none } }

/-- The banks fresh, every epoch one more, every domain's first power-on exempt. -/
def State.countReset (s : State) : State := s.banksFresh.bumpAll.exemptAll

theorem State.deviceReset_eq (s : State) : s.deviceReset = (s.allOff false).countReset.resetPuts.resetHidden := rfl

theorem State.resetHidden_marks (s : State) : s.resetHidden.marks = s.marks := rfl
theorem State.resetHidden_otp (s : State) : s.resetHidden.otp = s.otp := rfl
theorem State.resetHidden_doms (s : State) : s.resetHidden.doms = s.doms := rfl
theorem State.resetHidden_spoken (s : State) : s.resetHidden.spoken = s.spoken := rfl
theorem State.countReset_marks (s : State) : s.countReset.marks = (s.aonTime, s.epochBase + 1, s.epochs) := rfl
theorem State.countReset_otp (s : State) : s.countReset.otp = s.otp := rfl

theorem State.deviceReset_marks (s : State) : s.deviceReset.marks = (s.aonTime, s.epochBase + 1, s.epochs) := by
  have h := s.allOff_marks
  simp only [State.marks, Prod.mk.injEq] at h
  obtain ⟨haon, hbase, hepochs⟩ := h
  rw [State.deviceReset_eq, State.resetHidden_marks, State.resetPuts_same State.marks fun _ _ _ _ => rfl,
    State.countReset_marks, haon, hbase, hepochs]

theorem State.deviceReset_otp (s : State) : s.deviceReset.otp = s.otp := by
  have h := State.allOff_core s false
  simp only [State.core, Prod.mk.injEq] at h
  obtain ⟨-, -, -, hotp, -⟩ := h
  rw [State.deviceReset_eq, State.resetHidden_otp, State.resetPuts_same State.otp fun _ _ _ _ => rfl, State.countReset_otp, hotp]

theorem State.deviceReset_spoken (s : State) : s.deviceReset.spoken = 1 := by
  rw [State.deviceReset_eq, State.resetHidden_spoken, State.resetPuts_spoken]

theorem State.deviceReset_domOn (s : State) {d : Nat} (hd : d ≠ 0) : s.deviceReset.domOn d = false := by
  rw [State.domOn, if_neg hd, State.dom, State.deviceReset_eq, State.resetHidden_doms,
    State.resetPuts_same State.doms fun _ _ _ _ => rfl]
  exact State.exemptAll_off (s := (s.allOff false).banksFresh.bumpAll) (s.allOff_doms false) d

/-- Settles O45 (R54, R325, R326, R356): when the inputs reset, and what `State.deviceReset` leaves of each domain, epoch, dialect
and time. -/
theorem deviceResets : Obligations.DeviceResets := by
  refine ⟨fun s hm hp => ?_, fun s hp => ?_, fun s hm => ?_, fun s => ?_⟩
  · exact (if_pos ⟨hm, hp⟩ : execPwrGoodFall s = _)
  · exact (if_neg fun h => by simp [hp] at h : execPwrGoodFall s = _)
  · exact (if_pos hm : execSysRstNLow s = _)
  · have h := s.deviceReset_marks
    simp only [State.marks, Prod.mk.injEq] at h
    obtain ⟨haon, hbase, hepochs⟩ := h
    exact ⟨rfl, fun d hd => s.deviceReset_domOn hd, State.epoch_bumped hbase hepochs, rfl, s.deviceReset_spoken,
      s.deviceReset_keeps.clock, haon, s.deviceReset_otp, rfl⟩

end Sys2Proof.Machine

/-! ### Analogue lanes

Pilot and blend of FM, the measurements of both kinds of lane, and lock, AMSS and audio of AM and FM (R170 to R195). A command of a
lane acts while the lane runs with its kind of binding; each lemma says what one such command does in one of its cases. -/

namespace Sys2Proof.Machine

/-! ### Counters -/

@[simp] theorem State.count_lane (s : State) (f : Fld) (n k : Nat) : (s.count f n k).lane = s.lane := rfl

theorem State.on_count_low (s : State) (f g : Fld) (n m k : Nat) (h : g.low ≠ f.low) : (s.count f n k).on g m = s.on g m :=
  State.on_put_low _ _ _ _ _ _ h

/-! ### Pilot -/

/-- Without the pilot, the third good block in a row declares it, and the blend starts from 0 (R174, R176). -/
theorem State.pilotDecide_declared {s : State} {n level err : Nat} (hoff : s.on F.AN_STAT_LOCK n = false)
    (hlevel : s.get F.FM_CFG_PILOT_ON n * 100 ≤ level) (herr : err < 1000) (hup : (s.lane n).pilotUp = 2) :
    s.pilotDecide n level err =
      ((s.setLane n { s.lane n with pilotUp := 0, pilotDn := 0, blend := 0 }).puts n
        [(F.AN_STAT_LOCK, 1), (F.AN_STAT_BLEND, 0), (F.AN_STAT_STEREO, 0)]).raise .slot n Ev.pilotOn := by
  have hgood : s.get F.FM_CFG_PILOT_ON n * 100 ≤ level ∧ err < 1000 := ⟨hlevel, herr⟩
  simp [State.pilotDecide, hoff, hgood, hup]

/-- With the pilot, the fifth low block in a row ends it, and so does one with more than 30 degrees of phase error (R174). -/
theorem State.pilotDecide_ended {s : State} {n level err : Nat} (hon : s.on F.AN_STAT_LOCK n = true)
    (hbad : (level < s.get F.FM_CFG_PILOT_OFF n * 100 ∧ (s.lane n).pilotDn = 4) ∨ 3000 < err) :
    s.pilotDecide n level err =
      ((s.setLane n { s.lane n with pilotUp := 0, pilotDn := 0 }).put F.AN_STAT_LOCK n 0).raise .slot n Ev.pilotOff := by
  rcases hbad with ⟨hlow, hdn⟩ | herr
  · simp [State.pilotDecide, hon, hlow, hdn]
  · simp [State.pilotDecide, hon, herr]

/-- With the pilot, a block that is neither low nor out of phase starts the count of low ones afresh (R174). -/
theorem State.pilotDecide_held {s : State} {n level err : Nat} (hon : s.on F.AN_STAT_LOCK n = true)
    (hlevel : s.get F.FM_CFG_PILOT_OFF n * 100 ≤ level) (herr : err ≤ 3000) :
    s.pilotDecide n level err = s.setLane n { s.lane n with pilotUp := 0, pilotDn := 0 } := by
  simp [State.pilotDecide, hon, not_lt.mpr hlevel, not_lt.mpr herr]

theorem execPilotBlock_valid {n : Fin 512} {s : State} (level err : Nat) (h : s.laneRuns n.val 1 = true) :
    exec (.pilotBlock n true level err) s =
      .next ((s.put F.AN_LEVEL_LEVEL n.val (min level 65535)).pilotDecide n.val level err) :=
  (if_pos (by simp [h]) : execPilotBlock n true level err s = _)

/-- A block without valid samples changes nothing, whatever the lane (R171). -/
theorem execPilotBlock_invalid (n : Fin 512) (level err : Nat) (s : State) :
    exec (.pilotBlock n false level err) s = .next s :=
  (if_neg (by simp) : execPilotBlock n false level err s = _)

/-! ### Measurements -/

theorem clampI_mem {lo hi : Int} (h : lo ≤ hi) (v : Int) : lo ≤ clampI lo hi v ∧ clampI lo hi v ≤ hi := by
  unfold clampI
  split_ifs <;> omega

/-- Every SNR is reported within −10 to +90 dB, those of no noise and of no signal too (R177, R190). -/
theorem snrOf_mem (p q : Nat) : -1000 ≤ snrOf p q ∧ snrOf p q ≤ 9000 := by
  unfold snrOf
  split_ifs
  · decide
  · decide
  · exact clampI_mem (by decide) _

theorem execFmSnrUpdate_valid {n : Fin 512} {s : State} (nHi mp : Nat) (h : s.laneRuns n.val 1 = true) :
    exec (.fmSnrUpdate n true nHi mp) s = .next ((s.put F.AN_SNR_SNR n.val
      (ofInt 16 (snrOf (2812500000 * 622592) (nHi * 3375)))).put F.AN_SNR_MP n.val (min mp 1000)) :=
  (if_pos (by simp [h]) : execFmSnrUpdate n true nHi mp s = _)

theorem execOffsetUpdate_valid {n : Fin 512} {s : State} (mean : Int)
    (h : s.laneRuns n.val 1 = true ∨ s.laneRuns n.val 2 = true) :
    exec (.offsetUpdate n true mean) s = .next (s.put F.AN_OFS_OFS n.val (satS 32 mean)) :=
  (if_pos (by simpa using h) : execOffsetUpdate n true mean s = _)

theorem execAmSnrUpdate_valid {n : Fin 512} {s : State} (pq : Nat) (level : Int) (h : s.laneRuns n.val 2 = true) :
    exec (.amSnrUpdate n true pq level) s = .next ((s.put F.AN_SNR_SNR n.val
      (if s.on F.AN_STAT_LOCK n.val = true then ofInt 16 (snrOf 500000000000 pq) else 0x8000)).put F.AN_LEVEL_LEVEL n.val
      (satS 16 level)) :=
  (if_pos (by simp [h]) : execAmSnrUpdate n true pq level s = _)

/-! ### Blend -/

/-- Downwards the blend factor moves by at most its rate, and not past the target (R176). -/
theorem blendMove_down {b target dn : Rat} (up : Rat) (hdn : 0 ≤ dn) (h : target < b) :
    target ≤ blendMove b target dn up ∧ blendMove b target dn up ≤ b := by
  rw [blendMove, if_pos h]
  exact ⟨le_max_left _ _, max_le h.le (sub_le_self b hdn)⟩

/-- Upwards the blend factor moves by at most its rate, and not past the target (R176). -/
theorem blendMove_up {b target up : Rat} (dn : Rat) (hup : 0 ≤ up) (h : b ≤ target) :
    b ≤ blendMove b target dn up ∧ blendMove b target dn up ≤ target := by
  rw [blendMove, if_neg h.not_gt]
  exact ⟨le_min h (le_add_of_nonneg_right hup), min_le_left _ _⟩

/-- The target of the blend factor of a lane: 0 unless STEREO is set and the pilot is there (R176). -/
def State.laneBlendTarget (s : State) (n : Nat) : Rat :=
  if s.on F.FM_CFG_STEREO n && s.on F.AN_STAT_LOCK n then
    blendTarget (sgn 16 (s.get F.AN_SNR_SNR n)) (s.get F.FM_BLEND_SNR_MONO n) (s.get F.FM_BLEND_SNR_STEREO n)
  else 0

theorem State.laneBlendTarget_eq (s : State) (n : Nat) :
    s.laneBlendTarget n = if s.on F.FM_CFG_STEREO n = true ∧ s.on F.AN_STAT_LOCK n = true then
      blendTarget (sgn 16 (s.get F.AN_SNR_SNR n)) (s.get F.FM_BLEND_SNR_MONO n) (s.get F.FM_BLEND_SNR_STEREO n)
    else 0 :=
  if_congr (by simp) rfl rfl

/-- The next blend factor of a lane. -/
def State.nextBlend (s : State) (n : Nat) : Rat :=
  blendMove (s.lane n).blend (s.laneBlendTarget n) (mkRat 1 (s.get F.FM_BLEND_BLEND_DN n))
    (mkRat 1 (10 * s.get F.FM_BLEND_BLEND_UP n))

theorem execBlendUpdate_runs {n : Fin 512} {s : State} (h : s.laneRuns n.val 1 = true) :
    exec (.blendUpdate n) s = .next ((s.setLane n.val { s.lane n.val with blend := s.nextBlend n.val }).puts n.val
      [(F.AN_STAT_BLEND, (s.nextBlend n.val * 1024 + mkRat 1 2).floor.toNat),
        (F.AN_STAT_STEREO, b2n (decide (0 < s.nextBlend n.val)))]) :=
  (if_pos h : execBlendUpdate n s = _)

/-! ### AM lock -/

/-- Lock goes when ten times the mean of Q is above three times the carrier (R186). -/
theorem execAmLockEval_lost {n : Fin 512} {meanQ carrier : Nat} {s : State} (h : s.laneRuns n.val 2 = true)
    (hl : s.on F.AN_STAT_LOCK n.val = true) (hq : 3 * carrier < 10 * meanQ) :
    exec (.amLockEval n true meanQ carrier) s =
      .next (((s.puts n.val [(F.AN_STAT_LOCK, 0), (F.AN_SNR_SNR, 0x8000)]).raise .slot n.val Ev.pilotOff).showDet n.val) :=
  ((if_pos (by simp [h])).trans ((if_pos hl).trans (if_pos hq)) : execAmLockEval n true meanQ carrier s = _)

/-- Lock comes when ten times the mean of Q is below the carrier (R186). -/
theorem execAmLockEval_found {n : Fin 512} {meanQ carrier : Nat} {s : State} (h : s.laneRuns n.val 2 = true)
    (hl : s.on F.AN_STAT_LOCK n.val = false) (hq : 10 * meanQ < carrier) :
    exec (.amLockEval n true meanQ carrier) s =
      .next (((s.put F.AN_STAT_LOCK n.val 1).raise .slot n.val Ev.pilotOn).showDet n.val) :=
  ((if_pos (by simp [h])).trans ((if_neg (by simp [hl])).trans (if_pos hq)) : execAmLockEval n true meanQ carrier s = _)

theorem execAmLockEval_unlocked {n : Fin 512} {meanQ carrier : Nat} {s : State} (h : s.laneRuns n.val 2 = true)
    (hl : s.on F.AN_STAT_LOCK n.val = false) (hq : carrier ≤ 10 * meanQ) :
    exec (.amLockEval n true meanQ carrier) s = .next s :=
  ((if_pos (by simp [h])).trans ((if_neg (by simp [hl])).trans (if_neg hq.not_gt)) :
    execAmLockEval n true meanQ carrier s = _)

/-! ### AMSS -/

/-- A group that passed its CRC is counted, delivered and examined, and the bad groups in a row start from none (R191). -/
theorem execAmssGroup_good {n : Fin 512} {s : State} (bitCount : Nat) (group : List Byte) (h : s.laneRuns n.val 2 = true)
    (hen : s.on F.AM_AMSS_EN n.val = true) :
    let t := ((s.count F.DATA_OK_COUNT n.val 1).slotEmit n.val
      { s.slotRec n.val s.now (.amss 0 bitCount group) with failed := false }).alarmAmss n.val group
    exec (.amssGroup n false true bitCount group) s = .next (t.setLane n.val { t.lane n.val with amssBad := 0 }) :=
  (if_pos (by simp [h, hen]) : execAmssGroup n false true bitCount group s = _)

/-- A group that failed its CRC is counted; the eighth in a row ends synchronisation (R191). Without ALL it is not delivered. -/
theorem execAmssGroup_bad {n : Fin 512} {s : State} (bitCount : Nat) (group : List Byte) (h : s.laneRuns n.val 2 = true)
    (hen : s.on F.AM_AMSS_EN n.val = true) (hsync : s.on F.AN_STAT_DSYNC n.val = true)
    (hall : s.on F.AM_AMSS_ALL n.val = false) :
    let t := s.count F.DATA_BAD_COUNT n.val 1
    let bad := (s.lane n.val).amssBad + 1
    exec (.amssGroup n false false bitCount group) s =
      if 8 ≤ bad then
        .next ((((t.setLane n.val { s.lane n.val with amssBad := 0 }).put F.AN_STAT_DSYNC n.val 0).raise .slot n.val
          Ev.rdsLost).alarmSourceLost 0 n.val)
      else .next (t.setLane n.val { s.lane n.val with amssBad := bad }) := by
  have hsync' : (s.count F.DATA_BAD_COUNT n.val 1).on F.AN_STAT_DSYNC n.val = true := by
    rw [State.on_count_low _ _ _ _ _ _ (by decide), hsync]
  refine (if_pos (by simp [h, hen]) : execAmssGroup n false false bitCount group s = _).trans ?_
  simp [hall, hsync']

/-! ### Audio -/

/-- Without PCM a block only counts its zeroed periods (R195). -/
theorem execPcmBlockEnd_silent {n : Fin 512} {s : State} (count : Nat) (runs : List Run) (data : List Byte)
    (h : s.laneRuns n.val 1 = true ∨ s.laneRuns n.val 2 = true) (hpcm : s.on F.AUD_OUT_PCM_EN n.val = false) :
    exec (.pcmBlockEnd n count runs false data) s = .next (s.count F.AUD_CULL_COUNT n.val (zeroedPeriods runs)) :=
  ((if_pos (by simpa using h)).trans (if_neg (by simp [hpcm])) : execPcmBlockEnd n count runs false data s = _)

/-- With PCM a block is delivered too, with the time of its first sample (R193). -/
theorem execPcmBlockEnd_delivers {n : Fin 512} {s : State} (count : Nat) (runs : List Run) (data : List Byte)
    (h : s.laneRuns n.val 1 = true ∨ s.laneRuns n.val 2 = true) (hpcm : s.on F.AUD_OUT_PCM_EN n.val = true) :
    exec (.pcmBlockEnd n count runs false data) s =
      .next ((s.count F.AUD_CULL_COUNT n.val (zeroedPeriods runs)).slotEmit n.val
        (s.slotRec n.val (s.time - BitVec.ofNat 64 (count * 5120)).toNat
          (.pcm { count := count, format := s.get F.AUD_OUT_PCM_PACK n.val, channels := 2, rate := 48000 * 16,
                  runs := runs, data := data }))) :=
  ((if_pos (by simpa using h)).trans (if_pos hpcm) : execPcmBlockEnd n count runs false data s = _)

/-! ### The statement -/

/-- Settles O24 (R174, R176 to R179, R186, R188, R190, R191, R193 to R195): the decisions of the pilot, the measurements with
their bounds and the blend, and lock, AMSS and audio, a lemma for each case. -/
theorem analogueLanes : Obligations.AnalogueLanes := by
  refine ⟨⟨?pilotBlock, ?declared, ?ended, ?held⟩, ⟨?fmSnr, snrOf_mem, ?offset, ?amSnr, ?blend, ?blendBounds⟩,
    ?amLock, ?amssGood, ?amssBad, ?pcm⟩
  case pilotBlock => exact fun n level err s h => ⟨execPilotBlock_valid level err h, execPilotBlock_invalid n level err s⟩
  case declared => exact fun _ _ _ _ => State.pilotDecide_declared
  case ended => exact fun _ _ _ _ => State.pilotDecide_ended
  case held => exact fun _ _ _ _ => State.pilotDecide_held
  case fmSnr => exact fun _ nHi mp _ => execFmSnrUpdate_valid nHi mp
  case offset => exact fun _ mean _ => execOffsetUpdate_valid mean
  case amSnr => exact fun _ pq level _ => execAmSnrUpdate_valid pq level
  case blend =>
    intro n s h
    have he := execBlendUpdate_runs h
    rw [State.nextBlend, State.laneBlendTarget_eq] at he
    exact he
  case blendBounds => exact fun _ _ dn up hdn hup => ⟨blendMove_down up hdn, blendMove_up dn hup⟩
  case amLock =>
    exact fun _ _ _ _ h => ⟨execAmLockEval_lost h, execAmLockEval_found h, execAmLockEval_unlocked h⟩
  case amssGood => exact fun _ bitCount group _ h hen _ => execAmssGroup_good bitCount group h hen
  case amssBad =>
    intro n bitCount group s h hen hsync hall
    have he := execAmssGroup_bad bitCount group h hen hsync hall
    exact ⟨fun hlt => he.trans (if_neg (by omega)), fun heq => he.trans (if_pos (by omega))⟩
  case pcm =>
    exact fun _ count runs data _ h => ⟨execPcmBlockEnd_silent count runs data h, execPcmBlockEnd_delivers count runs data h⟩

end Sys2Proof.Machine

/-! ### Metrology

Measurement windows and their results, the reference self-check, the PPS latch and METRIC records (R170, R269 to R284). The flags
of a window are decided in one place (`windowFlags_cases`); each command then has a lemma for each of its cases. -/

namespace Sys2Proof.Machine

/-! ### Windows -/

/-- A window gives no result, a partial one or a whole one, by the share of its samples that were valid (R269). -/
theorem windowFlags_cases {total : Nat} (valid : Nat) (h : 0 < total) :
    (windowFlags valid total = none ∧ 2 * valid < total) ∨
    (windowFlags valid total = some 3 ∧ total ≤ 2 * valid ∧ 100 * valid < 99 * total) ∨
    (windowFlags valid total = some 1 ∧ total ≤ 2 * valid ∧ 99 * total ≤ 100 * valid) := by
  unfold windowFlags
  split_ifs with hnone hpartial
  · exact .inl ⟨rfl, by omega⟩
  · exact .inr (.inl ⟨rfl, by omega, hpartial⟩)
  · exact .inr (.inr ⟨rfl, by omega, not_lt.mp hpartial⟩)

/-- The flags tell the share of valid samples: the three cases exclude each other. -/
theorem windowFlags_iff {total : Nat} (valid : Nat) (h : 0 < total) :
    (windowFlags valid total = none ↔ 2 * valid < total) ∧
    (windowFlags valid total = some 3 ↔ total ≤ 2 * valid ∧ 100 * valid < 99 * total) ∧
    (windowFlags valid total = some 1 ↔ total ≤ 2 * valid ∧ 99 * total ≤ 100 * valid) := by
  rcases windowFlags_cases valid h with ⟨hf, hv⟩ | ⟨hf, hl, hv⟩ | ⟨hf, hl, hv⟩
  all_goals
    simp only [hf, reduceCtorEq, Option.some.injEq, true_iff, false_iff]
    omega

theorem windowResult_none {valid total : Nat} (old : Option MetRes) (a b extra time : Nat) (h : windowFlags valid total = none) :
    windowResult old valid total a b extra time = old.map MetRes.expire := by
  simp only [windowResult, h]

theorem windowResult_some {valid total f : Nat} (old : Option MetRes) (a b extra time : Nat)
    (h : windowFlags valid total = some f) :
    windowResult old valid total a b extra time = some { a := a, b := b, flags := f + extra, time := time } := by
  simp only [windowResult, h]

/-- The state with other measurement results of a slot. -/
abbrev State.withMet (s : State) (n : Nat) (h : MetHid) : State := { s with mets := Tbl.set s.mets {} n h }

/-- A field-strength window of a measured slot leaves level and field strength as its result; k and the conditions that the
flags tell are the window's own (R272, R274). -/
theorem execFsWindowEnd_measured {n : Fin 512} {b : Bind} {s : State} (valid total : Nat) (dbm k nbw : Int) (stale clip : Bool)
    (hb : (s.slot n.val).applied = some b) (hm : s.measured n.val = true) :
    ∃ kb extra, exec (.fsWindowEnd n valid total dbm k stale clip nbw) s =
      .next (s.withMet n.val { Tbl.get s.mets {} n.val with
        fs := windowResult (Tbl.get s.mets {} n.val).fs valid total (satS 16 (dbm + 10700) +
          65536 * satS 16 (dbm + 10700 + sgn 16 (s.getE F.MET_AF_AF 0 (s.windowPort b.window)))) kb extra
          (s.windowEnd n.val) }) := by
  change ∃ _ _, execFsWindowEnd n valid total dbm k stale clip nbw s = _
  simp only [execFsWindowEnd, hb, hm]
  exact ⟨_, _, rfl⟩

/-- A window command is not skipped for a measured slot of the window's kind. -/
theorem State.window_not_skipped {s : State} {n k : Nat} (hm : s.measured n = true) (hk : s.slotKind n = k) :
    ¬ (!(s.measured n && s.slotKind n == k)) = true := by
  simp [hm, hk]

section
variable {n : Fin 512} {s : State} (valid total : Nat) (hm : s.measured n.val = true)
include hm

theorem execDevWindowEnd_fm (peak : Nat) (hist : List Nat) (above : Nat) (hk : s.slotKind n.val = 1) :
    let t := s.withMet n.val { Tbl.get s.mets {} n.val with
      dev := windowResult (Tbl.get s.mets {} n.val).dev valid total (satU 16 (roundDiv peak 10) + 65536 *
        satU 16 (excEdge hist valid (s.get F.MET_DEV_CFG_EXCEED 0))) (satU 24 (roundDiv (1000000 * above) valid)) 0
        (s.windowEnd n.val) }
    exec (.devWindowEnd n valid total peak hist above) s = .next (if (windowFlags valid total).isSome = true ∧ 0 < above then
      t.raiseViews .metro Ev.devOver (viewsOf (s.owner .slot n.val)) else t) :=
  ((if_neg (State.window_not_skipped hm hk)).trans (apply_ite ..).symm : execDevWindowEnd n valid total peak hist above s = _)

theorem execMpxWindowEnd_fm (sumSq : Nat) (hk : s.slotKind n.val = 1) :
    let h := Tbl.get s.mets {} n.val
    let p := mpxPower sumSq valid
    let t := s.withMet n.val { h with
      mpx := windowResult h.mpx valid total (ofInt 16 p + 65536 * (h.mpx.map fun r => r.a / 65536).getD 0) 0 0
        (s.windowEnd n.val) }
    exec (.mpxWindowEnd n valid total sumSq) s = .next (if (windowFlags valid total).isSome = true ∧
      sgn 16 (s.get F.MET_MPX_CFG_LIMIT 0) < p then t.raiseViews .metro Ev.mpxOver (viewsOf (s.owner .slot n.val)) else t) :=
  ((if_neg (State.window_not_skipped hm hk)).trans (apply_ite ..).symm : execMpxWindowEnd n valid total sumSq s = _)

/-- The running power replaces its half of the word of an MPX result (R279). -/
theorem execMpxRunUpdate_fm (sumSq : Nat) {r : MetRes} (hk : s.slotKind n.val = 1)
    (hf : (windowFlags valid total).isSome = true) (hr : (Tbl.get s.mets {} n.val).mpx = some r) :
    exec (.mpxRunUpdate n valid total sumSq) s = .next (s.withMet n.val { Tbl.get s.mets {} n.val with
      mpx := some { r with a := r.a % 65536 + 65536 * ofInt 16 (mpxPower sumSq valid) } }) := by
  have hf' : (windowFlags valid total).isNone = false := by
    rw [← Option.not_isSome, hf, Bool.not_true]
  refine (if_neg ?_ : execMpxRunUpdate n valid total sumSq s = _).trans ?_
  · simp [hm, hk, hf']
  · simp only [hr]

theorem execInjectionWindowEnd_fm (pilot rdsSq : Nat) (hk : s.slotKind n.val = 1) :
    exec (.injectionWindowEnd n valid total pilot rdsSq) s = .next (s.withMet n.val { Tbl.get s.mets {} n.val with
      inj := windowResult (Tbl.get s.mets {} n.val).inj valid total
        (satU 16 (roundDiv pilot 10) + 65536 * satU 16 (sqrtRatio (2 * rdsSq) (100 * valid))) 0 0 (s.windowEnd n.val) }) :=
  (if_neg (State.window_not_skipped hm hk) : execInjectionWindowEnd n valid total pilot rdsSq s = _)

theorem execAmDepthWindowEnd_am (hi lo : Int) (sumSq pinch : Nat) (hk : s.slotKind n.val = 2) :
    exec (.amDepthWindowEnd n valid total hi lo sumSq pinch) s = .next (s.withMet n.val { Tbl.get s.mets {} n.val with
      am := windowResult (Tbl.get s.mets {} n.val).am valid total (depth hi + 4096 * depth (-lo))
        (depth (sqrtRatio (2 * sumSq) valid) + 65536 * satU 16 pinch) 0 (s.windowEnd n.val) }) :=
  (if_neg (State.window_not_skipped hm hk) : execAmDepthWindowEnd n valid total hi lo sumSq pinch s = _)

end

/-! ### The self-check -/

/-- A write of `MET_REF_CMD` that acts is settled by what the register makes of it. -/
theorem execRefCheckGo_acts {a : Accessor} {s : State} (w : Word) (h : s.Acts a .metro 0 0x6C) :
    exec (.refCheckGo a w) s = .next (s.settle a .metro 0 0x6C (refCmdWrite a w s)) :=
  congrArg Host.Outcome.next (State.regWrite_acts h (metroWrite a 0x6C (s.major a 0x5A) w))

theorem refCmdWrite_go {a : Accessor} {w : Word} {s : State} (ha : isManager a = true) (hw : bit w.toNat 0 = true)
    (hr : s.on F.MET_REF_STAT_RUNNING 0 = false) : refCmdWrite a w s = .ok s.refStart := by
  simp [refCmdWrite, ha, bits_self, hw, hr]

theorem refCmdWrite_not_manager {a : Accessor} (w : Word) (s : State) (ha : isManager a = false) :
    refCmdWrite a w s = .error .owner := by
  simp [refCmdWrite, ha]

/-- Within half a decibel the check passes: the trim takes the deviation and the age starts anew (R275, R277). -/
theorem execRefCheckDone_pass {dev : Int} {s : State} (h : s.on F.MET_REF_STAT_RUNNING 0 = true) (hd : dev.natAbs ≤ 500) :
    let t := s.puts 0 [(F.MET_REF_STAT_RUNNING, 0), (F.MET_REF_DEV_DEV, satS 16 (roundDivI dev 10))]
    exec (.refCheckDone dev) s = .next ({ t.put F.MET_REF_STAT_RESULT 0 1 with
      ref := { s.ref with age := 0, unverified := false, trim := s.ref.trim - dev } }.raiseViews .metro Ev.refPass [0, 4]) :=
  ((if_neg (by simp [h])).trans (if_pos hd) : execRefCheckDone dev s = _)

/-- A greater deviation fails it and touches neither trim nor age (R275). -/
theorem execRefCheckDone_fail {dev : Int} {s : State} (h : s.on F.MET_REF_STAT_RUNNING 0 = true) (hd : 500 < dev.natAbs) :
    let t := s.puts 0 [(F.MET_REF_STAT_RUNNING, 0), (F.MET_REF_DEV_DEV, satS 16 (roundDivI dev 10))]
    exec (.refCheckDone dev) s = .next ({ t.put F.MET_REF_STAT_RESULT 0 2 with
      ref := { s.ref with unverified := true } }.raiseViews .metro Ev.refFail [0, 4]) :=
  ((if_neg (by simp [h])).trans (if_neg hd.not_ge) : execRefCheckDone dev s = _)

/-- The state with the age of the last self-check in days. -/
abbrev State.withAge (s : State) (days : Nat) : State := { s with ref := { s.ref with age := days } }

/-- Short of its greatest value the age grows by one, and only the new age is compared with the period (R277). -/
theorem execRefAgeDay_below {s : State} (hm : s.mode ≠ .off) (ha : s.ref.age < 65535) :
    let t := s.withAge (s.ref.age + 1)
    let u := t.raiseViews .metro Ev.refDue [0, 4]
    exec .refAgeDay s = if s.ref.age + 1 = s.get F.MET_REF_CFG_PERIOD 0 then
      .next (if u.on F.MET_REF_CFG_AUTO 0 then u.refDueNow else u) else .next t := by
  have hage : min (s.ref.age + 1) 65535 = s.ref.age + 1 := min_eq_left ha
  refine (if_neg hm : execRefAgeDay s = _).trans ?_
  simp only [hage, (Nat.lt_succ_self s.ref.age).ne, ne_eq, not_false_eq_true, true_and]

/-! ### PPS -/

section
variable {falling : Bool} {s : State} (hp : s.powered .metro 0 = true) (hen : s.on F.MET_PPS_CFG_EN 0 = true)
  (hl : s.pllLocked = true) (he : s.on F.MET_PPS_CFG_EDGE 0 = falling)
include hp hen hl he

/-- An edge is not skipped when the page has power, PPS is enabled with that edge, and the clock is locked. -/
theorem State.ppsEdge_not_skipped : ¬ (!(s.powered .metro 0 && s.on F.MET_PPS_CFG_EN 0 && s.pllLocked &&
    s.on F.MET_PPS_CFG_EDGE 0 == falling)) = true := by
  simp [hp, hen, hl, he]

/-- The first edge is accepted, with no period to tell (R283). -/
theorem execPpsEdge_first (h : s.pps.last = none) : exec (.ppsEdge falling) s = .next { s.puts 0
    [(F.MET_PPS_LO_TIME, s.now), (F.MET_PPS_HI_TIME, s.now / 2 ^ 32), (F.MET_PPS_PERIOD_TICKS, 0),
      (F.MET_PPS_COUNT_COUNT, s.get F.MET_PPS_COUNT_COUNT 0 + 1)] with pps := { last := some s.now } } := by
  refine (if_neg (State.ppsEdge_not_skipped hp hen hl he) : execPpsEdge falling s = _).trans ?_
  simp [h]

/-- An edge before nine tenths of a second is only counted (R283). -/
theorem execPpsEdge_early {t : Nat} (h : s.pps.last = some t) (ht : 10 * (s.now - t) < 9 * ticksPerSecond) :
    exec (.ppsEdge falling) s = .next (s.count F.MET_PPS_COUNT_REJECT 0 1) := by
  refine (if_neg (State.ppsEdge_not_skipped hp hen hl he) : execPpsEdge falling s = _).trans ?_
  simp [h, ht]

end

theorem execPpsMissing_first {s : State} (hl : s.pps.last.isSome = true) (hm : s.pps.missed = false)
    (hen : s.on F.MET_PPS_CFG_EN 0 = true) : exec .ppsMissing s =
      .next ({ s with pps := { s.pps with missed := true } }.raiseViews .metro Ev.ppsMissing allViews) :=
  (if_pos (by simp [hl, hm, hen]) : execPpsMissing s = _)

/-! ### METRIC records -/

theorem execMetricReport_slot {n : Fin 512} {s : State} (mers : List Nat) (hm : s.measured n.val = true)
    (hk : s.slotKind n.val = 1 ∨ s.slotKind n.val = 2) (hi : s.get F.MET_CFG_INTERVAL n.val ≠ 0) :
    exec (.metricReport (.slot n) mers) s = .next ((s.slotEmit n.val (s.slotMetric n.val)).gainTold n.val) :=
  (if_pos (by simp [hm, hk, hi]) : execMetricReport (.slot n) mers s = _)

theorem execMetricReport_dab {c : Fin 48} {n : Nat} {b : Bind} {s : State} (mers : List Nat)
    (hb : s.boundSlot (.dab c) = some (n, b)) (hi : s.get F.DAB_MET_INTERVAL c.val ≠ 0) (hc : s.ctxState (.dab c) ≠ 0) :
    exec (.metricReport (.ctx (.dab c)) mers) s =
      .next ((s.ctxEmit (.dab c) (s.ctxMetric (.dab c) n b mers)).gainTold n) := by
  change execMetricReport (.ctx (.dab c)) mers s = _
  simp [execMetricReport, hb, hi, hc]

/-! ### The statement -/

/-- Settles O31 (R170, R269 to R284, R406): the flags of a window and its result for each kind, the self-check and its age, and
the PPS edges and METRIC records, a lemma for each case. -/
theorem metrology : Obligations.Metrology := by
  refine ⟨⟨?flags, ?fs, ?dev, ?mpx, ?run, ?inj, ?am⟩, ⟨?go, ?done, ?age⟩, ?pps, ?missing, ?slotReport, ?dabReport⟩
  case flags => exact fun valid _ => windowFlags_iff valid
  case fs =>
    intro n b valid total dbm k nbw stale clip s hb hm
    obtain ⟨kb, extra, he⟩ := execFsWindowEnd_measured valid total dbm k nbw stale clip hb hm
    exact ⟨_, he, windowResult_none _ _ _ _ _, fun f hf => ⟨_, windowResult_some _ _ _ _ _ hf, rfl, rfl⟩⟩
  case dev => exact fun _ valid total peak above hist _ hm => execDevWindowEnd_fm valid total hm peak hist above
  case mpx => exact fun _ valid total sumSq _ hm => execMpxWindowEnd_fm valid total hm sumSq
  case run => exact fun _ valid total sumSq _ _ hm => execMpxRunUpdate_fm valid total hm sumSq
  case inj => exact fun _ valid total pilot rdsSq _ hm => execInjectionWindowEnd_fm valid total hm pilot rdsSq
  case am => exact fun _ valid total sumSq pinch hi lo _ hm => execAmDepthWindowEnd_am valid total hm hi lo sumSq pinch
  case go =>
    intro a w s h hw hr
    rw [execRefCheckGo_acts w h]
    exact ⟨fun ha => by rw [refCmdWrite_go ha hw hr, State.settle_ok, State.refStart],
      fun ha => by rw [refCmdWrite_not_manager w s ha, State.settle_error]⟩
  case done => exact fun _ _ h => ⟨execRefCheckDone_pass h, execRefCheckDone_fail h⟩
  case age =>
    intro s hm ha
    have he := execRefAgeDay_below hm ha
    exact ⟨fun hne => he.trans (if_neg hne),
      fun heq hauto => he.trans ((if_pos heq).trans (congrArg _ (if_neg (ne_true_of_eq_false hauto))))⟩
  case pps => exact fun _ _ hp hen hl he => ⟨execPpsEdge_first hp hen hl he, fun _ => execPpsEdge_early hp hen hl he⟩
  case missing => exact fun _ => execPpsMissing_first
  case slotReport => exact fun _ mers _ hm hk => execMetricReport_slot mers hm (.inl hk)
  case dabReport => exact fun _ _ _ mers _ => execMetricReport_dab mers

end Sys2Proof.Machine

/-! ### Sleep, wake and serve visits

The requests to sleep, the commit point and the declaration, the sources of a wake and a wake that is complete, serve visits, and
the pads held through sleep (R326 to R339). What these commands leave of PD_0 rests on one fact: PD_1 comes and goes without touching
a register of PD_0 (`State.SparesPd0`). -/

namespace Sys2Proof.Machine

/-! ### Bits cleared and set -/

/-- The bits that two numbers share and those of the first alone make up the first. -/
theorem and_add_ldiff (v m : Nat) : (v &&& m) + v.ldiff m = v := by
  induction v using Nat.binaryRec generalizing m with
  | zero => simp [Nat.ldiff]
  | bit a v ih =>
    rw [← Nat.bit_bodd_div2 m, Nat.land_bit, Nat.ldiff_bit]
    have := ih m.div2
    cases a <;> cases m.bodd <;> simp [Nat.bit_val] <;> omega

theorem clearBits_eq_ldiff (v m : Nat) : clearBits v m = v.ldiff m :=
  Nat.sub_eq_of_eq_add (by rw [Nat.add_comm, and_add_ldiff])

/-- A field that has room for a bit keeps it. -/
theorem bit_mod_two_pow {v w e : Nat} (h : e < w) : bit (v % 2 ^ w) e = bit v e := by
  simp [bit, Nat.testBit_mod_two_pow, h]

theorem bit_clearBits (v m k : Nat) : bit (clearBits v m) k = (bit v k && !bit m k) := by
  rw [clearBits_eq_ldiff]
  exact Nat.testBit_ldiff v m k

/-- Of a field with one bit cleared every other bit that it has room for is as it was. -/
theorem bit_clearBits_two_pow (v g : Nat) {w k : Nat} (hk : k < w) :
    bit (clearBits v (2 ^ g) % 2 ^ w) k = (bit v k && decide (k ≠ g)) := by
  rw [bit_mod_two_pow hk, bit_clearBits, bit, bit, Nat.testBit_two_pow]
  simp [eq_comm]

theorem bit_setBit (v e : Nat) : bit (v ||| 2 ^ e) e = true := by
  simp [bit, Nat.testBit_two_pow_self]

/-! ### The bit of an event that has been raised -/

theorem H.EVT_blk (b : Blk) : (H.EVT b).blk = b := by
  unfold H.EVT
  split <;> rfl

/-- The event bits of a block lie below the words of MSI-X and beside no other event register. -/
theorem H.EVT_place (b : Blk) : (H.EVT b).off < 4096 ∧ (H.EVT b).lo < 32 ∧ (H.EVT b).low ≠ F.PBA_PEND.low ∧
    (H.EVT_AGAIN b).low ≠ (H.EVT b).low := by
  cases b <;> decide

theorem State.setEvt_evt (s : State) {b : Blk} (n : Nat) {e : Nat} (he : e < (H.EVT b).width) :
    bit ((s.setEvt b n e).get (H.EVT b) n) e = true := by
  obtain ⟨-, -, -, hne⟩ := H.EVT_place b
  unfold State.setEvt
  split
  · next hset => rwa [State.get_put_low _ _ _ _ _ _ hne.symm]
  · rw [State.get_put_same, bit_mod_two_pow he, bit_setBit]

theorem State.raise_evt (s : State) {b : Blk} {n e : Nat} (hb : b.code ≠ 6) (hn : n < 1024) (he : e < (H.EVT b).width) :
    bit ((s.raise b n e).get (H.EVT b) n) e = true := by
  obtain ⟨hoff, hlo, hpba, -⟩ := H.EVT_place b
  have h : bit ((s.withRise b n (s.owner b n) fun u => u.setEvt b n e).get (H.EVT b) n) e = true := by
    unfold State.withRise
    extract_lets t
    split
    · rw [State.get, State.pageMessage_getE _ _ _ _ _ hpba]
      exact State.setEvt_evt s n he
    · exact State.setEvt_evt s n he
  unfold State.raise
  extract_lets t
  split
  · rw [State.get, State.attnMark_getE _ _ (by rwa [H.EVT_blk]) hoff hlo hn (by omega)]
    exact h
  · exact h

/-! ### Registers -/

theorem State.get_congr {s t : State} (h : t.fields = s.fields) (f : Fld) (n : Nat) : t.get f n = s.get f n := by
  rw [State.get, State.getE, h, State.get, State.getE]

theorem SameRegs.refl (s : State) (ks : List Nat) : SameRegs s s ks := fun _ _ _ => rfl

theorem SameRegs.put {s t : State} {ks : List Nat} (h : SameRegs s t ks) {f : Fld} {n : Nat} (v : Nat) (hk : f.key n 0 ∈ ks) :
    SameRegs s (t.put f n v) ks := fun k d hn =>
  have hne : k ≠ f.key n 0 := fun he => hn (he ▸ hk)
  (Tbl.get_set_ne _ _ _ _ hne).trans (h k d hn)

/-! ### Registers of PD_0

The loss and the return of PD_1 touch no register of PD_0, whose blocks are AON and LEHR (R21). A register's key gives its block, so
that a range of one block's keys holds none of another's. -/

/-- The key is that of a register of PD_0. -/
abbrev pd0Key (k : Nat) : Prop := k / 2 ^ 32 = Blk.aon.code ∨ k / 2 ^ 32 = Blk.lehr.code

/-- The block is none of PD_0. -/
abbrev Blk.OutsidePd0 (b : Blk) : Prop := b.code ≠ Blk.aon.code ∧ b.code ≠ Blk.lehr.code

/-- A field of the block has a place within its page. -/
abbrev Fld.Placed (f : Fld) (b : Blk) : Prop := f.blk = b ∧ f.cnt ≤ 128 ∧ f.off < 4096 ∧ f.lo < 32

theorem Fld.Placed.key_outside {f : Fld} {b : Blk} {n e : Nat} (h : f.Placed b) (hb : b.OutsidePd0) (hn : n < 1024) (he : e < 128) :
    ¬ pd0Key (f.key n e) := by
  obtain ⟨rfl, -, hoff, hlo⟩ := h
  have hk : f.key n e / 2 ^ 32 = f.blk.code := by
    unfold Fld.key
    omega
  rw [pd0Key, hk]
  exact not_or.mpr hb

theorem hdrKept_placed (b : Blk) : ∀ f ∈ hdrKept b, f.Placed b := by
  cases b <;> decide

theorem aonKept_placed : ∀ p ∈ aonKept, ∀ f ∈ p.2, f.Placed p.1 := by decide

theorem domBlocks_one_outside : ∀ b ∈ domBlocks 1, b.OutsidePd0 ∧ blkCount b ≤ 5 := by decide

/-- Only registers differ, and none of those of PD_0. -/
structure State.SparesPd0 (s t : State) : Prop where
  hidden : { t with fields := s.fields } = s
  regs : ∀ k d, pd0Key k → Tbl.get t.fields d k = Tbl.get s.fields d k

theorem State.SparesPd0.refl (s : State) : s.SparesPd0 s := ⟨rfl, fun _ _ _ => rfl⟩

theorem State.SparesPd0.trans {s t u : State} (h : s.SparesPd0 t) (k : t.SparesPd0 u) : s.SparesPd0 u where
  hidden := calc
    { u with fields := s.fields } = { ({ u with fields := t.fields } : State) with fields := s.fields } := rfl
    _ = { t with fields := s.fields } := by rw [k.hidden]
    _ = s := h.hidden
  regs x d hx := (k.regs x d hx).trans (h.regs x d hx)

theorem State.SparesPd0.foldl {α : Type} (g : State → α → State) (l : List α)
    (hg : ∀ u : State, ∀ x ∈ l, u.SparesPd0 (g u x)) (s : State) : s.SparesPd0 (l.foldl g s) := by
  induction l generalizing s with
  | nil => exact .refl s
  | cons x l ih => exact (hg s x List.mem_cons_self).trans (ih (fun u y hy => hg u y (List.mem_cons_of_mem x hy)) _)

theorem State.SparesPd0.putE (s : State) {f : Fld} {n e : Nat} (v : Nat) (h : ¬ pd0Key (f.key n e)) :
    s.SparesPd0 (s.putE f n e v) :=
  ⟨rfl, fun _ _ hk => Tbl.get_set_ne _ _ _ _ fun hx => h (hx ▸ hk)⟩

/-- A range of the registers of a block outside PD_0 returns to its reset values. -/
theorem State.SparesPd0.drop (s : State) {b : Blk} {n m : Nat} (hb : b.OutsidePd0) (hm : m ≤ 1024) :
    s.SparesPd0 { s with fields := Tbl.dropRange s.fields (blockLo b n) (blockLo b m) } := by
  refine ⟨rfl, fun k d hk => Tbl.get_dropRange_out _ _ ?_⟩
  simp only [pd0Key, Blk.OutsidePd0] at hk hb
  unfold blockLo
  omega

theorem State.SparesPd0.dropBlk (s : State) {b : Blk} (hb : b.OutsidePd0) (hc : blkCount b ≤ 5) : s.SparesPd0 (s.dropBlk b) :=
  .drop s hb (by omega)

theorem State.SparesPd0.resetKeep (s : State) {b : Blk} (hb : b.OutsidePd0) {keep : List Fld} (hk : ∀ f ∈ keep, f.Placed b) :
    s.SparesPd0 (s.resetKeep b 0 keep) := by
  have h0 : s.SparesPd0 (s.resetRegs b 0) := .drop s hb (by decide)
  refine h0.trans (.foldl _ _ (fun u f hf => ?_) _)
  refine .foldl (fun v e => v.putE f 0 e (s.getE f 0 e)) _ (fun v e he => ?_) u
  obtain ⟨-, hcnt, -⟩ := hk f hf
  have := List.mem_range.mp he
  exact .putE v _ ((hk f hf).key_outside hb (by decide) (by omega))

/-- What PD_1 loses, PD_0 does not hold, but for the registers that `aonKept` lists (R326). -/
theorem State.SparesPd0.dropCtrl (s : State) : s.SparesPd0 s.dropCtrl := by
  unfold State.dropCtrl
  refine State.SparesPd0.trans (.foldl _ _ (fun t b hb => ?_) s) (.foldl _ _ (fun u a ha => ?_) _)
  · obtain ⟨hout, hcnt⟩ := domBlocks_one_outside b hb
    split
    · next b' keep hfind =>
      have hmem := List.mem_of_find?_eq_some hfind
      have hb' : b' = b := by simpa using List.find?_some hfind
      exact .resetKeep t hout (by simpa [hb'] using aonKept_placed _ hmem)
    · exact .dropBlk t hout hcnt
  · have hspeak : F.SPEAK_MAJOR.Placed .global := by decide
    have := List.mem_range.mp ha
    exact .putE u _ (hspeak.key_outside (by decide) (by omega) (by decide))

theorem State.SparesPd0.putHdr (s : State) {b : Blk} (hb : b.OutsidePd0) {n : Nat} (hn : n < 1024) (x y z : Nat) :
    s.SparesPd0 (((s.put (H.EVT b) n x).put (H.EVT_EN b) n y).put (H.EVT_AGAIN b) n z) := by
  have h : ∀ f ∈ hdrKept b, ¬ pd0Key (f.key n 0) := fun f hf => (hdrKept_placed b f hf).key_outside hb hn (by decide)
  simp only [hdrKept, List.forall_mem_cons] at h
  obtain ⟨hevt, hen, hagain, -⟩ := h
  exact (State.SparesPd0.putE s x hevt).trans ((State.SparesPd0.putE _ y hen).trans (.putE _ z hagain))

theorem State.SparesPd0.fadeRegs_one (s : State) : s.SparesPd0 (s.fadeRegs 1) := by
  refine .foldl _ _ (fun t b hb => ?_) s
  obtain ⟨hout, hcnt⟩ := domBlocks_one_outside b hb
  refine (State.SparesPd0.dropBlk t hout hcnt).trans (.foldl _ _ (fun u n hn => ?_) _)
  have := List.mem_range.mp hn
  extract_lets e
  split
  · exact .refl u
  · exact .putHdr u hout (by omega) _ _ _

theorem State.SparesPd0.same {β : Type} {s t : State} (h : s.SparesPd0 t) (f : State → β)
    (hf : ∀ (u : State) (x : Tbl Nat), f { u with fields := x } = f u) : f t = f s :=
  (hf t s.fields).symm.trans (congrArg f h.hidden)

theorem State.SparesPd0.get {s t : State} (h : s.SparesPd0 t) {f : Fld} (n : Nat) (hk : pd0Key (f.key n 0)) :
    t.get f n = s.get f n :=
  h.regs _ _ hk

theorem State.SparesPd0.on {s t : State} (h : s.SparesPd0 t) {f : Fld} (n : Nat) (hk : pd0Key (f.key n 0)) :
    t.on f n = s.on f n := by
  rw [State.on, h.get n hk, State.on]

/-! ### PD_1 comes up and goes off -/

/-- No front-end is in PD_1: its loss and its return increment no epoch (R335). -/
theorem State.domRes_one (s : State) : s.domRes 1 = [] := by
  have h : s.domWindows 1 = [] := List.filter_eq_nil_iff.mpr fun n _ => by simp; omega
  exact congrArg (List.map Res.fe) h

/-- PD_1 comes up with its registers as after a reset and no pad group of it loaded. -/
theorem State.domUp_one (s : State) :
    s.domUp 1 = (s.setDom 1 { s.dom 1 with on := true, exempt := false }).dropCtrl.unloadDom 1 := by
  have hbump : ∀ t : State, (if (s.dom 1).exempt then t else t.bumpList (t.domRes 1)) = t := by
    intro t
    rw [State.domRes_one]
    exact ite_self t
  exact congrArg (fun t : State => t.unloadDom 1) (hbump _)

theorem State.setLoaded_get_low (s : State) (g : Nat) (v : Bool) {f : Fld} (m : Nat) (h : f.low ≠ F.PUNTY_STAT_LOADED.low) :
    (s.setLoaded g v).get f m = s.get f m := State.get_put_low _ _ _ _ _ _ h

theorem State.unloadDom_one_get (s : State) {f : Fld} (m : Nat) (h : f.low ≠ F.PUNTY_STAT_LOADED.low) :
    (s.unloadDom 1).get f m = s.get f m :=
  foldl_same (fun t => t.get f m) (fun u g => u.setLoaded g false) (fun t g => State.setLoaded_get_low t g _ m h) _ s

theorem State.unloadDom_one_same {β : Type} (f : State → β)
    (hf : ∀ (u : State) (x : Tbl Nat) (p : PuntyHid), f { u with fields := x, punty := p } = f u) (s : State) :
    f (s.unloadDom 1) = f s :=
  (hf _ _ _).trans (foldl_same f (fun u g => u.setLoaded g false) (fun t _ => hf t _ t.punty) _ s)

/-- Besides registers and pads PD_1 coming up changes its controller only. -/
theorem State.domUp_one_same {β : Type} (f : State → β)
    (hf : ∀ (u : State) (x : Tbl Nat) (p : PuntyHid), f { u with fields := x, punty := p } = f u) (s : State) :
    f (s.domUp 1) = f (s.setDom 1 { s.dom 1 with on := true, exempt := false }) := by
  rw [State.domUp_one, State.unloadDom_one_same f hf, (State.SparesPd0.dropCtrl _).same f fun u x => hf u x u.punty]

theorem State.domUp_one_domOn (s : State) : (s.domUp 1).domOn 1 = true :=
  (State.domUp_one_same (fun t => t.domOn 1) (fun _ _ _ => rfl) s).trans (congrArg Dom.on (State.setDom_dom_same ..))

theorem State.domUp_one_get (s : State) {f : Fld} (n : Nat) (hk : pd0Key (f.key n 0)) (h : f.low ≠ F.PUNTY_STAT_LOADED.low) :
    (s.domUp 1).get f n = s.get f n := by
  rw [State.domUp_one, State.unloadDom_one_get _ _ h, (State.SparesPd0.dropCtrl _).get n hk]
  rfl

theorem State.domDown_one (s : State) : s.domDown 1 = ((s.setDom 1 { s.dom 1 with on := false }).dropHidden 1).fadeRegs 1 := rfl

/-- Besides registers PD_1 going off changes its controller and what it holds. -/
theorem State.domDown_one_same {β : Type} (f : State → β) (hf : ∀ (u : State) (x : Tbl Nat), f { u with fields := x } = f u)
    (s : State) : f (s.domDown 1).dropCtrl = f ((s.setDom 1 { s.dom 1 with on := false }).dropHidden 1) := by
  rw [State.domDown_one, ((State.SparesPd0.fadeRegs_one _).trans (.dropCtrl _)).same f hf]

theorem State.domDown_one_domOn (s : State) : (s.domDown 1).dropCtrl.domOn 1 = false :=
  (State.domDown_one_same (fun t => t.domOn 1) (fun _ _ => rfl) s).trans (congrArg Dom.on (State.setDom_dom_same ..))

theorem State.domDown_one_on (s : State) {f : Fld} (n : Nat) (hk : pd0Key (f.key n 0)) :
    (s.domDown 1).dropCtrl.on f n = s.on f n := by
  rw [State.domDown_one, ((State.SparesPd0.fadeRegs_one _).trans (.dropCtrl _)).on n hk]
  rfl

/-! ### Entering SLEEP and LEHR -/

/-- A write of `PWR_CMD` that acts, with a TARGET there is, is refused or makes the part enter it (R327). -/
theorem execSleepRequest_target {a : Accessor} {w : Word} {s : State} (h : s.Acts a .aon 0 0x44)
    (hw : bits w.toNat 1 0 = 1 ∨ bits w.toNat 1 0 = 2) :
    exec (.sleepRequest a w) s = .next (s.settle a .aon 0 0x44 (if s.sleepRefused (bits w.toNat 1 0 == 2) then .error .range
      else .ok { s with mode := .entering (bits w.toNat 1 0 == 2), wakeHid := {} })) := by
  have hr : ¬ (bits w.toNat 1 0 = 0 ∨ 3 ≤ bits w.toNat 1 0) := by omega
  change Host.Outcome.next (s.regWrite a .aon 0 0x44 (pwrCmdWrite w)) = _
  rw [State.regWrite_acts h, pwrCmdWrite, sleepEnter, if_neg hr]

/-- With no source enabled nothing could end the sleep. -/
theorem State.sleepRefused_noSource {s : State} (lehr : Bool) (h : s.get F.WAKE_EN_EN 0 = 0) : s.sleepRefused lehr = true := by
  simp [State.sleepRefused, h, clearBits, bit]

theorem State.sleepRefused_notAwake {s : State} (lehr : Bool) (h : s.mode ≠ .awake) : s.sleepRefused lehr = true := by
  simp [State.sleepRefused, h]

theorem State.sleepRefused_firstGather {s : State} (h : s.on F.GLOBAL_STAT_FG_ACTIVE 0 = true) : s.sleepRefused true = true := by
  simp [State.sleepRefused, h]

theorem State.allOff_pots (s : State) (held : Bool) : (s.allOff held).pots = [] := by
  unfold State.allOff
  extract_lets
  rfl

/-- The banks follow PD_13: that changes the banks and what they hold, and nothing else. -/
theorem State.banksOff_same {β : Type} (f : State → β)
    (hf : ∀ (u : State) (x : Tbl CBank) (c : List Host.Cell), f { u with banks := x, crucible := c } = f u) (s : State) :
    f s.banksOff = f s := by
  refine foldl_same f _ (fun t k => ?_) _ s
  dsimp only
  split_ifs
  · exact hf t _ t.crucible
  · exact hf t _ _
  · exact hf t _ t.crucible

/-- Unless WAKE_IN_N is low, an entry that reaches its commit point commits: every domain is off and every pot free (R326, R328). -/
theorem execSleepCommit_entering {s : State} {lehr : Bool} (h : s.mode = .entering lehr) :
    ∃ u : State, exec (.sleepCommit false) s = .next { u with mode := .committed lehr } ∧ u.doms = [] ∧ u.pots = [] := by
  have hne : s.mode ≠ .awake := by simp [h]
  change ∃ u, execSleepCommit false s = _ ∧ _
  unfold execSleepCommit
  split
  · next lehr' hm =>
    obtain rfl : lehr = lehr' := by simpa [h] using hm
    exact ⟨_, if_neg hne, (State.banksOff_same State.doms (fun _ _ _ => rfl) _).trans (State.allOff_doms _ true),
      (State.banksOff_same State.pots (fun _ _ _ => rfl) _).trans (State.allOff_pots _ true)⟩
  · next hm => exact absurd h (hm lehr)

/-- When the first cycle of the sequencer starts: one PERIOD after the declaration, or at once with FIRST_NOW (R339). -/
def State.firstCycle (s : State) : Nat :=
  s.aonTime.toNat + (if s.on F.LEHR_CFG_FIRST_NOW 0 then 0 else s.get F.LEHR_CFG_PERIOD 0 * aonPerSecond)

theorem execSleepDeclared_sleep {s : State} (hm : s.mode = .committed false) (hs : s.wakeHid.srcs = 0) :
    exec .sleepDeclared s = .next { s with mode := .sleep } := by
  change execSleepDeclared s = _
  simp [execSleepDeclared, hm, hs]

theorem execSleepDeclared_lehr {s : State} (hm : s.mode = .committed true) (hs : s.wakeHid.srcs = 0) :
    exec .sleepDeclared s = .next ((({ s with mode := .lehr } : State).put F.LEHR_STAT_RUNNING 0 1).putLehrNext s.firstCycle) := by
  change execSleepDeclared s = _
  simp only [execSleepDeclared, hm, if_true]
  exact congrArg _ (if_neg (not_not.mpr hs))

/-- The AON timer has 48 bits, which LEHR_NEXT holds whole. -/
theorem State.lehrNext_putLehrNext (s : State) {v : Nat} (h : v < 2 ^ 48) : (s.putLehrNext v).lehrNext = v := by
  simp only [State.lehrNext, State.putLehrNext, State.puts]
  rw [State.get_put_same, State.get_put_low _ _ _ _ _ _ (by decide), State.get_put_same]
  have hlo : F.LEHR_NEXT_LO_AT.width = 32 := rfl
  have hhi : F.LEHR_NEXT_HI_AT.width = 16 := rfl
  rw [hlo, hhi]
  omega

theorem State.putLehrNext_on (s : State) (v : Nat) {f : Fld} (h : f.low ≠ F.LEHR_NEXT_LO_AT.low)
    (h' : f.low ≠ F.LEHR_NEXT_HI_AT.low) : (s.putLehrNext v).on f 0 = s.on f 0 := by
  simp only [State.putLehrNext, State.puts]
  rw [State.on_put_low _ _ _ _ _ _ h', State.on_put_low _ _ _ _ _ _ h]

/-! ### Wakes -/

/-- The sources that fired are noted in WAKE_PEND, and with their time unless others fired before (R329, R333). -/
def State.wakeNoted (s : State) (f entry : Nat) : State :=
  let t := s.put F.WAKE_PEND_PEND 0 (s.get F.WAKE_PEND_PEND 0 ||| f)
  let h := t.wakeHid
  if h.srcs = 0 then { t with wakeHid := { srcs := f, when_ := t.aonTime.toNat, entry := entry } }
  else if h.when_ = t.aonTime.toNat then
    { t with wakeHid := { h with srcs := h.srcs ||| f, entry := if bit f 4 then entry else h.entry } }
  else t

theorem State.wakeNoted_first {s : State} (f entry : Nat) (h : s.wakeHid.srcs = 0) : (s.wakeNoted f entry).wakeHid.srcs = f :=
  congrArg (fun t : State => t.wakeHid.srcs) (if_pos h)

/-- Besides the note of the sources only WAKE_PEND changes. -/
theorem State.wakeNoted_same {β : Type} (g : State → β) (hg : ∀ (u : State) (h : WakeHid), g { u with wakeHid := h } = g u)
    (s : State) (f entry : Nat) : g (s.wakeNoted f entry) = g (s.put F.WAKE_PEND_PEND 0 (s.get F.WAKE_PEND_PEND 0 ||| f)) := by
  unfold State.wakeNoted
  extract_lets t h
  split
  · exact hg t _
  · split
    · exact hg t _
    · rfl

/-- Sources that are not enabled do nothing. -/
theorem State.wakeFire_disabled {s : State} {srcs : Nat} (entry : Nat) (h : srcs &&& s.get F.WAKE_EN_EN 0 = 0) :
    s.wakeFire srcs entry = s := if_pos (by simp [h])

section
variable {s : State} {srcs f : Nat} (entry : Nat) (hf : srcs &&& s.get F.WAKE_EN_EN 0 = f) (h0 : f ≠ 0)
include hf h0

theorem State.wakeFire_entering {lehr : Bool} (hm : s.mode = .entering lehr) :
    s.wakeFire srcs entry =
      ({ (s.wakeNoted f entry).wakeRecord true with mode := .awake, wakeHid := {} } : State).raise .aon 0 Ev.sleepAbort := by
  refine (if_neg (by simp [hm, hf, h0]) : s.wakeFire srcs entry = _).trans ?_
  rw [hm, ← hf]
  rfl

theorem State.wakeFire_sleep (hm : s.mode = .sleep) : s.wakeFire srcs entry = (s.wakeNoted f entry).wakeStart false := by
  refine (if_neg (by simp [hm, hf, h0]) : s.wakeFire srcs entry = _).trans ?_
  rw [hm, ← hf]
  rfl

end

/-- The one source of a set, if it is enabled. -/
theorem source_and_enabled {en c : Nat} (h : bit en c = true) : 2 ^ c &&& en = 2 ^ c := by
  rw [Nat.two_pow_and, show en.testBit c = true from h, Bool.toNat_true, Nat.mul_one]

theorem source_and_disabled {en c : Nat} (h : bit en c = false) : 2 ^ c &&& en = 0 := by
  rw [Nat.two_pow_and, show en.testBit c = false from h, Bool.toNat_false, Nat.mul_zero]

/-! ### WAKE_LAST -/

theorem firstSource_le (srcs : Nat) : firstSource srcs ≤ 7 := by
  unfold firstSource
  have hall : ∀ c ∈ [7, 6, 5, 4, 3, 2, 1], c ≤ 7 := by decide
  cases h : [7, 6, 5, 4, 3, 2, 1].find? fun c => bit srcs (c - 1) with
  | none => exact Nat.zero_le 7
  | some c => exact hall c (List.mem_of_find?_eq_some h)

section
variable (s : State) (aborted : Bool)

theorem State.wakeRecord_source : (s.wakeRecord aborted).get F.WAKE_LAST_0_SOURCE 0 = firstSource s.wakeHid.srcs := by
  have h := firstSource_le s.wakeHid.srcs
  simp (disch := decide) only [State.wakeRecord, State.puts, State.get_count_low, State.get_put_low, State.get_put_same]
  exact Nat.mod_eq_of_lt (h.trans_lt (by decide))

theorem State.wakeRecord_aborted : (s.wakeRecord aborted).get F.WAKE_LAST_0_SLEEP_ABORTED 0 = b2n aborted := by
  simp (disch := decide) only [State.wakeRecord, State.puts, State.get_count_low, State.get_put_low, State.get_put_same]
  exact Nat.mod_eq_of_lt (b2n_lt aborted)

theorem State.wakeRecord_count :
    (s.wakeRecord aborted).get F.WAKE_LAST_0_COUNT 0 = min (s.get F.WAKE_LAST_0_COUNT 0 + 1) 65535 := by
  simp (disch := decide) only [State.wakeRecord, State.puts, State.get_count_same, State.get_put_low]
  rfl

end

/-! ### A wake -/

/-- With PD_1 off and no cycle under way a wake starts by bringing PD_1 up (R332). -/
theorem State.wakeStart_off {s : State} (lehr : Bool) (hd : s.domOn 1 = false) (hc : s.on F.LEHR_STAT_IN_CYCLE 0 = false) :
    let t := s.wakeStart lehr
    t.mode = .waking lehr ∧ (t.dom 1).run = some (true, .device) ∧
      t.fields = (s.puts 0 [(F.AON_STAT_SERVE, 0), (F.LEHR_STAT_RUNNING, 0)]).fields := by
  have ha : s.cycleAbandon = s := if_neg (by simp [hc])
  have hd' : ¬ s.domOn 1 = true := by simp [hd]
  have he : s.wakeStart lehr = (({ s.puts 0 [(F.AON_STAT_SERVE, 0), (F.LEHR_STAT_RUNNING, 0)] with
      mode := .waking lehr, lehr := { s.lehr with due := false } } : State).exemptAll.domStart 1 true .device) := by
    unfold State.wakeStart
    rw [ha]
    exact if_neg hd'
  rw [he, State.domStart_up]
  exact ⟨rfl, congrArg Dom.run (State.setDom_dom_same ..), rfl⟩

/-- A self-check that waits for the wake may start: its own state and one register change (R276). -/
theorem State.refPending_same {β : Type} (f : State → β) (hr : ∀ (u : State) (h : RefHid), f { u with ref := h } = f u)
    (hp : ∀ u : State, f (u.put F.MET_REF_STAT_RUNNING 0 1) = f u) (s : State) : f s.refPending = f s := by
  unfold State.refPending
  split
  · exact (hr _ _).trans (hp s)
  · rfl

/-- The part as a wake leaves it: the epochs counted, WAKE_LAST taken, WAKE raised (R54, R333, R334). -/
def State.woken (s : State) : State :=
  (({ ({ s.bumpAll with mode := .awake } : State).wakeRecord false with wakeHid := {} } : State).raise .aon 0 Ev.wake).refPending

theorem execWake_complete {s : State} {lehr : Bool} (hm : s.mode = .waking lehr) (hp : s.pllLocked = true) (h13 : s.domOn 13 = true)
    (h14 : s.on F.SLEEP_CFG_HOST_UP 0 = false ∨ s.domOn 14 = true) : exec .wake s = .next s.woken := by
  change execWake s = _
  unfold execWake
  rw [hm]
  exact if_pos (by rcases h14 with h | h <;> simp [hp, h13, h])

/-- Whatever a pending self-check and an event leave as it was is as the record of the wake left it. -/
theorem State.woken_same {β : Type} (f : State → β) (hr : ∀ (u : State) (h : RefHid), f { u with ref := h } = f u)
    (hp : ∀ u : State, f (u.put F.MET_REF_STAT_RUNNING 0 1) = f u) (he : ∀ u : State, f (u.raise .aon 0 Ev.wake) = f u)
    (s : State) : f s.woken = f { ({ s.bumpAll with mode := .awake } : State).wakeRecord false with wakeHid := {} } :=
  (State.refPending_same f hr hp _).trans (he _)

theorem State.woken_get (s : State) {g : Fld} (hq : g.quiet .aon = true) (h : g.low ≠ F.MET_REF_STAT_RUNNING.low) :
    s.woken.get g 0 = (({ s.bumpAll with mode := .awake } : State).wakeRecord false).get g 0 :=
  (State.woken_same (fun t => t.get g 0) (fun u _ => State.get_congr (s := u) rfl g 0) (fun u => State.get_put_low u _ _ _ _ _ h)
    (fun u => State.raise_get u _ _ _ hq (by decide)) s).trans (State.get_congr rfl g 0)

/-- Sources that fire before the commit point end the entry, and WAKE_LAST names the first of them (R329, R333). -/
theorem State.wakeFire_aborts {s : State} {lehr : Bool} {srcs f : Nat} (entry : Nat) (hm : s.mode = .entering lehr)
    (hs : s.wakeHid.srcs = 0) (hf : srcs &&& s.get F.WAKE_EN_EN 0 = f) (h0 : f ≠ 0) :
    let t := s.wakeFire srcs entry
    t.mode = .awake ∧ t.get F.WAKE_LAST_0_SOURCE 0 = firstSource f ∧ t.get F.WAKE_LAST_0_SLEEP_ABORTED 0 = 1 ∧
      bit (t.get (H.EVT .aon) 0) Ev.sleepAbort = true := by
  have hget : ∀ g : Fld, g.quiet .aon = true →
      (s.wakeFire srcs entry).get g 0 = ((s.wakeNoted f entry).wakeRecord true).get g 0 := by
    intro g hq
    rw [State.wakeFire_entering entry hf h0 hm]
    exact (State.raise_get _ _ _ _ hq (by decide)).trans (State.get_congr rfl g 0)
  refine ⟨?_, ?_, ?_, ?_⟩
  · rw [State.wakeFire_entering entry hf h0 hm, State.raise_mode]
  · rw [hget _ (by decide), State.wakeRecord_source, State.wakeNoted_first f entry hs]
  · rw [hget _ (by decide), State.wakeRecord_aborted, b2n_true]
  · rw [State.wakeFire_entering entry hf h0 hm]
    exact State.raise_evt _ (by decide) (by decide) (by decide)

/-- Sources that fire in SLEEP start a wake, which begins with PD_1 (R329, R332). -/
theorem State.wakeFire_wakes {s : State} {srcs f : Nat} (entry : Nat) (hm : s.mode = .sleep) (hd : s.domOn 1 = false)
    (hc : s.on F.LEHR_STAT_IN_CYCLE 0 = false) (hf : srcs &&& s.get F.WAKE_EN_EN 0 = f) (h0 : f ≠ 0) :
    let t := s.wakeFire srcs entry
    t.mode = .waking false ∧ t.get F.WAKE_PEND_PEND 0 = (s.get F.WAKE_PEND_PEND 0 ||| f) % 2 ^ F.WAKE_PEND_PEND.width ∧
      (t.dom 1).run = some (true, .device) := by
  have hd' : (s.wakeNoted f entry).domOn 1 = false :=
    (State.wakeNoted_same (fun t => t.domOn 1) (fun _ _ => rfl) s f entry).trans hd
  have hc' : (s.wakeNoted f entry).on F.LEHR_STAT_IN_CYCLE 0 = false :=
    (State.wakeNoted_same (fun t => t.on F.LEHR_STAT_IN_CYCLE 0) (fun _ _ => rfl) s f entry).trans
      ((State.on_put_low _ _ _ _ _ _ (by decide)).trans hc)
  have hp : (s.wakeNoted f entry).get F.WAKE_PEND_PEND 0 = (s.get F.WAKE_PEND_PEND 0 ||| f) % 2 ^ F.WAKE_PEND_PEND.width :=
    (State.wakeNoted_same (fun t => t.get F.WAKE_PEND_PEND 0) (fun _ _ => rfl) s f entry).trans (State.get_put_same ..)
  obtain ⟨hmode, hrun, hfields⟩ := State.wakeStart_off false hd' hc'
  rw [State.wakeFire_sleep entry hf h0 hm]
  refine ⟨hmode, ?_, hrun⟩
  rw [State.get_congr hfields, State.puts, State.puts, State.puts, State.get_put_low _ _ _ _ _ _ (by decide),
    State.get_put_low _ _ _ _ _ _ (by decide), hp]

theorem execWakeEvent_pin (s : State) : exec (.wakeEvent false) s = .next (s.wakeFire (2 ^ 2) 0) := rfl

/-! ### Serve visits -/

theorem execServeVisit_off {s : State} (hm : s.mode = .sleep ∨ s.mode = .lehr) (hs : s.on F.SLEEP_CFG_MGMT_SERVE 0 = true)
    (hv : s.visits = false) (hd : s.domOn 1 = false) :
    exec .serveVisit s =
      .next ((((s.domUp 1).put F.CLK_STAT_FRC_ACTIVE 0 1).put F.AON_STAT_SERVE 0 1).count F.SERVE_COUNT_COUNT 0 1) := by
  have hv' : s.on F.AON_STAT_SERVE 0 = false := hv
  change execServeVisit s = _
  simp [execServeVisit, State.addressMatch, State.serveStart, hm, hs, hv', hd]

/-- The end of a visit with no cycle that has PD_1 or waits for it. -/
theorem execServeVisitEnd_idle {s : State} (hv : s.visits = true) (hc : s.on F.LEHR_STAT_IN_CYCLE 0 = false)
    (hl : s.lehr.due = false) : exec .serveVisitEnd s = .next ((s.put F.AON_STAT_SERVE 0 0).domDown 1).dropCtrl := by
  have hlehr := State.domDown_one_same State.lehr (fun _ _ => rfl) (s.put F.AON_STAT_SERVE 0 0)
  have hdue : ((s.put F.AON_STAT_SERVE 0 0).domDown 1).dropCtrl.lehr.due = false := (congrArg LehrHid.due hlehr).trans hl
  have hc' : (s.put F.AON_STAT_SERVE 0 0).on F.LEHR_STAT_IN_CYCLE 0 = false := (State.on_put_low _ _ _ _ _ _ (by decide)).trans hc
  refine (if_pos hv : execServeVisitEnd s = _).trans ?_
  simp [State.serveEnd, hc', hdue]

theorem execServeVisitEnd_cycle {s : State} (hv : s.visits = true) (hc : s.on F.LEHR_STAT_IN_CYCLE 0 = true)
    (hl : s.lehr.due = false) : exec .serveVisitEnd s = .next (s.put F.AON_STAT_SERVE 0 0) := by
  have hc' : (s.put F.AON_STAT_SERVE 0 0).on F.LEHR_STAT_IN_CYCLE 0 = true := (State.on_put_low _ _ _ _ _ _ (by decide)).trans hc
  refine (if_pos hv : execServeVisitEnd s = _).trans ?_
  simp [State.serveEnd, hc', hl]

/-! ### Pads held through sleep -/

/-- A fold whose steps change nothing but at one element of the list makes that one step. -/
theorem foldl_single {α β : Type} {f : β → α → β} {a : α} (h : ∀ t b, b ≠ a → f t b = t) {l : List α} (hl : l.Nodup)
    (ha : a ∈ l) (s : β) : l.foldl f s = f s a := by
  have hrest : ∀ (r : List α) (t : β), a ∉ r → r.foldl f t = t := fun r t hr =>
    List.foldlRecOn (motive := (· = t)) r f rfl fun u hu b hb => (h u b fun he => hr (he ▸ hb)).trans hu
  induction l generalizing s with
  | nil => cases ha
  | cons b l ih =>
    obtain ⟨hb, hl⟩ := List.nodup_cons.mp hl
    rcases List.mem_cons.mp ha with rfl | ha
    · exact hrest l _ hb
    · rw [List.foldl_cons, h s b fun he => hb (he ▸ ha)]
      exact ih hl ha s

/-- What a bit of `PUNTY_RELEASE` does to its group (R338). -/
def State.relGroup (s : State) (a : Accessor) (g : Nat) : State :=
  if s.held g = false then s
  else if s.domOn (puntyDom g) && s.loaded g then s.release g
  else (s.logAccess a 0x01 0x88 (if s.domOn (puntyDom g) then .busy else .power)).raise .aon 0 Ev.puntyEarly

/-- A write of `PUNTY_RELEASE` with one bit set concerns one group. -/
theorem puntyReleaseWrite_single (a : Accessor) {w : Word} {g : Nat} (s : State) (hg : g < 8) (hw : w.toNat = 2 ^ g) :
    puntyReleaseWrite a w s = .ok (s.relGroup a g) := by
  have hbit : ∀ k, bit w.toNat k = decide (g = k) := fun k => by rw [hw, bit, Nat.testBit_two_pow]
  refine congrArg Except.ok ((foldl_single (fun t k hk => ?_) List.nodup_range (List.mem_range.mpr hg) s).trans ?_)
  · simp [hbit, hk.symm]
  · simp [State.relGroup, hbit]

theorem execPuntyRelease_single {a : Accessor} {w : Word} {g : Nat} {s : State} (h : s.Acts a .aon 0 0x88) (hg : g < 8)
    (hw : w.toNat = 2 ^ g) : exec (.puntyRelease a w) s = .next (s.relGroup a g) := by
  change Host.Outcome.next (s.regWrite a .aon 0 0x88 (puntyReleaseWrite a w)) = _
  rw [State.regWrite_acts h, puntyReleaseWrite_single a s hg hw, State.settle_ok]

theorem State.relGroup_ready {s : State} (a : Accessor) {g : Nat} (hh : s.held g = true) (hd : s.domOn (puntyDom g) = true)
    (hl : s.loaded g = true) : s.relGroup a g = s.release g := by
  simp [State.relGroup, hh, hd, hl]

theorem State.relGroup_not_held {s : State} (a : Accessor) {g : Nat} (hh : s.held g = false) : s.relGroup a g = s := if_pos hh

/-- A release clears the group's bit of HELD and of LOADED, and no other (R338). -/
theorem State.release_held (s : State) (g : Nat) {k : Nat} (hk : k < 8) :
    (s.release g).held k = (s.held k && decide (k ≠ g)) := by
  have hw : (s.release g).get F.PUNTY_STAT_HELD 0 = clearBits (s.get F.PUNTY_STAT_HELD 0) (2 ^ g) % 2 ^ 8 :=
    (State.setLoaded_get_low _ g false 0 (by decide)).trans (State.get_put_same s F.PUNTY_STAT_HELD 0 _)
  rw [State.held, hw, bit_clearBits_two_pow _ _ hk, State.held]

theorem State.release_loaded (s : State) (g : Nat) {k : Nat} (hk : k < 8) :
    (s.release g).loaded k = (s.loaded k && decide (k ≠ g)) := by
  have hw : (s.release g).get F.PUNTY_STAT_LOADED 0 = clearBits (s.get F.PUNTY_STAT_LOADED 0) (2 ^ g) % 2 ^ 8 := by
    refine (State.get_put_same _ F.PUNTY_STAT_LOADED 0 _).trans ?_
    rw [if_neg Bool.false_ne_true]
    exact congrArg (fun v => clearBits v (2 ^ g) % 2 ^ 8)
      (State.get_put_low s F.PUNTY_STAT_HELD F.PUNTY_STAT_LOADED 0 0 _ (by decide))
  rw [State.loaded, hw, bit_clearBits_two_pow _ _ hk, State.loaded]

theorem State.padOut_live {s : State} {g : Nat} (h : s.held g = false) : s.padOut g = s.padLive g := by
  simp [State.padOut, h]

/-! ### The statements -/

/-- Settles O40 (R326 to R328, R339): requests by `State.sleepRefused`, the commit point by what `State.allOff` leaves, and the
declaration of SLEEP or of LEHR with its sequencer. -/
theorem enteringSleep : Obligations.EnteringSleep := by
  refine ⟨fun a w s h hw => ⟨?accepted, ?refused, ?noSource, ?notAwake, ?firstGather⟩, ?commit,
    fun _ => execSleepDeclared_sleep, ?lehr⟩
  case accepted =>
    intro hr
    rw [execSleepRequest_target h hw, hr, if_neg Bool.false_ne_true, State.settle_ok]
  case refused =>
    intro hr
    rw [execSleepRequest_target h hw, hr, if_pos rfl, State.settle_error]
  case noSource => exact State.sleepRefused_noSource _
  case notAwake => exact State.sleepRefused_notAwake _
  case firstGather => exact fun _ => State.sleepRefused_firstGather
  case commit =>
    intro lehr s hm
    obtain ⟨u, he, hdoms, hpots⟩ := execSleepCommit_entering hm
    refine ⟨_, he, rfl, fun d hd => ?_, hpots⟩
    rw [State.domOn_of_fresh (s := { u with mode := .committed lehr }) hdoms]
    simp [hd]
  case lehr =>
    intro s hm hs hlt
    have hv : s.firstCycle < 2 ^ 48 := by
      have := s.aonTime.isLt
      unfold State.firstCycle aonPerSecond
      split <;> omega
    refine ⟨_, execSleepDeclared_lehr hm hs, rfl, ?_, State.lehrNext_putLehrNext _ hv, ?_, ?_⟩
    · rw [State.putLehrNext_on _ _ (by decide) (by decide), State.on_put_same]
      rfl
    · exact (((SameRegs.refl s _).put 1 (by simp)).put _ (by simp)).put _ (by simp)
    · rfl

/-- Settles O41 (R54, R329, R331, R333, R334): an enabled and a disabled pin during an entry and in SLEEP, the AON timer and
a sample within bounds, and a wake that is complete. -/
theorem waking : Obligations.Waking := by
  refine ⟨⟨?abort, ?start, ?disabled, ?timer, ?sample⟩, ?complete⟩
  case abort =>
    intro lehr s hm hen hs
    exact ⟨_, execWakeEvent_pin s, State.wakeFire_aborts 0 hm hs (source_and_enabled hen) (by decide)⟩
  case start =>
    intro s hm hen hd hc
    obtain ⟨hmode, hpend, hrun⟩ := State.wakeFire_wakes 0 hm hd hc (source_and_enabled hen) (by decide)
    refine ⟨_, execWakeEvent_pin s, hmode, ?_, hrun⟩
    rw [hpend, bit_mod_two_pow (by decide), bit_setBit]
  case disabled =>
    intro s hen
    rw [execWakeEvent_pin, State.wakeFire_disabled 0 (source_and_disabled hen)]
  case timer => exact fun s ht => (if_pos ht : execAonTimerMatch s = _)
  case sample =>
    intro temp vio s hm ht hv
    refine (if_neg hm : execAonSample temp vio s = _).trans ?_
    simp only [not_le.mpr ht, not_lt.mpr hv, decide_false, Bool.false_eq_true, if_false, b2n_false]
    exact congrArg Host.Outcome.next (State.wakeFire_disabled 0 (Nat.zero_and _))
  case complete =>
    intro lehr s hm hp h13 h14
    refine ⟨_, execWake_complete hm hp h13 h14, ?_, ?_, ?_, State.epoch_bumped ?_ ?_, ?_, ?_, ?_⟩
    · exact State.woken_same State.mode (fun _ _ => rfl) (fun _ => rfl) (fun _ => State.raise_mode ..) s
    · exact State.woken_same State.wakeHid (fun _ _ => rfl) (fun _ => rfl) (fun _ => State.raise_wakeHid ..) s
    · exact State.woken_same State.crucible (fun _ _ => rfl) (fun _ => rfl) (fun _ => State.raise_crucible ..) s
    · exact State.woken_same State.epochBase (fun _ _ => rfl) (fun _ => rfl) (fun _ => State.raise_epochBase ..) s
    · exact State.woken_same State.epochs (fun _ _ => rfl) (fun _ => rfl) (fun _ => State.raise_epochs ..) s
    · rw [State.woken_get s (by decide) (by decide), State.wakeRecord_source]
      rfl
    · rw [State.woken_get s (by decide) (by decide), State.wakeRecord_aborted, b2n_false]
    · rw [State.woken_get s (by decide) (by decide), State.wakeRecord_count]
      rfl

/-- Settles O42 (R335, R338): a serve visit that finds PD_1 off and its end with no cycle due, and PUNTY_RELEASE of one pad
group. -/
theorem visitsAndPads : Obligations.VisitsAndPads := by
  refine ⟨⟨?visit, ?visitEnd, fun _ => execServeVisitEnd_cycle⟩, ?ready, ?notHeld, ?release⟩
  case visit =>
    intro s hm hs hv hd
    have he := execServeVisit_off hm hs hv hd
    have hon := s.domUp_one_domOn
    have hmode := State.domUp_one_same State.mode (fun _ _ _ => rfl) s
    have hbase := State.domUp_one_same State.epochBase (fun _ _ _ => rfl) s
    have hepochs := State.domUp_one_same State.epochs (fun _ _ _ => rfl) s
    have hcount := s.domUp_one_get (f := F.SERVE_COUNT_COUNT) 0 (by decide) (by decide)
    generalize s.domUp 1 = u at he hon hmode hbase hepochs hcount
    refine ⟨_, he, ?_, hon, hmode, ?_, hbase, hepochs⟩
    · rw [State.visits, State.on_count_low _ _ _ _ _ _ (by decide), State.on_put_same]
      rfl
    · rw [State.get_count_same, State.get_put_low _ _ _ _ _ _ (by decide), State.get_put_low _ _ _ _ _ _ (by decide), hcount]
  case visitEnd =>
    intro s hv hc hl
    refine ⟨_, execServeVisitEnd_idle hv hc hl, ?_, State.domDown_one_domOn _, State.domDown_one_same State.mode (fun _ _ => rfl) _,
      State.domDown_one_same State.epochBase (fun _ _ => rfl) _, State.domDown_one_same State.epochs (fun _ _ => rfl) _⟩
    rw [State.visits, State.domDown_one_on _ 0 (by decide), State.on_put_same]
    rfl
  case ready =>
    intro a w g s h hg hw hh hd hl
    rw [execPuntyRelease_single h hg hw, State.relGroup_ready a hh hd hl]
  case notHeld =>
    intro a w g s h hg hw hh
    rw [execPuntyRelease_single h hg hw, State.relGroup_not_held a hh]
  case release =>
    intro g s hg
    have hheld : (s.release g).held g = false := by simp [s.release_held g hg]
    refine ⟨hheld, by simp [s.release_loaded g hg], State.padOut_live hheld, fun k hk hne => ?_⟩
    simp [s.release_held g hk, s.release_loaded g hk, hne]

end Sys2Proof.Machine

/-! ### OTP and first gather

That no step clears a bit of OTP (R379), and stage 1, the establishment of first gather and its alarm watch (R358, R365, R366).
Each lemma on first gather says what one command does in one of its cases. -/

namespace Sys2Proof.Machine

/-! ### OTP -/

/-- The loss of VIO_AON takes everything but what is programmed (R499). -/
theorem execVioAonRemoval_otp {s t : State} (h : exec .vioAonRemoval s = .next t) : t.otp = s.otp := by
  cases h
  rfl

/-! ### Stage 1 (R358) -/

/-- In stage 0, with PD_1 and PD_14 on, the condition of stage 1 brings it at once. -/
theorem State.stage1Ready_up {s : State} (hs : s.stage = 0) (h1 : s.domOn 1 = true) (h14 : s.domOn 14 = true) :
    s.stage1Ready = { s with start := { s.start with ready1 := true } }.stageUp :=
  if_pos ⟨hs, h1, h14⟩

theorem execStage1Timeout_waiting {s : State} (h1 : s.domOn 1 = true) (hs : s.stage = 0) :
    exec .stage1Timeout s = .next s.stage1Ready :=
  (if_pos ⟨h1, hs⟩ : execStage1Timeout s = _)

/-! ### First gather is established (R365) -/

/-- The engine that was starting goes to PLAYING or WATCHING, and the condition of stage 1 is met. -/
theorem execFgEstablished_starting {p : Preset} {s : State} (hp : s.fgReceives = some p) (hs : s.get F.FG_STAT_STATE 0 = 1) :
    exec .fgEstablished s = .next (s.put F.FG_STAT_STATE 0 (if p.audio ∧ p.mode ≤ 1 then 2 else 3)).stage1Ready := by
  change execFgEstablished s = _
  simp only [execFgEstablished, hp, hs, if_true]

/-! ### The alarm watch (R366) -/

/-- What is kept of watch entry e becomes h. -/
def State.setWatch (s : State) (e : Nat) (h : FgWatch) : State :=
  { s with fg := { s.fg with watch := Tbl.set s.fg.watch {} e h } }

section
variable {e : Fin 4} {u : WatchUnit} {p : Preset} {s : State} {rule confirm endMs p0 p1 : Nat} {h : FgWatch} {m : Bool × Nat}
  (hp : s.fgReceives = some p) (hr : p.rules.getD e.val (0, 0, 0, 0, 0) = (rule, confirm, endMs, p0, p1)) (hrule : rule ≠ 0)
  (hh : Tbl.get s.fg.watch {} e.val = h) (hm : fgMatch rule p0 p1 h.tone u = m)
include hp hr hrule hh hm

/-- A match that makes CONFIRM consecutive ones activates the alarm of an entry that is not active. -/
theorem execFgWatchMatch_confirmed (hit : m.1 = true) (hc : confirm ≤ h.hits + 1)
    (hidle : bit (s.get F.FG_WATCH_ACTIVE 0) e.val = false) :
    exec (.fgWatchMatch e u) s = .next ((s.setWatch e.val ⟨h.hits + 1, s.now, m.2⟩).fgActivate e.val) := by
  change execFgWatchMatch e u s = _
  simp only [execFgWatchMatch, hp, hr, if_neg hrule, hh, hm, hit, hidle, if_true, hc, decide_true, Bool.not_false, Bool.and_self]
  rfl

/-- A unit that does not match breaks the run. -/
theorem execFgWatchMatch_missed (miss : m.1 = false) :
    exec (.fgWatchMatch e u) s = .next (s.setWatch e.val ⟨0, h.last, m.2⟩) := by
  change execFgWatchMatch e u s = _
  simp only [execFgWatchMatch, hp, hr, if_neg hrule, hh, hm, miss, Bool.false_and, Bool.false_eq_true, if_false]
  rfl

end

/-- Activating an entry sets its bit of ACTIVE. -/
theorem State.fgActivate_active (s : State) {e : Nat} (he : e < 4) :
    bit ((s.fgActivate e).get F.FG_WATCH_ACTIVE 0) e = true := by
  have hw : (s.fgActivate e).get F.FG_WATCH_ACTIVE 0 = (s.get F.FG_WATCH_ACTIVE 0 ||| 2 ^ e) % 2 ^ 4 := by
    simp only [State.fgActivate, State.puts]
    rw [State.raise_get _ _ _ _ (by decide) (by decide), State.get_put_low _ _ _ _ _ _ (by decide),
      State.get_put_low _ _ _ _ _ _ (by decide)]
    exact State.get_put_same ..
  rw [hw, bit_mod_two_pow he, bit_setBit]

/-- Activating an entry sets the latch. -/
theorem State.fgActivate_latch (s : State) (e : Nat) : (s.fgActivate e).get F.FG_STAT_ALERT 0 = 1 := by
  simp only [State.fgActivate, State.puts]
  rw [State.raise_get _ _ _ _ (by decide) (by decide)]
  exact State.get_put_same ..

/-- END_MS without a match end the alarm of an active entry; the latch stays but in a preset that lets it follow. -/
theorem execFgWatchEnd_expired {e : Fin 4} {p : Preset} {s : State} (hp : s.fg.preset = some p)
    (hact : bit (s.get F.FG_WATCH_ACTIVE 0) e.val = true)
    (hend : msTicks (p.rules.getD e.val (0, 0, 0, 0, 0)).2.2.1 ≤ s.now - (Tbl.get s.fg.watch {} e.val).last)
    (hfollow : p.follow = false) :
    exec (.fgWatchEnd e) s = .next (s.put F.FG_WATCH_ACTIVE 0 (clearBits (s.get F.FG_WATCH_ACTIVE 0) (2 ^ e.val))) := by
  change execFgWatchEnd e s = _
  simp only [execFgWatchEnd, hp, hact, hend, hfollow, decide_true, Bool.and_self, if_true, Bool.false_and, Bool.false_eq_true,
    if_false]

/-! ### The statements -/

/-- Settles O5 (R379): a tick and the loss of VIO_AON leave OTP as it is, and every other command keeps each bit that is 1
(`exec_keeps`). -/
theorem otpNeverClears : Obligations.OtpNeverClears := by
  intro s t h w b hb
  obtain ⟨-, rfl⟩ | ⟨c, rest, -, he⟩ := step_next_cases h
  · exact s.tick_keeps.once w b hb
  · by_cases hc : c = .vioAonRemoval
    · subst hc
      rw [State.otpWord_congr (execVioAonRemoval_otp he)]
      exact hb
    · exact (exec_next_keeps hc he).once w b hb

/-- Settles O46 (R358, R365, R366): stage 1 by the timeout and by establishment, a match that confirms and a unit that does not
match, what activation sets, and the end of an alarm. -/
theorem firstGather : Obligations.FirstGather := by
  refine ⟨⟨?timeout, fun _ _ => execFgEstablished_starting⟩, ?unit, ?activation,
    fun _ _ _ hp hact hend => execFgWatchEnd_expired hp hact hend⟩
  case timeout =>
    intro s h1 hs h14
    rw [execStage1Timeout_waiting h1 hs, State.stage1Ready_up hs h1 h14]
  case unit =>
    exact fun e u p s hp hrule => ⟨execFgWatchMatch_confirmed hp rfl hrule rfl rfl, execFgWatchMatch_missed hp rfl hrule rfl rfl⟩
  case activation => exact fun e s he => ⟨s.fgActivate_active he, s.fgActivate_latch e⟩

end Sys2Proof.Machine

/-! ### Events of the management bus

A quick read, an address byte alone, and a transaction that the part abandons (R474 to R476, R483, R484, R492). An awake part is
reached by its address without any change (`State.busReach_awake`); with PD_1 up the port takes what follows. -/

namespace Sys2Proof.Machine

/-! ### The address matches (R335, R474) -/

theorem State.addressMatch_awake {s : State} (hm : s.mode = .awake) : s.addressMatch = s := by
  simp [State.addressMatch, State.devMoves, hm]

theorem State.addressMatch_visit {s : State} (hm : s.mode = .sleep ∨ s.mode = .lehr) (hv : s.visits = false)
    (hs : s.on F.SLEEP_CFG_MGMT_SERVE 0 = true) : s.addressMatch = s.serveStart := by
  have hv' : s.on F.AON_STAT_SERVE 0 = false := hv
  simp [State.addressMatch, hm, hv', hs]

theorem State.busReach_awake {s : State} (hm : s.mode = .awake) : s.busReach = s := by
  simp [State.busReach, State.addressMatch_awake hm, hm]

theorem State.busUp_awake {s : State} (hm : s.mode = .awake) (hd : s.domOn 1 = true) : s.busUp = true := by
  simp [State.busUp, hm, hd]

theorem execMgmtAddress_match {addr : BitVec 7} {s : State} (read : Bool) (hm : s.mode ≠ .off)
    (ha : addr.toNat = 0x58 + s.start.ma) : exec (.mgmtAddress addr read) s = .next s.addressMatch :=
  (if_pos ⟨hm, ha⟩ : execMgmtAddress addr read s = _)

theorem execMgmtAddress_other {addr : BitVec 7} {s : State} (read : Bool) (ha : addr.toNat ≠ 0x58 + s.start.ma) :
    exec (.mgmtAddress addr read) s = .next s :=
  (if_neg fun h => ha h.2 : execMgmtAddress addr read s = _)

theorem execMgmtAddress_awake (addr : BitVec 7) (read : Bool) {s : State} (hm : s.mode = .awake) :
    exec (.mgmtAddress addr read) s = .next s := by
  by_cases ha : addr.toNat = 0x58 + s.start.ma
  · rw [execMgmtAddress_match read (by simp [hm]) ha, State.addressMatch_awake hm]
  · exact execMgmtAddress_other read ha

/-! ### A serve visit starts (R335) -/

theorem State.serveStart_visits (s : State) : s.serveStart.visits = true := by
  rw [State.visits, State.serveStart, State.on_count_low _ _ _ _ _ _ (by decide), State.on_put_same]
  rfl

/-- Besides registers the start of a visit brings PD_1 up where it is off, and does nothing else. -/
theorem State.serveStart_same {β : Type} (f : State → β) (hf : ∀ (u : State) (x : Tbl Nat), f { u with fields := x } = f u)
    (s : State) : f s.serveStart = f (if s.domOn 1 then s else s.domUp 1) := by
  refine (hf _ _).trans ((hf _ _).trans ?_)
  split
  · rfl
  · exact hf _ _

theorem State.serveStart_domOn (s : State) : s.serveStart.domOn 1 = true := by
  rw [State.serveStart_same (fun t => t.domOn 1) fun _ _ => rfl]
  split
  · assumption
  · exact s.domUp_one_domOn

theorem State.serveStart_mode (s : State) : s.serveStart.mode = s.mode := by
  rw [State.serveStart_same State.mode fun _ _ => rfl]
  split
  · rfl
  · exact State.domUp_one_same State.mode (fun _ _ _ => rfl) s

theorem State.serveStart_epochBase (s : State) : s.serveStart.epochBase = s.epochBase := by
  rw [State.serveStart_same State.epochBase fun _ _ => rfl]
  split
  · rfl
  · exact State.domUp_one_same State.epochBase (fun _ _ _ => rfl) s

/-! ### The bytes that the controller clocks in (R475, R479) -/

theorem State.busReply_length (s : State) (wr data : List Byte) (count : Nat) : (s.busReply wr data count).length = count := by
  simp [State.busReply]

theorem State.busReply_data (s : State) (wr : List Byte) {data : List Byte} {count i : Nat} (hi : i < data.length)
    (hc : i < count) : (s.busReply wr data count)[i]? = data[i]?.map fun b => b.toNat := by
  simp [State.busReply, hc, hi, List.getElem?_append_left]

theorem State.busReply_past (s : State) (wr : List Byte) {data : List Byte} {count i : Nat} (hi : data.length < i)
    (hc : i < count) : (s.busReply wr data count)[i]? = some 255 := by
  simp [State.busReply, hc, List.getElem?_eq_none (show (data ++ [_]).length ≤ i by simpa using hi)]

theorem leBytes_length (k v : Nat) : (leBytes k v).length = k := by
  induction k generalizing v with
  | zero => rfl
  | succ k ih => simp [leBytes, ih]

theorem State.statusBytes_length (s : State) : s.statusBytes.length = 8 := by
  unfold State.statusBytes
  extract_lets
  split
  · simp [leBytes_length]
  · split <;> simp [leBytes_length]

/-- A quick read of a part that takes transactions once its address has been matched. -/
theorem execQuickRead_up (count : Nat) {s t : State} (ht : ({ s with resp := [] } : State).busReach = t) (hu : t.busUp = true) :
    exec (.quickRead count) s = .next { t with resp := t.busReply [] t.statusBytes count } := by
  change execQuickRead count s = _
  rw [execQuickRead, ht, if_pos hu]

theorem execQuickRead_awake (count : Nat) {s : State} (hm : s.mode = .awake) (hd : s.domOn 1 = true) :
    exec (.quickRead count) s = .next { s with resp := s.busReply [] s.statusBytes count } := by
  rw [execQuickRead_up count (State.busReach_awake hm) (State.busUp_awake hm hd)]
  rfl

/-! ### A transaction that has no effect (R476, R483, R484, R492) -/

/-- IDENT, STATUS and ATTN_STATUS apart, the end of a transaction shows in LAST_CMD and LAST_RESULT. -/
theorem State.busResult_up {s : State} {c : Byte} (code : Nat) (hd : s.domOn 1 = true) (h1 : c ≠ 1) (h2 : c ≠ 2)
    (h3 : c ≠ 3) :
    s.busResult (some c.toNat) code = s.puts 0 [(F.MGMT_STAT_LAST_CMD, c.toNat), (F.MGMT_STAT_LAST_RESULT, code)] := by
  have hne : ∀ {k : Byte}, c ≠ k → ¬ some c.toNat = some k.toNat :=
    fun h he => h (BitVec.eq_of_toNat_eq (Option.some.inj he))
  refine if_neg ?_
  rintro (h | h | h | h)
  · simp [hd] at h
  · exact hne h1 h
  · exact hne h2 h
  · exact hne h3 h

theorem State.domOn_count_raise (s : State) (f : Fld) (n k : Nat) (b : Blk) (m e d : Nat) :
    ((s.count f n k).raise b m e).domOn d = s.domOn d := by
  simp only [State.domOn, State.raise_mode, State.raise_dom]
  rfl

/-- An abort of a command that the part, once its address has been matched, would serve. -/
theorem execMgmtAbort_served {c : Byte} {s t : State} (ht : ({ s with resp := [] } : State).busReach = t) (hu : t.busUp = true)
    (hd : t.domOn 1 = true) (hs : t.served c.toNat = 0) :
    exec (.mgmtAbort (some c)) s =
      .next (((t.count F.MGMT_ABORTS_COUNT 0 1).raise .mgmt 0 Ev.mgmtAbort).busResult (some c.toNat) 1) := by
  change execMgmtAbort (some c) s = _
  simp [execMgmtAbort, ht, hu, hd, hs]

theorem execMgmtAbort_awake {c : Byte} {s : State} (hm : s.mode = .awake) (hd : s.domOn 1 = true) (h1 : c ≠ 1) (h2 : c ≠ 2)
    (h3 : c ≠ 3) (hs : s.served c.toNat = 0) :
    exec (.mgmtAbort (some c)) s =
      .next (((({ s with resp := [] }).count F.MGMT_ABORTS_COUNT 0 1).raise .mgmt 0 Ev.mgmtAbort).puts 0
        [(F.MGMT_STAT_LAST_CMD, c.toNat), (F.MGMT_STAT_LAST_RESULT, 1)]) := by
  rw [execMgmtAbort_served (State.busReach_awake hm) (State.busUp_awake hm hd) hd hs, State.busResult_up 1 ?_ h1 h2 h3]
  exact (State.domOn_count_raise ..).trans hd

theorem State.busTimeout_up {c : Byte} {s : State} (hd : s.domOn 1 = true) (h1 : c ≠ 1) (h2 : c ≠ 2) (h3 : c ≠ 3) :
    s.busTimeout (some c) = ((s.count F.MGMT_TIMEOUTS_COUNT 0 1).raise .mgmt 0 Ev.mgmtTimeout).puts 0
      [(F.MGMT_STAT_LAST_CMD, c.toNat), (F.MGMT_STAT_LAST_RESULT, 8)] :=
  (if_pos hd).trans (State.busResult_up 8 ((State.domOn_count_raise ..).trans hd) h1 h2 h3)

/-! ### The statement -/

/-- Settles O58 (R335, R474 to R476, R483, R484, R491, R492): a quick read of an awake part, the three fates of an address byte,
and a transaction that is aborted or timed out. -/
theorem busEvents : Obligations.BusEvents := by
  refine ⟨?quickRead, ?address, ?noEffect⟩
  case quickRead =>
    intro k s hm hd
    have hlen := s.statusBytes_length
    exact ⟨_, execQuickRead_awake k hm hd, rfl, s.busReply_length .., fun i hi hk => s.busReply_data [] (hlen.symm ▸ hi) hk,
      fun i hi hk => s.busReply_past [] (hlen.symm ▸ hi) hk⟩
  case address =>
    refine fun addr read s => ⟨execMgmtAddress_other read, execMgmtAddress_awake addr read, fun ha hm hv hs => ⟨?_,
      s.serveStart_visits, s.serveStart_domOn, s.serveStart_mode, s.serveStart_epochBase⟩⟩
    have hoff : s.mode ≠ .off := by rcases hm with hm | hm <;> simp [hm]
    rw [execMgmtAddress_match read hoff ha, State.addressMatch_visit hm hv hs]
  case noEffect =>
    intro c s hm hd h1 h2 h3
    have htime := congrArg (Host.Outcome.next (φ := Fault) (ρ := Refusal)) (State.busTimeout_up hd h1 h2 h3)
    exact ⟨execMgmtAbort_awake hm hd h1 h2 h3, htime, htime⟩

end Sys2Proof.Machine

/-! ### Health

Temperature history, life and ageing (R513 to R515). A second with PD_1 off sees TS_0 alone, and a measurement with one reading
AGE_0 alone (`filterMap_range_first`). -/

namespace Sys2Proof.Machine

/-- Of k + 1 readings of which only the first counts, that one is seen. -/
theorem filterMap_range_first {α : Type} {f : Nat → Option α} {a : α} (k : Nat) (hfirst : f 0 = some a)
    (hrest : ∀ n, n ≠ 0 → f n = none) : (List.range (k + 1)).filterMap f = [a] := by
  rw [List.range_succ_eq_map, List.filterMap_cons_some hfirst, List.filterMap_map,
    List.filterMap_eq_nil_iff.mpr fun n _ => hrest n.succ n.succ_ne_zero]

/-! ### The histogram (R514) -/

theorem histBin_cold {t : Int} (h : t < -40) : histBin t = 0 := if_pos h

theorem histBin_hot {t : Int} (h : 240 ≤ t) : histBin t = 15 := by
  rw [histBin, if_neg (by omega), if_pos h]

theorem histBin_between {t : Int} (hlo : -40 ≤ t) (hhi : t < 240) : histBin t = 1 + ((t + 40) / 20).toNat := by
  rw [histBin, if_neg (by omega), if_neg (by omega)]

theorem State.histAdd_second {s : State} {k : Nat} (h : Tbl.get s.health.secs 0 k < 59) :
    s.histAdd k =
      { s with health := { s.health with secs := Tbl.set s.health.secs 0 k (Tbl.get s.health.secs 0 k + 1) } } :=
  if_pos (Nat.succ_lt_succ h)

theorem State.histAdd_minute {s : State} {k : Nat} (h : 59 ≤ Tbl.get s.health.secs 0 k) :
    s.histAdd k =
      { s.countE F.HIST_MINUTES 0 k 1 with health := { s.health with secs := Tbl.set s.health.secs 0 k 0 } } :=
  if_neg (Nat.not_lt.mpr (Nat.succ_le_succ h))

/-- While PD_1 is off TS_0 alone is valid. -/
theorem State.sensorValid_pd1_off {s : State} (h0 : s.domOn 0 = true) (h1 : s.domOn 1 = false) (n : Nat) :
    s.sensorValid n = (n == 0) := by
  cases n with
  | zero => exact (Bool.and_true _).trans h0
  | succ n => simp [State.sensorValid, h1]

/-- Keeping a new highest temperature, or not, changes nothing else. -/
theorem State.tmax_ite (s : State) (hotter : Bool) (b : Int × Nat) :
    ∃ x, (if hotter then { s with health := { s.health with tmax := some b } } else s) =
      { s with health := { s.health with tmax := x } } := by
  cases hotter
  · exact ⟨s.health.tmax, rfl⟩
  · exact ⟨some b, rfl⟩

/-- A second with PD_1 off counts in the bin of TS_0, and besides that can only raise the highest temperature. -/
theorem execHistSecond_pd1_off {temps : List Int} {t0 : Int} {s : State} (h0 : s.domOn 0 = true) (h1 : s.domOn 1 = false)
    (ht : temps[0]? = some t0) :
    ∃ x, exec (.histSecond temps) s = .next { s.histAdd (histBin t0) with
      health := { (s.histAdd (histBin t0)).health with tmax := x } } := by
  change ∃ x, execHistSecond temps s = _
  rw [execHistSecond, h0, h1, filterMap_range_first (a := (0, t0)) 11]
  case hfirst => simp [ht, State.sensorValid_pd1_off h0 h1]
  case hrest =>
    intro n hn
    cases temps[n]? <;> simp [State.sensorValid_pd1_off h0 h1, hn]
  exact (State.tmax_ite ..).imp fun _ => congrArg Host.Outcome.next

/-! ### Equivalent hours (R513, R514)

The register's value goes by a name of its own, v: with its bound of 2^32 in sight the kernel would count up to it. -/

section
variable {s : State} {v : Nat} (hd : s.domOn 1 = true) (hv : min s.lifeHours (2 ^ 32 - 1) = v)
include hd hv

/-- With PD_1 up the hours are stored, and LIFE_WARN is raised where they reach 80 % of the rated life and it was not told. -/
theorem execLifeUpdate_on :
    exec .lifeUpdate s = .next (if decide (175200 ≤ v) && !s.health.lifeTold then
      { s.put F.HLT_LIFE_EQ_HOURS 0 v with health := { s.health with lifeTold := true } }.raise .health 0 Ev.lifeWarn
      else s.put F.HLT_LIFE_EQ_HOURS 0 v) := by
  change execLifeUpdate s = _
  rw [execLifeUpdate, hd, hv]
  exact (apply_ite Host.Outcome.next ..).symm

theorem execLifeUpdate_below (h : v < 175200) : exec .lifeUpdate s = .next (s.put F.HLT_LIFE_EQ_HOURS 0 v) := by
  rw [execLifeUpdate_on hd hv, decide_eq_false (Nat.not_le.mpr h)]
  rfl

theorem execLifeUpdate_warns (h : 175200 ≤ v) (hw : s.health.lifeTold = false) :
    exec .lifeUpdate s = .next ({ s.put F.HLT_LIFE_EQ_HOURS 0 v with
      health := { s.health with lifeTold := true } }.raise .health 0 Ev.lifeWarn) := by
  rw [execLifeUpdate_on hd hv, decide_eq_true h, hw]
  rfl

end

/-! ### Ageing (R515) -/

/-- A write of `HLT_AGE_CMD` that acts is settled by what the register makes of it. -/
theorem execAgeMeasureGo_acts {a : Accessor} {s : State} (w : Word) (h : s.Acts a .health 0 0x84) :
    exec (.ageMeasureGo a w) s = .next (s.settle a .health 0 0x84 (ageCmdWrite w s)) :=
  congrArg Host.Outcome.next (State.regWrite_acts h (ageCmdWrite w))

theorem ageCmdWrite_go {w : Word} {s : State} (hw : bit w.toNat 0 = true) (hr : s.on F.HLT_AGE_CMD_RUNNING 0 = false) :
    ageCmdWrite w s = .ok s.ageStart := by
  simp [ageCmdWrite, hw, hr]

theorem ageCmdWrite_running {w : Word} {s : State} (hw : bit w.toNat 0 = true) (hr : s.on F.HLT_AGE_CMD_RUNNING 0 = true) :
    ageCmdWrite w s = .error .range := by
  simp [ageCmdWrite, hw, hr]

theorem execAgeMeasureTimer_on {s : State} (hd : s.domOn 1 = true) : exec .ageMeasureTimer s = .next s.ageStart :=
  (if_pos hd : execAgeMeasureTimer s = _)

/-- What the end of a measurement leaves in the registers where AGE_0 alone was read, at v. -/
def State.ageStored (s : State) (v : Nat) : State :=
  ((s.put F.HLT_AGE_CMD_RUNNING 0 0).putE F.HLT_AGE_SLOW 0 0 (min v 65535)).putE F.HLT_AGE_VALID 0 0 1

section
variable {s : State} {v : Nat} (hr : s.on F.HLT_AGE_CMD_RUNNING 0 = true) (hd : s.domOn 1 = true)
include hr hd

/-- AGE_0 is stored, and AGE_WARN is raised where it reads 4 % or more and was not told. -/
theorem execAgeMeasureDone_single :
    exec (.ageMeasureDone [v]) s = .next (if decide (400 ≤ v) && !s.health.ageTold then
      { s.ageStored v with health := { s.health with ageTold := true } }.raise .health 0 Ev.ageWarn
      else s.ageStored v) := by
  change execAgeMeasureDone [v] s = _
  rw [execAgeMeasureDone, hr, filterMap_range_first (a := (0, v)) 3]
  case hfirst => simp [ageDom, hd]
  case hrest =>
    intro n hn
    rw [List.getElem?_eq_none (Nat.one_le_iff_ne_zero.mpr hn)]
  simp only [Bool.not_true, Bool.false_eq_true, if_false, List.any_cons, List.any_nil, Bool.or_false]
  exact (apply_ite Host.Outcome.next ..).symm

theorem execAgeMeasureDone_below (hv : v < 400) : exec (.ageMeasureDone [v]) s = .next (s.ageStored v) := by
  rw [execAgeMeasureDone_single hr hd, decide_eq_false (Nat.not_le.mpr hv)]
  rfl

theorem execAgeMeasureDone_warns (hv : 400 ≤ v) (hw : s.health.ageTold = false) :
    exec (.ageMeasureDone [v]) s =
      .next ({ s.ageStored v with health := { s.health with ageTold := true } }.raise .health 0 Ev.ageWarn) := by
  rw [execAgeMeasureDone_single hr hd, decide_eq_true hv, hw]
  rfl

end

/-! ### The statement -/

/-- Settles O35 (R513 to R515): the bins and their seconds, a second with PD_1 off, the hourly update below and at 80 % of the rated
life, the two ways a measurement starts, and its end below and at 4 %. -/
theorem healthMonitors : Obligations.HealthMonitors := by
  refine ⟨fun t => ⟨histBin_cold, histBin_hot, ?bin⟩, ?second, fun k s => ⟨State.histAdd_second, State.histAdd_minute⟩,
    ?life, ?go, fun s => execAgeMeasureTimer_on,
    fun v s hr hd => ⟨execAgeMeasureDone_below hr hd, execAgeMeasureDone_warns hr hd⟩⟩
  case bin =>
    intro hlo hhi
    rw [histBin_between hlo hhi]
    omega
  case second =>
    intro temps t0 s h0 h1 ht
    obtain ⟨x, he⟩ := execHistSecond_pd1_off h0 h1 ht
    exact ⟨_, he, rfl, rfl⟩
  case life =>
    refine fun s hd => ⟨fun h => execLifeUpdate_below hd rfl ?_, fun h => execLifeUpdate_warns hd rfl ?_⟩
    · exact Nat.lt_of_le_of_lt (Nat.min_le_left ..) h
    · exact Nat.le_min.mpr ⟨h, by norm_num⟩
  case go =>
    intro a w s h hw
    rw [execAgeMeasureGo_acts w h]
    exact ⟨fun hr => by rw [ageCmdWrite_go hw hr]; rfl, fun hr => by rw [ageCmdWrite_running hw hr]; rfl⟩

end Sys2Proof.Machine
